-- ==== Sys2Proof/Word.lean ====
section
/-! DEFINITION. The word types of the module's registers and memories (R8: bit 0 is the least significant). -/

namespace Sys2Proof

/-- A 32-bit register or descriptor word. -/
abbrev Word := BitVec 32

/-- One byte of a memory. -/
abbrev Byte := BitVec 8

end Sys2Proof
end

