-- ==== Sys2Proof/Syntax.lean ====
section
/-! DEFINITION. The commands and events of the module: one constructor of `Instr` per row of the opcode table, with the
row's operands. What the physical world supplies (ADC codes, temperatures, ECC observations, peaks found) is an
operand of the event it belongs to. -/

namespace Sys2Proof

/-- The master identities that issue register accesses (R438). Identities 10 to 15 issue none. -/
inductive Master where
  | pf0 | pf1 | smbus | mionus | seq0 | seq1 | seq2 | seq3 | msq | vyv
  deriving DecidableEq, Repr

/-- The 4-bit master identity, R438. -/
def Master.id : Master → Nat
  | .pf0 => 0 | .pf1 => 1 | .smbus => 2 | .mionus => 3
  | .seq0 => 4 | .seq1 => 5 | .seq2 => 6 | .seq3 => 7 | .msq => 8 | .vyv => 9

/-- The power domains of R439. -/
inductive Dom where
  | island | control | stack (s : Nat) | link | hbm
  deriving DecidableEq, Repr

/-- A descriptor: its sixteen 32-bit words W0 to W15 (R273). -/
structure Desc where
  w : List Word
  deriving DecidableEq, Repr

/-- Word `i` of a descriptor. -/
def Desc.word (d : Desc) (i : Nat) : Word := d.w.getD i 0

/-- What ECC observed during a command: the addresses corrected and those that were uncorrectable; module addresses of
sectors for HBM (R419), byte addresses of a stack's Ledger for the Ledger (R193). -/
structure Ecc where
  ce : List Nat
  ue : List Nat
  deriving DecidableEq, Repr

/-- A Vyivim message as it stands on the wire: the header fields of R379, the payload, and the trailer CRC of control
and heartbeat messages (0 for tensor messages). -/
structure Msg where
  ver : Nat
  cls : Nat
  type : Nat
  flags : Nat
  dpath : BitVec 64
  spath : BitVec 64
  frame : BitVec 32
  seq : BitVec 32
  dflow : Nat
  plen : Nat
  epoch : BitVec 32
  hcrc : BitVec 32
  payload : List Byte
  trailer : BitVec 32
  deriving DecidableEq, Repr

/-- How a received datagram arrived: the port, whether it was CE-marked (R395), the source MAC address, whether it came
over IPv6, the source address (four words, IPv4 in the last), the source UDP port, and the bytes of UDP payload. -/
structure Arrival where
  port : Fin 32
  ce : Bool
  mac : BitVec 48
  v6 : Bool
  ip : List Word
  sport : BitVec 16
  ulen : Nat
  deriving DecidableEq, Repr

/-- A resonance that an assignment sweep found (R93 to R96): row, group and ring of the Accord, the line whose tone
peaked, and the tone's magnitude at each step of the sweep, from step 0. -/
structure Peak where
  row : Nat
  group : Nat
  ring : Nat
  line : Nat
  mags : List Nat
  deriving DecidableEq, Repr

/-- The commands. -/
inductive Instr where
  /-- POWER_ON_RESET, R461. -/
  | powerOnReset
  /-- HOLD_UP_MEASURE, R468. -/
  | holdUpMeasure (cap v : BitVec 16)
  /-- SEQUENCE_ERROR, R455. -/
  | sequenceError (rails : BitVec 11)
  /-- DIE_RELEASE, R454. -/
  | dieRelease
  /-- STOW_REACHED, R461. -/
  | stowReached
  /-- MIONUS_BOOT, R523. -/
  | mionusBoot
  /-- PWR_REQ, R35. -/
  | pwrReq (m : Master) (v : Word)
  /-- LASER_DEAD_TIME_END, R509. -/
  | laserDeadTimeEnd
  /-- LIGHT_CHECK_COMPLETE, R100. -/
  | lightCheckComplete (dark : List (Fin 16))
  /-- HEATER_WARM_UP_COMPLETE, R100. -/
  | heaterWarmUpComplete
  /-- MAP_COMMIT, R100. -/
  | mapCommit
  /-- HOLD_TO_ACTIVE_COMPLETE, R35. -/
  | holdToActiveComplete
  /-- ENTER_STOW, R462. -/
  | enterStow
  /-- LSAFE_N_TRIP, R510. -/
  | lsafeNTrip
  /-- RAIL_FAULT, R453. -/
  | railFault (rail : Fin 11) (mv : BitVec 16)
  /-- SAVE_TRIGGER, R470. -/
  | saveTrigger (trigger : Fin 2)
  /-- SAVE_COMPLETE, R474. -/
  | saveComplete
  /-- HOLD_UP_NODE_COLLAPSE, R475. -/
  | holdUpNodeCollapse
  /-- VREQ_RAISE, R456. -/
  | vreqRaise (monitor : Fin 32) (margin : BitVec 8)
  /-- VCORE_LOW, R457. -/
  | vcoreLow
  /-- CRITICAL_MARGIN, R457. -/
  | criticalMargin (monitor : Fin 32) (margin : BitVec 8)
  /-- REFCLK156_LOSS, R460. -/
  | refclk156Loss
  /-- REFCLK156_RETURN, R460. -/
  | refclk156Return
  /-- REFCLK100_LOSS, R460. -/
  | refclk100Loss
  /-- CRYSTAL_LOSS, R460. -/
  | crystalLoss
  /-- PLL_UNLOCK, R460. -/
  | pllUnlock (p : Fin 5)
  /-- MODULE_RESET, R464. -/
  | moduleReset
  /-- RST_CMD_MR, R463. -/
  | rstCmdMr (m : Master) (v : Word)
  /-- RST_CMD_MIONUS, R463. -/
  | rstCmdMionus (m : Master) (v : Word)
  /-- MR_RESET_PHASE, R464. -/
  | mrResetPhase
  /-- MR_COMPLETE, R464. -/
  | mrComplete
  /-- WATCHDOG_EXPIRY, R466. -/
  | watchdogExpiry
  /-- PERST, R463. -/
  | perst (asserted : Bool)
  /-- FUNCTION_LEVEL_RESET, R427. -/
  | functionLevelReset (pf1 : Bool)
  /-- D3HOT, R427. -/
  | d3hot (pf1 : Bool)
  /-- MSIX_UNMASK, R429. -/
  | msixUnmask (vec : Fin 64)
  /-- GLB_IACK, R429. -/
  | glbIack (m : Master) (hi : Bool) (v : Word)
  /-- FRAME_BEGIN, R280. -/
  | frameBegin
  /-- MSQ_SPUSH, R279. -/
  | msqSpush (m : Master) (v : Word)
  /-- MSQ_CTRL_WRITE, R304. -/
  | msqCtrlWrite (m : Master) (v : Word)
  /-- END, R283. -/
  | dEnd (idx : Nat) (d : Desc)
  /-- FRAME_BOUNDARY, R299. -/
  | frameBoundary
  /-- EMPTY_BOUNDARY, R40. -/
  | emptyBoundary
  /-- FRAME_LIMIT_EXPIRY, R297. -/
  | frameLimitExpiry
  /-- FENCE, R284. -/
  | dFence (idx : Nat) (d : Desc)
  /-- FENCE_RELEASE, R282. -/
  | fenceRelease (tgt : Fin 5)
  /-- DESCRIPTOR_COMPLETE, R282. -/
  | descriptorComplete (idx : Nat)
  /-- WAKE, R285. -/
  | dWake (idx : Nat) (d : Desc)
  /-- WAKE_HINT_DELAY_EXPIRY, R285. -/
  | wakeHintDelayExpiry (hint : Nat)
  /-- WAKE_HOLD_EXPIRY, R285. -/
  | wakeHoldExpiry (e : Fin 72)
  /-- ENG_WAKE_RUN, R83. -/
  | engWakeRun (m : Master) (e : Fin 64) (v : Word)
  /-- ENG_WAKE_DOZE, R83. -/
  | engWakeDoze (m : Master) (e : Fin 64) (v : Word)
  /-- DEN_WAKE_RUN, R269. -/
  | denWakeRun (m : Master) (n : Fin 8) (v : Word)
  /-- DEN_WAKE_DOZE, R269. -/
  | denWakeDoze (m : Master) (n : Fin 8) (v : Word)
  /-- IDLE_TIMER_EXPIRY, R29. -/
  | idleTimerExpiry (e : Fin 72)
  /-- NAP_TIMER_EXPIRY, R29. -/
  | napTimerExpiry (e : Fin 72)
  /-- DOZE_ENTRY_COMPLETE, R31. -/
  | dozeEntryComplete (e : Fin 72)
  /-- NAP_ENTRY_COMPLETE, R31. -/
  | napEntryComplete (e : Fin 72)
  /-- WAKE_TO_DOZE_COMPLETE, R29. -/
  | wakeToDozeComplete (e : Fin 72)
  /-- WAKE_TO_RUN_COMPLETE, R32. -/
  | wakeToRunComplete (e : Fin 72)
  /-- PASS, R286. -/
  | dPass (idx : Nat) (d : Desc) (adc : List (List (BitVec 8)))
  /-- TREE_COLUMN_RESULT, R176. -/
  | treeColumnResult (st : Fin 4) (con : Nat)
  /-- CONTRIBUTION_APPLY, R188. -/
  | contributionApply (st : Fin 4) (slot : Fin 1024) (ecc : Ecc)
  /-- TREC, R291. -/
  | dTrec (idx : Nat) (d : Desc)
  /-- TILE_FILL_COMPLETE, R187. -/
  | tileFillComplete (st : Fin 4) (slot : Fin 1024)
  /-- ARRIVAL_STORE_MOVE, R198. -/
  | arrivalStoreMove (st : Fin 4) (slot : Fin 1024)
  /-- RDBK, R191. -/
  | dRdbk (idx : Nat) (d : Desc) (ecc : Ecc)
  /-- THOP, R292. -/
  | dThop (idx : Nat) (d : Desc) (ecc : Ecc)
  /-- TALLY_HOP_FORWARD, R195. -/
  | tallyHopForward (st : Fin 4) (hop : Nat)
  /-- STACK_HOP_DELIVERY, R195. -/
  | stackHopDelivery (st : Fin 4) (hop : Nat)
  /-- RUNNING_SUM_APPLY, R194. -/
  | runningSumApply (st : Fin 4) (slot : Fin 1024) (ecc : Ecc)
  /-- RUNNING_SUM_TIMEOUT, R194. -/
  | runningSumTimeout (st : Fin 4) (slot : Fin 1024) (ecc : Ecc)
  /-- TALLY, R198. -/
  | rxTally (a : Arrival) (msg : Msg)
  /-- LDG_TREC_WRITE, R183. -/
  | ldgTrecWrite (m : Master) (st : Fin 4) (i : Fin 8) (v : Word)
  /-- LDG_TSEL_WRITE, R183. -/
  | ldgTselWrite (m : Master) (st : Fin 4) (v : Word)
  /-- SC_ARM, R178. -/
  | scArm (m : Master) (st : Fin 4) (v : Word)
  /-- TLY_SCALE_P_WRITE, R178. -/
  | tlyScalePWrite (m : Master) (st : Fin 4) (k : Fin 256) (v : Word)
  /-- LEDGER_WINDOW_WRITE, R193. -/
  | ledgerWindowWrite (m : Master) (st : Fin 4) (a : Fin 8388608) (bytes : List (Option Byte)) (ecc : Ecc)
  /-- MINT_CONVERT, R210. -/
  | dMintConvert (idx : Nat) (d : Desc) (ecc : Ecc)
  /-- MINT_REPLAY, R217. -/
  | dMintReplay (idx : Nat) (d : Desc) (ecc : Ecc)
  /-- MINT_CUT_THROUGH_REPLAY, R386. -/
  | dMintCutThroughReplay (idx : Nat) (d : Desc)
  /-- MINTX, R288. -/
  | dMintx (idx : Nat) (d : Desc) (ecc : Ecc)
  /-- MNT_PROF_WRITE, R237. -/
  | mntProfWrite (m : Master) (p : Fin 16) (hi : Bool) (v : Word)
  /-- DFILL, R255. -/
  | dDfill (idx : Nat) (d : Desc) (ecc : Ecc)
  /-- LATCH, R252. -/
  | latch (n : Fin 8)
  /-- DSCORE, R256. -/
  | dDscore (idx : Nat) (d : Desc) (adc : List (List (BitVec 8))) (ecc : Ecc)
  /-- DVALUE, R262. -/
  | dDvalue (idx : Nat) (d : Desc) (adc : List (List (BitVec 8))) (ecc : Ecc)
  /-- DEN_TBL_ARM, R244. -/
  | denTblArm (m : Master) (n : Fin 8)
  /-- DEN_TBL_DATA_WRITE, R268. -/
  | denTblDataWrite (m : Master) (n : Fin 8) (v : Word)
  /-- DEN_TBL_DATA_READ, R269. -/
  | denTblDataRead (m : Master) (n : Fin 8)
  /-- DEN_OSCALE_WRITE, R270. -/
  | denOscaleWrite (m : Master) (n : Fin 8) (v : Word)
  /-- HBM, R293. -/
  | dHbm (idx : Nat) (d : Desc) (ecc : Ecc)
  /-- VSEND, R384. -/
  | dVsend (idx : Nat) (d : Desc) (ecc : Ecc)
  /-- VSEND_START_RECORD, R384. -/
  | dVsendStartRecord (idx : Nat) (d : Desc) (ecc : Ecc)
  /-- VRECV, R294. -/
  | dVrecv (idx : Nat) (d : Desc)
  /-- VRECV_WAIT_EXPIRY, R294. -/
  | vrecvWaitExpiry (idx : Nat)
  /-- RMSNORM, R308. -/
  | vopRmsnorm (idx : Nat) (d : Desc)
  /-- RESNORM, R308. -/
  | vopResnorm (idx : Nat) (d : Desc)
  /-- LNORM, R308. -/
  | vopLnorm (idx : Nat) (d : Desc)
  /-- ADD, R308. -/
  | vopAdd (idx : Nat) (d : Desc)
  /-- SUB, R308. -/
  | vopSub (idx : Nat) (d : Desc)
  /-- MUL, R308. -/
  | vopMul (idx : Nat) (d : Desc)
  /-- AXPY, R308. -/
  | vopAxpy (idx : Nat) (d : Desc)
  /-- ROWSCALE, R308. -/
  | vopRowscale (idx : Nat) (d : Desc)
  /-- COLSCALE, R308. -/
  | vopColscale (idx : Nat) (d : Desc)
  /-- CVT, R308. -/
  | vopCvt (idx : Nat) (d : Desc)
  /-- COPY, R308. -/
  | vopCopy (idx : Nat) (d : Desc)
  /-- GATHER, R308. -/
  | vopGather (idx : Nat) (d : Desc)
  /-- SCATTER, R308. -/
  | vopScatter (idx : Nat) (d : Desc)
  /-- TRANSPOSE, R308. -/
  | vopTranspose (idx : Nat) (d : Desc)
  /-- ROPE, R308. -/
  | vopRope (idx : Nat) (d : Desc)
  /-- SILU, R308. -/
  | vopSilu (idx : Nat) (d : Desc)
  /-- GELU, R308. -/
  | vopGelu (idx : Nat) (d : Desc)
  /-- SWIGLU, R308. -/
  | vopSwiglu (idx : Nat) (d : Desc)
  /-- GEGLU, R308. -/
  | vopGeglu (idx : Nat) (d : Desc)
  /-- RELU2, R308. -/
  | vopRelu2 (idx : Nat) (d : Desc)
  /-- EXP, R308. -/
  | vopExp (idx : Nat) (d : Desc)
  /-- RECIP, R308. -/
  | vopRecip (idx : Nat) (d : Desc)
  /-- RSQRT, R308. -/
  | vopRsqrt (idx : Nat) (d : Desc)
  /-- SOFTCAP, R308. -/
  | vopSoftcap (idx : Nat) (d : Desc)
  /-- CLAMP, R308. -/
  | vopClamp (idx : Nat) (d : Desc)
  /-- ROWMAX, R308. -/
  | vopRowmax (idx : Nat) (d : Desc)
  /-- ROWSUM, R308. -/
  | vopRowsum (idx : Nat) (d : Desc)
  /-- ROWSUMSQ, R308. -/
  | vopRowsumsq (idx : Nat) (d : Desc)
  /-- MASKFILL, R308. -/
  | vopMaskfill (idx : Nat) (d : Desc)
  /-- SMX_PART, R264. -/
  | vopSmxPart (idx : Nat) (d : Desc)
  /-- SMX_COMB, R264. -/
  | vopSmxComb (idx : Nat) (d : Desc)
  /-- SMX_FULL, R308. -/
  | vopSmxFull (idx : Nat) (d : Desc)
  /-- ARGMAX_IDX, R308. -/
  | vopArgmaxIdx (idx : Nat) (d : Desc)
  /-- TOPK, R308. -/
  | vopTopk (idx : Nat) (d : Desc)
  /-- TOPP, R308. -/
  | vopTopp (idx : Nat) (d : Desc)
  /-- TEMP, R308. -/
  | vopTemp (idx : Nat) (d : Desc)
  /-- PENALTY, R308. -/
  | vopPenalty (idx : Nat) (d : Desc)
  /-- SAMPLE, R309. -/
  | vopSample (idx : Nat) (d : Desc)
  /-- SPEC_VERIFY, R308. -/
  | vopSpecVerify (idx : Nat) (d : Desc)
  /-- OUT_DOT, R229. -/
  | vopOutDot (idx : Nat) (d : Desc)
  /-- FWHT, R231. -/
  | vopFwht (idx : Nat) (d : Desc)
  /-- DOT, R308. -/
  | vopDot (idx : Nat) (d : Desc)
  /-- EMBED, R308. -/
  | vopEmbed (idx : Nat) (d : Desc)
  /-- LSE, R308. -/
  | vopLse (idx : Nat) (d : Desc)
  /-- DIGEST, R308. -/
  | vopDigest (idx : Nat) (d : Desc)
  /-- FILL, R308. -/
  | vopFill (idx : Nat) (d : Desc)
  /-- STATS, R308. -/
  | vopStats (idx : Nat) (d : Desc)
  /-- DEQUANT, R308. -/
  | vopDequant (idx : Nat) (d : Desc)
  /-- ENG_LOAD_START, R75. -/
  | engLoadStart (m : Master) (e : Fin 64) (v : Word) (ecc : Ecc)
  /-- ENG_LOAD_REBUILD, R77. -/
  | engLoadRebuild (m : Master) (e : Fin 64) (v : Word)
  /-- ENG_LOAD_ABORT, R73. -/
  | engLoadAbort (m : Master) (e : Fin 64) (v : Word)
  /-- QUEUED_BUILD_START, R64. -/
  | queuedBuildStart (st : Fin 4) (ecc : Ecc)
  /-- BUILD_COMPLETE, R70. -/
  | buildComplete (e : Fin 64)
  /-- LOAD_MODE_SCAN_COMPLETE, R72. -/
  | loadModeScanComplete (e : Fin 64)
  /-- REFRESH_SCAN_START, R66. -/
  | refreshScanStart (e : Fin 64)
  /-- REFRESH_ROW_WRITE, R67. -/
  | refreshRowWrite (e : Fin 64) (ce : Nat) (ue : List (Fin 102))
  /-- ENG_OSCALE_WRITE, R83. -/
  | engOscaleWrite (m : Master) (e : Fin 64) (v : Word)
  /-- TRM_RDATA_WRITE, R88. -/
  | trmRdataWrite (m : Master) (e : Fin 72) (v : Word)
  /-- TRM_RDATA_READ, R88. -/
  | trmRdataRead (m : Master) (e : Fin 72)
  /-- TRIM_WINDOW_WRITE, R432. -/
  | trimWindowWrite (m : Master) (a : Fin 524288) (v : Word)
  /-- TRM_ROW_ARM, R90. -/
  | trmRowArm (m : Master) (e : Fin 72) (v : Word)
  /-- TRM_MOD_ARM, R90. -/
  | trmModArm (m : Master) (e : Fin 72) (v : Word)
  /-- PLATE_WINDOW_WRITE, R86. -/
  | plateWindowWrite (m : Master) (a : Fin 8388608) (bytes : List (Option Byte))
  /-- ASG_START, R99. -/
  | asgStart (m : Master) (e : Fin 72) (v : Word)
  /-- SEARCH_START_AFTER_WAIT, R99. -/
  | searchStartAfterWait (e : Fin 72)
  /-- GROUP_SWEEP_BEGIN, R95. -/
  | groupSweepBegin (e : Fin 72)
  /-- SWEEP_END, R95. -/
  | sweepEnd (e : Fin 72) (peaks : List Peak)
  /-- SEARCH_COMPLETE, R98. -/
  | searchComplete (e : Fin 72) (fails : List (Nat × Nat)) (peaks : List Peak)
  /-- ASG_REPLACE, R104. -/
  | asgReplace (m : Master) (e : Fin 72) (v : Word)
  /-- ASG_ABORT, R128. -/
  | asgAbort (m : Master) (e : Fin 72) (v : Word)
  /-- ASG_DATA_WRITE, R103. -/
  | asgDataWrite (m : Master) (e : Fin 72) (v : Word)
  /-- ASG_DATA_READ, R127. -/
  | asgDataRead (m : Master) (e : Fin 72)
  /-- LOOP_SAMPLE, R142. -/
  | loopSample (st : Fin 4) (i : Fin 1032) (stream : List (BitVec 12))
  /-- LOOP_OVERRUN, R143. -/
  | loopOverrun (st : Fin 4) (i : Fin 1032)
  /-- WIDE_ACQUISITION_END, R119. -/
  | wideAcquisitionEnd (e : Fin 72) (q : Fin 64) (peak : Option (Int × Int)) (kbias : Option (BitVec 16))
  /-- ACQUIRE_TIMEOUT, R119. -/
  | acquireTimeout (e : Fin 72) (q : Fin 64)
  /-- VERIFY_ATTEMPT_COMPLETE, R119. -/
  | verifyAttemptComplete (e : Fin 72) (q : Fin 64)
  /-- CORRELATION_CHECK, R119. -/
  | correlationCheck (e : Fin 72) (q : Fin 64)
  /-- COAST_TIMEOUT, R119. -/
  | coastTimeout (e : Fin 72) (q : Fin 64)
  /-- RE_SEARCH_COMPLETE, R120. -/
  | reSearchComplete (e : Fin 72) (q : Fin 64) (peaks : List Int)
  /-- EXCLUSION_EXPIRY, R120. -/
  | exclusionExpiry (e : Fin 72) (q : Fin 64)
  /-- DARK_LIGHT_CHECK, R122. -/
  | darkLightCheck (fibre : Fin 16) (light : Bool)
  /-- LCK_RESEARCH, R119. -/
  | lckResearch (m : Master) (e : Fin 72) (v : Word)
  /-- LCK_RELEASE, R119. -/
  | lckRelease (m : Master) (e : Fin 72) (v : Word)
  /-- LCK_CLREXCL, R120. -/
  | lckClrexcl (m : Master) (e : Fin 72) (v : Word)
  /-- LCK_R_SWORD_WRITE, R146. -/
  | lckRSwordWrite (m : Master) (e : Fin 72) (q : Fin 64) (v : Word)
  /-- LCK_R_CFG_WRITE, R123. -/
  | lckRCfgWrite (m : Master) (e : Fin 72) (q : Fin 64) (v : Word)
  /-- HEATER_PWM_PERIOD, R114. -/
  | heaterPwmPeriod (st : Fin 4)
  /-- HEATER_STOW_HOLD_EXPIRY, R117. -/
  | heaterStowHoldExpiry (st : Fin 4)
  /-- HTR_TEST_WRITE, R117. -/
  | htrTestWrite (m : Master) (st : Fin 4) (v : Word)
  /-- CE_BANK_ARM, R152. -/
  | ceBankArm (m : Master) (st : Fin 4) (v : Word)
  /-- BANK_CHECK_COMPLETE, R152. -/
  | bankCheckComplete (st : Fin 4)
  /-- CE_BANK_DISARM, R154. -/
  | ceBankDisarm (m : Master) (st : Fin 4) (v : Word)
  /-- BANK_SWAP, R153. -/
  | bankSwap (st : Fin 4) (g : Fin 18)
  /-- SLOPE_TABLE_RECOMPUTE, R138. -/
  | slopeTableRecompute (st : Fin 4)
  /-- CE_TDATA_WRITE, R158. -/
  | ceTdataWrite (m : Master) (st : Fin 4) (v : Word)
  /-- CE_TDATA_READ, R158. -/
  | ceTdataRead (m : Master) (st : Fin 4)
  /-- TRACE_ARM, R157. -/
  | traceArm (m : Master) (st : Fin 4) (t : Fin 4) (v : Word)
  /-- TRACE_FORCE, R157. -/
  | traceForce (m : Master) (st : Fin 4) (t : Fin 4) (v : Word)
  /-- TRACE_STOP, R157. -/
  | traceStop (m : Master) (st : Fin 4) (t : Fin 4) (v : Word)
  /-- TRACE_SAMPLE, R155. -/
  | traceSample (st : Fin 4) (t : Fin 4)
  /-- TRACE_POST_COMPLETE, R157. -/
  | tracePostComplete (st : Fin 4) (t : Fin 4)
  /-- ASY_REQ, R323. -/
  | asyReq (m : Master) (st : Fin 4) (v : Word)
  /-- CAL_TEMP_CHECK, R322. -/
  | calTempCheck (st : Fin 4)
  /-- CALIBRATION_START, R324. -/
  | calibrationStart (st : Fin 4)
  /-- PROBE_POINT_COMPLETE, R325. -/
  | probePointComplete (st : Fin 4) (adc : List (List (BitVec 8)))
  /-- PROBE_POINT_RESTART, R328. -/
  | probePointRestart (st : Fin 4)
  /-- CAL_HOLD_LIMIT, R328. -/
  | calHoldLimit (st : Fin 4)
  /-- CAL_FIT_COMPLETE, R331. -/
  | calFitComplete (st : Fin 4)
  /-- CAL_RETRY, R331. -/
  | calRetry (st : Fin 4)
  /-- CAL_BACKOFF_EXPIRY, R331. -/
  | calBackoffExpiry (e : Fin 72) (q : Fin 64)
  /-- ASSAY_LIVE_SAMPLE, R316. -/
  | assayLiveSample (e : Fin 72)
  /-- ASSAY_SAMPLE_DECODE, R318. -/
  | assaySampleDecode (st : Fin 4)
  /-- ASSAY_WINDOW_PUBLISH, R319. -/
  | assayWindowPublish (st : Fin 4) (slot : Fin 18) (row : Fin 512)
  /-- ASY_R_SUM_READ, R343. -/
  | asyRSumRead (m : Master) (st : Fin 4)
  /-- PLT_CURVE_ARM, R339. -/
  | pltCurveArm (m : Master) (st : Fin 4)
  /-- LOCK_READING, R352. -/
  | lockReading (e : Fin 72)
  /-- LOCK_WINDOW_CLOSE, R352. -/
  | lockWindowClose (e : Fin 72)
  /-- TOTAL_RECOMPUTE, R357. -/
  | totalRecompute (e : Fin 72) (t : BitVec 16)
  /-- EBUD0_READ, R358. -/
  | ebud0Read (m : Master) (e : Fin 72)
  /-- LANE_FAULT, R370. -/
  | laneFault (l : Fin 32) (cause : Fin 4)
  /-- PORT_REFORM, R371. -/
  | portReform (p : Fin 32)
  /-- PORT_DOWN, R372. -/
  | portDown (p : Fin 32)
  /-- PORT_UP, R371. -/
  | portUp (p : Fin 32)
  /-- HELLO_TIMEOUT, R373. -/
  | helloTimeout (p : Fin 32)
  /-- WIDEN, R374. -/
  | widen (m : Master) (p : Fin 32) (v : Word)
  /-- PORT_RESTART, R407. -/
  | portRestart (m : Master) (p : Fin 32) (v : Word)
  /-- LNK_P_CFG_WRITE, R367. -/
  | lnkPCfgWrite (m : Master) (p : Fin 32) (v : Word)
  /-- LNK_STEER, R376. -/
  | lnkSteer (m : Master) (v : Word)
  /-- STEER_DONE, R376. -/
  | steerDone (lock : BitVec 32)
  /-- STEER_TIMEOUT, R376. -/
  | steerTimeout
  /-- ARP_REQUEST, R368. -/
  | arpRequest (p : Fin 32) (ip : Word)
  /-- NEIGHBOUR_SOLICITATION, R368. -/
  | neighbourSolicitation (p : Fin 32) (ip : List Word)
  /-- ECHO_REQUEST, R368. -/
  | echoRequest (p : Fin 32) (v6 : Bool) (ip : List Word)
  /-- FRAME_DISCARD, R368. -/
  | frameDiscard (p : Fin 32)
  /-- WRITE, R385. -/
  | rxWrite (a : Arrival) (msg : Msg)
  /-- ACK, R389. -/
  | rxAck (a : Arrival) (msg : Msg)
  /-- ERROR, R381. -/
  | rxError (a : Arrival) (msg : Msg)
  /-- FAULT, R397. -/
  | rxFault (a : Arrival) (msg : Msg)
  /-- OPEN, R393. -/
  | rxOpen (a : Arrival) (msg : Msg)
  /-- OPEN_OK, R393. -/
  | rxOpenOk (a : Arrival) (msg : Msg)
  /-- NO_CONTEXT, R393. -/
  | rxNoContext (a : Arrival) (msg : Msg)
  /-- CLOSE, R393. -/
  | rxClose (a : Arrival) (msg : Msg)
  /-- CLOSE_OK, R393. -/
  | rxCloseOk (a : Arrival) (msg : Msg)
  /-- START, R404. -/
  | rxStart (a : Arrival) (msg : Msg)
  /-- REG_WR, R391. -/
  | rxRegWr (a : Arrival) (msg : Msg) (ecc : Ecc)
  /-- REG_RD, R391. -/
  | rxRegRd (a : Arrival) (msg : Msg) (ecc : Ecc)
  /-- REG_RSP, R391. -/
  | rxRegRsp (a : Arrival) (msg : Msg)
  /-- VIEW, R401. -/
  | rxView (a : Arrival) (msg : Msg)
  /-- JOIN, R403. -/
  | rxJoin (a : Arrival) (msg : Msg)
  /-- HELLO, R373. -/
  | rxHello (a : Arrival) (msg : Msg)
  /-- HB, R399. -/
  | rxHb (a : Arrival) (msg : Msg)
  /-- CONTROL_RETRANSMIT, R389. -/
  | controlRetransmit (f : Fin 4096) (seq : BitVec 32)
  /-- FLOW_FAILED, R389. -/
  | flowFailed (f : Fin 4096)
  /-- ECE_ACK_TIMEOUT, R395. -/
  | eceAckTimeout (f : Fin 4096)
  /-- RATE_INCREASE, R395. -/
  | rateIncrease (f : Fin 4096)
  /-- FAULT_SEND, R396. -/
  | faultSend (f : Fin 4096)
  /-- FLOW_OPEN, R393. -/
  | flowOpen (m : Master) (v : Word)
  /-- FLOW_CLOSE, R393. -/
  | flowClose (m : Master) (v : Word)
  /-- FLOW_ABORT, R393. -/
  | flowAbort (m : Master) (v : Word)
  /-- VYV_FREC_WRITE, R392. -/
  | vyvFrecWrite (m : Master) (i : Fin 16) (v : Word)
  /-- FLOW_IDLE_TIMEOUT, R393. -/
  | flowIdleTimeout (f : Fin 4096)
  /-- HEARTBEAT_SEND, R399. -/
  | heartbeatSend
  /-- MEMBER_MISSED, R400. -/
  | memberMissed (l : Fin 4) (j : Fin 256)
  /-- ROLL_DECIDE, R400. -/
  | rollDecide (l : Fin 4)
  /-- VIEW_WAIT_EXPIRY, R400. -/
  | viewWaitExpiry (l : Fin 4)
  /-- AUTOJOIN, R403. -/
  | autojoin (l : Fin 4)
  /-- ROL_JOIN, R403. -/
  | rolJoin (m : Master) (v : Word)
  /-- ROL_FORCE, R403. -/
  | rolForce (m : Master) (v : Word)
  /-- ROL_CTRL_WRITE, R409. -/
  | rolCtrlWrite (m : Master) (v : Word)
  /-- REHASH, R415. -/
  | rehash (m : Master) (v : Word)
  /-- REHASH_COMPLETE, R415. -/
  | rehashComplete
  /-- HBM_WINDOW_END, R417. -/
  | hbmWindowEnd
  /-- BAR2_READ, R424. -/
  | bar2Read (a : BitVec 37) (n : Nat) (ecc : Ecc)
  /-- BAR2_WRITE, R424. -/
  | bar2Write (a : BitVec 37) (bytes : List (Option Byte))
  /-- REGISTER_WRITE, R11. -/
  | registerWrite (m : Master) (off : BitVec 26) (v : Word) (be : BitVec 4) (ecc : Ecc)
  /-- FRAME_PROGRAM_WINDOW_WRITE, R432. -/
  | frameProgramWindowWrite (m : Master) (a : Fin 4194304) (bytes : List (Option Byte))
  /-- PAGE_RESET, R437. -/
  | pageReset (m : Master) (off : BitVec 26) (v : Word)
  /-- PG_ISET, R435. -/
  | pgIset (m : Master) (off : BitVec 26) (v : Word)
  /-- PG_LOCK, R437. -/
  | pgLock (m : Master) (off : BitVec 26) (v : Word)
  /-- PG_COMMIT_GO, R435. -/
  | pgCommitGo (m : Master) (off : BitVec 26) (v : Word)
  /-- MSQ_TIME_LO_READ, R311. -/
  | msqTimeLoRead (m : Master)
  /-- CLK_AONTIME_LO_READ, R479. -/
  | clkAontimeLoRead (m : Master)
  /-- DMA_GO, R430. -/
  | dmaGo (m : Master) (c : Fin 4) (v : Word)
  /-- DMA_ABORT, R430. -/
  | dmaAbort (m : Master) (c : Fin 4) (v : Word)
  /-- DMA_COMPLETE, R430. -/
  | dmaComplete (c : Fin 4) (hdata : List Byte) (ecc : Ecc) (fail : Option Nat)
  /-- MBX_POST, R443. -/
  | mbxPost (m : Master) (c : Fin 32)
  /-- MBX_POP, R444. -/
  | mbxPop (m : Master) (c : Fin 32) (v : Word)
  /-- DOMAIN_UP, R444. -/
  | domainUp (d : Dom)
  /-- SMB_WRITE_WORD, R448. -/
  | smbWriteWord (p : BitVec 16) (pec : Option Bool)
  /-- SMB_READ_WORD, R448. -/
  | smbReadWord
  /-- SMB_BLOCK_READ, R448. -/
  | smbBlockRead
  /-- SMB_BLOCK_WRITE, R448. -/
  | smbBlockWrite (bytes : List Byte) (pec : Option Bool)
  /-- SMB_READ_BYTE, R448. -/
  | smbReadByte
  /-- SMB_TIMEOUT, R447. -/
  | smbTimeout
  /-- THERMAL_SAMPLE, R483. -/
  | thermalSample (ts : List (BitVec 16))
  /-- LEVEL_CHANGE, R486. -/
  | levelChange
  /-- THERMAL_SHUTDOWN, R491. -/
  | thermalShutdown
  /-- SENSOR_FAULT, R484. -/
  | sensorFault (i : Fin 96)
  /-- SENSOR_FAULT_CLEAR, R484. -/
  | sensorFaultClear (i : Fin 96)
  /-- HBM_TEMPERATURE_READ, R483. -/
  | hbmTemperatureRead (ts : List (BitVec 8))
  /-- THM_LIM_WRITE, R485. -/
  | thmLimWrite (m : Master) (v : Word)
  /-- HK_SCAN_TICK, R498. -/
  | hkScanTick (x : Bool)
  /-- HK_CROSS_CHECK, R500. -/
  | hkCrossCheck (ca cb : BitVec 12)
  /-- HK_EVENT_EDGE, R498. -/
  | hkEventEdge (x : Bool)
  /-- HK_EVENT_CONVERSION, R498. -/
  | hkEventConversion (x : Bool)
  /-- HK_URG, R499. -/
  | hkUrg (m : Master) (v : Word)
  /-- HK_CONVERSION_COMPLETE, R501. -/
  | hkConversionComplete (x : Bool) (code : BitVec 12)
  /-- LCO_PIN_FAULT, R505. -/
  | lcoPinFault (n : Fin 16) (cause : Fin 4)
  /-- LCO_CLR, R506. -/
  | lcoClr (m : Master) (n : Fin 16) (v : Word)
  /-- LCO_CFG_WRITE, R503. -/
  | lcoCfgWrite (m : Master) (n : Fin 16) (v : Word)
  /-- LCO_SET_WRITE, R503. -/
  | lcoSetWrite (m : Master) (n : Fin 16) (v : Word)
  /-- TIE_TEST, R507. -/
  | tieTest (m : Master) (v : Word)
  /-- TIE_TEST_COMPLETE, R507: the pin driven, the other pin and its HKA code, for each read-back. -/
  | tieTestComplete (reads : List (Fin 16 × Fin 16 × BitVec 12))
  /-- CLRTRIP, R511. -/
  | clrtrip (m : Master) (v : Word)
  /-- VAULT_UPDATE, R525. -/
  | vaultUpdate (m : Master) (v : Word)
  /-- VAULT_UPDATE_COMPLETE, R525. -/
  | vaultUpdateComplete (flash : Fin 3)
  /-- VAULT_ABORT, R528. -/
  | vaultAbort (m : Master) (v : Word)
  /-- SETWRITE, R531. -/
  | setwrite (m : Master) (v : Word)
  /-- SETWRITE_COMPLETE, R531. -/
  | setwriteComplete (flash : Fin 3)
  /-- SETAPPLY, R531. -/
  | setapply (m : Master) (v : Word) (ecc : Ecc)
  /-- SUPPRESSED_FLUSH, R537. -/
  | suppressedFlush (code : BitVec 16) (inst : BitVec 8)
  /-- DBK_RSEL, R539. -/
  | dbkRsel (m : Master) (v : Word)
  /-- DBK_RENT_READ, R539. -/
  | dbkRentRead (m : Master)
  /-- DBK_HCODE, R542. -/
  | dbkHcode (m : Master) (v : Word)
  /-- ENG_CNTCLR, R81. -/
  | engCntclr (m : Master) (e : Fin 64) (v : Word)
  /-- HTR_CNTCLR, R129. -/
  | htrCntclr (m : Master) (st : Fin 4) (v : Word)
  /-- CE_CNTCLR, R159. -/
  | ceCntclr (m : Master) (st : Fin 4) (v : Word)
  /-- LDG_CNTCLR, R202. -/
  | ldgCntclr (m : Master) (st : Fin 4) (v : Word)
  /-- TLY_CNTCLR, R204. -/
  | tlyCntclr (m : Master) (st : Fin 4) (v : Word)
  /-- MNT_CNTCLR, R238. -/
  | mntCntclr (m : Master) (v : Word)
  /-- DEN_CNTCLR, R269. -/
  | denCntclr (m : Master) (n : Fin 8) (v : Word)
  /-- SEQ_CNTCLR, R310. -/
  | seqCntclr (m : Master) (st : Fin 4) (v : Word)
  /-- MSQ_CNTCLR, R311. -/
  | msqCntclr (m : Master) (v : Word)
  /-- VEC_CNTCLR, R312. -/
  | vecCntclr (m : Master) (v : Word)
  /-- ASY_CNTCLR, R343. -/
  | asyCntclr (m : Master) (st : Fin 4) (v : Word)
  /-- PLT_CNTCLR, R344. -/
  | pltCntclr (m : Master) (st : Fin 4) (v : Word)
  /-- LNK_CNTCLR, R406. -/
  | lnkCntclr (m : Master) (v : Word)
  /-- VYV_CNTCLR, R408. -/
  | vyvCntclr (m : Master) (v : Word)
  /-- ROL_CNTCLR, R409. -/
  | rolCntclr (m : Master) (v : Word)
  /-- HBM_CNTCLR, R422. -/
  | hbmCntclr (m : Master) (v : Word)
  /-- MBX_CNTCLR, R445. -/
  | mbxCntclr (m : Master) (v : Word)
  /-- SMB_CNTCLR, R449. -/
  | smbCntclr (m : Master) (v : Word)
  /-- GLB_CNTCLR, R450. -/
  | glbCntclr (m : Master) (v : Word)
  /-- PWR_CNTCLR, R477. -/
  | pwrCntclr (m : Master) (v : Word)
  /-- CLK_CNTCLR, R479. -/
  | clkCntclr (m : Master) (v : Word)
  /-- RST_CNTCLR, R480. -/
  | rstCntclr (m : Master) (v : Word)
  /-- THM_CNTCLR, R512. -/
  | thmCntclr (m : Master) (v : Word)
  /-- HK_CNTCLR, R514. -/
  | hkCntclr (m : Master) (v : Word)
  /-- LCO_CNTCLR, R515. -/
  | lcoCntclr (m : Master) (v : Word)
  /-- DBK_CNTCLR, R544. -/
  | dbkCntclr (m : Master) (v : Word)
  /-- REFCLK100_RETURN, R460. -/
  | refclk100Return
  /-- CRYSTAL_START, R459. -/
  | crystalStart
  /-- PLL_RELOCK, R460. -/
  | pllRelock (p : Fin 5)
  /-- LSAFE_N_RELEASE, R510. -/
  | lsafeNRelease
  /-- PWRGD_AON_DEASSERT, R474. -/
  | pwrgdAonDeassert
  /-- D0_RETURN, R427. -/
  | d0Return (pf1 : Bool)
  /-- SETAPPLY_COMPLETE, R531. -/
  | setapplyComplete
  /-- CAL_DECODE_COMPLETE, R328. -/
  | calDecodeComplete (st : Fin 4)
  deriving DecidableEq, Repr

end Sys2Proof
end

