-- ==== Sys2Proof/Decode.lean ====
section
/-! DEFINITION. The opcode table gives no command a word: commands are register accesses, messages, descriptors and events,
which come with their operands and not as encoded instructions. No word spells a command. -/

namespace Sys2Proof

/-- The command that a word of the table spells: none, since no row of the table gives bits. -/
def decodeTableWord (nbits w : Nat) : Option Instr :=
  match nbits, w with
  | _, _ => none

end Sys2Proof
end

