-- ==== Sys2Proof/Config.lean ====
section
/-! DEFINITION. What one installed module fixes, and the free values: constants without a body, which stand for every
value the spec leaves open. -/

namespace Sys2Proof.Config

/-- The capacity grades of a module (R2). -/
inductive Grade where
  | s48 | s96
  deriving DecidableEq, Repr

/-- Installed HBM capacity in GiB (R2). -/
def Grade.gib : Grade → Nat
  | .s48 => 48
  | .s96 => 96

/-- Installed HBM capacity in bytes (R2, R274). -/
def Grade.bytes (g : Grade) : Nat := g.gib * 2 ^ 30

/-- A free 32-bit value: the argument is the number of free values taken before it. Nothing constrains it. -/
opaque freeWord : Nat → BitVec 32

/-- A free number below the bound given second; the first argument is the number of free values taken before it. -/
opaque freeBelow : Nat → (n : Nat) → Fin (n + 1)

/-- The byte of HBM at an address once its contents have become undefined (R415) as often as the first argument says. -/
opaque hbmByte : Nat → Nat → BitVec 8

/-- The first tensor sequence number of a flow (R384, R388), which the spec does not give; every module uses the same. -/
opaque firstSeq : BitVec 32

/-- The transcendental functions of the vector cores (R306), which come from one implementation on every module and whose
results the spec bounds to 2 ulp and does not give: function number (0 exp, 1 tanh, 2 natural logarithm, 3 logistic σ, 4
GELU in its tanh form) and binary32 operand. -/
opaque vecFun : Nat → BitVec 32 → BitVec 32

/-- The word that a configuration or production section gives the register at a BAR0 offset (R522, R526): the spec fixes no
layout of the sections. A table behind an address register has keys of its own from 2^32 on (`Machine.prodKey`). -/
opaque vaultWord : List (BitVec 8) → Nat → BitVec 32

/-- What the entries of a sine table have beyond 32,767 sin rounded down: table (0 of the laser-control outputs, R504; 1 of
the dither generators, R109) and entry. The spec does not list the entries. -/
opaque sineRound : Nat → Nat → Fin 3

/-- The engine whose `ENG_WLIM` the Mint holds a weight codebook against, by the destination of the conversion (R224):
the spec does not say which (assumption 77). -/
opaque wlimEngine : Nat → Fin 64

/-- The error that the demodulator delivers for a number of detector samples and their integrated product with the
generator's cosine (R110): the spec gives no scale. -/
opaque demodScale : Nat → Int → BitVec 16

/-- The readout-die sensor of its stack (0 to 11) that lies nearest the region of a loop (R126, R482), whose places the
spec does not give. -/
opaque nearestDiode : Nat → Fin 12

/-- Heater thermal gain times heater power of the region of a loop at a duty (R108, R126), in Q8.8 K, given the production
section of the Vault: gains, resistances and the layout of the section are not given. -/
opaque heaterRise : List (BitVec 8) → Nat → Nat → BitVec 16 → BitVec 16

/-- The DAC code at which a nominal ring of a dynamic engine reaches the centre of its line (R91, R124); the spec does not
give it (assumption 24). -/
opaque dynCentre : Nat

end Sys2Proof.Config
end

