-- ==== Sys2Proof/Machine/Bits.lean ====
section
/-! DEFINITION. Bit fields of words, byte order and two's complement, the helpers every meaning uses (R8, R9:
little-endian inside the module, network order in packet headers). -/

namespace Sys2Proof.Machine

/-- Bits `[lo + w - 1 : lo]` of the number `v`. -/
def bits (v lo w : Nat) : Nat := v / 2 ^ lo % 2 ^ w

/-- Field `[lo + w - 1 : lo]` of a register word, as a number. -/
def fld (v : Word) (lo w : Nat) : Nat := bits v.toNat lo w

/-- Bit `i` of a register word. -/
def bit (v : Word) (i : Nat) : Bool := v.getLsbD i

/-- The word `v` with field `[lo + w - 1 : lo]` replaced by `x`. -/
def setFld (v : Word) (lo w x : Nat) : Word :=
  let m : Word := BitVec.ofNat 32 ((2 ^ w - 1) * 2 ^ lo)
  (v &&& ~~~m) ||| (BitVec.ofNat 32 (x % 2 ^ w * 2 ^ lo))

/-- A word from a number. -/
def wd (n : Nat) : Word := BitVec.ofNat 32 n

/-- 1 for true, 0 for false. -/
def b2n (b : Bool) : Nat := if b then 1 else 0

/-- The signed value of the low `w` bits of `n`. -/
def sext (w n : Nat) : Int :=
  let x := n % 2 ^ w
  if x < 2 ^ (w - 1) then (x : Int) else (x : Int) - 2 ^ w

/-- The low `w` bits of an integer in two's complement. -/
def unsx (w : Nat) (i : Int) : Nat := (i % (2 ^ w : Int)).toNat

/-- `x` held between `lo` and `hi`. -/
def clampI (lo hi x : Int) : Int := if x < lo then lo else if hi < x then hi else x

/-- `x` held between `lo` and `hi`. -/
def clampN (lo hi x : Nat) : Nat := if x < lo then lo else if hi < x then hi else x

/-- The number whose little-endian bytes are `bs`. -/
def ofBytesLE : List Byte → Nat
  | [] => 0
  | b :: bs => b.toNat + 256 * ofBytesLE bs

/-- The `n` little-endian bytes of `v`. -/
def bytesLE : Nat → Nat → List Byte
  | 0, _ => []
  | n + 1, v => BitVec.ofNat 8 v :: bytesLE n (v / 256)

/-- The `n` big-endian bytes of `v`. -/
def bytesBE (n v : Nat) : List Byte := (bytesLE n v).reverse

/-- The little-endian words of a byte list, whole words only from its start, padded with zero bytes. -/
def wordsLE (n : Nat) (bs : List Byte) : List Word :=
  (List.range n).map fun i => wd (ofBytesLE ((bs.drop (4 * i)).take 4))

/-- The number of set bits among the low `w` bits of `n`. -/
def popCount (w n : Nat) : Nat := ((List.range w).filter fun i => n.testBit i).length

/-- `n` rounded up to a multiple of `k`. -/
def roundUp (n k : Nat) : Nat := (n + k - 1) / k * k

/-- Is sequence number `a` at or after `b` on the 2^32 circle, within half of it (the wrap rule of R279)? -/
def seqGE (a b : BitVec 32) : Bool := (a - b).toNat < 2 ^ 31

/-- Is sequence number `a` strictly after `b` (R279)? -/
def seqGT (a b : BitVec 32) : Bool := seqGE a b && a != b

/-- One bit of a CRC-32C division, in reflected form. -/
def crcBit (c : BitVec 32) : BitVec 32 := if c.getLsbD 0 then (c >>> 1) ^^^ 0x82F63B78#32 else c >>> 1

/-- One byte of a CRC-32C division. -/
def crcByte (c : BitVec 32) (x : Byte) : BitVec 32 :=
  crcBit (crcBit (crcBit (crcBit (crcBit (crcBit (crcBit (crcBit (c ^^^ x.setWidth 32))))))))

/-- The CRC-32C of a byte string (R74, R379). -/
def crc32c (bs : List Byte) : BitVec 32 := ~~~(bs.foldl crcByte 0xFFFFFFFF#32)

end Sys2Proof.Machine
end

