-- ==== Sys2Proof/Machine/Num.lean ====
section
/-! DEFINITION. Exact arithmetic and its single rounding: fractions, IEEE binary32 and bf16 (round to nearest, ties to
even), and the module's stochastic rounding (R166, R169, R170). -/

namespace Sys2Proof.Machine

/-- An exact value: the fraction `n / d`, with `d` positive. -/
structure Fr where
  n : Int
  d : Nat
  deriving DecidableEq, Repr

/-- An integer as a fraction. -/
def Fr.ofInt (i : Int) : Fr := ⟨i, 1⟩
def Fr.add (a b : Fr) : Fr := ⟨a.n * b.d + b.n * a.d, a.d * b.d⟩
def Fr.sub (a b : Fr) : Fr := ⟨a.n * b.d - b.n * a.d, a.d * b.d⟩
def Fr.mul (a b : Fr) : Fr := ⟨a.n * b.n, a.d * b.d⟩
/-- The quotient; callers make sure that `b` is not 0. -/
def Fr.div (a b : Fr) : Fr := ⟨a.n * b.d * b.n.sign, a.d * b.n.natAbs⟩
def Fr.abs (a : Fr) : Fr := ⟨a.n.natAbs, a.d⟩
def Fr.lt (a b : Fr) : Bool := a.n * b.d < b.n * a.d
def Fr.le (a b : Fr) : Bool := a.n * b.d ≤ b.n * a.d
def Fr.isZero (a : Fr) : Bool := a.n == 0
/-- The same value in lowest terms. -/
def Fr.red (a : Fr) : Fr := let g := Nat.gcd a.n.natAbs a.d; ⟨a.n / (g : Int), a.d / g⟩
/-- The larger of two values. -/
def Fr.max (a b : Fr) : Fr := if a.lt b then b else a
/-- The value times 2 to the integer `k`. -/
def Fr.scale (a : Fr) (k : Int) : Fr := if 0 ≤ k then ⟨a.n * 2 ^ k.toNat, a.d⟩ else ⟨a.n, a.d * 2 ^ (-k).toNat⟩
/-- The largest integer not above the value. -/
def Fr.floor (a : Fr) : Int := a.n / a.d
/-- The smallest integer not below the value. -/
def Fr.ceil (a : Fr) : Int := -((-a.n) / a.d)

/-- Nearest integer, ties to even. -/
def Fr.rneInt (a : Fr) : Int :=
  let f := a.floor
  let r := a.n - f * a.d
  if 2 * r < a.d then f else if (a.d : Int) < 2 * r then f + 1 else if f % 2 = 0 then f else f + 1

/-- The integer square root by bits, from bit `k − 1` down. -/
def isqrtBits (n : Nat) : Nat → Nat → Nat
  | 0, r => r
  | k + 1, r => if (r + 2 ^ k) * (r + 2 ^ k) ≤ n then isqrtBits n k (r + 2 ^ k) else isqrtBits n k r

/-- The integer square root of a number below 2^128. -/
def isqrt (n : Nat) : Nat := isqrtBits n 64 0

/-- The square root of a value that is not negative, rounded to the nearest integer. -/
def sqrtFr (a : Fr) : Nat := (isqrt (4 * a.n.toNat / a.d) + 1) / 2

/-- `floor (log2 |a|)` of a value that is not 0. -/
def Fr.log2 (a : Fr) : Int :=
  let m := a.n.natAbs
  let k : Int := (Nat.log2 m : Int) - Nat.log2 a.d
  if (a.abs.scale (-k)).lt ⟨1, 1⟩ then k - 1 else k

/-- How a value between two representable neighbours is rounded. -/
inductive RMode where
  | even   -- to nearest, ties to even
  | up     -- towards plus infinity
  deriving DecidableEq, Repr

/-- The binary32 encoding of a value, rounded once, with subnormals and overflow to infinity. -/
def Fr.toF32 (a : Fr) (m : RMode := .even) : Word :=
  if a.isZero then 0 else
  let e := a.log2
  let u : Int := (if e < -126 then -126 else e) - 23
  let v := a.abs.scale (-u)
  let q : Int := match m with
    | .even => v.rneInt
    | .up => if a.n < 0 then v.floor else v.ceil
  let b : Nat := (u + 149).toNat * 2 ^ 23 + q.toNat
  let b := if 0x7F800000 ≤ b then 0x7F800000 else b
  wd (if a.n < 0 then b + 2 ^ 31 else b)

/-- The exact value of a binary32 encoding; none for infinities and NaN. -/
def f32 (w : Word) : Option Fr :=
  let e := fld w 23 8
  let f := fld w 0 23
  if e = 255 then none else
  let m : Int := if e = 0 then f else f + 2 ^ 23
  let m := if bit w 31 then -m else m
  some ((Fr.ofInt m).scale (((if e = 0 then 1 else e) : Int) - 150))

/-- The value of a binary32 encoding, 0 for one that is not finite. -/
def f32D (w : Word) : Fr := (f32 w).getD ⟨0, 1⟩

/-- Is the encoding an infinity or NaN? -/
def isNonFinite (w : Word) : Bool := fld w 23 8 == 255
/-- Is the encoding a NaN? -/
def isNaN32 (w : Word) : Bool := isNonFinite w && fld w 0 23 != 0

def qNaN : Word := 0x7FC00000
def posInf : Word := 0x7F800000
def negInf : Word := 0xFF800000

/-- The sign bit of an encoding, and an encoding with its sign flipped. -/
def signBit (w : Word) : Bool := bit w 31
def fneg (w : Word) : Word := w ^^^ 0x80000000
/-- A zero of a sign. -/
def zeroOf (neg : Bool) : Word := if neg then 0x80000000 else 0
def infOf (neg : Bool) : Word := if neg then negInf else posInf
/-- Is the encoding a zero? -/
def isZero32 (w : Word) : Bool := fld w 0 31 == 0

/-- binary32 product, rounded once to nearest, ties to even. -/
def fmul (a c : Word) : Word :=
  let s := signBit a != signBit c
  if isNaN32 a || isNaN32 c then qNaN
  else if isNonFinite a || isNonFinite c then (if isZero32 a || isZero32 c then qNaN else infOf s)
  else if isZero32 a || isZero32 c then zeroOf s
  else ((f32D a).mul (f32D c)).toF32

/-- binary32 sum, rounded once to nearest, ties to even. -/
def fadd (a c : Word) : Word :=
  if isNaN32 a || isNaN32 c then qNaN
  else if isNonFinite a then (if isNonFinite c && signBit a != signBit c then qNaN else a)
  else if isNonFinite c then c
  else if isZero32 a && isZero32 c then zeroOf (signBit a && signBit c)
  else ((f32D a).add (f32D c)).toF32

/-- binary32 difference. -/
def fsub (a c : Word) : Word := fadd a (fneg c)

/-- binary32 quotient, rounded once to nearest, ties to even. -/
def fdiv (a c : Word) : Word :=
  let s := signBit a != signBit c
  if isNaN32 a || isNaN32 c then qNaN
  else if isNonFinite a then (if isNonFinite c then qNaN else infOf s)
  else if isNonFinite c then zeroOf s
  else if isZero32 c then (if isZero32 a then qNaN else infOf s)
  else if isZero32 a then zeroOf s
  else ((f32D a).div (f32D c)).toF32

/-- binary32 square root, rounded once to nearest, ties to even. -/
def fsqrt (a : Word) : Word :=
  if isNaN32 a then qNaN else if isZero32 a then a else if signBit a then qNaN else if isNonFinite a then a else
  let v := f32D a
  let s : Nat := ((56 - v.log2) / 2).toNat + 1
  let w := v.scale (2 * s)
  let n := w.floor.toNat
  let q := isqrt n
  let exact := q * q == n && w.n == (n : Int) * w.d
  ((Fr.ofInt ((2 * q + (if exact then 0 else 1) : Nat) : Int)).scale (-(s : Int) - 1)).toF32

/-- The larger and the smaller of two binary32 values by number; a NaN operand gives a NaN. -/
def fnum (w : Word) : Int := let m : Int := fld w 0 31; if bit w 31 then -m else m
def fmax (a c : Word) : Word := if isNaN32 a || isNaN32 c then qNaN else if fnum a < fnum c then c else a
def fmin (a c : Word) : Word := if isNaN32 a || isNaN32 c then qNaN else if fnum c < fnum a then c else a

/-- An integer as binary32, to nearest with ties to even. -/
def fofInt (i : Int) : Word := (Fr.ofInt i).toF32

/-- A bf16 halfword as binary32 (its upper half). -/
def bf16to32 (h : Nat) : Word := wd (h % 65536 * 65536)

/-- binary32 to bf16, to nearest with ties to even; a NaN stays a NaN. -/
def f32toBf16 (w : Word) : Nat :=
  if isNaN32 w then fld w 16 16 ||| 0x40 else
  let lo := fld w 0 16
  let hi := fld w 16 16
  if lo < 0x8000 then hi else if 0x8000 < lo then (hi + 1) % 65536
  else if hi % 2 = 0 then hi else (hi + 1) % 65536

/-- The random bits of a draw, R170. -/
def srBits (seed c : BitVec 64) : BitVec 32 :=
  let round (x : BitVec 64) (i : Nat) : BitVec 64 :=
    let x := x ^^^ (x >>> 32)
    let x := x * 0xD6E8FEB86659FD93#64
    let x := x ^^^ (x >>> 29)
    x + seed.rotateLeft (21 * (i + 1))
  ((round (round (round (c ^^^ seed) 0) 1) 2) >>> 32).setWidth 32

/-- The 64-bit counter of a draw, R171. -/
def srCounter (tag row col site ord : Nat) : BitVec 64 :=
  BitVec.ofNat 64 (tag % 2 ^ 14 * 2 ^ 50 + row % 2 ^ 9 * 2 ^ 41 + col % 2 ^ 12 * 2 ^ 29
    + site % 2 ^ 6 * 2 ^ 23 + ord % 2 ^ 23)

/-- Stochastic rounding of an exact value to `p` fraction bits (23 for L32, 15 for L24), R169. The answer is a binary32
encoding. No draw is used when the value is representable. -/
def srRound (a : Fr) (p : Nat) (seed c : BitVec 64) : Word :=
  if a.isZero then 0 else
  let u : Int := a.log2 - p
  let v := a.abs.scale (-u)
  let lo := v.floor
  let q : Int := ((Fr.sub v (Fr.ofInt lo)).scale 32).floor
  let mag : Int := if q = 0 && v.n == lo * v.d then lo
    else if ((srBits seed c).toNat : Int) < q then lo + 1 else lo
  ((Fr.ofInt (if a.n < 0 then -mag else mag)).scale u).toF32

/-- Saturation to the 40-bit range of I40 (R184). -/
def sat40 (i : Int) : Int := clampI (-(2 ^ 39)) (2 ^ 39 - 1) i

end Sys2Proof.Machine
end

