-- ==== Sys2Proof/Machine/RegNames.lean ====
section
/-! DEFINITION. The BAR0 byte offset of every page and register of the module, under the spec's own names
(R431 places the pages, R79 and R269 the engine pages, R434 the page header; the rule named at each page
gives its registers). -/

namespace Sys2Proof.Machine

/-! Page header registers, R434: offsets from the page's base. -/
def PG_ID (p : Nat) : Nat := p
def PG_VER (p : Nat) : Nat := p + 0x04
def PG_CTRL (p : Nat) : Nat := p + 0x08
def PG_STAT (p : Nat) : Nat := p + 0x0C
def PG_ISTAT (p : Nat) : Nat := p + 0x10
def PG_IMASK (p : Nat) : Nat := p + 0x14
def PG_ISET (p : Nat) : Nat := p + 0x18
def PG_LOCK (p : Nat) : Nat := p + 0x1C
def PG_SEQ (p : Nat) : Nat := p + 0x20
def PG_COMMIT (p : Nat) : Nat := p + 0x24

/-- Base of engine `e`'s four pages: resident engines are 0 to 63 (R79), dynamic engine `n` is `64 + n` (R269). -/
def engBase (e : Nat) : Nat := if e < 64 then 0x500000 + e * 0x4000 else 0x600000 + (e - 64) * 0x4000

/-- Base of the `GLB` page (R450, R431). -/
def P_GLB : Nat := 0x0
def GLB_WSEL : Nat := P_GLB + 0x040
def GLB_ERR : Nat := P_GLB + 0x044
def GLB_ERRADDR_LO : Nat := P_GLB + 0x048
def GLB_ERRADDR_HI : Nat := P_GLB + 0x04C
def GLB_IPEND_LO : Nat := P_GLB + 0x050
def GLB_IPEND_HI : Nat := P_GLB + 0x054
def GLB_IACK_LO : Nat := P_GLB + 0x058
def GLB_IACK_HI : Nat := P_GLB + 0x05C
def GLB_ESUM_LO : Nat := P_GLB + 0x060
def GLB_ESUM_HI : Nat := P_GLB + 0x064
def GLB_DSUM : Nat := P_GLB + 0x068
def GLB_ERRCNT : Nat := P_GLB + 0x06C
def GLB_CNTCLR : Nat := P_GLB + 0x070
def GLB_DMA_HADDR_LO (k : Nat) : Nat := P_GLB + 0x100 + 32 * k
def GLB_DMA_HADDR_HI (k : Nat) : Nat := P_GLB + 0x104 + 32 * k
def GLB_DMA_MADDR_LO (k : Nat) : Nat := P_GLB + 0x108 + 32 * k
def GLB_DMA_MADDR_HI (k : Nat) : Nat := P_GLB + 0x10C + 32 * k
def GLB_DMA_LEN (k : Nat) : Nat := P_GLB + 0x110 + 32 * k
def GLB_DMA_CTRL (k : Nat) : Nat := P_GLB + 0x114 + 32 * k
def GLB_DMA_STAT (k : Nat) : Nat := P_GLB + 0x118 + 32 * k
def GLB_DMA_DONELEN (k : Nat) : Nat := P_GLB + 0x11C + 32 * k
def GLB_MSIX_ADDR_LO (k : Nat) : Nat := P_GLB + 0x800 + 16 * k
def GLB_MSIX_ADDR_HI (k : Nat) : Nat := P_GLB + 0x804 + 16 * k
def GLB_MSIX_DATA (k : Nat) : Nat := P_GLB + 0x808 + 16 * k
def GLB_MSIX_CTL (k : Nat) : Nat := P_GLB + 0x80C + 16 * k
def GLB_MSIX_PBA (k : Nat) : Nat := P_GLB + 0xC00 + 4 * k

/-- Base of the `ID` page (R520, R431). -/
def P_ID : Nat := 0x1000
def ID_SERIAL_LO : Nat := P_ID + 0x040
def ID_SERIAL_HI : Nat := P_ID + 0x044
def ID_PCI : Nat := P_ID + 0x048
def ID_GRADE : Nat := P_ID + 0x04C
def ID_DIESTEP : Nat := P_ID + 0x050
def ID_FWVER : Nat := P_ID + 0x054
def ID_MAC_LO : Nat := P_ID + 0x058
def ID_MAC_HI : Nat := P_ID + 0x05C
def ID_MFG : Nat := P_ID + 0x060
def ID_PRODSEQ : Nat := P_ID + 0x064

/-- Base of the `PWR` page (R477, R431). -/
def P_PWR : Nat := 0x2000
def PWR_STATE : Nat := P_PWR + 0x040
def PWR_REQ : Nat := P_PWR + 0x044
def PWR_STAT : Nat := P_PWR + 0x048
def PWR_RAIL : Nat := P_PWR + 0x04C
def PWR_VREQ : Nat := P_PWR + 0x050
def PWR_VMEAS : Nat := P_PWR + 0x054
def PWR_MARGIN : Nat := P_PWR + 0x058
def PWR_HU : Nat := P_PWR + 0x05C
def PWR_SAVE : Nat := P_PWR + 0x060
def PWR_SAVESEQ : Nat := P_PWR + 0x064
def PWR_POWER : Nat := P_PWR + 0x068
def PWR_CNTCLR : Nat := P_PWR + 0x06C

/-- Base of the `CLK` page (R479, R431). -/
def P_CLK : Nat := 0x3000
def CLK_STAT : Nat := P_CLK + 0x040
def CLK_PPM156 : Nat := P_CLK + 0x044
def CLK_PPM100 : Nat := P_CLK + 0x048
def CLK_AONTIME_LO : Nat := P_CLK + 0x04C
def CLK_AONTIME_HI : Nat := P_CLK + 0x050
def CLK_LOSSCNT : Nat := P_CLK + 0x054
def CLK_CNTCLR : Nat := P_CLK + 0x058

/-- Base of the `RST` page (R480, R431). -/
def P_RST : Nat := 0x4000
def RST_CMD : Nat := P_RST + 0x040
def RST_CAUSE : Nat := P_RST + 0x044
def RST_STAT : Nat := P_RST + 0x048
def RST_WDT : Nat := P_RST + 0x04C
def RST_MRCNT : Nat := P_RST + 0x050
def RST_MIOCNT : Nat := P_RST + 0x054
def RST_WDTCNT : Nat := P_RST + 0x058
def RST_CNTCLR : Nat := P_RST + 0x05C

/-- Base of the `THM` page (R512, R431). -/
def P_THM : Nat := 0x5000
def THM_STAT : Nat := P_THM + 0x040
def THM_LIM : Nat := P_THM + 0x044
def THM_THROT : Nat := P_THM + 0x048
def THM_MASK (k : Nat) : Nat := P_THM + 0x04C + 4 * k
def THM_FAULT (k : Nat) : Nat := P_THM + 0x058 + 4 * k
def THM_TCNT : Nat := P_THM + 0x064
def THM_TTIME : Nat := P_THM + 0x068
def THM_HBM : Nat := P_THM + 0x06C
def THM_CNTCLR : Nat := P_THM + 0x070
def THM_T (k : Nat) : Nat := P_THM + 0x080 + 4 * k

/-- Base of the `HK` page (R514, R431). -/
def P_HK : Nat := 0x6000
def HK_CTRL : Nat := P_HK + 0x040
def HK_STAT : Nat := P_HK + 0x044
def HK_TMR_A : Nat := P_HK + 0x048
def HK_TMR_B : Nat := P_HK + 0x04C
def HK_SCAN_A_LO : Nat := P_HK + 0x050
def HK_SCAN_A_HI : Nat := P_HK + 0x054
def HK_SCAN_B_LO : Nat := P_HK + 0x058
def HK_SCAN_B_HI : Nat := P_HK + 0x05C
def HK_EVT_A : Nat := P_HK + 0x060
def HK_EVD_A : Nat := P_HK + 0x064
def HK_EVT_B : Nat := P_HK + 0x068
def HK_EVD_B : Nat := P_HK + 0x06C
def HK_URG : Nat := P_HK + 0x070
def HK_URGRES : Nat := P_HK + 0x074
def HK_XTOL : Nat := P_HK + 0x078
def HK_XRES : Nat := P_HK + 0x07C
def HK_EVLOST : Nat := P_HK + 0x080
def HK_TOVR : Nat := P_HK + 0x084
def HK_ABORTCNT : Nat := P_HK + 0x088
def HK_XFCNT : Nat := P_HK + 0x08C
def HK_CNTCLR : Nat := P_HK + 0x090
def HK_CFG_A (k : Nat) : Nat := P_HK + 0x100 + 4 * k
def HK_CFG_B (k : Nat) : Nat := P_HK + 0x1C0 + 4 * k
def HK_RES_A (k : Nat) : Nat := P_HK + 0x280 + 4 * k
def HK_RES_B (k : Nat) : Nat := P_HK + 0x340 + 4 * k
def HK_LIM_A (k : Nat) : Nat := P_HK + 0x400 + 4 * k
def HK_LIM_B (k : Nat) : Nat := P_HK + 0x4C0 + 4 * k
def HK_LIMST_A_LO : Nat := P_HK + 0x580
def HK_LIMST_A_HI : Nat := P_HK + 0x584
def HK_LIMST_B_LO : Nat := P_HK + 0x588
def HK_LIMST_B_HI : Nat := P_HK + 0x58C

/-- Base of the `LCO` page (R515, R431). -/
def P_LCO : Nat := 0x7000
def LCO_CTRL : Nat := P_LCO + 0x040
def LCO_STAT : Nat := P_LCO + 0x044
def LCO_LSTAT : Nat := P_LCO + 0x048
def LCO_LCMD : Nat := P_LCO + 0x04C
def LCO_LENMASK : Nat := P_LCO + 0x050
def LCO_TIECMD : Nat := P_LCO + 0x054
def LCO_TIESTAT : Nat := P_LCO + 0x058
def LCO_TRIPCNT : Nat := P_LCO + 0x05C
def LCO_FLTCNT : Nat := P_LCO + 0x060
def LCO_CNTCLR : Nat := P_LCO + 0x064
def LCO_CFG (k : Nat) : Nat := P_LCO + 0x100 + 32 * k
def LCO_SET (k : Nat) : Nat := P_LCO + 0x104 + 32 * k
def LCO_STOWV (k : Nat) : Nat := P_LCO + 0x108 + 32 * k
def LCO_SINF (k : Nat) : Nat := P_LCO + 0x10C + 32 * k
def LCO_SINA (k : Nat) : Nat := P_LCO + 0x110 + 32 * k
def LCO_WIN (k : Nat) : Nat := P_LCO + 0x114 + 32 * k
def LCO_PSTAT (k : Nat) : Nat := P_LCO + 0x118 + 32 * k
def LCO_CMD (k : Nat) : Nat := P_LCO + 0x11C + 32 * k

/-- Base of the `VLT` page (R532, R431). -/
def P_VLT : Nat := 0x8000
def VLT_STAT : Nat := P_VLT + 0x040
def VLT_SEQ_A : Nat := P_VLT + 0x044
def VLT_SEQ_B : Nat := P_VLT + 0x048
def VLT_SRC_LO : Nat := P_VLT + 0x04C
def VLT_SRC_HI : Nat := P_VLT + 0x050
def VLT_LEN : Nat := P_VLT + 0x054
def VLT_CMD : Nat := P_VLT + 0x058
def VLT_RESULT : Nat := P_VLT + 0x05C
def VLT_SET_SEQ : Nat := P_VLT + 0x060
def VLT_APPLY : Nat := P_VLT + 0x064
def VLT_APPLYERR : Nat := P_VLT + 0x068
def VLT_WEAR : Nat := P_VLT + 0x06C

/-- Base of the `DBK` page (R544, R431). -/
def P_DBK : Nat := 0x9000
def DBK_HEAD : Nat := P_DBK + 0x040
def DBK_TAIL : Nat := P_DBK + 0x044
def DBK_COUNT : Nat := P_DBK + 0x048
def DBK_DROPCNT : Nat := P_DBK + 0x04C
def DBK_SUPPCNT : Nat := P_DBK + 0x050
def DBK_OVWCNT : Nat := P_DBK + 0x054
def DBK_DROPSEV : Nat := P_DBK + 0x058
def DBK_IRQSEV : Nat := P_DBK + 0x05C
def DBK_HDATA (k : Nat) : Nat := P_DBK + 0x060 + 4 * k
def DBK_HCODE : Nat := P_DBK + 0x06C
def DBK_CNTCLR : Nat := P_DBK + 0x070
def DBK_RSEL : Nat := P_DBK + 0x080
def DBK_RCTL : Nat := P_DBK + 0x084
def DBK_RSTAT : Nat := P_DBK + 0x088
def DBK_RENT (k : Nat) : Nat := P_DBK + 0x0A0 + 4 * k

/-- Base of the `MBX` page (R445, R431). -/
def P_MBX : Nat := 0xa000
def MBX_DB : Nat := P_MBX + 0x040
def MBX_DBMASK : Nat := P_MBX + 0x044
def MBX_MYRX : Nat := P_MBX + 0x048
def MBX_MYTX : Nat := P_MBX + 0x04C
def MBX_BINDERR : Nat := P_MBX + 0x050
def MBX_REFCNT : Nat := P_MBX + 0x054
def MBX_DOWNCNT : Nat := P_MBX + 0x058
def MBX_CNTCLR : Nat := P_MBX + 0x05C
def MBX_BIND (k : Nat) : Nat := P_MBX + 0x100 + 4 * k
def MBX_RXCTL (k : Nat) : Nat := P_MBX + 0x200 + 4 * k
def MBX_TXD (k : Nat) : Nat := P_MBX + 0x400 + 64 * k
def MBX_TXD1 (k : Nat) : Nat := P_MBX + 0x404 + 64 * k
def MBX_TXD2 (k : Nat) : Nat := P_MBX + 0x408 + 64 * k
def MBX_TXD3 (k : Nat) : Nat := P_MBX + 0x40C + 64 * k
def MBX_TXD4 (k : Nat) : Nat := P_MBX + 0x410 + 64 * k
def MBX_TXD5 (k : Nat) : Nat := P_MBX + 0x414 + 64 * k
def MBX_TXD6 (k : Nat) : Nat := P_MBX + 0x418 + 64 * k
def MBX_TXD7 (k : Nat) : Nat := P_MBX + 0x41C + 64 * k
def MBX_POST (k : Nat) : Nat := P_MBX + 0x420 + 64 * k
def MBX_TXSTAT (k : Nat) : Nat := P_MBX + 0x424 + 64 * k
def MBX_RXD (k : Nat) : Nat := P_MBX + 0xC00 + 4 * k

/-- Base of the `SMB` page (R449, R431). -/
def P_SMB : Nat := 0xb000
def SMB_CFG : Nat := P_SMB + 0x040
def SMB_STAT : Nat := P_SMB + 0x044
def SMB_TXCNT : Nat := P_SMB + 0x048
def SMB_PECERR : Nat := P_SMB + 0x04C
def SMB_TOCNT : Nat := P_SMB + 0x050
def SMB_CNTCLR : Nat := P_SMB + 0x054

/-- Base of the `SEQ` page of stack `s` (R310, R431). -/
def P_SEQ (s : Nat) : Nat := 0x100000 + s * 0x100000 + 0x0
def SEQ_STAT (i : Nat) : Nat := P_SEQ i + 0x040
def SEQ_FRAME (i : Nat) : Nat := P_SEQ i + 0x044
def SEQ_SEED_LO (i : Nat) : Nat := P_SEQ i + 0x048
def SEQ_SEED_HI (i : Nat) : Nat := P_SEQ i + 0x04C
def SEQ_ISSUED (i : Nat) : Nat := P_SEQ i + 0x050
def SEQ_LATECNT (i : Nat) : Nat := P_SEQ i + 0x054
def SEQ_REJCNT (i : Nat) : Nat := P_SEQ i + 0x058
def SEQ_PAUSECNT (i : Nat) : Nat := P_SEQ i + 0x05C
def SEQ_LASTREJ (i : Nat) : Nat := P_SEQ i + 0x060
def SEQ_CNTCLR (i : Nat) : Nat := P_SEQ i + 0x064

/-- Base of the `LDG` page of stack `s` (R202, R431). -/
def P_LDG (s : Nat) : Nat := 0x100000 + s * 0x100000 + 0x1000
def LDG_CTRL (i : Nat) : Nat := P_LDG i + 0x040
def LDG_STAT (i : Nat) : Nat := P_LDG i + 0x044
def LDG_TSEL (i : Nat) : Nat := P_LDG i + 0x048
def LDG_TSTAT (i : Nat) : Nat := P_LDG i + 0x04C
def LDG_TREC (i : Nat) (k : Nat) : Nat := P_LDG i + 0x050 + 4 * k
def LDG_SATCNT (i : Nat) : Nat := P_LDG i + 0x070
def LDG_INCCNT (i : Nat) : Nat := P_LDG i + 0x074
def LDG_LATECNT (i : Nat) : Nat := P_LDG i + 0x078
def LDG_CECNT (i : Nat) : Nat := P_LDG i + 0x07C
def LDG_UECNT (i : Nat) : Nat := P_LDG i + 0x080
def LDG_CNTCLR (i : Nat) : Nat := P_LDG i + 0x084
def LDG_LASTFRAME (i : Nat) : Nat := P_LDG i + 0x088
def LDG_SATMAP (i : Nat) (k : Nat) : Nat := P_LDG i + 0x100 + 4 * k
def LDG_SATLIVE (i : Nat) (k : Nat) : Nat := P_LDG i + 0x180 + 4 * k
def LDG_ZFMAP (i : Nat) (k : Nat) : Nat := P_LDG i + 0x200 + 4 * k

/-- Base of the `TLY` page of stack `s` (R204, R431). -/
def P_TLY (s : Nat) : Nat := 0x100000 + s * 0x100000 + 0x2000
def TLY_CTRL (i : Nat) : Nat := P_TLY i + 0x040
def TLY_STAT (i : Nat) : Nat := P_TLY i + 0x044
def TLY_WAIT (i : Nat) : Nat := P_TLY i + 0x048
def TLY_BUSY (i : Nat) : Nat := P_TLY i + 0x04C
def TLY_CNT_INT (i : Nat) : Nat := P_TLY i + 0x050
def TLY_CNT_FLT (i : Nat) : Nat := P_TLY i + 0x054
def TLY_ALSTALL (i : Nat) : Nat := P_TLY i + 0x058
def TLY_HOPTX (i : Nat) : Nat := P_TLY i + 0x05C
def TLY_HOPRX (i : Nat) : Nat := P_TLY i + 0x060
def TLY_TOCNT (i : Nat) : Nat := P_TLY i + 0x064
def TLY_DISCNT (i : Nat) : Nat := P_TLY i + 0x068
def TLY_STORE (i : Nat) : Nat := P_TLY i + 0x06C
def TLY_LASTERR (i : Nat) : Nat := P_TLY i + 0x070
def TLY_CNTCLR (i : Nat) : Nat := P_TLY i + 0x074
def TLY_SCALE_P (i : Nat) (k : Nat) : Nat := P_TLY i + 0x400 + 4 * k
def TLY_SCALE (i : Nat) (k : Nat) : Nat := P_TLY i + 0x800 + 4 * k

/-- Base of the `CE` page of stack `s` (R159, R431). -/
def P_CE (s : Nat) : Nat := 0x100000 + s * 0x100000 + 0x3000
def CE_GRID (i : Nat) : Nat := P_CE i + 0x040
def CE_BANK_ACT (i : Nat) : Nat := P_CE i + 0x044
def CE_BANK_ARM (i : Nat) : Nat := P_CE i + 0x048
def CE_BANK_DISARM (i : Nat) : Nat := P_CE i + 0x04C
def CE_BANK_STAT (i : Nat) : Nat := P_CE i + 0x050
def CE_BANK_ERR (i : Nat) : Nat := P_CE i + 0x054
def CE_TADDR (i : Nat) : Nat := P_CE i + 0x058
def CE_TDATA (i : Nat) : Nat := P_CE i + 0x05C
def CE_OVR_TOTAL (i : Nat) : Nat := P_CE i + 0x060
def CE_OVR_GRP (i : Nat) : Nat := P_CE i + 0x064
def CE_SATCNT (i : Nat) : Nat := P_CE i + 0x068
def CE_CLAMPCNT (i : Nat) : Nat := P_CE i + 0x06C
def CE_TREFCNT (i : Nat) : Nat := P_CE i + 0x070
def CE_CNTCLR (i : Nat) : Nat := P_CE i + 0x074
def CE_LOAD (i : Nat) (k : Nat) : Nat := P_CE i + 0x080 + 4 * k
def CE_TRC_CTRL (i : Nat) (k : Nat) : Nat := P_CE i + 0x100 + 32 * k
def CE_TRC_STAT (i : Nat) (k : Nat) : Nat := P_CE i + 0x104 + 32 * k
def CE_TRC_NODE01 (i : Nat) (k : Nat) : Nat := P_CE i + 0x108 + 32 * k
def CE_TRC_NODE23 (i : Nat) (k : Nat) : Nat := P_CE i + 0x10C + 32 * k
def CE_TRC_TRIG (i : Nat) (k : Nat) : Nat := P_CE i + 0x110 + 32 * k
def CE_TRC_THR (i : Nat) (k : Nat) : Nat := P_CE i + 0x114 + 32 * k
def CE_TRC_TIME (i : Nat) (k : Nat) : Nat := P_CE i + 0x118 + 32 * k
def CE_TRC_FRAME (i : Nat) (k : Nat) : Nat := P_CE i + 0x11C + 32 * k

/-- Base of the `ASY` page of stack `s` (R343, R431). -/
def P_ASY (s : Nat) : Nat := 0x100000 + s * 0x100000 + 0x4000
def ASY_CTRL (i : Nat) : Nat := P_ASY i + 0x040
def ASY_CFG (i : Nat) : Nat := P_ASY i + 0x044
def ASY_DTCAL (i : Nat) : Nat := P_ASY i + 0x048
def ASY_TOL (i : Nat) : Nat := P_ASY i + 0x04C
def ASY_STEPTOL (i : Nat) : Nat := P_ASY i + 0x050
def ASY_SCHED (i : Nat) : Nat := P_ASY i + 0x054
def ASY_LIMITS (i : Nat) : Nat := P_ASY i + 0x058
def ASY_REQ (i : Nat) : Nat := P_ASY i + 0x05C
def ASY_STAT (i : Nat) : Nat := P_ASY i + 0x060
def ASY_LAST (i : Nat) : Nat := P_ASY i + 0x064
def ASY_CALCNT (i : Nat) : Nat := P_ASY i + 0x068
def ASY_ABNCNT (i : Nat) : Nat := P_ASY i + 0x06C
def ASY_SKIPCNT (i : Nat) : Nat := P_ASY i + 0x070
def ASY_DROPCNT (i : Nat) : Nat := P_ASY i + 0x074
def ASY_PREEMPT (i : Nat) : Nat := P_ASY i + 0x078
def ASY_CNTCLR (i : Nat) : Nat := P_ASY i + 0x07C
def ASY_SEL (i : Nat) : Nat := P_ASY i + 0x080
def ASY_R_N (i : Nat) : Nat := P_ASY i + 0x084
def ASY_R_LIVE (i : Nat) : Nat := P_ASY i + 0x088
def ASY_R_CAL (i : Nat) : Nat := P_ASY i + 0x08C
def ASY_R_FIT (i : Nat) : Nat := P_ASY i + 0x090
def ASY_R_FLAGS (i : Nat) : Nat := P_ASY i + 0x094
def ASY_R_SUM (i : Nat) (k : Nat) : Nat := P_ASY i + 0x098 + 4 * k
def ASY_RG_SEL (i : Nat) : Nat := P_ASY i + 0x0C0
def ASY_RG_STAT (i : Nat) : Nat := P_ASY i + 0x0C4
def ASY_RG_CNT (i : Nat) : Nat := P_ASY i + 0x0C8
def ASY_E_RMS (i : Nat) (k : Nat) : Nat := P_ASY i + 0x100 + 8 * k
def ASY_E_INFO (i : Nat) (k : Nat) : Nat := P_ASY i + 0x104 + 8 * k

/-- Base of the `PLT` page of stack `s` (R344, R431). -/
def P_PLT (s : Nat) : Nat := 0x100000 + s * 0x100000 + 0x5000
def PLT_STAT (i : Nat) : Nat := P_PLT i + 0x040
def PLT_CURVE_CTRL (i : Nat) : Nat := P_PLT i + 0x044
def PLT_CURVE_STAT (i : Nat) : Nat := P_PLT i + 0x048
def PLT_CECNT (i : Nat) : Nat := P_PLT i + 0x04C
def PLT_UECNT (i : Nat) : Nat := P_PLT i + 0x050
def PLT_UEADDR (i : Nat) : Nat := P_PLT i + 0x054
def PLT_CNTCLR (i : Nat) : Nat := P_PLT i + 0x058
def PLT_CURVE_P (i : Nat) (k : Nat) : Nat := P_PLT i + 0x400 + 4 * k
def PLT_CURVE (i : Nat) (k : Nat) : Nat := P_PLT i + 0x600 + 4 * k

/-- Base of the `HTR` page of stack `s` (R129, R431). -/
def P_HTR (s : Nat) : Nat := 0x100000 + s * 0x100000 + 0x6000
def HTR_CTRL (i : Nat) : Nat := P_HTR i + 0x040
def HTR_ILIM (i : Nat) : Nat := P_HTR i + 0x044
def HTR_STAT (i : Nat) : Nat := P_HTR i + 0x048
def HTR_LIMITCNT (i : Nat) : Nat := P_HTR i + 0x04C
def HTR_SKIPCNT (i : Nat) : Nat := P_HTR i + 0x050
def HTR_STOWHOLD (i : Nat) : Nat := P_HTR i + 0x054
def HTR_TEST (i : Nat) : Nat := P_HTR i + 0x058
def HTR_CNTCLR (i : Nat) : Nat := P_HTR i + 0x05C
def HTR_DUTY (i : Nat) (k : Nat) : Nat := P_HTR i + 0x400 + 4 * k

/-- Base of the `ENG` page of engine `e`, 64 + n for dynamic engine n (R81, R79, R269). -/
def P_ENG (e : Nat) : Nat := engBase e + 0x0
def ENG_STATE (i : Nat) : Nat := P_ENG i + 0x040
def ENG_CFG (i : Nat) : Nat := P_ENG i + 0x044
def ENG_IDLE (i : Nat) : Nat := P_ENG i + 0x048
def ENG_NAPT (i : Nat) : Nat := P_ENG i + 0x04C
def ENG_WAKE (i : Nat) : Nat := P_ENG i + 0x050
def ENG_OSCALE (i : Nat) : Nat := P_ENG i + 0x054
def ENG_REFRESH (i : Nat) : Nat := P_ENG i + 0x058
def ENG_XLIM (i : Nat) : Nat := P_ENG i + 0x05C
def ENG_WLIM (i : Nat) : Nat := P_ENG i + 0x060
def ENG_LOAD_LO (i : Nat) : Nat := P_ENG i + 0x064
def ENG_LOAD_HI (i : Nat) : Nat := P_ENG i + 0x068
def ENG_LOAD_CTRL (i : Nat) : Nat := P_ENG i + 0x06C
def ENG_LOAD_STAT (i : Nat) : Nat := P_ENG i + 0x070
def ENG_MODEL_TAG (i : Nat) : Nat := P_ENG i + 0x074
def ENG_SWAP_FRAME (i : Nat) : Nat := P_ENG i + 0x078
def ENG_SCAN (i : Nat) : Nat := P_ENG i + 0x07C
def ENG_ADCSAT (i : Nat) : Nat := P_ENG i + 0x080
def ENG_HELD (i : Nat) : Nat := P_ENG i + 0x084
def ENG_CNTCLR (i : Nat) : Nat := P_ENG i + 0x088
def ENG_PARK (i : Nat) : Nat := P_ENG i + 0x08C
def ENG_EBUD0 (i : Nat) : Nat := P_ENG i + 0x090
def ENG_EBUD1 (i : Nat) : Nat := P_ENG i + 0x094
def ENG_EBUD2 (i : Nat) : Nat := P_ENG i + 0x098
def ENG_EBUD3 (i : Nat) : Nat := P_ENG i + 0x09C

/-- Base of the `LCK` page of engine `e`, 64 + n for dynamic engine n (R125, R79, R269). -/
def P_LCK (e : Nat) : Nat := engBase e + 0x1000
def LCK_CTRL (i : Nat) : Nat := P_LCK i + 0x040
def LCK_CMD (i : Nat) : Nat := P_LCK i + 0x044
def LCK_STAT (i : Nat) : Nat := P_LCK i + 0x048
def LCK_COAST_T (i : Nat) : Nat := P_LCK i + 0x04C
def LCK_VFLOOR (i : Nat) : Nat := P_LCK i + 0x050
def LCK_RAIL (i : Nat) : Nat := P_LCK i + 0x054
def LCK_CORR (i : Nat) : Nat := P_LCK i + 0x058
def LCK_RETRY (i : Nat) : Nat := P_LCK i + 0x05C
def LCK_UNLK_LO (i : Nat) : Nat := P_LCK i + 0x060
def LCK_UNLK_HI (i : Nat) : Nat := P_LCK i + 0x064
def LCK_WRONG_LO (i : Nat) : Nat := P_LCK i + 0x068
def LCK_WRONG_HI (i : Nat) : Nat := P_LCK i + 0x06C
def LCK_COASTCNT (i : Nat) : Nat := P_LCK i + 0x070
def LCK_RSCNT (i : Nat) : Nat := P_LCK i + 0x074
def LCK_R_CFG (i : Nat) (k : Nat) : Nat := P_LCK i + 0x800 + 32 * k
def LCK_R_DFREQ (i : Nat) (k : Nat) : Nat := P_LCK i + 0x804 + 32 * k
def LCK_R_SWORD (i : Nat) (k : Nat) : Nat := P_LCK i + 0x808 + 32 * k
def LCK_R_STATE (i : Nat) (k : Nat) : Nat := P_LCK i + 0x80C + 32 * k
def LCK_R_BIAS (i : Nat) (k : Nat) : Nat := P_LCK i + 0x810 + 32 * k
def LCK_R_HEAT (i : Nat) (k : Nat) : Nat := P_LCK i + 0x814 + 32 * k
def LCK_R_RTEMP (i : Nat) (k : Nat) : Nat := P_LCK i + 0x818 + 32 * k
def LCK_KBIAS (i : Nat) (k : Nat) : Nat := P_LCK i + 0x81C + 32 * k

/-- Base of the `TRM` page of engine `e`, 64 + n for dynamic engine n (R88, R79, R269). -/
def P_TRM (e : Nat) : Nat := engBase e + 0x2000
def TRM_CTRL (i : Nat) : Nat := P_TRM i + 0x040
def TRM_STAT (i : Nat) : Nat := P_TRM i + 0x044
def TRM_RADDR (i : Nat) : Nat := P_TRM i + 0x048
def TRM_RDATA (i : Nat) : Nat := P_TRM i + 0x04C
def TRM_QREFUSED (i : Nat) : Nat := P_TRM i + 0x050
def TRM_MOD (i : Nat) (k : Nat) : Nat := P_TRM i + 0x100 + 4 * k
def TRM_ROW (i : Nat) (k : Nat) : Nat := P_TRM i + 0x800 + 4 * k

/-- Base of the `ASG` page of engine `e`, 64 + n for dynamic engine n (R127, R79, R269). -/
def P_ASG (e : Nat) : Nat := engBase e + 0x3000
def ASG_CTRL (i : Nat) : Nat := P_ASG i + 0x040
def ASG_TARGET (i : Nat) : Nat := P_ASG i + 0x044
def ASG_STAT (i : Nat) : Nat := P_ASG i + 0x048
def ASG_ADDR (i : Nat) : Nat := P_ASG i + 0x04C
def ASG_DATA (i : Nat) : Nat := P_ASG i + 0x050
def ASG_COUNT (i : Nat) : Nat := P_ASG i + 0x054
def ASG_WIN (i : Nat) : Nat := P_ASG i + 0x058
def ASG_SWEEP (i : Nat) : Nat := P_ASG i + 0x05C
def ASG_TIME (i : Nat) : Nat := P_ASG i + 0x060
def ASG_LINE (i : Nat) (k : Nat) : Nat := P_ASG i + 0x100 + 4 * k
def ASG_SPARE (i : Nat) (k : Nat) : Nat := P_ASG i + 0x300 + 4 * k

/-- Base of the `DEN` page of engine `e` = 64 + dynamic index (R269). -/
def P_DEN (e : Nat) : Nat := engBase e
def DEN_STATE (i : Nat) : Nat := P_DEN i + 0x040
def DEN_CFG (i : Nat) : Nat := P_DEN i + 0x044
def DEN_IDLE (i : Nat) : Nat := P_DEN i + 0x048
def DEN_NAPT (i : Nat) : Nat := P_DEN i + 0x04C
def DEN_WAKE (i : Nat) : Nat := P_DEN i + 0x050
def DEN_OSCALE (i : Nat) : Nat := P_DEN i + 0x054
def DEN_RUNIT (i : Nat) : Nat := P_DEN i + 0x058
def DEN_RVALID_LO (i : Nat) : Nat := P_DEN i + 0x05C
def DEN_RVALID_HI (i : Nat) : Nat := P_DEN i + 0x060
def DEN_ERR (i : Nat) : Nat := P_DEN i + 0x064
def DEN_ADCSAT (i : Nat) : Nat := P_DEN i + 0x068
def DEN_NEGCNT (i : Nat) : Nat := P_DEN i + 0x06C
def DEN_LATCHCNT (i : Nat) : Nat := P_DEN i + 0x070
def DEN_SYMCNT (i : Nat) : Nat := P_DEN i + 0x074
def DEN_CNTCLR (i : Nat) : Nat := P_DEN i + 0x078
def DEN_PARK (i : Nat) : Nat := P_DEN i + 0x07C
def DEN_TBL_ADDR (i : Nat) : Nat := P_DEN i + 0x080
def DEN_TBL_DATA (i : Nat) : Nat := P_DEN i + 0x084
def DEN_TBL_CTRL (i : Nat) : Nat := P_DEN i + 0x088
def DEN_TBL_STAT (i : Nat) : Nat := P_DEN i + 0x08C
def DEN_EBUD0 (i : Nat) : Nat := P_DEN i + 0x090
def DEN_EBUD1 (i : Nat) : Nat := P_DEN i + 0x094
def DEN_EBUD2 (i : Nat) : Nat := P_DEN i + 0x098
def DEN_EBUD3 (i : Nat) : Nat := P_DEN i + 0x09C

/-- Base of the `MNT` page (R238, R431). -/
def P_MNT : Nat := 0x700000
def MNT_STAT : Nat := P_MNT + 0x040
def MNT_ERR : Nat := P_MNT + 0x044
def MNT_CNTCLR : Nat := P_MNT + 0x048
def MNT_NONFIN : Nat := P_MNT + 0x04C
def MNT_REJCNT : Nat := P_MNT + 0x050
def MNT_LASTFRAME : Nat := P_MNT + 0x054
def MNT_FR_CONV : Nat := P_MNT + 0x058
def MNT_FR_CLIP : Nat := P_MNT + 0x05C
def MNT_FR_WORST : Nat := P_MNT + 0x060
def MNT_FR_NSAT : Nat := P_MNT + 0x064
def MNT_THR (k : Nat) : Nat := P_MNT + 0x080 + 4 * k
def MNT_SATCNT (k : Nat) : Nat := P_MNT + 0x090 + 4 * k
def MNT_PROF_W0 (k : Nat) : Nat := P_MNT + 0x100 + 8 * k
def MNT_PROF_W1 (k : Nat) : Nat := P_MNT + 0x104 + 8 * k

/-- Base of the `VEC` page (R312, R431). -/
def P_VEC : Nat := 0x701000
def VEC_BUSY : Nat := P_VEC + 0x040
def VEC_OPCNT : Nat := P_VEC + 0x044
def VEC_REJCNT : Nat := P_VEC + 0x048
def VEC_NONFIN : Nat := P_VEC + 0x04C
def VEC_LASTERR : Nat := P_VEC + 0x050
def VEC_SPEC : Nat := P_VEC + 0x054
def VEC_CNTCLR : Nat := P_VEC + 0x058

/-- Base of the `HBM` page (R422, R431). -/
def P_HBM : Nat := 0x702000
def HBM_CFG : Nat := P_HBM + 0x040
def HBM_CAP : Nat := P_HBM + 0x044
def HBM_HASH_P : Nat := P_HBM + 0x048
def HBM_CMD : Nat := P_HBM + 0x04C
def HBM_STAT : Nat := P_HBM + 0x050
def HBM_ERR : Nat := P_HBM + 0x054
def HBM_WIN : Nat := P_HBM + 0x058
def HBM_IMBTHR : Nat := P_HBM + 0x05C
def HBM_IMB : Nat := P_HBM + 0x060
def HBM_IMBCNT : Nat := P_HBM + 0x064
def HBM_CECNT : Nat := P_HBM + 0x068
def HBM_UECNT : Nat := P_HBM + 0x06C
def HBM_UEADDR_LO : Nat := P_HBM + 0x070
def HBM_UEADDR_HI : Nat := P_HBM + 0x074
def HBM_AFCNT : Nat := P_HBM + 0x078
def HBM_AFADDR_LO : Nat := P_HBM + 0x07C
def HBM_AFADDR_HI : Nat := P_HBM + 0x080
def HBM_CNTCLR : Nat := P_HBM + 0x084
def HBM_PC_CNT (k : Nat) : Nat := P_HBM + 0x100 + 4 * k

/-- Base of the `MSQ` page (R311, R431). -/
def P_MSQ : Nat := 0x703000
def MSQ_CTRL : Nat := P_MSQ + 0x040
def MSQ_STAT : Nat := P_MSQ + 0x044
def MSQ_FRAME : Nat := P_MSQ + 0x048
def MSQ_FLIMIT : Nat := P_MSQ + 0x04C
def MSQ_SREC (k : Nat) : Nat := P_MSQ + 0x050 + 4 * k
def MSQ_SPUSH : Nat := P_MSQ + 0x070
def MSQ_SREFUSED : Nat := P_MSQ + 0x074
def MSQ_TLIMCNT : Nat := P_MSQ + 0x078
def MSQ_REJCNT : Nat := P_MSQ + 0x07C
def MSQ_LASTREJ : Nat := P_MSQ + 0x080
def MSQ_PWREF : Nat := P_MSQ + 0x084
def MSQ_TIME_LO : Nat := P_MSQ + 0x088
def MSQ_TIME_HI : Nat := P_MSQ + 0x08C
def MSQ_CNTCLR : Nat := P_MSQ + 0x090
def MSQ_CTR (k : Nat) : Nat := P_MSQ + 0x100 + 4 * k
def MSQ_FSW (k : Nat) : Nat := P_MSQ + 0x800 + 4 * k

/-- Base of the `LNK` page (R406, R431). -/
def P_LNK : Nat := 0x800000
def LNK_CTRL : Nat := P_LNK + 0x040
def LNK_UP : Nat := P_LNK + 0x044
def LNK_SERTHR : Nat := P_LNK + 0x048
def LNK_STEER : Nat := P_LNK + 0x04C
def LNK_STEER_STAT : Nat := P_LNK + 0x050
def LNK_DEGCNT : Nat := P_LNK + 0x054
def LNK_STEERCNT : Nat := P_LNK + 0x058
def LNK_CNTCLR : Nat := P_LNK + 0x05C
def LNK_P_CFG (k : Nat) : Nat := P_LNK + 0x100 + 64 * k
def LNK_P_STAT (k : Nat) : Nat := P_LNK + 0x104 + 64 * k
def LNK_P_CMD (k : Nat) : Nat := P_LNK + 0x108 + 64 * k
def LNK_P_FCSERR (k : Nat) : Nat := P_LNK + 0x10C + 64 * k
def LNK_P_CWUNC (k : Nat) : Nat := P_LNK + 0x110 + 64 * k
def LNK_P_RXDISC (k : Nat) : Nat := P_LNK + 0x114 + 64 * k
def LNK_P_IPV4 (k : Nat) : Nat := P_LNK + 0x118 + 64 * k
def LNK_P_IPV6_0 (k : Nat) : Nat := P_LNK + 0x120 + 64 * k
def LNK_P_IPV6_1 (k : Nat) : Nat := P_LNK + 0x124 + 64 * k
def LNK_P_IPV6_2 (k : Nat) : Nat := P_LNK + 0x128 + 64 * k
def LNK_P_IPV6_3 (k : Nat) : Nat := P_LNK + 0x12C + 64 * k
def LNK_L_STAT (k : Nat) : Nat := P_LNK + 0x900 + 16 * k
def LNK_L_FMAP (k : Nat) : Nat := P_LNK + 0x904 + 16 * k
def LNK_L_SYMERR (k : Nat) : Nat := P_LNK + 0x908 + 16 * k
def LNK_L_CWUNC (k : Nat) : Nat := P_LNK + 0x90C + 16 * k
def LNK_F (k : Nat) : Nat := P_LNK + 0xB00 + 4 * k

/-- Base of the `VYV` page (R408, R431). -/
def P_VYV : Nat := 0x900000
def VYV_CTRL : Nat := P_VYV + 0x040
def VYV_UDP : Nat := P_VYV + 0x044
def VYV_RXBASE_LO : Nat := P_VYV + 0x048
def VYV_RXBASE_HI : Nat := P_VYV + 0x04C
def VYV_RXSIZE : Nat := P_VYV + 0x050
def VYV_FDEF : Nat := P_VYV + 0x054
def VYV_FSEL : Nat := P_VYV + 0x058
def VYV_FCMD : Nat := P_VYV + 0x05C
def VYV_FSTAT : Nat := P_VYV + 0x060
def VYV_RTO : Nat := P_VYV + 0x064
def VYV_ECNAI : Nat := P_VYV + 0x068
def VYV_NOCTX : Nat := P_VYV + 0x06C
def VYV_STALEFR : Nat := P_VYV + 0x070
def VYV_MALCNT : Nat := P_VYV + 0x074
def VYV_NOSPACE : Nat := P_VYV + 0x078
def VYV_LOSTCNT : Nat := P_VYV + 0x07C
def VYV_FAULTTX : Nat := P_VYV + 0x080
def VYV_FAULTRX : Nat := P_VYV + 0x084
def VYV_RETXCNT : Nat := P_VYV + 0x088
def VYV_CECNT : Nat := P_VYV + 0x08C
def VYV_LASTMAL : Nat := P_VYV + 0x090
def VYV_RACC_LO : Nat := P_VYV + 0x094
def VYV_RACC_HI : Nat := P_VYV + 0x098
def VYV_CNTCLR : Nat := P_VYV + 0x09C
def VYV_FREC (k : Nat) : Nat := P_VYV + 0x100 + 4 * k

/-- Base of the `ROL` page (R409, R431). -/
def P_ROL : Nat := 0xa00000
def ROL_CTRL : Nat := P_ROL + 0x040
def ROL_STAT : Nat := P_ROL + 0x044
def ROL_PATH_LO : Nat := P_ROL + 0x048
def ROL_PATH_HI : Nat := P_ROL + 0x04C
def ROL_HBP : Nat := P_ROL + 0x050
def ROL_CMD : Nat := P_ROL + 0x054
def ROL_VIEWCNT : Nat := P_ROL + 0x058
def ROL_HELDCNT : Nat := P_ROL + 0x05C
def ROL_HELDDISC : Nat := P_ROL + 0x060
def ROL_CNTCLR : Nat := P_ROL + 0x064
def ROL_L_EPOCH (k : Nat) : Nat := P_ROL + 0x100 + 64 * k
def ROL_L_INFO (k : Nat) : Nat := P_ROL + 0x104 + 64 * k
def ROL_L_FSER_LO (k : Nat) : Nat := P_ROL + 0x108 + 64 * k
def ROL_L_FSER_HI (k : Nat) : Nat := P_ROL + 0x10C + 64 * k
def ROL_L_VIEW0 (k : Nat) : Nat := P_ROL + 0x110 + 64 * k
def ROL_L_VIEW1 (k : Nat) : Nat := P_ROL + 0x114 + 64 * k
def ROL_L_VIEW2 (k : Nat) : Nat := P_ROL + 0x118 + 64 * k
def ROL_L_VIEW3 (k : Nat) : Nat := P_ROL + 0x11C + 64 * k
def ROL_L_VIEW4 (k : Nat) : Nat := P_ROL + 0x120 + 64 * k
def ROL_L_VIEW5 (k : Nat) : Nat := P_ROL + 0x124 + 64 * k
def ROL_L_VIEW6 (k : Nat) : Nat := P_ROL + 0x128 + 64 * k
def ROL_L_VIEW7 (k : Nat) : Nat := P_ROL + 0x12C + 64 * k
def ROL_L_MISSCNT (k : Nat) : Nat := P_ROL + 0x130 + 64 * k
def ROL_MSEL : Nat := P_ROL + 0x200
def ROL_MREC_SER_LO : Nat := P_ROL + 0x204
def ROL_MREC_SER_HI : Nat := P_ROL + 0x208
def ROL_MREC_FLOW : Nat := P_ROL + 0x20C

end Sys2Proof.Machine
end

