-- ==== Sys2Proof/Machine/RegMap.lean ====
section
/-! DEFINITION. The register maps of the spec as data: for every page kind its registers, with the bits each access
code of R11 covers, the power-on value (R14) and the bits that module and page reset return to it. Registers whose
fields are all RO or WO have no writable bits here; what a write to them does, if anything, is the bus's. -/

namespace Sys2Proof.Machine

/-- The page kinds of R431; `lckd` and `trmd` are the `LCK` and `TRM` pages of a dynamic engine (R124, R271). -/
inductive PageKind where
  | glb | id_ | pwr | clk | rst | thm | hk | lco | vlt | dbk | mbx | smb | seq | ldg | tly | ce | asy | plt | htr | eng | lck | trm | asg | den | mnt | vec | hbm | msq | lnk | vyv | rol | lckd | trmd
  deriving DecidableEq, Repr

/-- One row of a register map: `cnt` registers from offset `off`, `stride` bytes apart. `rw`, `w1c`, `w1s`, `rwl` are
the bits of each access code; register `k` of the row resets to `po + step * k`; `mr` and `pr` are the bits that a
module or page reset returns to that value. -/
structure RegRow where
  off : Nat
  cnt : Nat := 1
  stride : Nat := 4
  rw : Nat := 0
  w1c : Nat := 0
  w1s : Nat := 0
  rwl : Nat := 0
  po : Nat := 0
  step : Nat := 0
  mr : Nat := 0
  pr : Nat := 0
  deriving DecidableEq, Repr

/-- Registers of the `GLB` page, R450. -/
def rowsGLB : List RegRow := [
  { off := 0x040, rw := 0x37f, mr := 0xffffffff, pr := 0xffffffff },
  { off := 0x044, w1c := 0xf, mr := 0xffffffff, pr := 0xffffffff },
  { off := 0x048, mr := 0xffffffff, pr := 0xffffffff },
  { off := 0x04C, mr := 0xffffffff, pr := 0xffffffff },
  { off := 0x050 },
  { off := 0x054 },
  { off := 0x058 },
  { off := 0x05C },
  { off := 0x060 },
  { off := 0x064 },
  { off := 0x068 },
  { off := 0x06C, mr := 0xffffffff, pr := 0xffffffff },
  { off := 0x070 },
  { off := 0x100, cnt := 4, stride := 32, rw := 0xffffffff, mr := 0xffffffff, pr := 0xffffffff },
  { off := 0x104, cnt := 4, stride := 32, rw := 0xffffffff, mr := 0xffffffff, pr := 0xffffffff },
  { off := 0x108, cnt := 4, stride := 32, rw := 0xffffffff, mr := 0xffffffff, pr := 0xffffffff },
  { off := 0x10C, cnt := 4, stride := 32, rw := 0xff, mr := 0xffffffff, pr := 0xffffffff },
  { off := 0x110, cnt := 4, stride := 32, rw := 0xffffffff, mr := 0xffffffff, pr := 0xffffffff },
  { off := 0x114, cnt := 4, stride := 32 },
  { off := 0x118, cnt := 4, stride := 32, w1c := 6, mr := 0xffffffff, pr := 0xffffffff },
  { off := 0x11C, cnt := 4, stride := 32, mr := 0xffffffff, pr := 0xffffffff },
  { off := 0x800, cnt := 64, stride := 16, rw := 0xffffffff },
  { off := 0x804, cnt := 64, stride := 16, rw := 0xffffffff },
  { off := 0x808, cnt := 64, stride := 16, rw := 0xffffffff },
  { off := 0x80C, cnt := 64, stride := 16, rw := 1, po := 1 },
  { off := 0xC00, cnt := 2 }]

/-- Registers of the `ID` page, R520. -/
def rowsID : List RegRow := [
  { off := 0x040, po := 1 },
  { off := 0x044 },
  { off := 0x048, po := 0x64081fb6 },
  { off := 0x04C, po := 0x8400160 },
  { off := 0x050 },
  { off := 0x054 },
  { off := 0x058, po := 0x20 },
  { off := 0x05C, po := 0xa00 },
  { off := 0x060 },
  { off := 0x064 }]

/-- Registers of the `PWR` page, R477. -/
def rowsPWR : List RegRow := [
  { off := 0x040, po := 1 },
  { off := 0x044 },
  { off := 0x048, w1c := 0x17 },
  { off := 0x04C, w1c := 0x7ff0000 },
  { off := 0x050, po := 0x2ee02ee },
  { off := 0x054 },
  { off := 0x058 },
  { off := 0x05C },
  { off := 0x060 },
  { off := 0x064 },
  { off := 0x068 },
  { off := 0x06C }]

/-- Registers of the `CLK` page, R479. -/
def rowsCLK : List RegRow := [
  { off := 0x040 },
  { off := 0x044 },
  { off := 0x048 },
  { off := 0x04C },
  { off := 0x050 },
  { off := 0x054 },
  { off := 0x058 }]

/-- Registers of the `RST` page, R480. -/
def rowsRST : List RegRow := [
  { off := 0x040 },
  { off := 0x044, w1c := 0x7f, po := 1 },
  { off := 0x048, w1c := 0x10, mr := 0xffffffff },
  { off := 0x04C, rw := 0x8000ffff, po := 0x800003e8 },
  { off := 0x050 },
  { off := 0x054 },
  { off := 0x058 },
  { off := 0x05C }]

/-- Registers of the `THM` page, R512. -/
def rowsTHM : List RegRow := [
  { off := 0x040, w1c := 8 },
  { off := 0x044, rwl := 0xffffff, po := 0x7369645f },
  { off := 0x048, rw := 0xffff, po := 0x2080 },
  { off := 0x04C, cnt := 3, rw := 0xffffffff },
  { off := 0x058, cnt := 3 },
  { off := 0x064, mr := 0xffffffff, pr := 0xffffffff },
  { off := 0x068, mr := 0xffffffff, pr := 0xffffffff },
  { off := 0x06C },
  { off := 0x070 },
  { off := 0x080, cnt := 96 }]

/-- Registers of the `HK` page, R514. -/
def rowsHK : List RegRow := [
  { off := 0x040, rw := 7, po := 7 },
  { off := 0x044 },
  { off := 0x048, rw := 0xffff, po := 0x32 },
  { off := 0x04C, rw := 0xffff, po := 0x32 },
  { off := 0x050, rw := 0xffffffff, po := 0xffffffff },
  { off := 0x054, rw := 0x801f, po := 0x801f },
  { off := 0x058, rw := 0xffffffff, po := 0xffffffff },
  { off := 0x05C, rw := 0x8000, po := 0x8000 },
  { off := 0x060, rw := 0x7ff3f33 },
  { off := 0x064, rw := 0xffff },
  { off := 0x068, rw := 0x7ff3f33 },
  { off := 0x06C, rw := 0xffff },
  { off := 0x070 },
  { off := 0x074, w1c := 0x10000, mr := 0xffffffff, pr := 0xffffffff },
  { off := 0x078, rw := 0xfff, po := 0x308 },
  { off := 0x07C },
  { off := 0x080, mr := 0xffffffff, pr := 0xffffffff },
  { off := 0x084, mr := 0xffffffff, pr := 0xffffffff },
  { off := 0x088, mr := 0xffffffff, pr := 0xffffffff },
  { off := 0x08C, mr := 0xffffffff, pr := 0xffffffff },
  { off := 0x090 },
  { off := 0x100, cnt := 48, rw := 7 },
  { off := 0x1C0, cnt := 48, rw := 7 },
  { off := 0x280, cnt := 48 },
  { off := 0x340, cnt := 48 },
  { off := 0x400, cnt := 48, rw := 0xfff0fff, po := 0xfff0000 },
  { off := 0x4C0, cnt := 48, rw := 0xfff0fff, po := 0xfff0000 },
  { off := 0x580, w1c := 0xffffffff },
  { off := 0x584, w1c := 0xffff },
  { off := 0x588, w1c := 0xffffffff },
  { off := 0x58C, w1c := 0xffff }]

/-- Registers of the `LCO` page, R515. -/
def rowsLCO : List RegRow := [
  { off := 0x040, rw := 3 },
  { off := 0x044 },
  { off := 0x048, w1c := 0x180 },
  { off := 0x04C },
  { off := 0x050, rw := 0xf },
  { off := 0x054 },
  { off := 0x058, w1c := 4 },
  { off := 0x05C },
  { off := 0x060, mr := 0xffffffff, pr := 0xffffffff },
  { off := 0x064 },
  { off := 0x100, cnt := 16, stride := 32, rw := 0xff0f },
  { off := 0x104, cnt := 16, stride := 32, rw := 0xfff },
  { off := 0x108, cnt := 16, stride := 32, rw := 0xfff },
  { off := 0x10C, cnt := 16, stride := 32, rw := 0xffffffff },
  { off := 0x110, cnt := 16, stride := 32, rw := 0x3ff00ff },
  { off := 0x114, cnt := 16, stride := 32, rw := 0xffffffff, po := 0xa00450fe },
  { off := 0x118, cnt := 16, stride := 32, w1c := 0xc0 },
  { off := 0x11C, cnt := 16, stride := 32 }]

/-- Registers of the `VLT` page, R532. -/
def rowsVLT : List RegRow := [
  { off := 0x040 },
  { off := 0x044 },
  { off := 0x048 },
  { off := 0x04C, rw := 0xffffffff },
  { off := 0x050, rw := 0xff },
  { off := 0x054, rw := 0xffffffff },
  { off := 0x058 },
  { off := 0x05C },
  { off := 0x060 },
  { off := 0x064 },
  { off := 0x068 },
  { off := 0x06C }]

/-- Registers of the `DBK` page, R544. -/
def rowsDBK : List RegRow := [
  { off := 0x040 },
  { off := 0x044 },
  { off := 0x048 },
  { off := 0x04C, pr := 0xffffffff },
  { off := 0x050, pr := 0xffffffff },
  { off := 0x054, pr := 0xffffffff },
  { off := 0x058, pr := 0xffffffff },
  { off := 0x05C, rw := 7, po := 5 },
  { off := 0x060, cnt := 3, rw := 0xffffffff },
  { off := 0x06C },
  { off := 0x070 },
  { off := 0x080, rw := 0xffffffff },
  { off := 0x084, rw := 1 },
  { off := 0x088 },
  { off := 0x0A0, cnt := 8 }]

/-- Registers of the `MBX` page, R445. -/
def rowsMBX : List RegRow := [
  { off := 0x040 },
  { off := 0x044, rw := 0xffffffff, mr := 0xffffffff },
  { off := 0x048 },
  { off := 0x04C },
  { off := 0x050, mr := 0xffffffff },
  { off := 0x054, mr := 0xffffffff, pr := 0xffffffff },
  { off := 0x058, mr := 0xffffffff, pr := 0xffffffff },
  { off := 0x05C },
  { off := 0x100, cnt := 32, rwl := 0x1ff, mr := 0xffffffff },
  { off := 0x200, cnt := 32 },
  { off := 0x400, cnt := 32, stride := 64, rw := 0xffffffff, mr := 0xffffffff },
  { off := 0x404, cnt := 32, stride := 64, rw := 0xffffffff, mr := 0xffffffff },
  { off := 0x408, cnt := 32, stride := 64, rw := 0xffffffff, mr := 0xffffffff },
  { off := 0x40C, cnt := 32, stride := 64, rw := 0xffffffff, mr := 0xffffffff },
  { off := 0x410, cnt := 32, stride := 64, rw := 0xffffffff, mr := 0xffffffff },
  { off := 0x414, cnt := 32, stride := 64, rw := 0xffffffff, mr := 0xffffffff },
  { off := 0x418, cnt := 32, stride := 64, rw := 0xffffffff, mr := 0xffffffff },
  { off := 0x41C, cnt := 32, stride := 64, rw := 0xffffffff, mr := 0xffffffff },
  { off := 0x420, cnt := 32, stride := 64 },
  { off := 0x424, cnt := 32, stride := 64 },
  { off := 0xC00, cnt := 256 }]

/-- Registers of the `SMB` page, R449. -/
def rowsSMB : List RegRow := [
  { off := 0x040, rw := 0xf017f, po := 0x8015c },
  { off := 0x044, mr := 0xffffffff, pr := 0xffffffff },
  { off := 0x048, mr := 0xffffffff, pr := 0xffffffff },
  { off := 0x04C, mr := 0xffffffff, pr := 0xffffffff },
  { off := 0x050, mr := 0xffffffff, pr := 0xffffffff },
  { off := 0x054 }]

/-- Registers of the `SEQ` page, R310. -/
def rowsSEQ : List RegRow := [
  { off := 0x040, mr := 0xffffffff },
  { off := 0x044 },
  { off := 0x048 },
  { off := 0x04C },
  { off := 0x050, mr := 0xffffffff, pr := 0xffffffff },
  { off := 0x054, mr := 0xffffffff, pr := 0xffffffff },
  { off := 0x058, mr := 0xffffffff, pr := 0xffffffff },
  { off := 0x05C, mr := 0xffffffff, pr := 0xffffffff },
  { off := 0x060, mr := 0xffffffff, pr := 0xffffffff },
  { off := 0x064 }]

/-- Registers of the `LDG` page, R202. -/
def rowsLDG : List RegRow := [
  { off := 0x040, rw := 1, po := 1 },
  { off := 0x044 },
  { off := 0x048, rw := 0x3ff, mr := 0xffffffff, pr := 0xffffffff },
  { off := 0x04C },
  { off := 0x050, cnt := 8, rw := 0xffffffff },
  { off := 0x070, mr := 0xffffffff, pr := 0xffffffff },
  { off := 0x074, mr := 0xffffffff, pr := 0xffffffff },
  { off := 0x078, mr := 0xffffffff, pr := 0xffffffff },
  { off := 0x07C, mr := 0xffffffff, pr := 0xffffffff },
  { off := 0x080, mr := 0xffffffff, pr := 0xffffffff },
  { off := 0x084 },
  { off := 0x088 },
  { off := 0x100, cnt := 32 },
  { off := 0x180, cnt := 32 },
  { off := 0x200, cnt := 32 }]

/-- Registers of the `TLY` page, R204. -/
def rowsTLY : List RegRow := [
  { off := 0x040, w1s := 1 },
  { off := 0x044, w1c := 0x3e, pr := 0xffffffff },
  { off := 0x048, rw := 0xffffffff, po := 0x14 },
  { off := 0x04C },
  { off := 0x050, mr := 0xffffffff, pr := 0xffffffff },
  { off := 0x054, mr := 0xffffffff, pr := 0xffffffff },
  { off := 0x058, mr := 0xffffffff, pr := 0xffffffff },
  { off := 0x05C, mr := 0xffffffff, pr := 0xffffffff },
  { off := 0x060, mr := 0xffffffff, pr := 0xffffffff },
  { off := 0x064, mr := 0xffffffff, pr := 0xffffffff },
  { off := 0x068, mr := 0xffffffff, pr := 0xffffffff },
  { off := 0x06C },
  { off := 0x070, mr := 0xffffffff, pr := 0xffffffff },
  { off := 0x074 },
  { off := 0x400, cnt := 256, rw := 0xffffffff },
  { off := 0x800, cnt := 256 }]

/-- Registers of the `CE` page, R159. -/
def rowsCE : List RegRow := [
  { off := 0x040 },
  { off := 0x044 },
  { off := 0x048, w1s := 0x3ffff },
  { off := 0x04C },
  { off := 0x050, w1c := 0xfc, pr := 0xffffffff },
  { off := 0x054, pr := 0xffffffff },
  { off := 0x058, rw := 0xc0fffffc, mr := 0xffffffff, pr := 0xffffffff },
  { off := 0x05C, rw := 0xffffffff },
  { off := 0x060, mr := 0xffffffff, pr := 0xffffffff },
  { off := 0x064, w1c := 0x3ffff, mr := 0xffffffff, pr := 0xffffffff },
  { off := 0x068, mr := 0xffffffff, pr := 0xffffffff },
  { off := 0x06C, mr := 0xffffffff, pr := 0xffffffff },
  { off := 0x070, mr := 0xffffffff, pr := 0xffffffff },
  { off := 0x074 },
  { off := 0x080, cnt := 16 },
  { off := 0x100, cnt := 4, stride := 32, rw := 1, w1s := 0x70, pr := 0xffffffff },
  { off := 0x104, cnt := 4, stride := 32, w1c := 8, pr := 0xffffffff },
  { off := 0x108, cnt := 4, stride := 32, rw := 0xffffffff },
  { off := 0x10C, cnt := 4, stride := 32, rw := 0xffffffff },
  { off := 0x110, cnt := 4, stride := 32, rw := 0xfffff3f, po := 0x8000000 },
  { off := 0x114, cnt := 4, stride := 32, rw := 0xffff },
  { off := 0x118, cnt := 4, stride := 32 },
  { off := 0x11C, cnt := 4, stride := 32 }]

/-- Registers of the `ASY` page, R343. -/
def rowsASY : List RegRow := [
  { off := 0x040, rw := 0xf, po := 7 },
  { off := 0x044, rw := 0xff1f1f, po := 0x20080c },
  { off := 0x048, rw := 0xffff, po := 0x180 },
  { off := 0x04C, rw := 0xfffffff, po := 0x304081e },
  { off := 0x050, rw := 0xff, po := 0x14 },
  { off := 0x054, rw := 0xffffffff, po := 0x320005 },
  { off := 0x058, rw := 0xffffffff, po := 0x6400c8 },
  { off := 0x05C },
  { off := 0x060 },
  { off := 0x064 },
  { off := 0x068, mr := 0xffffffff, pr := 0xffffffff },
  { off := 0x06C, mr := 0xffffffff, pr := 0xffffffff },
  { off := 0x070, mr := 0xffffffff, pr := 0xffffffff },
  { off := 0x074, mr := 0xffffffff, pr := 0xffffffff },
  { off := 0x078, mr := 0xffffffff, pr := 0xffffffff },
  { off := 0x07C },
  { off := 0x080, rw := 0x81ff001f, mr := 0xffffffff, pr := 0xffffffff },
  { off := 0x084 },
  { off := 0x088 },
  { off := 0x08C },
  { off := 0x090 },
  { off := 0x094 },
  { off := 0x098, cnt := 10 },
  { off := 0x0C0, rw := 0x7ff, mr := 0xffffffff, pr := 0xffffffff },
  { off := 0x0C4 },
  { off := 0x0C8 },
  { off := 0x100, cnt := 18, stride := 8 },
  { off := 0x104, cnt := 18, stride := 8 }]

/-- Registers of the `PLT` page, R344. -/
def rowsPLT : List RegRow := [
  { off := 0x040 },
  { off := 0x044, w1s := 1 },
  { off := 0x048, w1c := 0xe },
  { off := 0x04C, mr := 0xffffffff, pr := 0xffffffff },
  { off := 0x050, mr := 0xffffffff, pr := 0xffffffff },
  { off := 0x054 },
  { off := 0x058 },
  { off := 0x400, cnt := 128, rw := 0xffffffff },
  { off := 0x600, cnt := 128 }]

/-- Registers of the `HTR` page, R129. -/
def rowsHTR : List RegRow := [
  { off := 0x040, rw := 3, po := 3 },
  { off := 0x044, rw := 0xffffffff, po := 0x7d0 },
  { off := 0x048 },
  { off := 0x04C, mr := 0xffffffff, pr := 0xffffffff },
  { off := 0x050, mr := 0xffffffff, pr := 0xffffffff },
  { off := 0x054, rw := 0xff, po := 0xa },
  { off := 0x058, rw := 0xffff87ff, mr := 0xffffffff, pr := 0xffffffff },
  { off := 0x05C },
  { off := 0x400, cnt := 516 }]

/-- Registers of the `ENG` page, R81. -/
def rowsENG : List RegRow := [
  { off := 0x040, po := 2 },
  { off := 0x044, rw := 3, po := 3 },
  { off := 0x048, rw := 0xffffffff, po := 0x7d },
  { off := 0x04C, rw := 0xffffffff, po := 0x30d4 },
  { off := 0x050 },
  { off := 0x054, rw := 0xff0003, po := 0x1500 },
  { off := 0x058, rw := 0xffffffff, po := 0x3e8 },
  { off := 0x05C, rw := 0xffffffff, po := 8 },
  { off := 0x060, rw := 0xffffffff, po := 0x3ae1 },
  { off := 0x064, rw := 0xffffffc0, mr := 0xffffffff, pr := 0xffffffff },
  { off := 0x068, rw := 0x1f, mr := 0xffffffff, pr := 0xffffffff },
  { off := 0x06C },
  { off := 0x070, w1c := 0xfe, mr := 0xffffffff, pr := 0xffffffff },
  { off := 0x074 },
  { off := 0x078 },
  { off := 0x07C },
  { off := 0x080, mr := 0xffffffff, pr := 0xffffffff },
  { off := 0x084, mr := 0xffffffff, pr := 0xffffffff },
  { off := 0x088 },
  { off := 0x08C },
  { off := 0x090 },
  { off := 0x094 },
  { off := 0x098 },
  { off := 0x09C }]

/-- Registers of the `LCK` page, R125. -/
def rowsLCK : List RegRow := [
  { off := 0x040, rw := 1, po := 1 },
  { off := 0x044 },
  { off := 0x048 },
  { off := 0x04C, rw := 0xffff, po := 0x7d0 },
  { off := 0x050, rw := 0xffffffff, po := 4 },
  { off := 0x054, rw := 0xfff0fff, po := 0xfef0010 },
  { off := 0x058, rw := 0xfffff, po := 0x84080 },
  { off := 0x05C, rw := 0xf, po := 3 },
  { off := 0x060 },
  { off := 0x064 },
  { off := 0x068, w1c := 0xffffffff },
  { off := 0x06C, w1c := 0xffffffff },
  { off := 0x070, mr := 0xffffffff, pr := 0xffffffff },
  { off := 0x074, mr := 0xffffffff, pr := 0xffffffff },
  { off := 0x800, cnt := 64, stride := 32, rw := 0xff07, po := 0x1801 },
  { off := 0x804, cnt := 64, stride := 32, rw := 0xffffffff },
  { off := 0x808, cnt := 64, stride := 32, rw := 0x3ff0fff },
  { off := 0x80C, cnt := 64, stride := 32, po := 8 },
  { off := 0x810, cnt := 64, stride := 32 },
  { off := 0x814, cnt := 64, stride := 32 },
  { off := 0x818, cnt := 64, stride := 32 },
  { off := 0x81C, cnt := 64, stride := 32, po := 0x4000 }]

/-- Registers of the `TRM` page, R88. -/
def rowsTRM : List RegRow := [
  { off := 0x040, rw := 4, w1s := 3 },
  { off := 0x044, w1c := 8 },
  { off := 0x048, rw := 0x8007ffff, mr := 0xffffffff, pr := 0xffffffff },
  { off := 0x04C, rw := 0x3ff03ff },
  { off := 0x050, mr := 0xffffffff, pr := 0xffffffff },
  { off := 0x100, cnt := 272, rw := 0xffffffff },
  { off := 0x800, cnt := 512, rw := 0xffff }]

/-- Registers of the `ASG` page, R127. -/
def rowsASG : List RegRow := [
  { off := 0x040 },
  { off := 0x044, rw := 0x7ffff, mr := 0xffffffff, pr := 0xffffffff },
  { off := 0x048, w1c := 0x78 },
  { off := 0x04C, rw := 0xc007ffff, mr := 0xffffffff, pr := 0xffffffff },
  { off := 0x050, rw := 0xffffffff },
  { off := 0x054 },
  { off := 0x058, rw := 0xffffffff, po := 0xf0 },
  { off := 0x05C, rw := 0x1ffffff, po := 0x7d3240 },
  { off := 0x060 },
  { off := 0x100, cnt := 128, rw := 0xffffffff },
  { off := 0x300, cnt := 8, rw := 0xffffffff }]

/-- Registers of the `DEN` page, R269. -/
def rowsDEN : List RegRow := [
  { off := 0x040, po := 2 },
  { off := 0x044, rw := 3, po := 3 },
  { off := 0x048, rw := 0xffffffff, po := 0x7d },
  { off := 0x04C, rw := 0xffffffff, po := 0x30d4 },
  { off := 0x050 },
  { off := 0x054, rw := 0xffff0003, po := 0x1400 },
  { off := 0x058, po := 0x7500 },
  { off := 0x05C },
  { off := 0x060 },
  { off := 0x064, w1c := 3, mr := 0xffffffff, pr := 0xffffffff },
  { off := 0x068, mr := 0xffffffff, pr := 0xffffffff },
  { off := 0x06C, mr := 0xffffffff, pr := 0xffffffff },
  { off := 0x070, mr := 0xffffffff, pr := 0xffffffff },
  { off := 0x074, mr := 0xffffffff, pr := 0xffffffff },
  { off := 0x078 },
  { off := 0x07C },
  { off := 0x080, rw := 0x800001ff, mr := 0xffffffff, pr := 0xffffffff },
  { off := 0x084, rw := 0xffff00ff },
  { off := 0x088, w1s := 1 },
  { off := 0x08C, w1c := 0xe },
  { off := 0x090 },
  { off := 0x094 },
  { off := 0x098 },
  { off := 0x09C }]

/-- Registers of the `MNT` page, R238. -/
def rowsMNT : List RegRow := [
  { off := 0x040, mr := 0xffffffff },
  { off := 0x044, w1c := 0xf, mr := 0xffffffff, pr := 0xffffffff },
  { off := 0x048 },
  { off := 0x04C, mr := 0xffffffff, pr := 0xffffffff },
  { off := 0x050, mr := 0xffffffff, pr := 0xffffffff },
  { off := 0x054 },
  { off := 0x058 },
  { off := 0x05C },
  { off := 0x060 },
  { off := 0x064 },
  { off := 0x080, cnt := 4, rw := 0xffffffff, po := 0x40 },
  { off := 0x090, cnt := 4, mr := 0xffffffff, pr := 0xffffffff },
  { off := 0x100, cnt := 16, stride := 8, rw := 0xffffffff },
  { off := 0x104, cnt := 16, stride := 8, rw := 0xffffffff, po := 0x10000 }]

/-- Registers of the `VEC` page, R312. -/
def rowsVEC : List RegRow := [
  { off := 0x040, mr := 0xffffffff },
  { off := 0x044, mr := 0xffffffff, pr := 0xffffffff },
  { off := 0x048, mr := 0xffffffff, pr := 0xffffffff },
  { off := 0x04C, mr := 0xffffffff, pr := 0xffffffff },
  { off := 0x050, mr := 0xffffffff, pr := 0xffffffff },
  { off := 0x054 },
  { off := 0x058 }]

/-- Registers of the `HBM` page, R422. -/
def rowsHBM : List RegRow := [
  { off := 0x040 },
  { off := 0x044, po := 0x60 },
  { off := 0x048, rw := 3 },
  { off := 0x04C },
  { off := 0x050 },
  { off := 0x054, w1c := 0xf, mr := 0xffffffff, pr := 0xffffffff },
  { off := 0x058, rw := 0xffffffff, po := 0xa },
  { off := 0x05C, rw := 0xffff, po := 0x400 },
  { off := 0x060 },
  { off := 0x064, mr := 0xffffffff, pr := 0xffffffff },
  { off := 0x068, mr := 0xffffffff, pr := 0xffffffff },
  { off := 0x06C, mr := 0xffffffff, pr := 0xffffffff },
  { off := 0x070 },
  { off := 0x074 },
  { off := 0x078, mr := 0xffffffff, pr := 0xffffffff },
  { off := 0x07C },
  { off := 0x080 },
  { off := 0x084 },
  { off := 0x100, cnt := 64, mr := 0xffffffff, pr := 0xffffffff }]

/-- Registers of the `MSQ` page, R311. -/
def rowsMSQ : List RegRow := [
  { off := 0x040, rw := 1, mr := 0xffffffff },
  { off := 0x044 },
  { off := 0x048 },
  { off := 0x04C, rw := 0xffffffff, po := 0x2710 },
  { off := 0x050, cnt := 8, rw := 0xffffffff, mr := 0xffffffff, pr := 0xffffffff },
  { off := 0x070 },
  { off := 0x074, mr := 0xffffffff, pr := 0xffffffff },
  { off := 0x078, mr := 0xffffffff, pr := 0xffffffff },
  { off := 0x07C, mr := 0xffffffff, pr := 0xffffffff },
  { off := 0x080, mr := 0xffffffff, pr := 0xffffffff },
  { off := 0x084, mr := 0xffffffff, pr := 0xffffffff },
  { off := 0x088 },
  { off := 0x08C },
  { off := 0x090 },
  { off := 0x100, cnt := 16 },
  { off := 0x800, cnt := 512 }]

/-- Registers of the `LNK` page, R406. -/
def rowsLNK : List RegRow := [
  { off := 0x040, rw := 3, po := 3 },
  { off := 0x044 },
  { off := 0x048, rw := 0xffff, po := 0x800 },
  { off := 0x04C },
  { off := 0x050, w1c := 0xe },
  { off := 0x054, mr := 0xffffffff, pr := 0xffffffff },
  { off := 0x058, mr := 0xffffffff, pr := 0xffffffff },
  { off := 0x05C },
  { off := 0x100, cnt := 32, stride := 64, rw := 0xfff7001f },
  { off := 0x104, cnt := 32, stride := 64 },
  { off := 0x108, cnt := 32, stride := 64 },
  { off := 0x10C, cnt := 32, stride := 64, mr := 0xffffffff, pr := 0xffffffff },
  { off := 0x110, cnt := 32, stride := 64, mr := 0xffffffff, pr := 0xffffffff },
  { off := 0x114, cnt := 32, stride := 64, mr := 0xffffffff, pr := 0xffffffff },
  { off := 0x118, cnt := 32, stride := 64, rw := 0xffffffff },
  { off := 0x120, cnt := 32, stride := 64, rw := 0xffffffff },
  { off := 0x124, cnt := 32, stride := 64, rw := 0xffffffff },
  { off := 0x128, cnt := 32, stride := 64, rw := 0xffffffff },
  { off := 0x12C, cnt := 32, stride := 64, rw := 0xffffffff },
  { off := 0x900, cnt := 32, stride := 16 },
  { off := 0x904, cnt := 32, stride := 16, step := 1 },
  { off := 0x908, cnt := 32, stride := 16, mr := 0xffffffff, pr := 0xffffffff },
  { off := 0x90C, cnt := 32, stride := 16, mr := 0xffffffff, pr := 0xffffffff },
  { off := 0xB00, cnt := 40 }]

/-- Registers of the `VYV` page, R408. -/
def rowsVYV : List RegRow := [
  { off := 0x040, rw := 0x3f03, po := 3 },
  { off := 0x044, rw := 0xffff, po := 0xbab9 },
  { off := 0x048, rw := 0xffffffc0 },
  { off := 0x04C, rw := 0x1f },
  { off := 0x050, rw := 0x7ff },
  { off := 0x054, rw := 0xffffffff, po := 0x3c0100 },
  { off := 0x058, rw := 0xfff, mr := 0xffffffff, pr := 0xffffffff },
  { off := 0x05C },
  { off := 0x060, w1c := 6 },
  { off := 0x064, rw := 0xfffff, po := 0x60014 },
  { off := 0x068, rw := 0xff, po := 0xa },
  { off := 0x06C, mr := 0xffffffff, pr := 0xffffffff },
  { off := 0x070, mr := 0xffffffff, pr := 0xffffffff },
  { off := 0x074, mr := 0xffffffff, pr := 0xffffffff },
  { off := 0x078, mr := 0xffffffff, pr := 0xffffffff },
  { off := 0x07C, mr := 0xffffffff, pr := 0xffffffff },
  { off := 0x080, mr := 0xffffffff, pr := 0xffffffff },
  { off := 0x084, mr := 0xffffffff, pr := 0xffffffff },
  { off := 0x088, mr := 0xffffffff, pr := 0xffffffff },
  { off := 0x08C, mr := 0xffffffff, pr := 0xffffffff },
  { off := 0x090, mr := 0xffffffff, pr := 0xffffffff },
  { off := 0x094, rwl := 0xffffffff },
  { off := 0x098, rwl := 0xffffffff },
  { off := 0x09C },
  { off := 0x100, cnt := 16, rw := 0xffffffff }]

/-- Registers of the `ROL` page, R409. -/
def rowsROL : List RegRow := [
  { off := 0x040, rw := 3, po := 2 },
  { off := 0x044 },
  { off := 0x048, rw := 0xffffffff },
  { off := 0x04C, rw := 0xffffffff },
  { off := 0x050, rw := 0xfff, po := 0x30a },
  { off := 0x054 },
  { off := 0x058, mr := 0xffffffff, pr := 0xffffffff },
  { off := 0x05C, mr := 0xffffffff, pr := 0xffffffff },
  { off := 0x060, mr := 0xffffffff, pr := 0xffffffff },
  { off := 0x064 },
  { off := 0x100, cnt := 4, stride := 64, rw := 0xffffffff },
  { off := 0x104, cnt := 4, stride := 64, rw := 0xff01ff },
  { off := 0x108, cnt := 4, stride := 64 },
  { off := 0x10C, cnt := 4, stride := 64 },
  { off := 0x110, cnt := 4, stride := 64 },
  { off := 0x114, cnt := 4, stride := 64 },
  { off := 0x118, cnt := 4, stride := 64 },
  { off := 0x11C, cnt := 4, stride := 64 },
  { off := 0x120, cnt := 4, stride := 64 },
  { off := 0x124, cnt := 4, stride := 64 },
  { off := 0x128, cnt := 4, stride := 64 },
  { off := 0x12C, cnt := 4, stride := 64 },
  { off := 0x130, cnt := 4, stride := 64, mr := 0xffffffff, pr := 0xffffffff },
  { off := 0x200, rw := 0x3ff, mr := 0xffffffff, pr := 0xffffffff },
  { off := 0x204, rw := 0xffffffff },
  { off := 0x208, rw := 0xffffffff },
  { off := 0x20C, rw := 0xfff }]

/-- Registers of the `LCKD` page, R125, R124. -/
def rowsLCKD : List RegRow := [
  { off := 0x040, rw := 1, po := 1 },
  { off := 0x044 },
  { off := 0x048 },
  { off := 0x04C, rw := 0xffff, po := 0x7d0 },
  { off := 0x050, rw := 0xffffffff, po := 4 },
  { off := 0x054, rw := 0xfff0fff, po := 0xfef0010 },
  { off := 0x058, rw := 0xfffff, po := 0x84080 },
  { off := 0x05C, rw := 0xf, po := 3 },
  { off := 0x060 },
  { off := 0x064 },
  { off := 0x068, w1c := 0xffffffff },
  { off := 0x06C, w1c := 0xffffffff },
  { off := 0x070, mr := 0xffffffff, pr := 0xffffffff },
  { off := 0x074, mr := 0xffffffff, pr := 0xffffffff },
  { off := 0x800, cnt := 4, stride := 32, rw := 0xff07, po := 0x1801 },
  { off := 0x804, cnt := 4, stride := 32, rw := 0xffffffff },
  { off := 0x808, cnt := 4, stride := 32, rw := 0x3ff0fff },
  { off := 0x80C, cnt := 4, stride := 32, po := 8 },
  { off := 0x810, cnt := 4, stride := 32 },
  { off := 0x814, cnt := 4, stride := 32 },
  { off := 0x818, cnt := 4, stride := 32 },
  { off := 0x81C, cnt := 4, stride := 32, po := 0x4000 }]

/-- Registers of the `TRMD` page, R271. -/
def rowsTRMD : List RegRow := [
  { off := 0x040, rw := 4, w1s := 3 },
  { off := 0x044, w1c := 8 },
  { off := 0x048, rw := 0x80003fff, mr := 0xffffffff, pr := 0xffffffff },
  { off := 0x04C, rw := 0xff3f },
  { off := 0x050, mr := 0xffffffff, pr := 0xffffffff },
  { off := 0x100, cnt := 68, rw := 0xffffffff },
  { off := 0x800, cnt := 64, rw := 0xffff }]

/-- The register rows of a page kind. -/
def PageKind.rows : PageKind → List RegRow
  | .glb => rowsGLB
  | .id_ => rowsID
  | .pwr => rowsPWR
  | .clk => rowsCLK
  | .rst => rowsRST
  | .thm => rowsTHM
  | .hk => rowsHK
  | .lco => rowsLCO
  | .vlt => rowsVLT
  | .dbk => rowsDBK
  | .mbx => rowsMBX
  | .smb => rowsSMB
  | .seq => rowsSEQ
  | .ldg => rowsLDG
  | .tly => rowsTLY
  | .ce => rowsCE
  | .asy => rowsASY
  | .plt => rowsPLT
  | .htr => rowsHTR
  | .eng => rowsENG
  | .lck => rowsLCK
  | .trm => rowsTRM
  | .asg => rowsASG
  | .den => rowsDEN
  | .mnt => rowsMNT
  | .vec => rowsVEC
  | .hbm => rowsHBM
  | .msq => rowsMSQ
  | .lnk => rowsLNK
  | .vyv => rowsVYV
  | .rol => rowsROL
  | .lckd => rowsLCKD
  | .trmd => rowsTRMD

/-- The `PG_ISTAT` bits a page kind defines (the list after each page's register map). -/
def PageKind.istat : PageKind → Nat
  | .glb => 0x3f
  | .id_ => 0x0
  | .pwr => 0x7f
  | .clk => 0xf
  | .rst => 0x7
  | .thm => 0x7
  | .hk => 0x1f
  | .lco => 0x1f
  | .vlt => 0x3
  | .dbk => 0x7
  | .mbx => 0x7
  | .smb => 0x3
  | .seq => 0x3
  | .ldg => 0x1f
  | .tly => 0xf
  | .ce => 0xff
  | .asy => 0x3f
  | .plt => 0xf
  | .htr => 0x1
  | .eng => 0x3f
  | .lck => 0x1f
  | .trm => 0x0
  | .asg => 0x7
  | .den => 0xf
  | .mnt => 0xf
  | .vec => 0x3
  | .hbm => 0xf
  | .msq => 0x3f
  | .lnk => 0x1f
  | .vyv => 0x1f
  | .rol => 0x1f
  | .lckd => 0x1f
  | .trmd => 0x0

/-- `PG_ID.TYPE`, R436. -/
def PageKind.code : PageKind → Nat
  | .glb => 0x1
  | .id_ => 0x2
  | .pwr => 0x3
  | .clk => 0x4
  | .rst => 0x5
  | .thm => 0x6
  | .hk => 0x7
  | .lco => 0x8
  | .vlt => 0x9
  | .dbk => 0xa
  | .mbx => 0xb
  | .smb => 0xc
  | .seq => 0x10
  | .ldg => 0x11
  | .tly => 0x12
  | .ce => 0x13
  | .asy => 0x14
  | .plt => 0x15
  | .htr => 0x16
  | .eng => 0x20
  | .lck => 0x21
  | .trm => 0x22
  | .asg => 0x23
  | .den => 0x24
  | .mnt => 0x30
  | .vec => 0x31
  | .hbm => 0x32
  | .msq => 0x33
  | .lnk => 0x40
  | .vyv => 0x41
  | .rol => 0x42
  | .lckd => 0x21
  | .trmd => 0x22

/-- The page that a BAR0 offset falls in, with its instance (stack or engine index); none when unmapped (R431). -/
def pageAt (off : Nat) : Option (PageKind × Nat) :=
  let p := off / 0x1000
  if p < 0x100 then
    match p with
    | 0 => some (.glb, 0)
    | 1 => some (.id_, 0)
    | 2 => some (.pwr, 0)
    | 3 => some (.clk, 0)
    | 4 => some (.rst, 0)
    | 5 => some (.thm, 0)
    | 6 => some (.hk, 0)
    | 7 => some (.lco, 0)
    | 8 => some (.vlt, 0)
    | 9 => some (.dbk, 0)
    | 10 => some (.mbx, 0)
    | 11 => some (.smb, 0)
    | _ => none
  else if p < 0x500 then
    let s := (p - 0x100) / 0x100
    match (p - 0x100) % 0x100 with
    | 0 => some (.seq, s)
    | 1 => some (.ldg, s)
    | 2 => some (.tly, s)
    | 3 => some (.ce, s)
    | 4 => some (.asy, s)
    | 5 => some (.plt, s)
    | 6 => some (.htr, s)
    | _ => none
  else if p < 0x600 then
    let e := (p - 0x500) / 4
    match (p - 0x500) % 4 with
    | 0 => some (.eng, e) | 1 => some (.lck, e) | 2 => some (.trm, e) | _ => some (.asg, e)
  else if p < 0x620 then
    let e := 64 + (p - 0x600) / 4
    match (p - 0x600) % 4 with
    | 0 => some (.den, e) | 1 => some (.lckd, e) | 2 => some (.trmd, e) | _ => some (.asg, e)
  else if p = 0x700 then some (.mnt, 0) else if p = 0x701 then some (.vec, 0)
  else if p = 0x702 then some (.hbm, 0) else if p = 0x703 then some (.msq, 0)
  else if p = 0x800 then some (.lnk, 0) else if p = 0x900 then some (.vyv, 0)
  else if p = 0xA00 then some (.rol, 0) else none

/-- `PG_ID` of a page: TYPE, INST and DYN (R435). -/
def pageId (k : PageKind) (i : Nat) : Nat :=
  if i < 64 then k.code + i * 0x100 else k.code + (i - 64) * 0x100 + 0x8000

/-- The rows of the common page header, R434 and R435, with the interrupt bits of the page kind. -/
def headerRows (k : PageKind) (i : Nat) : List RegRow := [
  { off := 0x00, po := pageId k i },
  { off := 0x04, po := 0x10000 },
  { off := 0x08, rw := 1, po := 1, mr := 0xffffffff },
  { off := 0x0C },
  { off := 0x10, w1c := k.istat, mr := 0xffffffff, pr := 0xffffffff },
  { off := 0x14, rw := k.istat, po := k.istat, mr := 0xffffffff },
  { off := 0x18 },
  { off := 0x1C, w1s := 1, mr := 0xffffffff },
  { off := 0x20, mr := 0xffffffff, pr := 0xffffffff },
  { off := 0x24, mr := 0xffffffff, pr := 0xffffffff }]

/-- Does register offset `o` of a page belong to row `r`? -/
def RegRow.has (r : RegRow) (o : Nat) : Bool :=
  r.off ≤ o && (o - r.off) % r.stride == 0 && (o - r.off) / r.stride < r.cnt

/-- The power-on value of the register of row `r` at page offset `o`. -/
def RegRow.value (r : RegRow) (o : Nat) : Nat := r.po + r.step * ((o - r.off) / r.stride)

/-- The row that describes the register at page offset `o`, if the map has one there. -/
def rowIn (k : PageKind) (i o : Nat) : Option RegRow :=
  if o < 0x40 then (headerRows k i).find? (·.has o) else k.rows.find? (·.has o)

/-- The row that describes the register at BAR0 offset `off`. -/
def rowAt (off : Nat) : Option RegRow :=
  match pageAt off with
  | some (k, i) => rowIn k i (off % 0x1000)
  | none => none

/-- The default dither increment of region `q` of an engine, R109 and R124: the frequency is `f` half-kilohertz. -/
def ditherInc (dyn : Bool) (q : Nat) : Nat :=
  let f := if dyn then 8125 + 4000 * q else 8000 + 250 * q
  (f * 2 ^ 32 + 250000) / 500000

/-- Entry `i` of the production tuning curve as a 16-bit pattern. The spec gives the conditions of R339 and no value:
DESIGN CHOICE (assumption 25), three straight parts that meet them and reach ±15,104 over the positions of R62. -/
def curveEntry (i : Nat) : Nat :=
  if i ≤ 20 then 49152 + 64 * i
  else if i ≤ 212 then (50432 + (30208 * (i - 20) + 96) / 192) % 65536
  else 15104 + 29 * (i - 212)

/-- The power-on value of the register at page offset `o` of a page of kind `k`: its row's, the default dither plan, or
the tuning curve. -/
def rowValue (k : PageKind) (r : RegRow) (o : Nat) : Nat :=
  if 0x800 ≤ o ∧ o % 32 = 4 ∧ (k = .lck ∨ k = .lckd) then ditherInc (k = .lckd) ((o - 0x804) / 32)
  else if k = .plt ∧ 0x400 ≤ o ∧ o < 0x800 then
    curveEntry (o % 0x200 / 2) + curveEntry (o % 0x200 / 2 + 1) * 65536
  else r.value o

/-- What the register at BAR0 offset `off` holds after power-on (R14); a reserved register reads 0 (R10). -/
def regDefault (off : Nat) : BitVec 32 :=
  match pageAt off with
  | some (k, i) => match rowIn k i (off % 0x1000) with
    | some r => BitVec.ofNat 32 (rowValue k r (off % 0x1000))
    | none => 0
  | none => 0

end Sys2Proof.Machine
end

