-- ==== Sys2Proof/Machine/Sparse.lean ====
section
/-! DEFINITION. Sparse memories as plain data: a list of (key, value) pairs in one canonical form, keys strictly
rising and no entry equal to what an unlisted key reads as. What an unlisted key reads as is the argument `d` of
every operation. -/

namespace Sys2Proof.Machine

/-- A sparse memory. -/
abbrev SMap (α : Type) := List (Nat × α)

/-- The entry listed at key `k`, if there is one. -/
def SMap.find {α : Type} : SMap α → Nat → Option α
  | [], _ => none
  | (j, v) :: m, k => if k = j then some v else SMap.find m k

/-- What the memory holds at key `k`, where unlisted keys read as `d` says. -/
def SMap.get {α : Type} (d : Nat → α) (m : SMap α) (k : Nat) : α := (m.find k).getD (d k)

/-- The memory without an entry at key `k`. -/
def SMap.drop {α : Type} : SMap α → Nat → SMap α
  | [], _ => []
  | (j, v) :: m, k => if k = j then SMap.drop m k else (j, v) :: SMap.drop m k

/-- The memory with the entry `v` at key `k`. -/
def SMap.put {α : Type} : SMap α → Nat → α → SMap α
  | [], k, v => [(k, v)]
  | (j, w) :: m, k, v =>
    if k < j then (k, v) :: (j, w) :: m else if k = j then (k, v) :: m else (j, w) :: SMap.put m k v

/-- Writing value `v` at key `k`: the value an unlisted key reads as removes the entry. -/
def SMap.set {α : Type} [DecidableEq α] (d : Nat → α) (m : SMap α) (k : Nat) (v : α) : SMap α :=
  if v = d k then m.drop k else m.put k v

/-- The value at key `k` changed by `f`. -/
def SMap.upd {α : Type} [DecidableEq α] (d : Nat → α) (m : SMap α) (k : Nat) (f : α → α) : SMap α :=
  m.set d k (f (m.get d k))

/-- The canonical form: keys strictly rising, no entry equal to what an unlisted key reads as. -/
def SMap.wf {α : Type} [DecidableEq α] (d : Nat → α) : SMap α → Bool
  | [] => true
  | (k, v) :: m => decide (v ≠ d k) && (m.all fun e => decide (k < e.1)) && SMap.wf d m

/-- Every listed entry changed by `f`, entries that then equal the unlisted value dropped. -/
def SMap.mapVals {α : Type} [DecidableEq α] (d : Nat → α) (f : Nat → α → α) : SMap α → SMap α
  | [] => []
  | (k, v) :: m =>
    if f k v = d k then SMap.mapVals d f m else (k, f k v) :: SMap.mapVals d f m

/-- The entries whose key satisfies `p`. -/
def SMap.keep {α : Type} (p : Nat → Bool) (m : SMap α) : SMap α := m.filter fun e => p e.1

/-- Values written at consecutive keys from `k`. -/
def SMap.setMany {α : Type} [DecidableEq α] (d : Nat → α) (m : SMap α) (k : Nat) : List α → SMap α
  | [] => m
  | v :: vs => SMap.setMany d (m.set d k v) (k + 1) vs

/-- The `n` values at consecutive keys from `k`. -/
def SMap.getMany {α : Type} (d : Nat → α) (m : SMap α) (k n : Nat) : List α :=
  (List.range n).map fun i => m.get d (k + i)

/-- The memory that holds the listed values at consecutive keys from `k` and nothing else. -/
def SMap.ofVals {α : Type} [DecidableEq α] (d : Nat → α) : Nat → List α → SMap α
  | _, [] => []
  | k, v :: vs => if v = d k then SMap.ofVals d (k + 1) vs else (k, v) :: SMap.ofVals d (k + 1) vs

end Sys2Proof.Machine
end

