-- ==== Sys2Proof/Machine/State.lean ====
section
/-! DEFINITION. The state of the module as plain data, the reasons a command can stop, and the state after power-on
reset. Every register of the register maps lives in `Block.regs` under its BAR0 offset; what the spec gives the
machine beside its registers (memories, plates, maps, tiles, queues, timers, outputs) is in the typed fields. -/

namespace Sys2Proof.Machine

/-- Why a command stops with a fault.
`operandShape`: raised by PASS, DSCORE and DVALUE when the list of ADC codes given as an operand has not one code
per row and symbol, which no command a sender can form has (`Instr.wellFormed` refuses it). Safe. -/
inductive Fault where
  | operandShape
  deriving DecidableEq, Repr

/-- Why a command is refused.
`notModelled`: the command has no meaning in the model yet; raised by its arm in `Dispatch.lean` alone. Safe. -/
inductive Refusal where
  | notModelled (mnemonic : String)
  deriving DecidableEq, Repr

/-- The encapsulation of a Vyivim datagram (R378): port, next-hop MAC, 802.1Q tag as (PCP, VID), IPv6 or IPv4 and the
destination address, DSCP, whether the ECN bits are ECT(0), UDP ports, and the message. -/
structure Dgram where
  port : Nat
  mac : BitVec 48
  tag : Option (Nat × Nat)
  v6 : Bool
  ip : List Word
  dscp : Nat
  ect : Bool
  sport : Nat
  dport : Nat
  msg : Msg
  deriving DecidableEq, Repr

/-- What the module sends to the world outside it. -/
inductive Output where
  /-- An MSI-X message of PF0 (R429). -/
  | msix (vector : Nat) (addr data : Nat)
  /-- A read completion or register-read response with its words (R424, R425, R440). -/
  | data (m : Master) (words : List Word)
  /-- A completion of a PF0 BAR2 read: its bytes, and whether it is poisoned (R419). -/
  | bar2 (bytes : List Byte) (poisoned : Bool)
  /-- The Unsupported Request that a BAR access of a function in D3hot receives (R427). -/
  | unsupported (m : Master)
  /-- The error response of R440 or R420 to a requester. -/
  | errResp (m : Master) (write : Bool)
  /-- An SMBus reply: acknowledged or not, and the bytes returned (R448). -/
  | smbus (ack : Bool) (bytes : List Byte)
  /-- Host memory written by a DMA channel (R430). -/
  | hostMem (addr : Nat) (bytes : List Byte) (poisoned : Bool)
  /-- A Vyivim message handed to a port with its encapsulation. -/
  | vyv (d : Dgram)
  /-- The HELLO that a port sends on its link: port and payload (R373). -/
  | hello (port : Nat) (payload : List Byte)
  /-- A reply to an ARP request, neighbour solicitation or echo request on a port (R368). -/
  | ethReply (port : Nat) (kind : Nat)
  /-- Heater pulses of one PWM period: heater index, start tick and width in ticks (R114). -/
  | pulses (stack : Nat) (ps : List (Nat × Nat × Nat))
  deriving DecidableEq, Repr

/-! ## Daybook (R534 to R543) -/

/-- An event that a command raises, before it is entered in the Daybook: code, instance of its rate limit, data items
as (bytes, value), the frame ID where its notes name one, and the severity where the code's table does not give it
(host entries, R542). -/
structure Ev where
  code : Nat
  inst : Nat := 0
  data : List (Nat × Nat) := []
  frame : Option Word := none
  sev : Option Nat := none
  deriving DecidableEq, Repr

/-- One Daybook entry (R534). -/
structure LogEnt where
  seq : BitVec 32
  code : BitVec 16
  sev : Nat
  flush : Bool
  gen : Nat
  inst : Nat
  time : BitVec 48
  supp : Nat
  frame : Word
  data : List Byte
  deriving DecidableEq, Repr

/-- One token bucket (R536): tokens held, the time of the last token, suppressed count, data of the last suppressed
occurrence, its frame, and items of the first one. -/
structure Bucket where
  tokens : Nat
  stamp : BitVec 64
  supp : Nat
  last : List Byte
  first : List (Nat × Nat)
  lastFrame : Word
  deriving DecidableEq, Repr

/-- The Daybook: entries held, oldest first; the `SEQ` the next entry takes; the rate buckets, keyed
code × 256 + instance. -/
structure Daybook where
  ents : List LogEnt
  next : BitVec 32
  bks : List (Nat × Bucket)
  deriving DecidableEq, Repr

/-- One master's private copy of the Daybook's read registers (R539). -/
structure DbkRead where
  rsel : Word
  rctl : Word
  found : Bool
  gap : Bool
  skip : Nat
  rent : List Word
  hdata : List Word
  deriving DecidableEq, Repr

def DbkRead.reset : DbkRead := ⟨0, 0, false, false, 0, [], [0, 0, 0]⟩

/-! ## Engines (R29, R47, R61 to R90, R101 to R104, R243 to R257) -/

/-- Where an engine is among the power states of R29: descents and wakes under way are states of their own (R31). -/
inductive PState where
  | run | doze | nap
  /-- Run to Doze, in its 10 ns entry. -/
  | toDoze
  /-- Doze to Nap, in its 1 µs entry. -/
  | toNap
  /-- Nap to Doze, the PLL starting; the flag says whether the wake goes on to Run. -/
  | pllStart (toRun : Bool)
  /-- A descent to Nap that a Doze hint has reversed (R31): its PLL has not stopped. -/
  | redoze
  /-- Doze to Run. -/
  | waking
  deriving DecidableEq, Repr

/-- A park table entry (R87). -/
structure Park where
  row : Nat
  group : Nat
  input : Nat
  wpark : Int
  deriving DecidableEq, Repr

/-- An assignment map with its line and spare tables, parked inputs (512 r + 64 g + j) and disabled sections (8 r + g)
(R49, R50, R97, R101, R127). -/
structure Asg where
  map : SMap Word := []
  line : SMap Nat := []
  spare : SMap Nat := []
  park : List Nat := []
  off : List Nat := []
  deriving DecidableEq, Repr

/-- A ring-trim write that waits (R73): ring, raw trims, and whether a calibration queued it (R334). -/
structure TrimW where
  ring : Nat
  v : Nat
  cal : Bool
  deriving DecidableEq, Repr

/-- One plate half with everything that belongs to it (R53, R70): twelve-bit ring words by physical ring index, section
scales as loaded by 8 r + g, codebook entries (raw 16 bits) and positions by code, row sums and park table. `curve` says
that it was built with the stack's pending tuning curve (R339). -/
structure Half where
  w4 : Bool
  gang : Nat
  tag : Word
  plate : SMap Nat
  scales : SMap Nat
  cb : SMap Nat
  pos : SMap Nat
  wsum : SMap Int
  park : List Park
  curve : Bool
  /-- The disabled sections (R50), as 8 r + g. -/
  off : List Nat
  /-- By 8 r + g the sum of the squared codebook values of the inputs whose rings have been given up, formed when they were
  (R359), and `LOST`, `LROW` and `DIS` of the half (R356). -/
  gone : SMap Nat
  lostQ : Nat × Nat × Bool
  deriving DecidableEq, Repr

def Half.empty : Half :=
  { w4 := false, gang := 0, tag := 0, plate := [], scales := [], cb := [], pos := [], wsum := [], park := [],
    curve := false, off := [], gone := [], lostQ := (0, 0, false) }

/-- A build or rebuild accepted by the plate builder (R64, R73): whether it is a rebuild, the load block's address for a
START, whether it waits in the queue, whether it serves a calibration, how many queued ring trims it applies and which
ring trims of the calibration beside the queue, the map it encodes with, and the half it is building once the builder has
checked the request. -/
structure Build where
  rebuild : Bool
  addr : Nat
  waiting : Bool
  cal : Bool
  ntrim : Nat
  more : List (Nat × Nat)
  asg : Asg
  half : Half
  delta : Nat
  deriving DecidableEq, Repr

/-- One symbol delivered to an engine by an activation bus: the bus, the 512 drive codes, whether the symbol is offset
encoded (A7, or the first of an A13 pair), and the flags it carries (CLIP, TAINTED; R217, R219). -/
structure Sym where
  bus : Nat
  drive : List Nat
  offset : Bool
  flags : Nat
  deriving DecidableEq, Repr

/-- A resident pass in its engine's queue (R281, R286): descriptor index, contribution it belongs to, bus, the row ADC
codes of each symbol as the analogue chain delivers them, the symbols taken so far, the first half of an A13 column,
and when it was issued if it found its engine outside Run (R32), whether it has started, whether alignment holds it
(R179), and whether it had to wait for Run. -/
structure PassQ where
  idx : Nat
  con : Nat
  bus : Nat
  a13 : Bool
  nsym : Nat
  adc : List (List (BitVec 8))
  done : Nat
  hi : List Int
  waits : Option (BitVec 64)
  started : Bool
  stalled : Bool
  late : Bool
  deriving DecidableEq, Repr

/-- A search in progress on an engine (R93 to R105): scope, target row and group, whether it waits for its correlator
bank, the groups still to be swept, the group being swept, the groups swept, the peaks found, the groups that were refused
or aborted, whether it belongs to a start-up (R100), and the start time. -/
structure Search where
  scope : Nat
  row : Nat
  group : Nat
  waiting : Bool
  todo : List Nat
  sweeping : Option Nat
  swept : List Nat
  peaks : List Peak
  bad : List Nat
  startup : Bool
  start : BitVec 64
  /-- `STEP`, `DWELL` and `BOFS` of `ASG_SWEEP` as they stood at the START (R93), and the rings that the pending map then
  marked failed (R96). -/
  step : Nat
  dwell : Nat
  bofs : Nat
  failed : List Nat
  deriving DecidableEq, Repr

/-- What the lock block and the control engine hold for one region beside its registers (R106 to R122, R137 to R147):
wide attempts since last Locked, excluded peaks as bias values in Q1.15, a marginal Verify, consecutive railed and clear
samples, the last 64 errors, up to 1,024 detector means with the chip of the pilot code under which each was taken, the
bias before Coast, the samples of a Re-search sweep; the dither phase and the STEADY time at which it stood there (R109);
the loop part, the section states (none listed reads as cleared), the move still to be added and its sentinel word, the
search bias in units of 2 mV while swept, the samples since a sweep ended, the measurements and section outputs of the
last sample, the terms last applied, the overrun and clamp counts and the same without saturation, whether calibration
holds the region and the step in word equivalents that it adds to the region's bias (R326), the duty its loop asks for and
the carry of its heater, the temperature of its last calibration, since when it is due and the scope asked for, the same of
requests made while a calibration of it runs, whether it is in backoff, when its last calibration came into force, and the
calibrations accepted and abandoned. -/
structure Region where
  wide : Nat := 0
  excl : List Int := []
  again : Bool := false
  rail : Nat := 0
  clear : Nat := 0
  errs : List Int := []
  means : List (Nat × Nat) := []
  pre : Int := 0
  swept : Nat := 0
  ph : BitVec 32 := 0
  phAt : BitVec 64 := 0
  uB : Int := 0
  uH : Int := 0
  s : List (Int × Int) := []
  move : Int := 0
  sword : Option Nat := none
  bofs : Nat := 0
  back : Option Nat := none
  e : Int := 0
  es : Int := 0
  mean : Nat := 0
  outs : List Int := []
  sB : Int := 0
  sD : Int := 0
  b : Int := 0
  d : Int := 0
  ovr : Nat := 0
  clamps : Nat := 0
  ovrs : Nat := 0
  clampN : Nat := 0
  lastOvr : Bool := false
  lastClamp : Bool := false
  held : Bool := false
  step : Int := 0
  duty : Nat := 0
  carry : Nat := 0
  tlast : Option Int := none
  due : Option (BitVec 64 × Nat) := none
  dueNew : Option (BitVec 64 × Nat) := none
  backoff : Bool := false
  calAt : Option (BitVec 64) := none
  acc : Nat := 0
  aban : Nat := 0
  deriving DecidableEq, Repr

/-- A live sample on its way through the Assay unit (R315 to R318): row, measured value and drive codes of the symbol,
whether they are offset encoded, whether the ADC code was saturated, the `SHIFT` of the symbol, and, of a dynamic row,
its exact value. -/
structure Sample where
  row : Nat
  m : Int
  drive : List Nat
  offset : Bool
  sat : Bool
  shift : Nat
  exact : Option Int
  deriving DecidableEq, Repr

/-- The six sums of a window (R319), the samples saturated in it, and whether a sum saturated. -/
structure Sums where
  n : Nat := 0
  sx : Int := 0
  se : Int := 0
  sxx : Int := 0
  see : Int := 0
  smx : Int := 0
  nsat : Nat := 0
  full : Bool := false
  deriving DecidableEq, Repr

/-- What the Assay unit has published of a row (R319, R329, R343, R353): samples and sum of squared errors of the latest
window, the words of `ASY_R_LIVE`, `ASY_R_FIT` and `ASY_R_CAL`, the bits `ROWLIM` and `SUMSAT`, the trim residual, and
whether the window was published since the model, and since the last accepted calibration, came into force. -/
structure RowPub where
  n : Nat := 0
  see : Nat := 0
  live : Word := 0
  fit : Word := 0
  cal : Word := 0
  rowlim : Bool := false
  sumsat : Bool := false
  t2 : Fr := ⟨0, 1⟩
  sinceModel : Bool := false
  sinceCal : Bool := false
  deriving DecidableEq, Repr

/-- A row of a dynamic engine as latched or as filled (R251): the value and the weight of each input's ring, the row
sum, the park terms (input and far-off weight), and the kind of the fill (R255: false query, true value). -/
structure DRow where
  v : List Int := []
  w : List Int := []
  wsum : Int := 0
  park : List (Nat × Int) := []
  value : Bool := false
  deriving DecidableEq, Repr

/-- What a dynamic descriptor asks of its engine (R265). -/
inductive DOp where
  | fill | score | value
  deriving DecidableEq, Repr

/-- A fill or pass in the queue of a dynamic engine (R281): descriptor index and words, the ECC observed as it reads, the
row ADC codes of each symbol, the first of its contributions, and when it was issued if its engine was outside Run
(R32). `late` stays set once it had to wait. -/
structure DJob where
  idx : Nat
  op : DOp
  d : Desc
  ecc : Ecc
  adc : List (List (BitVec 8))
  con : Nat
  waits : Option (BitVec 64)
  late : Bool
  deriving DecidableEq, Repr

/-- What a dynamic engine holds beside its registers (R242 to R256): ring tables in force and pending (raw entries), rows
written to the shadow since the last latch, rows as their DACs hold them, the kind of the last fill issued for each row
in the frame (1 query, 2 value), and fills and passes waiting. -/
structure Dyn where
  tblF : SMap Word := []
  tblP : SMap Word := []
  shadow : SMap DRow := []
  rows : SMap DRow := []
  plan : SMap Nat := []
  jobs : List DJob := []
  deriving DecidableEq, Repr

/-- One engine, resident (0 to 63) or dynamic (64 to 71), beside its registers. -/
structure Eng where
  ps : PState
  /-- Wakes begun (R156). -/
  woke : Nat
  /-- Ticks of a Run hint's HOLD still owed (R285), and whether one is running. -/
  hold : Nat
  /-- Is a calibration keeping the engine in Run (R324)? -/
  calRun : Bool
  fg : Half
  bg : Half
  build : Option Build
  /-- Largest word change of the completed build (R72), and whether the next swap is the first since Stow. -/
  delta : Nat
  firstLoad : Bool
  /-- Pending codebook and section scales of the engine image (R71, R86). -/
  cbP : SMap Nat
  scaleP : SMap Nat
  /-- Set from a START's swap until the first accepted calibration (R322). -/
  uncal : Bool
  /-- Calibrated far-off weights of parked inputs, by 512 r + 64 g + j (R97, R330, R340). -/
  wparks : SMap Int
  /-- The completed build that waits for its swap, rows not rewritten since the last swap (R72), the row the scan writes
  next. -/
  built : Option Build
  oldRows : List Nat
  scanNext : Nat
  /-- Trims in force by physical ring index: bits [9:0] gain, [25:16] offset (R88). -/
  trims : SMap Nat
  trimQ : List TrimW
  /-- Pending modulator trim words (R89). -/
  modP : SMap Word
  /-- Assignment map in force and pending (R101), and the line and spare tables of both (R127). -/
  mapF : SMap Word
  mapP : SMap Word
  lineF : SMap Nat
  lineP : SMap Nat
  spareF : SMap Nat
  spareP : SMap Nat
  /-- Parked inputs (512 r + 64 g + j) and disabled sections (8 r + g) of both maps (R49, R50, R97). -/
  parkF : List Nat
  parkP : List Nat
  offF : List Nat
  offP : List Nat
  search : Option Search
  passes : List PassQ
  /-- Range in force (the register holds the range last written, R83). -/
  range : Nat
  rangeNew : Bool
  gainSlew : Bool
  /-- Regions by index; offsets recorded at the last search by physical ring index, in lowest terms (R104); rings whose plate words are
  uncorrectable (R65); whether a load-mode scan has held a pass yet (R85). -/
  regions : SMap Region
  offs : SMap Fr
  ueRings : List Nat
  heldOne : Bool
  /-- Symbols counted, row rotation and samples taken but not yet judged (R316). -/
  symCnt : Nat
  sampleI : Nat
  samples : List Sample
  /-- Noise sums `D` and squared static residuals of the rows probed (R350, R351), when they were refreshed, and the
  `LOCK` window: readings kept, the sum of their squares, the region read next (R352). -/
  noiseR : SMap Nat
  systR : SMap Fr
  ebAt : Option (BitVec 64)
  lkN : Nat
  lkSum : Nat
  lkNext : Nat
  /-- An overrun of one of the engine's loops during the frame in progress (R143). -/
  ovr : Bool
  dyn : Dyn
  deriving DecidableEq, Repr

def Eng.reset : Eng :=
  { ps := .nap, woke := 0, hold := 0, calRun := false, fg := .empty, bg := .empty, build := none, delta := 0, firstLoad := true,
    cbP := [], scaleP := [], uncal := false, wparks := [],
    built := none, oldRows := [], scanNext := 512, trims := [], trimQ := [], modP := [], mapF := [], mapP := [], lineF := [], lineP := [], spareF := [],
    spareP := [], parkF := [], parkP := [], offF := [], offP := [], search := none, passes := [], range := 0, rangeNew := false, gainSlew := false,
    regions := [], offs := [], ueRings := [], heldOne := false, symCnt := 0, sampleI := 0, samples := [], noiseR := [], systR := [], ebAt := none, lkN := 0, lkSum := 0, lkNext := 0, ovr := false, dyn := {} }

/-! ## Ledger and tally (R166 to R200) -/

/-- The states of a tile slot (R187). -/
inductive TState where
  | empty | filling | opn | wait | closed | err
  deriving DecidableEq, Repr

/-- The code of a slot state in `LDG_TSTAT` (R187). -/
def TState.code : TState → Nat
  | .empty => 0 | .filling => 1 | .opn => 2 | .wait => 3 | .closed => 4 | .err => 5

/-- One tile slot: its record, state, status bits and flags (R203), contributions applied, and its running sum: the
storage columns received and the flags they carried. -/
structure Tile where
  trec : List Word
  st : TState
  sat : Bool
  incomplete : Bool
  zf : Bool
  extra : Bool
  ue : Bool
  mixerr : Bool
  flags : Nat
  nappl : Nat
  rsCols : List Nat
  rsFlags : Nat
  /-- The wait for the running sum has ended (R194). -/
  rsEnded : Bool
  /-- The TREC whose fill runs, by descriptor index. -/
  recIdx : Option Nat
  deriving DecidableEq, Repr

def Tile.reset : Tile :=
  ⟨List.replicate 8 0, .empty, false, false, false, false, false, false, 0, 0, [], 0, false, none⟩

/-- A member of a tally group: leaf, the index of its PASS, its output-scale identifier once its pass has started, and
the row results of the columns it has delivered, oldest first (R176, R179). -/
structure Member where
  leaf : Nat
  idx : Nat
  sid : Option Nat
  cols : List (List Int)
  deriving DecidableEq, Repr

/-- One column of a contribution as the tree or the dynamic engine formed it: an integer column with its identifier, or
the operands of the float tree by leaf (value and identifier per leaf; R176). -/
inductive ColRes where
  | int (v : List Int) (sid : Nat)
  | float (ops : List (Nat × Nat × List Int))
  /-- A dynamic column (R259): the value of each row that is applied, the identifier, and the factor `c_t`. -/
  | dyn (v : List (Option Int)) (sid : Nat) (c : Word)
  deriving DecidableEq, Repr

/-- How a dynamic contribution stands to the other one of its symbol (R258, R259): alone; to a score tile, with the
contribution to the index tile; or to an index tile, with the `TAG` and `ORD` of the score tile's draw once they are
known. -/
inductive DLink where
  | plain
  | score (index : Nat)
  | index (draw : Option (Nat × Nat))
  deriving DecidableEq, Repr

/-- A contribution to a tile (R188): its place in the issue order (assigned at the issue of the member with the lowest
leaf, R287), target, the tally group or the dynamic engine it comes from, and the columns formed so far. -/
structure Con where
  id : Nat
  place : Option Nat
  slot : Nat
  col0 : Nat
  ncol : Nat
  a13 : Bool
  gnode : Nat
  mask : Nat
  /-- A dynamic contribution: local engine 0 or 1, first tile row; the index of its descriptor. -/
  dyn : Option (Nat × Nat)
  idxs : List Nat
  mem : List Member
  res : List ColRes
  flags : Nat
  link : DLink := .plain
  deriving DecidableEq, Repr

/-- A THOP waiting for its source tile to close, or ready with the contents of the closed tile: storage bytes and flags
(R195, R292). -/
structure Hop where
  idx : Nat
  slot : Nat
  remote : Bool
  dstk : Nat
  dslot : Nat
  dtag : Nat
  flow : Nat
  link : Nat
  ready : Option (List Word × List Byte × Nat)
  deriving DecidableEq, Repr

/-- A stack hop on its way: destination slot and tag, the source's record, bytes and flags, and the `LINK` of its THOP
(R195, R292). -/
structure HopFly where
  idx : Nat
  dstk : Nat
  dslot : Nat
  dtag : Nat
  trec : List Word
  bytes : List Byte
  flags : Nat
  link : Nat
  deriving DecidableEq, Repr

/-- A readback waiting for its tile to close (R191, R291). -/
structure Rdbk where
  idx : Nat
  slot : Nat
  conv : Nat
  dst : Nat
  c0 : Nat
  ncol : Nat
  deriving DecidableEq, Repr

/-- A tally message as the receiving stack holds it (R196): extension fields and elements. -/
structure TMsg where
  dslot : Nat
  dtag : Nat
  op : Nat
  fmt : Nat
  sid : Nat
  flags : Nat
  rows : Nat
  col0 : Nat
  cols : Nat
  link : Nat
  elen : Nat
  resv : Bool
  data : List Byte
  flow : Nat
  seq : BitVec 32
  /-- It came over the network: a failure is reported to its sender (R396). -/
  net : Bool
  deriving DecidableEq, Repr

/-! ## Calibration and Assay (R314 to R345), control engine (R131 to R162) -/

/-- What the Assay unit has accumulated of one probed row in one run (R319, R327, R350), in units of 1/256 ADC LSB: the six
sums of the centre point, the sum `D` of squared differences of repeated patterns, and by input the sum over the symbols
of `H[t][i] × m_t` at the held bias, above it and below it. A dynamic engine has two points, `v = +96` and `v = −96`
(R338), in the last two places; the first of them stands for the centre point. -/
structure ProbeAcc where
  sums : Sums := {}
  dsum : Nat := 0
  ec : List Int := []
  ep : List Int := []
  en : List Int := []
  deriving DecidableEq, Repr

/-- What the arming of a calibration's row and modulator trims replaced (R334, R337): the bits of `TRM_CTRL`, pending row
fields by row, pending modulator words by number. -/
structure TrimSaved where
  ctl : Nat
  rows : List (Nat × Nat)
  mods : List (Nat × Option Word)
  deriving DecidableEq, Repr

/-- Results of an accepted calibration (R329 to R335, R350, R351) until they are in force: row trims (row, gain, offset),
raw words of `TRM_RDATA` by ring before and after, far-off weights by 512 r + i, modulator gains, the number of parts and
how many are in force, whether the application is gradual, of each probed row the sum `D` and the squared static residual;
whether the part under way comes with a swap of the plate halves, its ring trims beside the queue, whether the next part
is to be started, whether every part is in force and row trims may still move, and what the arming replaced. -/
structure CalRes where
  rows : List (Nat × Int × Int)
  rings : List (Nat × Nat × Nat)
  parks : List (Nat × Int)
  mods : List (Nat × Int)
  parts : Nat
  done : Nat := 0
  gradual : Bool
  noise : List (Nat × Nat)
  syst : List (Nat × Fr)
  swap : Bool := false
  more : List (Nat × Nat) := []
  next : Bool := false
  slew : Bool := false
  saved : Option TrimSaved := none
  deriving DecidableEq, Repr

/-- A calibration in progress (R323 to R335): engine, scope, the regions it holds, the region whose age chose it, the
attempt, whether the rows' codes are decoded, whether the hold runs, the next probe point (0 to 5), whether a pass has
interrupted the point, whether the fit is awaited, whether a retry is awaited, and the results accepted and waiting
for their rebuild or boundary. -/
structure Cal where
  eng : Nat
  scope : Nat
  regions : List Nat
  first : Nat
  attempt : Nat
  decoded : Bool
  hold : Bool
  point : Nat
  broken : Bool
  fitting : Bool
  retry : Bool
  /-- A fill or pass of a dynamic engine waits for the end of the point (R338). -/
  yields : Bool := false
  /-- What the probe has accumulated, by 512 × run + row. -/
  acc : SMap ProbeAcc := []
  res : Option CalRes
  armed : Bool
  deriving DecidableEq, Repr

/-- A trace buffer beside its registers (R155 to R157): its entries (four values each, packed to 64 bits), the samples of
its timebase since the last recorded one, samples still to record once triggered, the previous value and state of the
compared node, the count last seen of what a counted source watches (overruns, clamps, boundaries, wakes, triggers),
its own triggers, and the mode it was armed in. -/
structure Trace where
  mem : SMap Nat := []
  skip : Nat := 0
  left : Nat := 0
  prev : Int := 0
  prevSt : Nat := 0
  seen : Nat := 0
  trigs : Nat := 0
  mode : Bool := false
  deriving DecidableEq, Repr

/-- The Ledger, tally tree and plate builder of one stack beside their registers. -/
structure Stk where
  /-- The Ledger's bytes (R182). -/
  led : SMap Byte
  tiles : SMap Tile
  /-- The staging copy of the selected slot's record (R183): words written, by word number. -/
  stage : SMap Word
  cons : List Con
  nextCon : Nat
  nextPlace : Nat
  /-- Records that wait for their slot to be CLOSED (R193): slot, the TREC that writes it or none for a host write, words. -/
  trecQ : List (Nat × Option Nat × List Word)
  rdbkQ : List Rdbk
  hopQ : List Hop
  fly : List HopFly
  store : List TMsg
  /-- Engines with a request at the plate builder, oldest first; the head is being served (R64). -/
  builder : List Nat
  /-- The calibration in progress, and accepted calibrations whose results wait to come into force. -/
  cal : Option Cal
  calDone : List Cal
  /-- Live samples waiting for the builder (engine slot, sample), the live windows by slot × 512 + row, what was published
  by the same key. -/
  asyQ : List (Nat × Sample)
  win : SMap Sums
  pub : SMap RowPub
  /-- The table memory of the control engine by word address (banks, group tables, Sillage tables; R158), the slope table
  as in force and, for groups that have not taken it yet, as before (R138), the groups being checked and the groups that
  wait for their grid point (R152, R153), and the trace buffers. -/
  ceTab : SMap Word
  slope : List Nat
  slopeWait : List (Nat × List Nat)
  checking : Nat
  swapping : List Nat
  trc : SMap Trace
  /-- Lost light being judged (R122): fibre of the stack, when the first region entered Coast, the regions taken into
  account. -/
  dark : List (Nat × BitVec 64 × List (Nat × Nat))
  /-- Is the builder decoding for the Assay unit (R344)? -/
  decoding : Bool
  deriving DecidableEq, Repr

def Stk.reset : Stk :=
  { led := [], tiles := [], stage := [], cons := [], nextCon := 0, nextPlace := 0, trecQ := [], rdbkQ := [], hopQ := [],
    fly := [], store := [], builder := [], cal := none,
    calDone := [], asyQ := [], win := [], pub := [], ceTab := [], slope := [], slopeWait := [],
    checking := 0, swapping := [], trc := [], dark := [], decoding := false }

/-! ## Frames (R273 to R305) -/

/-- A start record (R278). -/
structure Start where
  frame : BitVec 32
  seed : BitVec 64
  paddr : Nat
  plen : Nat
  pbase : Nat
  ncand : Nat
  deriving DecidableEq, Repr

/-- A descriptor issued and not yet complete (R282): index, sequencer, SIG, CTR, and whether its completion point has
been reached. -/
structure Infl where
  idx : Nat
  tgt : Nat
  sig : Bool
  ctr : Nat
  reached : Bool
  deriving DecidableEq, Repr

/-- A FENCE in force on a sequencer (R282, R284). -/
structure FenceW where
  tgt : Nat
  idx : Nat
  fctr : Nat
  fval : Nat
  all : Bool
  deriving DecidableEq, Repr

/-- A WAKE hint whose DELAY runs (R285). -/
structure WakeW where
  id : Nat
  engs : List Nat
  toRun : Bool
  hold : Nat
  deriving DecidableEq, Repr

/-- A VRECV issued in the frame (R294, R385): buffer, the byte spans received (offset, length), whether its wait has
ended. -/
structure Vrecv where
  idx : Nat
  flow : Nat
  rtag : Nat
  dst : Nat
  len : Nat
  spans : List (Nat × Nat)
  done : Bool
  deriving DecidableEq, Repr

/-- A Mint descriptor issued (R288): index, ordinal in the frame (R234), its words, those of its MINTX, and what the ECC
of HBM observed as it read. -/
structure MintJob where
  idx : Nat
  ord : Nat
  d : Desc
  dx : Option Desc
  ecc : Ecc
  deriving DecidableEq, Repr

/-- One delivery of a Mint job (R218, R289): its unit, the engines it feeds, and the symbol, which is symbol `part` of
slice `slice` of row `row`. A cut-through replay forms the drive codes when the span has come (R386). -/
structure MintOut where
  unit : Nat
  engs : List Nat
  row : Nat
  slice : Nat
  part : Nat
  sym : Sym
  deriving DecidableEq, Repr

/-- A Mint job on its units (R218): whether it has begun, what it has still to deliver, and the scale array and summary
(address, bytes) that it writes when all is delivered (R216). -/
structure MintWork where
  job : MintJob
  begun : Bool
  out : List MintOut
  fin : List (Nat × List Byte)
  deriving DecidableEq, Repr

/-- A descriptor fetched and not yet issued (R281): its sequencer (4 is the module sequencer), its index and its words;
no words stand for a fetch past the program (R277 reason 13). -/
structure SeqEnt where
  tgt : Nat
  idx : Nat
  d : Desc
  deriving DecidableEq, Repr

/-- The frame in progress (R280, R300). -/
structure Frame where
  sr : Start
  begun : BitVec 64
  /-- Fetching has stopped: END has been issued, or the fetch passed the program; `irq` and `saddr` are END's fields. -/
  ended : Bool
  irq : Bool
  saddr : Option Nat
  /-- Issue has stopped: the limit of R297 or abandonment. -/
  stopped : Bool
  /-- The boundary has been called for (R299). -/
  tlimit : Bool
  abandon : Bool
  byEnd : Bool
  flags : Nat
  rej : Bool
  nrej : Nat
  ridx : Nat
  rreason : Nat
  nlate : Nat
  nheld : Nat
  /-- The index fetched next, and the descriptors that wait in the queues of the sequencers, in the order fetched
  (R281). -/
  pc : Nat
  queue : List SeqEnt
  infl : List Infl
  fences : List FenceW
  lastIdx : Nat
  /-- The MINT that waits for its MINTX (R288), and the work of the Mint in issue order (R218). -/
  mint : Option MintJob
  mq : List MintWork
  /-- Vector operations not yet complete, oldest first: index and the cores they use (R306, R312). -/
  vops : List (Nat × Word)
  vrecvs : List Vrecv
  engines : List Nat
  /-- Statistics of the Mint over the frame (R234): descriptors issued, NCONV, NCLIP, saturated tensors, largest share
  and its ordinal. -/
  mOrd : Nat
  mConv : Nat
  mClip : Nat
  mNsat : Nat
  mWorst : Nat
  mWorstOrd : Nat
  deriving DecidableEq, Repr

/-! ## Power, host interface and the rest of the module -/

/-- How far the module is between power-off and service (R461, R474, R475): `dark` the island is in reset; `island`
the island runs and waits for the rails; `released` the dies are out of reset, training and loading; `up` Stow has been
reached; `saving` and `saved` a save runs or has ended and the module holds itself in reset; `shut` a thermal shutdown
holds the dies in reset (R492). -/
inductive Phase where
  | dark | island | released | up | saving | saved | shut
  deriving DecidableEq, Repr

/-- Where a start-up from Stow to Hold stands (R100, R509): dead time, light check, heater warm-up, wide acquisition and
search, code check. -/
inductive Startup where
  | dead | light | warm | acquire
  deriving DecidableEq, Repr

/-- A section of a Vault slot or of a staged image (R522): its bytes and its CRC word. -/
structure Sect where
  bytes : List Byte
  crc : Word
  deriving DecidableEq, Repr

/-- A Vault slot (R521, R522): whether its header is valid (`MAGIC` and `HCRC`), `SEQ`, `FWVER`, and its firmware,
configuration and production sections. -/
structure VSlot where
  hdr : Bool
  seq : Word
  fwver : Word
  fw : Sect
  cfg : Sect
  prod : Sect
  deriving DecidableEq, Repr

/-- An erased slot. -/
def VSlot.erased : VSlot := ⟨false, 0, 0, ⟨[], 0⟩, ⟨[], 0⟩, ⟨[], 0⟩⟩

/-- A host set area (R530): whether it is valid, `SEQ`, and its entries (BAR0 offset, value). -/
structure VSet where
  ok : Bool
  seq : Word
  ents : List (Word × Word)
  deriving DecidableEq, Repr

/-- A Vault operation in progress (R525, R531): its `OP`, the target slot or area, the staging address, the sections of
the staged header as (type, offset, length, CRC), and the `SEQ`, `FWVER` and entry count to be written. -/
structure VJob where
  op : Nat
  slot : Nat
  addr : Nat
  secs : List (Nat × Nat × Nat × Word)
  seq : Word
  fwver : Word
  count : Nat
  deriving DecidableEq, Repr

/-- The Vault flash and the operation in progress. -/
structure Vault where
  a : VSlot
  b : VSlot
  sa : VSet
  sb : VSet
  job : Option VJob
  deriving DecidableEq, Repr

/-- The Vault as shipped: slot A valid with empty sections, slot B and the host set areas erased: DESIGN CHOICE
(assumption 34); the spec gives no contents. -/
def Vault.shipped : Vault :=
  ⟨{ VSlot.erased with hdr := true, seq := 1 }, .erased, ⟨false, 0, []⟩, ⟨false, 0, []⟩, none⟩

/-- A save set as it stands in an MRAM area (R471): sequence number, duration of the save in 10 µs, the Daybook tail, the
Vault sequence numbers and the operation in progress as (slot, `PROG`), per level the epoch, own index and members,
failed-ring and replacement marks by engine and ring, row and modulator trims by register, far-off weights and
`T_last` by engine. -/
structure SaveSet where
  seq : Word
  dur : Nat
  ents : List LogEnt
  vaultSeq : Word × Word
  vjob : Option (Nat × Nat)
  rolls : List (Nat × List Word)
  marks : List (Nat × Nat × Word)
  trims : SMap Word
  parks : SMap (SMap Int)
  tlast : List (Nat × Nat × Int)
  deriving DecidableEq, Repr

/-- The island's staging copy as far as the module's own state does not hold the same (R469): failed-ring marks by engine
and ring as a commit or a replacement left them, row and modulator trims by register and far-off weights as the
calibrations that came into force left them. -/
structure Stage where
  marks : List (Nat × Nat × Word) := []
  trims : SMap Word := []
  parks : SMap (SMap Int) := []
  deriving DecidableEq, Repr

/-- Power, resets and the save, beside the registers. -/
structure Power where
  phase : Phase
  /-- A transition requested and waiting for its boundary: the target state (R35). -/
  wait : Option Nat
  /-- The transition under way, once it has begun to change light or clocks (R36). -/
  now : Option Nat
  /-- A request that waits behind the transition under way (R36). -/
  behind : Option Nat
  /-- Was the Stow under way called by a trip, a fault or a shutdown, which no request replaces (R36, R511)? -/
  forced : Bool
  startup : Option Startup
  /-- Is a module reset draining (R464)? -/
  drain : Bool
  /-- The sequence of a module reset runs, drain ended (R464): Vyivim is silent (R405). -/
  inMr : Bool
  /-- Is Mionus running (booted and not being reset)? -/
  mionus : Bool
  /-- Clearing of `MSQ_CTRL.EN` waits for the boundary (R457). -/
  critical : Bool
  /-- A reset of Mionus fell in the frame in progress: at its boundary `MSQ_CTRL.EN` and the queue are cleared (R305). -/
  mioFrame : Bool
  /-- The latch a save or thermal shutdown sets, and whether it is armed for release (R474, R492). -/
  latch : Bool
  latchArmed : Bool
  /-- Was the last latch set by a save (R474)? -/
  bySave : Bool
  /-- When `PWR_VREQ` was last raised (R456). -/
  vreqAt : Option (BitVec 64)
  areaA : Option SaveSet
  areaB : Option SaveSet
  /-- The staging copy (R469). -/
  stage : Stage
  /-- The set being written by the save in progress and when it began; the set read at power-on, until it is restored. -/
  saving : Option SaveSet
  saveAt : BitVec 64
  restore : Option SaveSet
  /-- When the dead time of a start-up began (R509), and the fibres its light check found dark (R100). -/
  deadAt : BitVec 64
  dark : List Nat
  /-- A trip during a module reset or reboot of Mionus: Stow follows it (R511). -/
  stowDue : Bool
  /-- PLLs that have lost lock: 0 to 3 the symbol PLL of a stack, 4 the core PLL (R460). -/
  pllLost : List Nat
  deriving DecidableEq, Repr

def Power.reset : Power :=
  { phase := .island, wait := none, now := none, behind := none, forced := false, startup := none, drain := false,
    inMr := false, mionus := false, critical := false, mioFrame := false, latch := false, latchArmed := false,
    bySave := false, vreqAt := none, areaA := none, areaB := none, stage := {}, saving := none, saveAt := 0, restore := none, deadAt := 0, dark := [], stowDue := false, pllLost := [] }

/-- A mailbox channel's queue (R441): messages with their sequence numbers, oldest first, and the next number. -/
structure Chan where
  queue : List (Nat × List Word)
  next : Nat
  last : Nat
  deriving DecidableEq, Repr

def Chan.reset : Chan := ⟨[], 0, 0⟩

/-- A host DMA copy in progress (R430). -/
structure Dma where
  toHost : Bool
  irq : Bool
  haddr : Nat
  maddr : Nat
  len : Nat
  deriving DecidableEq, Repr

/-- A PF0 BAR2 access: a read of `n` bytes and what ECC observes, or a write of the bytes enabled (R424, R425). -/
inductive Bar2 where
  | read (a n : Nat) (ecc : Ecc)
  | write (a : Nat) (bytes : List (Option Byte))
  deriving DecidableEq, Repr

/-- The host interface beside the registers. -/
structure HostIf where
  /-- Armed bits and pending bits of the 64 vectors (R429). -/
  armed : BitVec 64
  pend : BitVec 64
  pf0D3 : Bool
  pf1D3 : Bool
  /-- Is the PCIe link down for want of `REFCLK100` (R460)? -/
  linkDown : Bool
  /-- PF1's private copies of `ASY_SEL` and `ASY_RG_SEL` (R426), by BAR0 offset. -/
  pf1 : SMap Word
  dbkRd : SMap DbkRead
  mbx : SMap Chan
  dma : SMap (Option Dma)
  /-- Latched high words of `MSQ_TIME` and `CLK_AONTIME` (R311, R479), and latched error-budget words (R358). -/
  timeHi : Word
  aonHi : Word
  ebud : SMap Word
  /-- Sectors moved in the running HBM window, by hash group (R417). -/
  hbmCnt : SMap Nat
  /-- The hash that a REHASH in progress puts into force, and BAR2 accesses that wait for its end (R415). -/
  rehash : Option Nat
  bar2Q : List Bar2
  deriving DecidableEq, Repr

def HostIf.reset : HostIf :=
  { armed := BitVec.allOnes 64, pend := 0, pf0D3 := false, pf1D3 := false, linkDown := false, pf1 := [], dbkRd := [], mbx := [], dma := [],
    timeHi := 0, aonHi := 0, ebud := [], hbmCnt := [], rehash := none, bar2Q := [] }

/-! ## Links, Vyivim and rolls (R366 to R409) -/

/-- What a port holds beside its registers: the form in which its PCS restarts while it is down (width as log2, lanes of
the block), the width it had before, whether it came up and waits for HELLO (R373), and the answers left this second to
requests (R368): tokens and the time they were counted. -/
structure Port where
  form : Option (Nat × Nat) := none
  old : Nat := 0
  narrower : Bool := false
  hello : Bool := false
  tokens : Nat := 1000
  stamp : BitVec 64 := 0
  deriving DecidableEq, Repr

/-- A control message not yet acknowledged, or waiting for the window (R389): its sequence number (0 for OPEN), the
message, and how often it has been sent. -/
structure Ctl where
  seq : BitVec 32
  msg : Msg
  tries : Nat
  deriving DecidableEq, Repr

/-- A flow context (R392): its record, the next tensor sequence number to send and to expect, the last control sequence
number used and the highest received in order, control messages outstanding and waiting, early control messages with
what an access of theirs sees in HBM, a CE mark still to be reported, whether the peer has closed it (it is freed when the
CLOSE_OK is acknowledged), and when `ECE` last halved the rate (R395). -/
structure Flow where
  words : Vector Word 16 := #v[0, 0x00140000, 0, 0, 0, 0, 0, 0x003C0100, 0, 0, 0, 0, 0, 0, 0, 0]
  txSeq : BitVec 32 := 0
  rxSeq : BitVec 32 := 0
  ctlTx : BitVec 32 := 0
  ctlRx : BitVec 32 := 0
  out : List Ctl := []
  waitQ : List Ctl := []
  early : List (Msg × Ecc) := []
  ce : Bool := false
  bye : Bool := false
  eceAt : Option (BitVec 64) := none
  deriving DecidableEq, Repr

/-- A tensor message held in a flow's receive space (R385): flow, frame, sequence number, bytes counted against the
space, and a WRITE's `RTAG`, `ROFF` and data, or a tally message with its stack. -/
structure HeldMsg where
  flow : Nat
  frame : BitVec 32
  seq : BitVec 32
  size : Nat
  write : Option (Nat × Nat × List Byte)
  tally : Option (Nat × TMsg)
  deriving DecidableEq, Repr

/-- A FAULT being coalesced (R396). -/
structure FaultN where
  flow : Nat
  frame : BitVec 32
  reason : Nat
  sub : Nat
  otype : Nat
  iseq : BitVec 32
  nseq : Nat
  tag : Nat
  deriving DecidableEq, Repr

/-- Links and Vyivim beside their registers: ports and the configuration applied to each, the steer in progress (lane,
old and new fibre pair), flow contexts, the receive space, FAULTs to be sent, the last 65,536 tensor messages sent
(newest first: flow, `SEQ`, frame), the frame in progress or last begun, and the heartbeat count. -/
structure Vyv where
  ports : SMap Port := []
  cfg : SMap Word := []
  steer : Option (Nat × Nat × Nat) := none
  flows : SMap Flow := []
  held : List HeldMsg := []
  faults : List FaultN := []
  txLog : List (Nat × BitVec 32 × BitVec 32) := []
  cur : Option (BitVec 32) := none
  hb : BitVec 32 := 0
  deriving DecidableEq, Repr

/-- What a module knows of a member of a roll from its heartbeats (R399 to R403): heard within `MISS` periods, `REACH`,
the serial it last gave, heard in the running period, and consecutive periods heard with `HELD` set. -/
structure Heard where
  alive : Bool := false
  reach : BitVec 256 := 0
  serial : Option (BitVec 64) := none
  fresh : Bool := false
  run : Nat := 0
  deriving DecidableEq, Repr

/-- Membership beside the registers: member records by 256 (L − 1) + j (serial, flow), what was heard by the same key,
levels that decide after a miss (R400), levels that wait for a view, and by level the serial that proposed the view in
force. -/
structure Roll where
  mrec : SMap (BitVec 64 × Nat) := []
  heard : SMap Heard := []
  decide : List Nat := []
  wait : List Nat := []
  prop : SMap (BitVec 64) := []
  deriving DecidableEq, Repr

/-! ## Temperatures, housekeeping and laser control (R482 to R516) -/

/-- The dwell of one sensor on one threshold (R486): consecutive samples at or above it, consecutive samples below it by
more than 2 K, and whether it is reached. -/
structure Dwell where
  up : Nat := 0
  dn : Nat := 0
  on : Bool := false
  deriving DecidableEq, Repr

/-- A temperature sensor beside its register: its dwells on WARN, THROTTLE, CRIT and SHUTDOWN as reported, those on WARN
and THROTTLE as they count under `THM_MASK` (R487), and consecutive samples out of and in range (R484). -/
structure Sensor where
  warn : Dwell := {}
  thr : Dwell := {}
  crit : Dwell := {}
  shut : Dwell := {}
  mWarn : Dwell := {}
  mThr : Dwell := {}
  out : Nat := 0
  good : Nat := 0
  deriving DecidableEq, Repr

/-- Thermal management beside its registers: the sensors, and the samples taken at THROTTLE or CRIT since the last
millisecond counted. -/
structure Thm where
  sens : SMap Sensor := []
  tenths : Nat := 0
  deriving DecidableEq, Repr

/-- A housekeeping converter (R498, R499): channels of its scan not yet converted, an event that waits out its delay, the
urgent conversion that runs (from the host or not, and its channel), and the urgent conversions that wait: an event's
channel, the host's channel. -/
structure Conv where
  scan : List Nat := []
  delay : Bool := false
  run : Option (Bool × Nat) := none
  event : Option Nat := none
  host : Option Nat := none
  deriving DecidableEq, Repr

/-- The housekeeping converters: A and B, a cross-check that waits, consecutive checks that failed and that agreed (R500),
and whether the minimum of `PWR_VMEAS` has been cleared. -/
structure Hk where
  a : Conv := {}
  b : Conv := {}
  check : Bool := false
  bad : Nat := 0
  good : Nat := 0
  vclear : Bool := true
  deriving DecidableEq, Repr

/-- A laser-control output (R503 to R505): the shadow of its set value (the register shows the value in force), the level of
its ramp in 1/125 of a code, the phase of its sine, the consecutive samples in which its read-back was off and in which its
other quantity lay outside the window, and when its code last changed by more than 16. -/
structure Pin where
  set : Word := 0
  lvl : Int := 0
  ph : BitVec 32 := 0
  rb : Nat := 0
  win : Nat := 0
  moved : Option (BitVec 64) := none
  deriving DecidableEq, Repr

/-- Everything the module holds beside the command queue and the Daybook. -/
structure Block where
  /-- Every register of the register maps, by BAR0 offset. -/
  regs : SMap Word
  /-- HBM, vector SRAM and frame-program SRAM by module address (R274). -/
  mem : SMap Byte
  /-- How often the contents of HBM have become undefined (R415): the model's own field (assumption 5). -/
  hbmGen : Nat
  /-- The capacity grade of the module (R2), which no command changes. -/
  grade : Config.Grade
  /-- STEADY time in 4 ns ticks (`MSQ_TIME`), and AON time in 32.768 kHz ticks with its fraction. -/
  time : BitVec 64
  /-- 4 ns ticks since power-on, which measure what passes while STEADY does not run: the model's own field (assumption
  6). -/
  up : BitVec 64
  aon : BitVec 48
  aonFrac : Nat
  pw : Power
  host : HostIf
  engs : SMap Eng
  stks : SMap Stk
  frm : Option Frame
  startQ : List Start
  /-- Frame ID of the last frame begun or queued, once there is one (R279). -/
  lastId : Option (BitVec 32)
  vyv : Vyv
  rol : Roll
  thm : Thm
  hk : Hk
  pins : SMap Pin
  vlt : Vault
  wakes : List WakeW
  nextWake : Nat
  /-- Free values taken so far: the model's own field (assumption 5). -/
  free : Nat
  /-- Groups of the last boundary still wait for their bank swap; what follows the swaps is still to be done (R299). -/
  tail : Bool
  /-- Frame boundaries made, empty ones excluded (R156), and the time before which no frame begins (R489). -/
  bnds : Nat
  gap : Nat
  /-- Events raised by the command being executed, oldest first. -/
  evs : List Ev
  /-- What the command executed last sent to the world, oldest first. -/
  out : List Output
  deriving DecidableEq, Repr

/-- The module: the commands waiting, first in first out; the Daybook; everything else. -/
structure State where
  pending : List Instr
  log : Daybook
  b : Block
  deriving DecidableEq, Repr

/-- The block right after power-on reset. -/
def Block.reset : Block :=
  { regs := [], mem := [], hbmGen := 0, grade := .s96, time := 0, up := 0, aon := 0, aonFrac := 0, pw := .reset, host := .reset, engs := [], stks := [],
    frm := none, startQ := [], lastId := none, vyv := {}, rol := {}, thm := {}, hk := {}, pins := [], vlt := .shipped, wakes := [], nextWake := 0, free := 0, tail := false, bnds := 0, gap := 0, evs := [], out := [] }

/-- The module right after power-on reset (R461, R14): every register at its PO entry, the Daybook empty. -/
def State.reset : State := { pending := [], log := ⟨[], 0, []⟩, b := .reset }

end Sys2Proof.Machine
end

