-- ==== Sys2Proof/Machine/Ops.lean ====
section
/-! DEFINITION. The named operations over the block: registers and their fields, counters, interrupt and event raising,
memories, engines, stacks, free values. Every meaning reads and writes the state through these. -/

namespace Sys2Proof.Machine

/-! ## Registers -/

/-- The value the register at BAR0 offset `off` holds. -/
def Block.rd (b : Block) (off : Nat) : Word := b.regs.get regDefault off

/-- The block with the register at `off` holding `v`. -/
def Block.wr (b : Block) (off : Nat) (v : Word) : Block := { b with regs := b.regs.set regDefault off v }

/-- Field `[lo + w - 1 : lo]` of the register at `off`. -/
def Block.rdF (b : Block) (off lo w : Nat) : Nat := fld (b.rd off) lo w

/-- The register at `off` with one field replaced. -/
def Block.wrF (b : Block) (off lo w x : Nat) : Block := b.wr off (setFld (b.rd off) lo w x)

/-- Bit `i` of the register at `off`. -/
def Block.rdB (b : Block) (off i : Nat) : Bool := bit (b.rd off) i

/-- Bit `i` of the register at `off` set to `x`. -/
def Block.wrB (b : Block) (off i : Nat) (x : Bool) : Block := b.wrF off i 1 (b2n x)

/-- Bit `i` of the register at `off` set. -/
def Block.setB (b : Block) (off i : Nat) : Block := b.wrB off i true

/-- Bit `i` of the register at `off` cleared. -/
def Block.clrB (b : Block) (off i : Nat) : Block := b.wrB off i false

/-- A saturating counter in field `[lo + w - 1 : lo]` of the register at `off`, advanced by `n`. -/
def Block.bumpF (b : Block) (off lo w : Nat) (n : Nat := 1) : Block :=
  b.wrF off lo w (min (b.rdF off lo w + n) (2 ^ w - 1))

/-- A 32-bit saturating counter register advanced by `n`. -/
def Block.bump (b : Block) (off : Nat) (n : Nat := 1) : Block := b.bumpF off 0 32 n

/-- An interrupt bit of the page at `p` raised by the module (R12, R435). -/
def Block.raise (b : Block) (p i : Nat) : Block := b.setB (PG_ISTAT p) i

/-- An event for the Daybook. -/
def Block.ev (b : Block) (code : Nat) (inst : Nat := 0) (data : List (Nat × Nat) := []) : Block :=
  { b with evs := b.evs ++ [{ code := code, inst := inst, data := data }] }

/-- An event whose notes name the frame it belongs to. -/
def Block.evF (b : Block) (code inst : Nat) (data : List (Nat × Nat)) (frame : Word) : Block :=
  { b with evs := b.evs ++ [{ code := code, inst := inst, data := data, frame := some frame }] }

/-- Something sent to the world outside. -/
def Block.send (b : Block) (o : Output) : Block := { b with out := b.out ++ [o] }

/-- `f` applied when `c` holds. -/
def Block.when (b : Block) (c : Bool) (f : Block → Block) : Block := if c then f b else b

/-- `f` applied for every element of a list in order. -/
def Block.each {α : Type} (b : Block) (xs : List α) (f : Block → α → Block) : Block := xs.foldl f b

/-! ## Free values -/

/-- A free word, and the block that has taken it. -/
def Block.freeWord (b : Block) : Word × Block := (Config.freeWord b.free, { b with free := b.free + 1 })

/-- A free number up to `n`, and the block that has taken it. -/
def Block.freeUpTo (b : Block) (n : Nat) : Nat × Block :=
  ((Config.freeBelow b.free n).val, { b with free := b.free + 1 })

/-! ## The Vault slot in force -/

def Vault.slot (v : Vault) (k : Nat) : VSlot := if k = 0 then v.a else v.b

/-- The slot in force, where there is one (R523). -/
def Block.inForce (b : Block) : Option VSlot := if b.rdB VLT_STAT 5 then none else some (b.vlt.slot (b.rdF VLT_STAT 0 1))

/-! ## Engines and stacks -/

def Block.eng (b : Block) (e : Nat) : Eng := b.engs.get (fun _ => Eng.reset) e
def Block.setEng (b : Block) (e : Nat) (x : Eng) : Block := { b with engs := b.engs.set (fun _ => Eng.reset) e x }
def Block.updEng (b : Block) (e : Nat) (f : Eng → Eng) : Block := b.setEng e (f (b.eng e))
def Block.stk (b : Block) (s : Nat) : Stk := b.stks.get (fun _ => Stk.reset) s
def Block.setStk (b : Block) (s : Nat) (x : Stk) : Block := { b with stks := b.stks.set (fun _ => Stk.reset) s x }
def Block.updStk (b : Block) (s : Nat) (f : Stk → Stk) : Block := b.setStk s (f (b.stk s))

/-- The stack of engine `e`: 16 resident engines and two dynamic ones each (R15). -/
def stackOf (e : Nat) : Nat := if e < 64 then e / 16 else (e - 64) / 2

/-- The slot of engine `e` in its stack: 0 to 15 resident, 16 and 17 dynamic. -/
def slotOf (e : Nat) : Nat := if e < 64 then e % 16 else 16 + (e - 64) % 2

/-- The engine in slot `k` of stack `s`. -/
def engAt (s k : Nat) : Nat := if k < 16 then 16 * s + k else 64 + 2 * s + (k - 16)

/-- All engines, resident and dynamic. -/
def allEngs : List Nat := List.range 72

/-- The fibre that feeds engine `e` (R566, R22): dynamic engines share the first fibre of their stack. -/
def fibreOf (e : Nat) : Nat := if e < 64 then 4 * (e / 16) + e % 16 / 4 else 4 * ((e - 64) / 2)

/-! ## Module state -/

def stStow : Nat := 1
def stHold : Nat := 2
def stActive : Nat := 3

/-- The module state in `PWR_STATE.STATE` (R477). -/
def Block.modState (b : Block) : Nat := b.rdF PWR_STATE 0 2

/-- Is a frame in progress? -/
def Block.inFrame (b : Block) : Bool := b.frm.isSome

/-- The frame in progress changed by `f`. -/
def Block.updFrm (b : Block) (f : Frame → Frame) : Block := { b with frm := b.frm.map f }

/-- The running frame's flag bits, in the order of R196: STALE, TAINTED, SAT, CLIP, DEGRADED, OVERRUN, LATE. -/
def fSTALE : Nat := 1
def fTAINTED : Nat := 2
def fSAT : Nat := 4
def fCLIP : Nat := 8
def fDEGRADED : Nat := 16
def fOVERRUN : Nat := 32
def fLATE : Nat := 64

/-- Flags set in the status word of the frame in progress; outside a frame they are set on nothing (R419, R20). -/
def Block.flag (b : Block) (f : Nat) : Block := b.updFrm fun r => { r with flags := r.flags ||| f }

/-- The frame ID in progress, or last begun (R534). -/
def Block.frameId (b : Block) : Word := b.rd MSQ_FRAME

/-! ## Module address space (R274) -/

/-- The memories behind a module address. -/
inductive MSpace where
  | hbm | beyond | vsram | fpsram | reserved
  deriving DecidableEq, Repr

/-- The memory at module address `a` of a module of grade `g` (R274, R2). -/
def mspace (g : Config.Grade) (a : Nat) : MSpace :=
  if a < g.bytes then .hbm
  else if a < 0x2000000000 then .beyond
  else if 0x8000000000 ≤ a ∧ a < 0x8002000000 then .vsram
  else if 0x8100000000 ≤ a ∧ a < 0x8100400000 then .fpsram
  else .reserved

def vsBase : Nat := 0x8000000000
def fpBase : Nat := 0x8100000000

/-- What the whole span of `n` bytes from `a` lies in: the space of its first byte, unless its last byte is in another,
which is then reported. -/
def mspan (gr : Config.Grade) (a n : Nat) : MSpace :=
  let s := mspace gr a
  if n = 0 then s else
  let t := mspace gr (a + n - 1)
  if s = t then s else if t = .beyond ∨ s = .beyond then .beyond else .reserved

/-- An unlisted byte of memory reads 0: DESIGN CHOICE (assumption 4), unsafe. -/
def zeroByte : Nat → Byte := fun _ => 0

/-- What a byte of module memory that is not listed reads as: 0 until the contents of HBM have become undefined (R415). -/
def Block.memDef (b : Block) : Nat → Byte := fun a =>
  if b.hbmGen = 0 then 0 else if a < b.grade.bytes then Config.hbmByte b.hbmGen a else 0

def Block.rd8 (b : Block) (a : Nat) : Byte := b.mem.get b.memDef a
def Block.rdBytes (b : Block) (a n : Nat) : List Byte := b.mem.getMany b.memDef a n
def Block.wrBytes (b : Block) (a : Nat) (bs : List Byte) : Block := { b with mem := b.mem.setMany b.memDef a bs }
/-- A little-endian value of `n` bytes. -/
def Block.rdLE (b : Block) (a n : Nat) : Nat := ofBytesLE (b.rdBytes a n)
def Block.rd32 (b : Block) (a : Nat) : Word := wd (b.rdLE a 4)
def Block.wrLE (b : Block) (a n v : Nat) : Block := b.wrBytes a (bytesLE n v)
def Block.wr32 (b : Block) (a : Nat) (v : Word) : Block := b.wrLE a 4 v.toNat

/-- The channel hash of R413: pseudo-channel group of granule `g` under hash `h`. -/
def hbmHash (h g : Nat) : Nat :=
  let nib (i : Nat) := bits g (4 * i) 4
  let rot (x n : Nat) := (x * 2 ^ n + x / 2 ^ (4 - n)) % 16
  let rev (x : Nat) := bits x 0 1 * 8 + bits x 1 1 * 4 + bits x 2 1 * 2 + bits x 3 1
  let f (i : Nat) : Nat :=
    if h = 1 then rot (nib i) (i % 4) else if h = 2 then (if i % 2 = 1 then rev (nib i) else nib i) else nib i
  (List.range 7).foldl (fun a i => Nat.xor a (f i)) (bits g 28 1)

/-- The sectors of an HBM transfer of `n` bytes at `a` counted in the running window: whole granules, one sector in each
stack (R412, R417). -/
def Block.hbmTouch (b : Block) (a n : Nat) : Block :=
  if mspace b.grade a ≠ .hbm ∨ n = 0 then b else
  let h := b.rdF HBM_CFG 0 2
  let g0 := a / 256
  let gs := (List.range ((a + n - 1) / 256 - g0 + 1)).map fun i => hbmHash h (g0 + i)
  { b with host := { b.host with hbmCnt := gs.foldl (fun m g => m.upd (fun _ => 0) g (· + 1)) b.host.hbmCnt } }

/-- Corrected and uncorrectable sectors of a read, recorded (R419); `cons` numbers the consumer in the order of R419's
table. -/
def Block.eccSeen (b : Block) (x : Ecc) (cons : Nat) : Block :=
  let b := b.each x.ce fun b a => ((b.bump HBM_CECNT).setB HBM_ERR 1).ev 0x6002 0 [(5, a)]
  b.each x.ue fun b a =>
    let b := (b.bump HBM_UECNT).setB HBM_ERR 2
    let b := (b.wr HBM_UEADDR_LO (wd a)).wr HBM_UEADDR_HI (wd (a / 2 ^ 32 % 256))
    (b.raise P_HBM 1).ev 0x6003 0 [(5, a), (1, cons)]

/-- Bytes of a read in which the 64-byte sectors `ue` were uncorrectable: those bytes are 0 (R419). -/
def poisonBytes (ue : List Nat) (a : Nat) (bs : List Byte) : List Byte :=
  if ue.isEmpty then bs else
  (bs.zip (List.range bs.length)).map fun (v, i) => if ue.any (fun u => u / 64 == (a + i) / 64) then 0 else v

/-- An access at or above the installed capacity by master identity `m` (R420). -/
def Block.accessFault (b : Block) (a m : Nat) : Block :=
  let b := ((b.bump HBM_AFCNT).wr HBM_AFADDR_LO (wd a)).wr HBM_AFADDR_HI (wd (a / 2 ^ 32 % 256))
  let b := (b.setB HBM_ERR 3).wrF HBM_ERR 4 4 m
  (b.raise P_HBM 2).ev 0x6004 0 [(5, a), (1, m)]

/-! ## Flow contexts (R392, R396) -/

def Block.flow (b : Block) (f : Nat) : Flow := b.vyv.flows.get (fun _ => {}) f
def Block.updFlow (b : Block) (f : Nat) (g : Flow → Flow) : Block :=
  { b with vyv := { b.vyv with flows := b.vyv.flows.set (fun _ => {}) f (g (b.flow f)) } }
/-- Word `i` of a flow record. -/
def Flow.w (x : Flow) (i : Nat) : Word := x.words.toList.getD i 0
def Flow.setW (x : Flow) (i : Nat) (v : Word) : Flow := { x with words := x.words.setIfInBounds i v }
/-- `FSTATE` of a context: 0 FREE, 1 OPENING, 2 OPEN, 3 CLOSING, 4 FAILED. -/
def Flow.state (x : Flow) : Nat := fld (x.w 0) 0 3
def Flow.setState (x : Flow) (k : Nat) : Flow := x.setW 0 (setFld (x.w 0) 0 3 k)
def Block.flowState (b : Block) (f : Nat) : Nat := (b.flow f).state

/-- Can a failure join a FAULT that is being coalesced: same flow, frame and reasons, the next sequence number? -/
def FaultN.joins (x y : FaultN) : Bool :=
  x.flow == y.flow && x.frame == y.frame && x.reason == y.reason && x.sub == y.sub && x.otype == y.otype
    && y.iseq == x.iseq + BitVec.ofNat 32 x.nseq

/-- A failure of tensor data noted for a FAULT to its sender (R396). -/
def Block.noteFault (b : Block) (x : FaultN) : Block :=
  let fs := b.vyv.faults
  let fs' := if fs.any fun y => y.joins x then
      fs.map fun y => if y.joins x then { y with nseq := y.nseq + x.nseq } else y
    else fs ++ [x]
  { b with vyv := { b.vyv with faults := fs' } }

/-- The receive pool emptied (R415). -/
def Block.emptyPool (b : Block) : Block := { b with vyv := { b.vyv with held := [] } }

/-! ## Ledger bytes (R182) -/

def Block.rdLed (b : Block) (s a n : Nat) : List Byte := (b.stk s).led.getMany zeroByte a n
def Block.wrLed (b : Block) (s a : Nat) (bs : List Byte) : Block :=
  b.updStk s fun k => { k with led := k.led.setMany zeroByte a bs }

/-! ## Power domains and reach (R438 to R440) -/

/-- Are the control die, stacks and link die out of reset (R454, R492, R474)? -/
def Phase.diesUp : Phase → Bool
  | .released | .up => true
  | _ => false

/-- Is the island running (R461, R466, R475)? After a save it is held in reset (R474). -/
def Phase.islandUp : Phase → Bool
  | .island | .released | .up | .saving | .shut => true
  | _ => false

/-- Is a domain up: its supply good and its die out of reset (R439)? Rail bits as in `PWR_RAIL` (R477). -/
def Block.domUp (b : Block) : Dom → Bool
  | .island => b.pw.phase.islandUp
  | .control => b.pw.phase.diesUp && b.rdB PWR_RAIL 1
  | .stack s => b.pw.phase.diesUp && b.rdB PWR_RAIL (2 + s)
  | .link => b.pw.phase.diesUp && b.rdB PWR_RAIL 9
  | .hbm => b.pw.phase.diesUp && b.rdB PWR_RAIL 8

/-- The domain of a page (R439). -/
def pageDom : PageKind → Nat → Dom
  | .id_, _ | .pwr, _ | .clk, _ | .rst, _ | .thm, _ | .hk, _ | .lco, _ | .vlt, _ | .dbk, _ | .mbx, _ | .smb, _ => .island
  | .glb, _ | .mnt, _ | .vec, _ | .hbm, _ | .msq, _ | .vyv, _ | .rol, _ => .control
  | .seq, s | .ldg, s | .tly, s | .ce, s | .asy, s | .plt, s | .htr, s => .stack s
  | .eng, e | .lck, e | .trm, e | .asg, e | .den, e | .lckd, e | .trmd, e => .stack (stackOf e)
  | .lnk, _ => .link

/-- Where a BAR0 offset leads: a page register, a memory window, or nothing (R431, R432). -/
inductive Target where
  | page (k : PageKind) (i : Nat)
  | trim (e a : Nat)      -- trim window: engine, byte offset in it
  | park (e a : Nat)      -- park table of a dynamic engine in the trim window
  | fp (a : Nat)
  | plate (e a : Nat)     -- engine image of an engine
  | ledger (s a : Nat)
  | unmapped
  deriving DecidableEq, Repr

def Block.target (b : Block) (off : Nat) : Target :=
  match pageAt off with
  | some (k, i) => .page k i
  | none =>
    if 0x1000000 ≤ off ∧ off < 0x1200000 then
      let t := b.rdF GLB_WSEL 0 7
      let a := off - 0x1000000
      if t < 64 then (if a < 0x110000 then .trim t a else .unmapped)
      else if t < 72 then
        (if a < 0x8800 then .trim t a
         else if 0x100000 ≤ a ∧ a < 0x101000 then .park t (a - 0x100000) else .unmapped)
      else .unmapped
    else if 0x1400000 ≤ off ∧ off < 0x1800000 then .fp (off - 0x1400000)
    else if 0x1800000 ≤ off ∧ off < 0x2000000 then
      let a := off - 0x1800000
      .plate (16 * b.rdF GLB_WSEL 8 2 + a / 0x80000) (a % 0x80000)
    else if 0x2000000 ≤ off ∧ off < 0x4000000 then
      .ledger ((off - 0x2000000) / 0x800000) ((off - 0x2000000) % 0x800000)
    else .unmapped

/-- The domain of a target (R439). -/
def Target.dom : Target → Dom
  | .page k i => pageDom k i
  | .trim e _ | .park e _ | .plate e _ => .stack (stackOf e)
  | .fp _ => .control
  | .ledger s _ => .stack s
  | .unmapped => .island

/-- PF1's BAR0 mirror (R426): the BAR0 offset of PF0 that offset `o` of PF1 shows. -/
def pf1Map (o : Nat) : Option Nat :=
  if o < 0x1000 then some (P_ID + o)
  else if o < 0x2000 then some (P_THM + (o - 0x1000))
  else if o < 0x3000 then some (P_DBK + (o - 0x2000))
  else if 0x4000 ≤ o ∧ o < 0x8000 then some (P_ASY ((o - 0x4000) / 0x1000) + o % 0x1000)
  else none

/-- The SMBus page set (R447): the BAR0 base of page selector `s`. -/
def smbPage : Nat → Option Nat
  | 0 => some P_SMB | 1 => some P_ID | 2 => some P_THM | 3 => some P_PWR | 4 => some P_LCO | 5 => some P_HK
  | 6 => some P_DBK | 7 => some P_MBX | _ => none

/-- Is the 1 MiB range of `off` open to the Vyivim control agent (R391)? -/
def Block.raccOpen (b : Block) (off : Nat) : Bool :=
  let r := off / 0x100000
  if r < 32 then b.rdB VYV_RACC_LO r else if r < 64 then b.rdB VYV_RACC_HI (r - 32) else false

/-- Does master `m` reach BAR0 offset `off` (R438)? PF1 is judged by its own mirror. -/
def Block.reaches (b : Block) (m : Master) (off : Nat) : Bool :=
  match m with
  | .pf0 | .mionus => true
  | .pf1 => [P_ID, P_THM, P_DBK, P_ASY 0, P_ASY 1, P_ASY 2, P_ASY 3].any fun p => p == off / 0x1000 * 0x1000
  | .smbus => (List.range 8).any fun s => smbPage s == some (off / 0x1000 * 0x1000)
  | .seq0 | .seq1 | .seq2 | .seq3 | .msq => off / 0x1000 * 0x1000 == P_MBX
  | .vyv => b.raccOpen off

/-- How an access by master `m` to `off` is answered before the register itself is reached. -/
inductive Reach where
  | ok | unmapped | down
  deriving DecidableEq, Repr

def Block.reach (b : Block) (m : Master) (off : Nat) : Reach :=
  if !b.reaches m off then .unmapped else
  match b.target off with
  | .unmapped => .unmapped
  | t => if b.domUp t.dom then .ok else .down

/-- An access recorded in `GLB_ERR` under status bit `k` (R450): master, direction and address are kept while the four
status bits were 0, and nothing is recorded while the control die is down (R440). -/
def Block.recErr (b : Block) (k : Nat) (m : Nat) (addr : Nat) (write : Bool) : Block :=
  if !b.domUp .control then b else
  let first := b.rdF GLB_ERR 0 4 == 0
  let b := (b.setB GLB_ERR k).bump GLB_ERRCNT
  let b := b.when first fun b =>
    (((b.wrF GLB_ERR 8 4 m).wrF GLB_ERR 12 1 (b2n write)).wr GLB_ERRADDR_LO (wd addr)).wr GLB_ERRADDR_HI
      (wd (addr / 2 ^ 32 % 256))
  b.raise P_GLB 0

/-- A read or write of an unmapped offset, or a write to an RO area of a window (R433). -/
def Block.unmapped (b : Block) (m : Master) (off : Nat) (write : Bool) : Block :=
  (b.recErr 1 m.id off write).ev 0x6102 0 [(1, m.id), (4, off)]

/-- An access to a domain that is down (R440): nothing happens but the record and the error response. -/
def Block.domainDown (b : Block) (m : Master) (off : Nat) (write : Bool) : Block :=
  ((b.recErr 0 m.id off write).ev 0x6101 0 [(1, m.id), (4, off), (1, b2n write)]).send (.errResp m write)

/-- A software write counted in `PG_SEQ` of the page of `off` when it acted (R437); windows have no counter. -/
def Block.counted (b : Block) (off : Nat) (acted : Bool) : Block :=
  if acted && (pageAt off).isSome then
    let p := PG_SEQ (off / 0x1000 * 0x1000)
    b.wr p (b.rd p + 1)
  else b

/-- Is `m` a PCIe function in D3hot (R427)? -/
def Block.asleep (b : Block) (m : Master) : Bool :=
  match m with | .pf0 => b.host.pf0D3 | .pf1 => b.host.pf1D3 | _ => false

/-- Is `m` a PCIe function cut off by `PERST_N` (R463), or by a link that is down (R460)? Its accesses do not arrive. -/
def Block.cutOff (b : Block) (m : Master) : Bool :=
  match m with | .pf0 | .pf1 => b.rdB RST_STAT 3 || b.host.linkDown | _ => false

/-- The registers that PF1 may write (R426): read selections that it has a copy of. -/
def pf1Writable (off : Nat) : Bool :=
  off == DBK_RSEL || off == DBK_RCTL || (List.range 4).any fun s => off == ASY_SEL s || off == ASY_RG_SEL s

/-- The registers that the SMBus target may write (R447). -/
def smbWritable (off : Nat) : Bool :=
  off / 0x1000 * 0x1000 == P_SMB || off / 0x1000 * 0x1000 == P_MBX || off == DBK_RSEL || off == DBK_RCTL

/-- May master `m`, which reaches `off`, not write it? -/
def barred (m : Master) (off : Nat) : Bool :=
  match m with
  | .pf1 => !pf1Writable off
  | .smbus => !smbWritable off
  | _ => false

/-- How a register write ended: it reached its register and acted or not; or it found no register, a domain that is down,
or a register that its master may not write; or it never arrived. -/
inductive WrAns where
  | done (acted : Bool)
  | unmapped
  | down
  | barred
  | lost
  deriving DecidableEq, Repr

/-- The path of every register write: `PERST_N`, PCIe power state (R427), what PF1 may write at all (R426), reach (R438),
power domain (R440), what SMBus may write (R447), then the register's own effect, which also answers whether the write
acted on a field (R437). -/
def Block.writeAt (b : Block) (m : Master) (off : Nat) (eff : Block → Block × Bool) : Block × WrAns :=
  if b.cutOff m then (b, .lost)
  else if b.asleep m then (b.send (.unsupported m), .lost)
  else if m = .pf1 ∧ barred m off then (b, .barred)
  else match b.reach m off with
    | .unmapped => (b.unmapped m off true, .unmapped)
    | .down => (b.domainDown m off true, .down)
    | .ok =>
      if barred m off then (b, .barred)
      else let (b', a) := eff b; (b'.counted off a, .done a)

/-- A register write whose end only the state shows. -/
def Block.gate (b : Block) (m : Master) (off : Nat) (eff : Block → Block × Bool) : Block := (b.writeAt m off eff).1

/-- A write by the access codes of R11: the bits of each code of the register's row. -/
def plainWrite (r : RegRow) (locked : Bool) (old v : Word) : Word × Bool :=
  let rw : Word := wd (if locked then r.rw else r.rw ||| r.rwl)
  let n := (old &&& ~~~rw) ||| (v &&& rw)
  let n := n &&& ~~~(v &&& wd r.w1c)
  let n := n ||| (v &&& wd r.w1s)
  (n, (wd (if locked then r.rw else r.rw ||| r.rwl) ||| wd r.w1c ||| wd r.w1s) != 0)

/-! ## Counter clears -/

/-- The counters of a `CNTCLR` register whose bit is set in `v` are cleared; the write acts when it sets one. -/
def Block.clearSel (b : Block) (v : Word) (sel : List (Nat × List Nat)) : Block × Bool :=
  (b.each sel fun b (i, offs) => if bit v i then b.each offs fun b o => b.wr o 0 else b,
   sel.any fun s => bit v s.1)

end Sys2Proof.Machine
end

