-- ==== Sys2Proof/Machine/Operands.lean ====
section
/-! DEFINITION. The operand forms of descriptors and records: fields of descriptor words (R275, R284 to R294), of start
records (R278), tile records (R183) and masks of their reserved bits (R10). -/

namespace Sys2Proof.Machine

/-! ## Descriptors -/

/-- Field `[lo + w - 1 : lo]` of word `i` of a descriptor. -/
def dF (d : Desc) (i lo w : Nat) : Nat := fld (d.word i) lo w
/-- Bit `k` of word `i` of a descriptor. -/
def dB (d : Desc) (i k : Nat) : Bool := bit (d.word i) k
/-- A 40-bit module address split over words `i` and `i + 1` (R274). -/
def dAddr (d : Desc) (i : Nat) : Nat := (d.word i).toNat + dF d (i + 1) 0 8 * 2 ^ 32
def dOp (d : Desc) : Nat := dF d 0 0 8
def dTgt (d : Desc) : Nat := dF d 0 8 3
def dSig (d : Desc) : Bool := dB d 0 11
def dCtr (d : Desc) : Nat := dF d 0 12 4

/-- Are all bits outside the masks of defined bits 0? Word `i` beyond the list has no defined bits (R10). -/
def reservedZero (d : Desc) (masks : List Nat) : Bool :=
  (List.range 16).all fun i =>
    let m := if i = 0 then 0xFFFF else masks.getD (i - 1) 0
    (d.word i).toNat &&& (0xFFFFFFFF ^^^ m) == 0

/-- Defined bits of a word pair that holds a 40-bit address. -/
def mLo : Nat := 0xFFFFFFFF
def mHi : Nat := 0xFF

/-! ## Tile records (R183) -/

def tW (r : List Word) (i : Nat) : Word := r.getD i 0
def tBase (r : List Word) : Nat := fld (tW r 0) 0 17 * 64
def tFmt (r : List Word) : Nat := fld (tW r 0) 17 2
def tOp (r : List Word) : Nat := fld (tW r 0) 19 3
def tChin (r : List Word) : Bool := bit (tW r 0) 22
def tSid (r : List Word) : Nat := fld (tW r 0) 24 8
def tRows (r : List Word) : Nat := fld (tW r 1) 0 10
def tCols (r : List Word) : Nat := fld (tW r 1) 10 13
def tNcon (r : List Word) : Nat := fld (tW r 2) 0 16
def tTag (r : List Word) : Nat := fld (tW r 2) 16 14
def tIbase (r : List Word) : Nat := (tW r 3).toNat
def tCbase (r : List Word) : Nat := fld (tW r 4) 0 17 * 64

/-- Bytes of a value of a format (R166). -/
def valBytes (fmt : Nat) : Nat := if fmt = 0 then 5 else if fmt = 1 then 4 else 3
/-- Is an operation an index operation (R184)? -/
def isIndexOp (op : Nat) : Bool := 3 ≤ op && op ≤ 6
/-- Bytes of a storage element (R166). -/
def elemBytes (fmt op : Nat) : Nat := valBytes fmt + (if isIndexOp op then 4 else 0)
/-- Rows of the storage area (R184). -/
def stRows (r : List Word) : Nat := if tOp r = 5 ∨ tOp r = 6 then 1 else tRows r
/-- Columns of the storage area (R184). -/
def stCols (r : List Word) : Nat := if tOp r = 3 ∨ tOp r = 4 then 1 else tCols r
def tEB (r : List Word) : Nat := elemBytes (tFmt r) (tOp r)
/-- Bytes of the storage area. -/
def stBytes (r : List Word) : Nat := stRows r * stCols r * tEB r

def ledSize : Nat := 8388608

/-- Does a record break none of the rules of R185? -/
def recValid (r : List Word) : Bool :=
  !bit (tW r 0) 23 && fld (tW r 1) 23 9 == 0 && fld (tW r 2) 30 2 == 0 && fld (tW r 4) 17 15 == 0
  && tW r 5 == 0 && tW r 6 == 0 && tW r 7 == 0
  && tFmt r != 3 && tOp r != 7
  && decide (1 ≤ tRows r) && decide (tRows r ≤ 512) && decide (1 ≤ tCols r) && decide (tCols r ≤ 4096)
  && !(isIndexOp (tOp r) && tFmt r == 2)
  && !(tNcon r == 0 && !tChin r)
  && decide (tBase r + stBytes r ≤ ledSize)
  && (!tChin r || decide (tCbase r + stBytes r ≤ ledSize))

/-! ## Engine geometry and assignment map entries (R47, R101, R106, R242) -/

def rowsOfEng (e : Nat) : Nat := if e < 64 then 512 else 64
def groupsOf (e : Nat) : Nat := if e < 64 then 8 else 2
def ringsPerRow (e : Nat) : Nat := if e < 64 then 544 else 136
def ringsOf (e : Nat) : Nat := rowsOfEng e * ringsPerRow e
/-- The physical ring index of ring `k` of group `g` in row `r` (R47, R242). -/
def ringIx (e r g k : Nat) : Nat := r * ringsPerRow e + g * 68 + k
/-- The region of (row, group) (R106, R242). -/
def regionAt (e r g : Nat) : Nat := if e < 64 then 8 * (r / 64) + g else 2 * (r / 32) + g

/-- An unlisted map entry: unusable, no line (the reset values of R101). -/
def mapEmpty : Word := 0x07F000C0
def mapGet (m : SMap Word) (i : Nat) : Word := m.get (fun _ => mapEmpty) i
def mapSet (m : SMap Word) (i : Nat) (v : Word) : SMap Word := m.set (fun _ => mapEmpty) i v
def mInput (w : Word) : Nat := fld w 0 6
def mRole (w : Word) : Nat := fld w 6 2
def mPword (w : Word) : Nat := fld w 8 12
def mLine (w : Word) : Nat := fld w 20 7

def inputKey (r g j : Nat) : Nat := 512 * r + 64 * g + j
def sectKey (r g : Nat) : Nat := 8 * r + g
/-- `WPARK` of an input that no calibration has measured: −0.99 (R97). -/
def wparkDef : Nat → Int := fun _ => -16220

/-! ## Address spans (R274, R420) -/

/-- The span of `rows` rows of `n` bytes with a stride from `a`. -/
def spanOf (rows n stride : Nat) : Nat := if rows = 0 then 0 else (rows - 1) * stride + n

/-- How an operand's address span is answered: none, a reserved address (reason 4 of R277), or one beyond the capacity
(reason 5 of R236 and R266, an access fault). Frame-program SRAM is no operand (R274). -/
inductive SpanErr where
  | reserved | beyond (a : Nat)

def opSpan (gr : Config.Grade) (a n : Nat) : Option SpanErr :=
  match mspan gr a n with
  | .hbm | .vsram => none
  | .beyond => some (.beyond (if mspace gr a = .beyond then a else gr.bytes))
  | _ => some .reserved

/-- The first span of a list that is in error. -/
def firstSpanErr (gr : Config.Grade) (l : List (Nat × Nat)) : Option SpanErr := l.findSome? fun (a, n) => opSpan gr a n

/-! ## Start records (R278) -/

/-- The start record of eight words, none when a field is out of range or a reserved bit is set (R279). -/
def startOf (w : List Word) : Option Start :=
  let g (i : Nat) : Word := w.getD i 0
  let paddr := (g 3).toNat
  let plen := (g 4).toNat
  let ncand := (g 6).toNat
  if paddr < 2 ^ 22 ∧ paddr % 64 = 0 ∧ plen < 2 ^ 22 ∧ 0 < plen ∧ plen % 64 = 0 ∧ paddr + plen ≤ 0x400000
      ∧ 1 ≤ ncand ∧ ncand ≤ 64 ∧ g 7 = 0 then
    some { frame := g 0, seed := (g 2) ++ (g 1), paddr := paddr, plen := plen, pbase := (g 5).toNat, ncand := ncand }
  else none

end Sys2Proof.Machine
end

