-- ==== Sys2Proof/Machine/Flags.lean ====
section
/-! DEFINITION. The frame's flags and its bookkeeping: issue, rejection and completion of descriptors (R20, R275 to R282,
R300). -/

namespace Sys2Proof.Machine

/-- A descriptor's completion point reached (R282): its entry waits for DESCRIPTOR_COMPLETE. -/
def Block.reached (b : Block) (idx : Nat) : Block :=
  b.updFrm fun f => { f with infl := f.infl.map fun i => if i.idx = idx then { i with reached := true } else i }

/-- Every descriptor of a list reached. -/
def Block.reachedAll (b : Block) (is : List Nat) : Block := b.each is Block.reached

/-- A rejection (R277): REJ and TAINTED, the first rejection's index and reason, the sequencer's counters, event 0x4501;
the descriptor then counts as complete. `tgt` 4 and above is the module sequencer. -/
def Block.reject (b : Block) (idx tgt reason : Nat) : Block :=
  let b := b.updFrm fun f =>
    { f with
      flags := f.flags ||| fTAINTED, rej := true, nrej := min (f.nrej + 1) 255,
      ridx := if f.rej then f.ridx else idx, rreason := if f.rej then f.rreason else reason }
  let last := wd (idx % 2 ^ 17 + reason * 2 ^ 24)
  let b := if tgt < 4 then ((b.bump (SEQ_REJCNT tgt)).wr (SEQ_LASTREJ tgt) last).raise (P_SEQ tgt) 0
    else ((b.bump MSQ_REJCNT).wr MSQ_LASTREJ last).raise P_MSQ 1
  (b.ev 0x4501 (min tgt 4) [(3, idx), (1, reason)]).reached idx

/-- Is issue on sequencer `tgt` stopped by a fence (R282)? -/
def Frame.fenced (f : Frame) (tgt : Nat) : Bool := f.fences.any fun w => w.tgt == tgt

/-! ## Fetching and issue (R273, R276, R281) -/

/-- The frame program has ended: fetching stops and the frame waits for every descriptor (R283, R277 reason 13). -/
def Block.endIssue (b : Block) : Block := b.updFrm fun f => { f with ended := true, byEnd := true }

/-- The opcodes of R276. -/
def opcodes : List Nat :=
  [0x01, 0x02, 0x03, 0x10, 0x11, 0x12, 0x13, 0x18, 0x19, 0x1A, 0x20, 0x21, 0x28, 0x30, 0x38, 0x39]

/-- Opcodes of the descriptors that can reach HBM: DFILL, DSCORE, DVALUE, RDBK, MINT, MINTX, VOP, HBM, VSEND, VRECV. -/
def hbmOps : List Nat := [0x11, 0x12, 0x13, 0x19, 0x20, 0x21, 0x28, 0x30, 0x38, 0x39]

/-- The descriptor of index `i` as frame-program SRAM holds it (R273). -/
def Block.progDesc (b : Block) (f : Frame) (i : Nat) : Desc :=
  ⟨(List.range 16).map fun k => b.rd32 (fpBase + f.sr.paddr + 64 * i + 4 * k)⟩

/-- Descriptors fetched in index order and handed to the queue of their sequencer (R281), at most `n`: until the module
sequencer has one that it has not issued, a stack's queue of 64 is full, or the program has ended (assumption 99). -/
def Frame.fetch (prog : Frame → Nat → Desc) : Nat → Frame → Frame
  | 0, f => f
  | n + 1, f =>
    if f.stopped || f.ended || f.queue.any (fun q => q.tgt == 4) then f
    else if f.sr.plen ≤ 64 * f.pc then { f with queue := f.queue ++ [⟨4, f.pc, ⟨[]⟩⟩] }
    else
      let d := prog f f.pc
      let t := min (dTgt d) 4
      if t < 4 ∧ 64 ≤ (f.queue.filter fun q => q.tgt == t).length then f
      else Frame.fetch prog n { f with queue := f.queue ++ [⟨t, f.pc, d⟩], pc := f.pc + 1 }

/-- The module sequencer fetches what it can: four queues of 64 entries and one descriptor of its own. -/
def Block.fetch (b : Block) : Block := b.updFrm (Frame.fetch b.progDesc 257)

/-- The descriptor that sequencer `t` issues next. -/
def Frame.next (f : Frame) (t : Nat) : Option SeqEnt := f.queue.find? fun q => q.tgt == t

/-- The sequencer that issues descriptor `d` of index `idx`; the module sequencer finds the end of the program. -/
def Frame.seqOf (f : Frame) (idx : Nat) (d : Desc) : Nat := if f.sr.plen ≤ 64 * idx then 4 else min (dTgt d) 4

/-- Does the frame issue descriptor `d` of index `idx` now (R281, R282): issue has not stopped, the sequencer's queue has
that descriptor at its head, and no fence holds the sequencer? -/
def Frame.issues (f : Frame) (idx : Nat) (d : Desc) : Bool :=
  !f.stopped && !f.fenced (f.seqOf idx d) && match f.next (f.seqOf idx d) with
  | some q => q.idx == idx && (q.d == d || decide (f.sr.plen ≤ 64 * idx))
  | none => false

/-- The common path of a descriptor of opcode `op` (R275 to R277). Nothing happens unless the running frame issues this
descriptor now and `op` is its opcode; a reserved opcode and the end of the program show under any command. It is then
rejected when it lies past the program (13), has a reserved opcode or a target not allowed (1), or a non-zero reserved
bit (2); otherwise `f` is its effect. A MINTX completes with its MINT (R288). While a REHASH runs, descriptors that can
reach HBM wait (R415). -/
def Block.descr (b : Block) (idx : Nat) (d : Desc) (op : Nat) (stackTgt : Bool) (masks : List Nat)
    (f : Block → Block) : Block :=
  match b.frm with
  | none => b
  | some fr =>
    let tgt := dTgt d
    let past := decide (fr.sr.plen ≤ 64 * idx)
    if !fr.issues idx d || b.host.rehash.isSome && hbmOps.contains op
        || !past && dOp d != op && opcodes.contains (dOp d) then b else
    let pair := if op = 0x21 then fr.mint else none
    let id := match pair with | some j => j.idx | none => idx
    let b := b.updFrm fun f =>
      { f with
        queue := f.queue.filter fun q => q.idx != idx, lastIdx := idx, mint := if op = 0x21 then none else f.mint,
        infl := if past || pair.isSome then f.infl else f.infl ++ [⟨idx, min tgt 4, dSig d, dCtr d, false⟩] }
    let b := b.when (!past && tgt < 4) fun b => b.bump (SEQ_ISSUED tgt)
    Block.fetch <|
      if past then (b.reject idx 4 13).endIssue
      else if dOp d ≠ op then b.reject idx (min tgt 4) 1
      else if op ≠ 2 ∧ (stackTgt ∧ 4 ≤ tgt ∨ ¬ stackTgt ∧ tgt ≠ 4) then b.reject idx (min tgt 4) 1
      else if op = 2 ∧ 5 ≤ tgt then b.reject idx 4 1
      else if !reservedZero d masks then b.reject id (min tgt 4) 2
      else f b

/-- The stack's seed for stochastic rounding (R171). -/
def Block.seed (b : Block) (s : Nat) : BitVec 64 := (b.rd (SEQ_SEED_HI s)) ++ (b.rd (SEQ_SEED_LO s))

/-- The position base of the frame in progress (R295). -/
def Block.pbase (b : Block) : Nat := match b.frm with | some f => f.sr.pbase | none => 0

/-- Engine `e` contributes to the frame in progress (R301), with an overrun of its loops in the frame (R143). -/
def Block.contributes (b : Block) (e : Nat) : Block :=
  let b := b.updFrm fun f => { f with engines := if f.engines.contains e then f.engines else f.engines ++ [e] }
  b.when (b.eng e).ovr fun b => b.flag fOVERRUN

/-- Pause symbols before a pass of `n` symbols on stack `s` (R488, R296). -/
def Block.pause (b : Block) (s n : Nat) : Block :=
  let lv := b.rdF THM_STAT 0 3
  let duty := if lv = 2 then b.rdF THM_THROT 0 8 else b.rdF THM_THROT 8 8
  if lv = 2 ∨ lv = 3 then b.bump (SEQ_PAUSECNT s) ((n * (256 - duty) + duty - 1) / duty) else b

end Sys2Proof.Machine
end

