-- ==== Sys2Proof/Machine/Log.lean ====
section
/-! DEFINITION. What ends every command: its events are entered in the Daybook (R534 to R538), and the MSI-X vectors
whose condition has become true are signalled (R428, R429). `State.run` is the frame every meaning stands in. -/

namespace Sys2Proof.Machine

/-- Events by code: severity and rate limit per second, 0 for none; part 0 of the event tables of the chapters (R541). -/
def evTable0 : List (Nat × Nat × Nat) := [
  (0x3A01, 4, 10),
  (0x3A02, 5, 10),
  (0x3A03, 5, 10),
  (0x3A04, 6, 0),
  (0x3A05, 6, 1),
  (0x3A06, 2, 10),
  (0x3B01, 2, 0),
  (0x3B02, 5, 0),
  (0x3B03, 3, 0),
  (0x3B04, 4, 0),
  (0x3B05, 5, 0),
  (0x3C01, 4, 1),
  (0x3D01, 4, 1),
  (0x3D02, 2, 0),
  (0x3D03, 4, 0),
  (0x3D04, 3, 0),
  (0x3D05, 3, 0),
  (0x3D06, 1, 1),
  (0x4101, 3, 10),
  (0x4102, 4, 0),
  (0x4103, 4, 10),
  (0x4104, 5, 0),
  (0x4105, 1, 1),
  (0x4106, 6, 0),
  (0x4201, 5, 10),
  (0x4202, 5, 10),
  (0x4203, 3, 10),
  (0x4204, 3, 0),
  (0x4205, 5, 0),
  (0x4301, 3, 10),
  (0x4302, 4, 10),
  (0x4303, 5, 10),
  (0x4304, 3, 0),
  (0x4401, 5, 10),
  (0x4402, 4, 0),
  (0x4403, 3, 10),
  (0x4404, 2, 0),
  (0x4501, 5, 10),
  (0x4502, 6, 0),
  (0x4503, 6, 0)]

/-- Events by code: severity and rate limit per second, 0 for none; part 1 of the event tables of the chapters (R541). -/
def evTable1 : List (Nat × Nat × Nat) := [
  (0x4504, 4, 10),
  (0x4505, 4, 10),
  (0x4506, 5, 0),
  (0x4507, 3, 10),
  (0x4601, 5, 10),
  (0x4602, 4, 10),
  (0x4701, 2, 10),
  (0x4702, 3, 10),
  (0x4703, 5, 10),
  (0x4704, 4, 0),
  (0x4705, 5, 0),
  (0x4706, 3, 0),
  (0x4707, 1, 1),
  (0x4708, 3, 10),
  (0x4709, 5, 1),
  (0x470A, 4, 0),
  (0x4801, 1, 1),
  (0x4802, 6, 0),
  (0x4803, 4, 0),
  (0x4804, 2, 0),
  (0x4805, 5, 0),
  (0x5001, 4, 10),
  (0x5002, 5, 0),
  (0x5003, 6, 0),
  (0x5004, 3, 0),
  (0x5005, 5, 0),
  (0x5006, 4, 0),
  (0x5102, 4, 10),
  (0x5103, 5, 10),
  (0x5104, 5, 0),
  (0x5105, 4, 10),
  (0x5106, 3, 10),
  (0x5201, 5, 10),
  (0x5202, 4, 0),
  (0x5203, 6, 0),
  (0x5204, 4, 0),
  (0x6001, 4, 1),
  (0x6002, 1, 1),
  (0x6003, 6, 0),
  (0x6004, 4, 10)]

/-- Events by code: severity and rate limit per second, 0 for none; part 2 of the event tables of the chapters (R541). -/
def evTable2 : List (Nat × Nat × Nat) := [
  (0x6101, 4, 10),
  (0x6102, 3, 10),
  (0x6103, 3, 10),
  (0x6104, 4, 10),
  (0x6105, 3, 0),
  (0x6201, 3, 10),
  (0x6202, 4, 10),
  (0x6301, 3, 10),
  (0x6302, 3, 10),
  (0x7001, 6, 0),
  (0x7002, 4, 0),
  (0x7003, 3, 0),
  (0x7004, 5, 1),
  (0x7005, 7, 0),
  (0x7006, 2, 0),
  (0x7101, 5, 1),
  (0x7102, 4, 1),
  (0x7103, 4, 0),
  (0x7104, 6, 10),
  (0x7201, 5, 0),
  (0x7202, 5, 0),
  (0x7203, 6, 0),
  (0x7301, 6, 0),
  (0x7302, 5, 0),
  (0x7303, 5, 0),
  (0x8001, 4, 0),
  (0x8002, 5, 0),
  (0x8003, 6, 0),
  (0x8004, 7, 0),
  (0x8005, 3, 0),
  (0x8006, 4, 1),
  (0x8007, 4, 1),
  (0x8101, 5, 1),
  (0x8102, 3, 10),
  (0x8103, 3, 1),
  (0x8201, 6, 0),
  (0x8202, 7, 0),
  (0x8203, 5, 0),
  (0x8204, 6, 0),
  (0x8205, 6, 0)]

/-- Events by code: severity and rate limit per second, 0 for none; part 3 of the event tables of the chapters (R541). -/
def evTable3 : List (Nat × Nat × Nat) := [
  (0x9001, 3, 0),
  (0x9002, 6, 0),
  (0x9003, 4, 0),
  (0x9004, 5, 0),
  (0x9005, 4, 10),
  (0x9006, 7, 0),
  (0x9007, 3, 0),
  (0x9008, 3, 0),
  (0x9101, 2, 0)]

/-- The severity and rate limit of an event code; host entries share 100 per second (R542). -/
def evInfo (c : Nat) : Nat × Nat :=
  if 0xF000 ≤ c then (0, 100) else
  match (evTable0 ++ evTable1 ++ evTable2 ++ evTable3).find? fun e => e.1 == c with
  | some (_, s, r) => (s, r)
  | none => (0, 0)

/-! ## The Daybook -/

def maxEnts : Nat := 16384

/-- STEADY ticks of 4 ns in one second. -/
def tickHz : Nat := 250000000

/-- The 12 data bytes of an entry from its items in order; items that would pass byte 31 are not recorded (R541). -/
def packData (items : List (Nat × Nat)) : List Byte :=
  let bs := items.foldl (fun acc (n, v) => if acc.length + n ≤ 12 then acc ++ bytesLE n v else acc) []
  bs ++ List.replicate (12 - bs.length) 0

/-- The bucket of a code and instance, full when it has never been used (R536). -/
def Daybook.bucket (d : Daybook) (k rate : Nat) (now : BitVec 64) : Bucket :=
  match d.bks.find? (·.1 == k) with
  | some (_, x) => x
  | none => ⟨rate, now, 0, [], [], 0⟩

/-- A bucket at time `now`: one token gained every 1/`rate` s, at most `rate` held (R536). -/
def Bucket.refill (x : Bucket) (rate : Nat) (now : BitVec 64) : Bucket :=
  let n := (now - x.stamp).toNat * rate / tickHz
  if rate ≤ x.tokens + n then { x with tokens := rate, stamp := now }
  else { x with tokens := x.tokens + n, stamp := x.stamp + BitVec.ofNat 64 (n * tickHz / rate) }

def Daybook.setBucket (d : Daybook) (k : Nat) (x : Bucket) : Daybook :=
  { d with bks := (k, x) :: d.bks.filter (·.1 != k) }

/-- The entry removed to make room for one of severity `sev`: among those of severity `sev` or lower, the oldest
(lowest `SEQ`, R538). -/
def victim (ents : List LogEnt) (sev : Nat) : Option LogEnt := ents.find? fun e => e.sev ≤ sev

/-- An entry placed in the Daybook (R534, R538), with what it does to the `DBK` page: replaced and dropped entries are
counted, and `ENTRY` and `DROP` raised. -/
def enter (d : Daybook) (b : Block) (mk : BitVec 32 → LogEnt) : Daybook × Block :=
  let e := mk d.next
  let logged (d : Daybook) (b : Block) : Daybook × Block :=
    ({ d with ents := d.ents ++ [e], next := d.next + 1 },
     b.when (b.rdF DBK_IRQSEV 0 3 ≤ e.sev) fun b => b.raise P_DBK 0)
  if d.ents.length < maxEnts then logged d b
  else match victim d.ents e.sev with
    | some v => logged { d with ents := d.ents.erase v } (b.bump DBK_OVWCNT)
    | none => (d, ((b.bump DBK_DROPCNT).setB DBK_DROPSEV e.sev).raise P_DBK 1)

/-- Events whose last item is the count of occurrences since the last entry, the other items being those of the first of
these occurrences (R162, R345). -/
def sinceLast (c : Nat) : Bool := c == 0x3D01 || c == 0x4707

/-- One event logged or suppressed by its rate limit (R536). -/
def logEv (d : Daybook) (b : Block) (v : Ev) : Daybook × Block :=
  let (sev0, rate) := evInfo v.code
  let sev := v.sev.getD sev0
  let data := packData v.data
  let frame := v.frame.getD b.frameId
  let mk (supp : Nat) (q : BitVec 32) : LogEnt :=
    ⟨q, BitVec.ofNat 16 v.code, sev % 8, false, 0, v.inst, b.aon, min supp 65535, frame, data⟩
  if rate = 0 then enter d b fun q => { mk 0 q with inst := 0 } else
  let k := (if 0xF000 ≤ v.code then 0xF000 else v.code) * 256 + v.inst
  let x := (d.bucket k rate b.up).refill rate b.up
  if x.tokens = 0 then
    (d.setBucket k { x with supp := x.supp + 1, last := data, lastFrame := frame,
                            first := if x.supp = 0 then v.data else x.first }, b.bump DBK_SUPPCNT)
  else
    let data := if sinceLast v.code then packData ((if x.supp = 0 then v.data else x.first) ++ [(4, x.supp + 1)]) else data
    enter (d.setBucket k { x with tokens := x.tokens - 1, supp := 0 }) b
      fun q => { mk x.supp q with data := data }

/-- An event placed behind those of the same or a lower code. -/
def evInsert (v : Ev) : List Ev → List Ev
  | [] => [v]
  | w :: ws => if v.code < w.code then v :: w :: ws else w :: evInsert v ws

/-- Every event of a list logged; events of one command meet in the same cycle and are entered in the order of their
codes, lower first (R543). -/
def logAll (d : Daybook) (b : Block) (evs : List Ev) : Daybook × Block :=
  (evs.foldl (fun l v => evInsert v l) []).foldl (fun (d, b) v => logEv d b v) (d, b)

/-! ## Interrupts (R428, R429) -/

/-- The vectors that a page's interrupt output drives (R428): page kind, instance, unmasked interrupt bits. -/
def vectorsOf (k : PageKind) (i live : Nat) : List Nat :=
  match k with
  | .glb =>
    (if live &&& 0x21 ≠ 0 then [0] else []) ++ ((List.range 4).filter fun c => live.testBit (1 + c)).map (54 + ·)
  | .id_ | .pwr | .clk | .rst | .mbx => [0]
  | .thm => [1] | .hk => [2] | .lco => [3] | .vlt => [4] | .dbk => [5] | .smb => [6] | .hbm => [7]
  | .seq | .ldg | .tly => [16 + i]
  | .ce | .plt | .htr => [20 + i]
  | .asy => [24 + i]
  | .eng => [28 + i / 4]
  | .den => [44 + (i - 64) / 2]
  | .lck | .lckd | .trm | .trmd | .asg => if i < 64 then [28 + i / 4] else [44 + (i - 64) / 2]
  | .mnt => [48] | .vec => [49] | .msq => [50] | .lnk => [51] | .vyv => [52] | .rol => [53]

/-- The unmasked interrupt bits of the page at base `p`: its output is asserted when there is one (R428). -/
def Block.live (b : Block) (p : Nat) : Nat :=
  if b.rdB (PG_CTRL p) 0 then ((b.rd (PG_ISTAT p)) &&& ~~~(b.rd (PG_IMASK p))).toNat else 0

/-- Mailbox channel `c`: sender, receiver, and whether it is in use (R441, R442). -/
def Block.bind (b : Block) (c : Nat) : Nat × Nat × Bool :=
  let w := b.rd (MBX_BIND c)
  let snd := fld w 0 4
  let rcv := fld w 4 4
  (snd, rcv, b.rdB (PG_LOCK P_MBX) 0 && bit w 8 && snd != rcv && decide (snd < 10) && decide (rcv < 10))

/-- Doorbells: channels whose queue holds a message (R441). -/
def Block.doorbells (b : Block) : Nat := b.host.mbx.foldl (fun a (c, q) => if q.queue.isEmpty then a else a ||| 2 ^ c) 0

/-- The conditions of the 64 vectors (R429): the OR of the sources of each. -/
def Block.conditions (b : Block) : List Nat :=
  let pages := b.regs.flatMap fun (o, _) =>
    if o % 0x1000 = 0x10 then
      match pageAt o with
      | some (k, i) => let l := b.live (o - 0x10); if l = 0 then [] else vectorsOf k i l
      | none => []
    else []
  let bell := (List.range 32).flatMap fun c =>
    if b.doorbells.testBit c && !(b.rdB MBX_DBMASK c) && (b.bind c).2.1 == 0 then [8 + c / 4] else []
  pages ++ bell

/-- An armed vector whose condition is true sends its message, or sets its pending bit while masked, and disarms
(R429). While PF0 is in D3hot (R427), `PERST_N` is asserted or the link is down (R460) nothing is sent and the vector
stays armed. -/
def Block.signal (b : Block) (v : Nat) : Block :=
  if b.host.pf0D3 || b.cutOff .pf0 || !b.host.armed.getLsbD v || !b.domUp .control then b else
  let b := { b with host := { b.host with armed := b.host.armed &&& ~~~(1#64 <<< v) } }
  if b.rdB (GLB_MSIX_CTL v) 0 then { b with host := { b.host with pend := b.host.pend ||| (1#64 <<< v) } }
  else b.send (.msix v ((b.rd (GLB_MSIX_ADDR_HI v)).toNat * 2 ^ 32 + (b.rd (GLB_MSIX_ADDR_LO v)).toNat)
    (b.rd (GLB_MSIX_DATA v)).toNat)

/-- Every vector whose condition is true, signalled. -/
def Block.signalAll (b : Block) : Block := b.each b.conditions Block.signal

/-! ## The frame of a command -/

/-- The events of the block entered in the Daybook and the vectors signalled. -/
def settle (d : Daybook) (b : Block) : Daybook × Block :=
  let (d, b') := logAll d { b with evs := [] } b.evs
  (d, b'.signalAll)

/-- The block as a command finds it: nothing sent yet, no event raised yet. -/
def Block.fresh (b : Block) : Block := { b with out := [], evs := [] }

/-- A command's effect `f` on the block, its outputs starting afresh, then its events and interrupts. The queue is not
touched. -/
def State.run (s : State) (f : Block → Block) : State :=
  let (d, b) := settle s.log (f s.b.fresh)
  { s with log := d, b := b }

/-- The outcome of a command that completes. -/
abbrev Res := Host.Outcome State Fault Refusal

/-- A command that completes with effect `f`. -/
def State.done (s : State) (f : Block → Block) : Res := .next (s.run f)

end Sys2Proof.Machine
end

