-- ==== Sys2Proof/Machine/Tally.lean ====
section
/-! DEFINITION. Accumulation: tile slots and their records, the tally tree, contributions, running sums, tally hops and
readback (R166 to R205, R291, R292). -/

namespace Sys2Proof.Machine

/-! ## Slots and elements -/

def Stk.tile (k : Stk) (slot : Nat) : Tile := k.tiles.get (fun _ => Tile.reset) slot
def Block.tile (b : Block) (s slot : Nat) : Tile := (b.stk s).tile slot
def Block.updTile (b : Block) (s slot : Nat) (f : Tile → Tile) : Block :=
  b.updStk s fun k => { k with tiles := k.tiles.upd (fun _ => Tile.reset) slot f }

/-- Numeric order of binary32 encodings other than NaN: +0 equals −0 (R184). -/
def f32key (w : Word) : Int := let m : Int := fld w 0 31; if bit w 31 then -m else m

/-- The empty value of an operation and format, as the raw value bytes read little-endian (R184). -/
def emptyVal (fmt op : Nat) : Nat :=
  let mx := op = 1 ∨ op = 3 ∨ op = 5
  if op = 0 then 0
  else if fmt = 0 then (if mx then unsx 40 (-(2 ^ 39)) else 2 ^ 39 - 1)
  else
    let w := if mx then negInf else posInf
    if fmt = 1 then w.toNat else fld w 8 24

/-- The bytes of an empty element (R184): the value, then index `0xFFFF_FFFF` in an index tile. -/
def emptyElem (fmt op : Nat) : List Byte :=
  bytesLE (valBytes fmt) (emptyVal fmt op) ++ (if isIndexOp op then bytesLE 4 0xFFFFFFFF else [])

/-- The Ledger byte address of storage element (`r`, `c`) of an area at `base` (R182). -/
def elemAddr (tr : List Word) (base r c : Nat) : Nat := base + (r * stCols tr + c) * tEB tr

/-- The raw value of the element at Ledger address `a`. -/
def Block.ledVal (b : Block) (s a fmt : Nat) : Nat := ofBytesLE (b.rdLed s a (valBytes fmt))

/-- A raw float value of a tile as binary32: an L24 value widens exactly (R166). -/
def widen (fmt raw : Nat) : Word := if fmt = 2 then wd (raw * 256) else wd raw

/-- A binary32 value of L24 or L32 precision as raw tile bytes. -/
def narrow (fmt : Nat) (w : Word) : Nat := if fmt = 2 then fld w 8 24 else w.toNat

/-! ## Records (R183, R185, R187) -/

/-- A record taken by a slot: checked (R185), then FILLING, or ERR with event 0x4104 and TAINTED for the frame. -/
def Block.takeRecord (b : Block) (s slot : Nat) (tr : List Word) (idx : Option Nat) : Block :=
  let b := b.updTile s slot fun _ => { Tile.reset with trec := tr, recIdx := idx }
  if recValid tr then b.updTile s slot fun t => { t with st := .filling }
  else
    let b := b.updTile s slot fun t => { t with st := .err, recIdx := none }
    let b := ((b.ev 0x4104 s [(2, slot), (4, (tW tr 0).toNat)]).raise (P_LDG s) 3).flag fTAINTED
    match idx with | some i => b.reached i | none => b

/-- A record written to a slot: at once when the slot is EMPTY, CLOSED or ERR, otherwise it waits for CLOSED (R193). -/
def Block.writeRecord (b : Block) (s slot : Nat) (idx : Option Nat) (tr : List Word) : Block :=
  match (b.tile s slot).st with
  | .filling | .opn | .wait => b.updStk s fun k => { k with trecQ := k.trecQ ++ [(slot, idx, tr)] }
  | _ => b.takeRecord s slot tr idx

/-! ## Readback (R191, R291) -/

/-- The scale of an identifier in the table in force, as its exact value (R178). -/
def Block.scaleOf (b : Block) (s sid : Nat) : Fr := f32D (b.rd (TLY_SCALE s sid))

/-- One element of a closed tile under a readback conversion (R191): 0 RAW, 1 I64, 2 F32. -/
def Block.rdElem (b : Block) (s : Nat) (t : Tile) (conv r c : Nat) : List Byte :=
  let fmt := tFmt t.trec
  let a := elemAddr t.trec (tBase t.trec) r c
  if conv = 0 then b.rdLed s a (tEB t.trec) else
  let raw := b.ledVal s a fmt
  let v : List Byte :=
    if conv = 1 then bytesLE 8 (unsx 64 (sext 40 raw))
    else if fmt = 0 then
      bytesLE 4 (srRound ((Fr.ofInt (sext 40 raw)).mul (b.scaleOf s (tSid t.trec))) 23 (b.seed s)
        (srCounter (tTag t.trec) r c 33 0)).toNat
    else bytesLE 4 (widen fmt raw).toNat
  v ++ (if isIndexOp (tOp t.trec) then b.rdLed s (a + valBytes fmt) 4 else [])

/-- Element size at the destination of a readback. -/
def rdSize (tr : List Word) (conv : Nat) : Nat :=
  if conv = 0 then tEB tr else (if conv = 1 then 8 else 4) + (if isIndexOp (tOp tr) then 4 else 0)

/-- A readback of a closed tile carried out: columns in order, rows ascending in each, to the destination (R291). -/
def Block.doReadback (b : Block) (s : Nat) (q : Rdbk) : Block :=
  let t := b.tile s q.slot
  let n := if q.ncol = 0 then stCols t.trec - q.c0 else q.ncol
  if (q.conv = 1 ∧ tFmt t.trec ≠ 0) ∨ stCols t.trec < q.c0 + n then b.reject q.idx s 3 else
  let bs := (List.range n).flatMap fun c => (List.range (stRows t.trec)).flatMap fun r =>
    b.rdElem s t q.conv r (q.c0 + c)
  (b.wrBytes q.dst bs).reached q.idx

/-! ## Closing (R187, R190, R192) -/

/-- A tile closes: its waiting readbacks run, its hops take its contents, its flags join the frame's, and a record
that waited for the slot is taken (R187, R190, R193). -/
def Block.closeTile (b : Block) (s slot : Nat) : Block :=
  let b := b.updTile s slot fun t => { t with st := .closed }
  let t := b.tile s slot
  let b := b.flag t.flags
  let k := b.stk s
  let mine := k.rdbkQ.filter fun q => q.slot == slot
  let b := b.updStk s fun k => { k with rdbkQ := k.rdbkQ.filter fun q => q.slot != slot }
  let b := b.each mine fun b q => b.doReadback s q
  let data := b.rdLed s (tBase t.trec) (stBytes t.trec)
  let b := b.updStk s fun k =>
    { k with hopQ := k.hopQ.map fun h =>
        if h.slot = slot ∧ h.ready.isNone then { h with ready := some (t.trec, data, t.flags) } else h }
  match k.trecQ.find? fun x => x.1 == slot with
  | some (_, idx, tr) =>
    let b := b.updStk s fun k => { k with trecQ := k.trecQ.erase (slot, idx, tr) }
    b.takeRecord s slot tr idx
  | none => b

/-- Flags added to a tile and to the frame (R190). -/
def Block.tileFlags (b : Block) (s slot f : Nat) : Block :=
  (b.updTile s slot fun t => { t with flags := t.flags ||| f }).flag f

/-! ## Accumulation (R184, R188, R189) -/

/-- An I40 accumulation that clamped, whatever the operation: SAT of the tile and frame, counted and logged once for the tile (R189). -/
def Block.saturated (b : Block) (s slot row col : Nat) : Block :=
  let t := b.tile s slot
  let b := b.tileFlags s slot fSAT
  if t.sat then b else
  let b := b.updTile s slot fun t => { t with sat := true }
  let b := (b.setB (LDG_SATLIVE s (slot / 32)) (slot % 32)).bump (LDG_SATCNT s)
  (b.raise (P_LDG s) 0).ev 0x4101 s [(2, slot), (2, tTag t.trec), (2, row), (2, col)]

/-- Does a candidate (value key, index) replace the stored pair of an index tile (R184)? -/
def replaces (mx : Bool) (v : Int) (i : Nat) (tv : Int) (ti : Nat) : Bool :=
  (if mx then decide (tv < v) else decide (v < tv)) || (v == tv && decide (i < ti))

/-- One value applied to the element it belongs to: contribution row `r` (a tile row) and tile column `c`, integer value
`iv` or binary32 value `fv` as the tile's format needs, site and ordinal of the rounding (R184). -/
def Block.applyElem (b : Block) (s slot r c : Nat) (iv : Int) (fv : Word) (site ord : Nat) : Block :=
  let t := b.tile s slot
  let tr := t.trec
  let fmt := tFmt tr
  let op := tOp tr
  if tRows tr ≤ r ∨ (op ≠ 3 ∧ op ≠ 4 ∧ tCols tr ≤ c) then b else
  let sr := if op = 5 ∨ op = 6 then 0 else r
  let sc := if op = 3 ∨ op = 4 then 0 else c
  let a := elemAddr tr (tBase tr) sr sc
  let raw := b.ledVal s a fmt
  let ctr := srCounter (tTag tr) r c site ord
  if isIndexOp op then
    let mx := op = 3 ∨ op = 5
    let i := (tIbase tr + (if op = 3 ∨ op = 4 then c else r)) % 2 ^ 32
    let ti := ofBytesLE (b.rdLed s (a + valBytes fmt) 4)
    let (v, tv) : Int × Int := if fmt = 0 then (sat40 iv, sext 40 raw) else (f32key fv, f32key (widen fmt raw))
    if replaces mx v i tv ti then
      let b := b.wrLed s a (bytesLE (valBytes fmt) (if fmt = 0 then unsx 40 (sat40 iv) else narrow fmt fv) ++ bytesLE 4 i)
      b.when (fmt = 0 ∧ sat40 iv ≠ iv) fun b => b.saturated s slot sr sc
    else b
  else if fmt = 0 then
    let tv := sext 40 raw
    let x : Int := if op = 0 then tv + iv else if op = 1 then max tv iv else min tv iv
    let b := b.wrLed s a (bytesLE 5 (unsx 40 (sat40 x)))
    b.when (sat40 x ≠ x) fun b => b.saturated s slot r c
  else
    let tw := widen fmt raw
    let p := if fmt = 2 then 15 else 23
    let nw : Word :=
      if op = 0 then srRound ((f32D tw).add (f32D fv)) p (b.seed s) ctr
      else
        let v := if fmt = 2 && !isNonFinite fv then srRound (f32D fv) 15 (b.seed s) ctr else fv
        if op = 1 then (if f32key tw < f32key v then v else tw) else (if f32key v < f32key tw then v else tw)
    b.wrLed s a (bytesLE (valBytes fmt) (narrow fmt nw))

/-! ## The tally tree (R175, R176) -/

/-- The children of node `n`, left first (R175). -/
def childrenOf (n : Nat) : Nat × Nat :=
  if n < 24 then (2 * (n - 16), 2 * (n - 16) + 1)
  else if n < 28 then (16 + 2 * (n - 24), 17 + 2 * (n - 24))
  else if n < 30 then (24 + 2 * (n - 28), 25 + 2 * (n - 28))
  else (28, 29)

/-- The leaves under node `n`, `depth` levels above the leaves at most. -/
def leavesOf : Nat → Nat → List Nat
  | 0, n => if n < 16 then [n] else []
  | f + 1, n => if n < 16 then [n] else let (l, r) := childrenOf n; leavesOf f l ++ leavesOf f r

/-- The float tree (R176): the value at node `n` from the leaf values, each step rounded stochastically to L32 at its
own site. `leaf` gives the scaled exact value of a member leaf. -/
def treeF (seed : BitVec 64) (ctr : Nat → BitVec 64) (leaf : Nat → Option Fr) : Nat → Nat → Word
  | 0, n => match leaf n with | some v => srRound v 23 seed (ctr n) | none => 0
  | f + 1, n =>
    if n < 16 then (match leaf n with | some v => srRound v 23 seed (ctr n) | none => 0)
    else
      let (l, r) := childrenOf n
      srRound ((f32D (treeF seed ctr leaf f l)).add (f32D (treeF seed ctr leaf f r))) 23 seed (ctr n)

/-- Could the tree of this contribution form its next column (R179)? Every member has delivered it. -/
def Con.ready (c : Con) : Bool :=
  c.dyn.isNone && decide (c.res.length < c.ncol)
    && (leavesOf 4 c.gnode).all (fun e => !(c.mask.testBit e) || c.mem.any fun m => m.leaf == e)
    && c.mem.all fun m => decide (c.res.length < m.cols.length) && m.sid.isSome

/-- The next column's result (R176): an integer sum when every member has the same identifier, else the operands of the
float tree. -/
def Con.column (c : Con) : ColRes :=
  let k := c.res.length
  let ops := c.mem.map fun m => (m.leaf, m.sid.getD 0, m.cols.getD k [])
  match ops with
  | [] => .int [] 0
  | (_, sid, _) :: _ =>
    if ops.all fun o => o.2.1 == sid then
      .int ((List.range 512).map fun r => (ops.map fun o => o.2.2.getD r 0).foldl (· + ·) 0) sid
    else .float ops

def Block.updCon (b : Block) (s id : Nat) (f : Con → Con) : Block :=
  b.updStk s fun k => { k with cons := k.cons.map fun c => if c.id = id then f c else c }

/-- TREE_COLUMN_RESULT: the tree of group contribution `id` of stack `s` forms its next column (R176, R179); with the
last, the contribution counts in integer or float mode (R204). -/
def treeColumn (s id : Nat) (b : Block) : Block :=
  match (b.stk s).cons.find? fun c => c.id == id with
  | none => b
  | some c =>
    if !c.ready then b else
    let r := c.column
    let b := b.updCon s id fun c => { c with res := c.res ++ [r] }
    if c.res.length + 1 = c.ncol then
      let fl := (c.res ++ [r]).any fun x => match x with | .float _ => true | _ => false
      b.bump (if fl then TLY_CNT_FLT s else TLY_CNT_INT s)
    else b

/-! ## Applying contributions (R177, R188, R193) -/

/-- Are the column results such that the tile must refuse the contribution (R177)? The identifiers are answered. -/
def mixes (tr : List Word) (res : List ColRes) : Option (List Nat) :=
  if tFmt tr ≠ 0 then none else
  res.findSome? fun x => match x with
    | .int _ sid => if sid = tSid tr then none else some [sid]
    | .float ops => some (ops.map fun o => o.2.1)
    | .dyn _ sid _ => if sid = tSid tr then none else some [sid]

/-- The value of row `r` of a column as the tile takes it: integer, and binary32 for float tiles (R177, R181). -/
def Block.colValue (b : Block) (s slot : Nat) (c : Con) (x : ColRes) (r col ord : Nat) : Int × Word :=
  let t := b.tile s slot
  let ctr (site : Nat) := srCounter (tTag t.trec) r col site ord
  match x with
  | .dyn _ _ _ => (0, 0)
  | .int v sid =>
    let i := v.getD r 0
    (i, if tFmt t.trec = 0 then 0 else srRound ((Fr.ofInt i).mul (b.scaleOf s sid)) 23 (b.seed s) (ctr c.gnode))
  | .float ops =>
    let leaf (e : Nat) : Option Fr :=
      (ops.find? fun o => o.1 == e).map fun o => (Fr.ofInt (o.2.2.getD r 0)).mul (b.scaleOf s o.2.1)
    (0, treeF (b.seed s) ctr leaf 4 c.gnode)

/-- Rows that a column result carries. -/
def ColRes.rows : ColRes → Nat
  | .int v _ => v.length
  | .float ops => (ops.map fun o => o.2.2.length).foldl max 0
  | .dyn v _ _ => v.length

/-- A dynamic column applied (R181, R257 to R259): to a float tile each value times the scale of its identifier and
`c_t`, rounded once with the draw of `TAG` `tag` and ordinal `draw`. A `c_t` that is not finite leaves a free value. -/
def Block.applyDyn (b : Block) (s slot d row0 col : Nat) (v : List (Option Int)) (sid : Nat) (c : Word)
    (tag draw ord : Nat) : Block :=
  b.each (v.zip (List.range v.length)) fun b (y, r) =>
    match y with
    | none => b
    | some y =>
      let t := b.tile s slot
      let (fv, b) := if tFmt t.trec = 0 then ((0 : Word), b) else if isNonFinite c then b.freeWord else
        (srRound (((Fr.ofInt y).mul (b.scaleOf s sid)).mul (f32D c)) 23 (b.seed s)
          (srCounter tag (row0 + r) col (34 + d) draw), b)
      b.applyElem s slot (row0 + r) col y fv 31 ord

/-- A whole contribution applied with ordinal `ord` (R184, R188). -/
def Block.applyCon (b : Block) (s : Nat) (c : Con) (ord : Nat) : Block :=
  b.each (c.res.zip (List.range c.res.length)) fun b (x, k) =>
    match x, c.dyn with
    | .dyn v sid f, some (d, row0) =>
      let (tag, draw) := match c.link with
        | .index (some q) => q
        | _ => (tTag (b.tile s c.slot).trec, ord)
      b.applyDyn s c.slot d row0 (c.col0 + k) v sid f tag draw ord
    | _, _ => b.each (List.range x.rows) fun b r =>
      let (iv, fv) := b.colValue s c.slot c x r (c.col0 + k) ord
      b.applyElem s c.slot r (c.col0 + k) iv fv 31 ord

/-- The draw of a score tile's contribution made known to the index tile's (R258, R259). -/
def Block.tellIndex (b : Block) (s : Nat) (c : Con) : Block :=
  match c.link with
  | .score i =>
    let t := b.tile s c.slot
    b.updCon s i fun x => { x with link := .index (some (tTag t.trec, t.nappl)) }
  | _ => b

/-! ## Running sums (R194, R198) -/

/-- Have all storage columns of the running sum arrived, or has its wait ended (R194)? -/
def Tile.rsComplete (t : Tile) : Bool :=
  t.rsEnded || (List.range (stCols t.trec)).all fun c => t.rsCols.contains c

/-- The running sum of a tile applied as contribution `NCON`, then the tile closed (R194, R200). -/
def Block.applyRunning (b : Block) (s slot : Nat) : Block :=
  let t := b.tile s slot
  let tr := t.trec
  let fmt := tFmt tr
  let ord := tNcon tr
  let b := b.each (List.range (stRows tr)) fun b r => b.each (List.range (stCols tr)) fun b c =>
    let a := elemAddr tr (tBase tr) r c
    let ra := elemAddr tr (tCbase tr) r c
    let raw := b.ledVal s ra fmt
    if isIndexOp (tOp tr) then
      let mx := tOp tr = 3 ∨ tOp tr = 5
      let traw := b.ledVal s a fmt
      let key (x : Nat) : Int := if fmt = 0 then sext 40 x else f32key (widen fmt x)
      let i := ofBytesLE (b.rdLed s (ra + valBytes fmt) 4)
      let ti := ofBytesLE (b.rdLed s (a + valBytes fmt) 4)
      if replaces mx (key raw) i (key traw) ti then b.wrLed s a (bytesLE (valBytes fmt) raw ++ bytesLE 4 i) else b
    else b.applyElem s slot r c (sext 40 raw) (widen fmt raw) 32 ord
  let b := b.updTile s slot fun t => { t with nappl := t.nappl + 1 }
  let b := (b.tileFlags s slot t.rsFlags).bump (TLY_HOPRX s)
  b.closeTile s slot

/-- After a contribution: with `NCON` applied the tile closes, or waits for its running sum (R187). -/
def Block.afterCon (b : Block) (s slot : Nat) : Block :=
  let t := b.tile s slot
  if t.nappl < tNcon t.trec then b
  else if !tChin t.trec then b.closeTile s slot
  else if t.rsComplete then b.applyRunning s slot
  else b.updTile s slot fun t => { t with st := .wait }

/-- The contribution next in issue order for a slot (R188). -/
def Stk.nextFor (k : Stk) (slot : Nat) : Option Con :=
  (k.cons.filter fun c => c.slot == slot && c.place.isSome).foldl
    (fun best c => match best with
      | none => some c
      | some x => if c.place.getD 0 < x.place.getD 0 then some c else some x) none

/-- The element of a tile that holds Ledger address `a`, in its storage or its running-sum buffer. -/
def Tile.elemAt (t : Tile) (a : Nat) : Option Nat :=
  let n := stBytes t.trec
  let at_ (base : Nat) : Option Nat :=
    if base ≤ a ∧ a < base + n then some (base + (a - base) / tEB t.trec * tEB t.trec) else none
  (at_ (tBase t.trec)).orElse fun _ => if tChin t.trec then at_ (tCbase t.trec) else none

/-- A corrected ECC error at Ledger address `a` (R193). -/
def Block.ledCe (b : Block) (s a : Nat) : Block := (b.bump (LDG_CECNT s)).ev 0x4105 s [(3, a)]

/-- An uncorrectable one, seen for the tile of a slot: its element is taken as its empty value (R193). -/
def Block.ledUe (b : Block) (s slot a : Nat) : Block :=
  let t := b.tile s slot
  let b := match t.elemAt a with
    | some p => b.wrLed s p (emptyElem (tFmt t.trec) (tOp t.trec))
    | none => b
  let b := (b.updTile s slot fun t => { t with ue := true }).tileFlags s slot fTAINTED
  ((b.bump (LDG_UECNT s)).raise (P_LDG s) 4).ev 0x4106 s [(3, a), (2, slot)]

/-- Ledger ECC observations on the elements of a tile (R193): corrected addresses, and uncorrectable ones. -/
def Block.ledEcc (b : Block) (s slot : Nat) (x : Ecc) : Block :=
  let b := b.each x.ce fun b a => b.ledCe s a
  b.each x.ue fun b a => b.ledUe s slot a

/-- ECC observations on an access of `n` bytes at Ledger address `a` through the window (R193): an uncorrectable error counts
for every tile in progress that holds it, and where there is none it is only counted and logged. -/
def Block.windowEcc (b : Block) (s a n : Nat) (x : Ecc) : Block :=
  let here (q : Nat) : Bool := decide (a ≤ q ∧ q < a + n)
  let b := b.each (x.ce.filter here) fun b q => b.ledCe s q
  b.each (x.ue.filter here) fun b q =>
    match (b.stk s).tiles.filter fun t => t.2.st != .empty && (t.2.elemAt q).isSome with
    | [] => ((b.bump (LDG_UECNT s)).raise (P_LDG s) 4).ev 0x4106 s [(3, q), (2, 0)]
    | ts => b.each ts fun b t => b.ledUe s t.1 q

/-- CONTRIBUTION_APPLY: the oldest contribution to a slot, once its last column has been formed, applied under R184, or
discarded as R177 and R193 fix. A contribution to an index tile waits for that to the score tile (R258). -/
def contributionApply (s slot : Nat) (x : Ecc) (b : Block) : Block :=
  match (b.stk s).nextFor slot with
  | none => b
  | some c =>
    if c.res.length < c.ncol ∨ c.link = .index none then b else
    let b := b.tellIndex s c
    let t := b.tile s slot
    -- a descriptor is complete with the last of its contributions (R282)
    let gone (b : Block) : Block :=
      let b := b.updStk s fun k => { k with cons := k.cons.filter fun d => d.id != c.id }
      b.reachedAll (c.idxs.filter fun i => !(b.stk s).cons.any fun d => d.idxs.contains i)
    match t.st with
    | .filling => b
    | .empty =>
      ((((gone b).bump (LDG_LATECNT s)).flag fTAINTED).raise (P_LDG s) 2).ev 0x4103 s [(2, slot), (3, 0)]
    | .err => ((gone b).bump (LDG_LATECNT s)).flag fTAINTED
    | .wait | .closed =>
      let b := (gone b).updTile s slot fun t => { t with extra := true }
      ((b.bump (LDG_LATECNT s)).raise (P_LDG s) 2).ev 0x4103 s [(2, slot), (3, t.nappl)]
    | .opn =>
      let b := (gone b).ledEcc s slot x
      let b := match mixes t.trec c.res with
        | some ids =>
          let b := (b.updTile s slot fun t => { t with mixerr := true }).tileFlags s slot fTAINTED
          let b := ((b.setB (TLY_STAT s) 5).raise (P_TLY s) 3)
          b.ev 0x4205 s ([(2, slot), (1, tSid t.trec)] ++ ids.map fun i => (1, i))
        | none => b.applyCon s c t.nappl
      let b := (b.tileFlags s slot c.flags).updTile s slot fun t => { t with nappl := t.nappl + 1 }
      b.afterCon s slot

/-- The running-sum buffer of a tile as the fill leaves it: empty but for the columns that came while the tile was FILLING
(R194, R198). -/
def Block.filledBuffer (b : Block) (s : Nat) (t : Tile) : List Byte :=
  let tr := t.trec
  (List.range (stRows tr * stCols tr)).flatMap fun k =>
    if t.rsCols.contains (k % stCols tr) then b.rdLed s (tCbase tr + k * tEB tr) (tEB tr)
    else emptyElem (tFmt tr) (tOp tr)

/-- TILE_FILL_COMPLETE: the storage area and running-sum buffer are filled with the empty value and the slot opens
(R187); a tile with `NCON` 0 waits for its running sum from here (R194). -/
def tileFill (s slot : Nat) (b : Block) : Block :=
  let t := b.tile s slot
  if t.st ≠ .filling then b else
  let n := stRows t.trec * stCols t.trec
  let bs := (List.replicate n (emptyElem (tFmt t.trec) (tOp t.trec))).flatten
  let buf := b.filledBuffer s t
  let b := b.wrLed s (tBase t.trec) bs
  let b := b.when (tChin t.trec) fun b => b.wrLed s (tCbase t.trec) buf
  let b := b.updTile s slot fun t => { t with st := .opn }
  let b := match t.recIdx with | some i => b.reached i | none => b
  b.when (tNcon t.trec = 0) fun b => b.updTile s slot fun t => { t with st := .wait }

/-- RUNNING_SUM_APPLY (R194): a tile in WAIT whose running sum is complete. -/
def runningSumApply (s slot : Nat) (x : Ecc) (b : Block) : Block :=
  let t := b.tile s slot
  if t.st = .wait ∧ t.rsComplete then (b.ledEcc s slot x).applyRunning s slot else b

/-- RUNNING_SUM_TIMEOUT (R194): `TLY_WAIT` runs out on a tile in WAIT; the missing columns keep the empty value they
were filled with. -/
def runningSumTimeout (s slot : Nat) (x : Ecc) (b : Block) : Block :=
  let t := b.tile s slot
  if t.st ≠ .wait ∨ t.rsComplete then b else
  let missing := ((List.range (stCols t.trec)).filter fun c => !t.rsCols.contains c).length
  let b := b.ledEcc s slot x
  let b := b.updTile s slot fun t => { t with rsEnded := true, zf := true }
  let b := (b.tileFlags s slot fTAINTED).bump (TLY_TOCNT s)
  let b := ((b.setB (TLY_STAT s) 4).raise (P_TLY s) 1).ev 0x4201 s [(2, slot), (2, tTag t.trec), (4, missing)]
  b.applyRunning s slot

/-- Is an element of a running sum other than R167 allows in a tile of this format and operation? Exponent 255 is allowed in
the tile's empty value alone. -/
def badElem (fmt op raw : Nat) : Bool :=
  if fmt = 0 then false else
  let w := widen fmt raw
  let e := fld w 23 8
  let f := fld w 0 23
  (e == 0 && f != 0) || (e == 255 && raw != emptyVal fmt op)

/-- Columns `col0` to `col0 + cols - 1` of a running sum placed in the buffer of a tile, elements column by column, those
that break R167 taken as 0 and counted with reason 4. -/
def Block.placeColumns (b : Block) (s slot col0 cols : Nat) (data : List Byte) (flags : Nat) : Block :=
  let t := b.tile s slot
  let tr := t.trec
  let eb := tEB tr
  let rows := stRows tr
  let b := b.each (List.range cols) fun b c => b.each (List.range rows) fun b r =>
    let bs := (data.drop ((c * rows + r) * eb)).take eb
    let raw := ofBytesLE (bs.take (valBytes (tFmt tr)))
    let bad := badElem (tFmt tr) (tOp tr) raw
    let b := b.when bad fun b => (b.bump (TLY_DISCNT s)).wr (TLY_LASTERR s) (wd (slot + 4 * 2 ^ 16))
    let bs := if bad then List.replicate (valBytes (tFmt tr)) 0 ++ bs.drop (valBytes (tFmt tr)) else bs
    b.wrLed s (elemAddr tr (tCbase tr) r (col0 + c)) bs
  b.updTile s slot fun t =>
    { t with rsCols := t.rsCols ++ (List.range cols).map (col0 + ·), rsFlags := t.rsFlags ||| flags }

/-- A tally message discarded for a reason of R199, and reported to its sender: AFTER for a closed tile, UNCLAIMED at the
boundary, else TALLY (R396). One for a slot in ERR marks the frame TAINTED (R185). -/
def Block.tallyDiscard (b : Block) (s : Nat) (m : TMsg) (reason : Nat) : Block :=
  let b := b.when m.net fun b => b.noteFault
    ⟨m.flow, b.frameId, if reason = 6 then 6 else if reason = 8 then 4 else 7, reason, 2, m.seq, 1, m.dslot⟩
  let b := (b.bump (TLY_DISCNT s)).wr (TLY_LASTERR s) (wd (m.dslot + reason * 2 ^ 16))
  let b := b.when (reason = 9) fun b => b.flag fTAINTED
  let b := (b.setB (TLY_STAT s) 3).raise (P_TLY s) 2
  if reason = 6 then b.ev 0x4203 s [(2, m.dslot), (2, m.dtag)]
  else b.ev 0x4202 s [(1, reason), (1, m.link)]

/-- Bytes the arrival store holds: extension and elements of each message (R198). A stack hop that waits for its tile is no
message and takes none of the store (R195). -/
def Stk.storeBytes (k : Stk) : Nat := ((k.store.filter (·.net)).map fun m => 20 + m.data.length).foldl (· + ·) 0

def storeMax : Nat := 262144

/-- The first failure of R199 of a message matched to a tile, none when its columns are used. -/
def tallyFault (t : Tile) (m : TMsg) : Option Nat :=
  let tr := t.trec
  if t.st = .err then some 9
  else if t.st = .closed then some 6
  else if m.op ≠ tOp tr ∨ m.fmt ≠ tFmt tr then some 1
  else if tFmt tr = 0 ∧ m.sid ≠ tSid tr then some 2
  else if m.rows ≠ stRows tr ∨ stCols tr < m.col0 + m.cols ∨ m.elen ≠ m.rows * m.cols * tEB tr
      ∨ m.data.length ≠ m.elen then some 3
  else if m.resv then some 4
  else if (List.range m.cols).any fun c => t.rsCols.contains (m.col0 + c) then some 5
  else none

/-- A tally message of the current frame at its stack (R198, R199): to the running-sum buffer, to the arrival store, or
discarded. A stack hop finds the store never full (R195). -/
def Block.tallyArrive (b : Block) (s : Nat) (m : TMsg) : Block :=
  let t := b.tile s m.dslot
  let holds := t.st ≠ .empty ∧ (t.st = .err ∨ (tTag t.trec = m.dtag ∧ tChin t.trec))
  if holds then
    match tallyFault t m with
    | some r => b.tallyDiscard s m r
    | none => b.placeColumns s m.dslot m.col0 m.cols m.data m.flags
  else if m.net = true ∧ storeMax < (b.stk s).storeBytes + 20 + m.data.length then b.tallyDiscard s m 7
  else b.updStk s fun k => { k with store := k.store ++ [m] }

/-- ARRIVAL_STORE_MOVE (R198): the messages in the store for a slot whose tile has opened with their tag move to its
buffer. -/
def arrivalStoreMove (s slot : Nat) (b : Block) : Block :=
  let t := b.tile s slot
  let mine (m : TMsg) : Bool := m.dslot == slot && m.dtag == tTag t.trec && tChin t.trec
  match t.st with
  | .filling | .opn | .wait =>
    let ms := (b.stk s).store.filter mine
    let b := b.updStk s fun k => { k with store := k.store.filter fun m => !mine m }
    b.each ms fun b m => b.tallyArrive s m
  | _ => b

/-- A stack hop as its destination receives it (R195): the hop carries storage order, the buffer takes columns. -/
def HopFly.msg (h : HopFly) : TMsg :=
  let rows := stRows h.trec
  let cols := stCols h.trec
  let eb := tEB h.trec
  let data := (List.range cols).flatMap fun c => (List.range rows).flatMap fun r =>
    (h.bytes.drop ((r * cols + c) * eb)).take eb
  { dslot := h.dslot, dtag := h.dtag, op := tOp h.trec, fmt := tFmt h.trec, sid := tSid h.trec, flags := h.flags,
    rows := rows, col0 := 0, cols := cols, link := h.link, elen := data.length, resv := false, data := data, flow := 0,
    seq := 0, net := false }

/-- STACK_HOP_DELIVERY (R195): a stack hop reaches the running-sum buffer of its destination with its flags. A hop whose
slot has not opened with its tag yet waits in the arrival store like a tally message. -/
def stackHopDelivery (s idx : Nat) (b : Block) : Block :=
  match (b.stk s).fly.find? fun h => h.idx == idx with
  | none => b
  | some h =>
    let b := b.updStk s fun k => { k with fly := k.fly.filter fun g => g.idx != idx }
    (b.tallyArrive h.dstk h.msg).reached idx

/-- The record that stands for a slot when a descriptor issues: the one last issued to it. -/
def Block.recordFor (b : Block) (s slot : Nat) : Option (List Word) :=
  match ((b.stk s).trecQ.filter fun q => q.1 == slot).getLast? with
  | some (_, _, tr) => some tr
  | none => let t := b.tile s slot; if t.st = .empty then none else some t.trec

/-- Do columns below `c` reach beyond the storage of a slot's record (R286)? A MAX-row or MIN-row tile takes any number of
columns into its one. -/
def Block.beyondCols (b : Block) (s slot c : Nat) : Bool :=
  match b.recordFor s slot with
  | some tr => tOp tr != 3 && tOp tr != 4 && decide (tCols tr < c)
  | none => false

/-! ## Descriptors and host writes -/

/-- TREC (R291). -/
def trecEff (idx : Nat) (d : Desc) (b : Block) : Block :=
  b.descr idx d 0x18 true [0x3FF, mLo, mLo, mLo, mLo, mLo, mLo, mLo, mLo] fun b =>
    b.writeRecord (dTgt d) (dF d 1 0 10) (some idx) ((List.range 8).map fun i => d.word (2 + i))

/-- RDBK (R191, R291): at once when the tile is CLOSED, else when it closes. -/
def rdbkEff (idx : Nat) (d : Desc) (x : Ecc) (b : Block) : Block :=
  b.descr idx d 0x19 true [0x303FF, mLo, mHi, 0x1FFF0FFF] fun b =>
    let s := dTgt d
    let q : Rdbk := ⟨idx, dF d 1 0 10, dF d 1 16 2, dAddr d 2, dF d 4 0 12, dF d 4 16 13⟩
    if q.conv = 3 then b.reject idx s 3
    else if mspace b.grade q.dst ≠ .vsram then b.reject idx s 4
    else if (b.tile s q.slot).st = .closed then (b.ledEcc s q.slot x).doReadback s q
    else b.updStk s fun k => { k with rdbkQ := k.rdbkQ ++ [q] }

/-- THOP (R195, R292): the hop takes the tile's contents at once when the tile is CLOSED, else when it closes. -/
def thopEff (idx : Nat) (d : Desc) (x : Ecc) (b : Block) : Block :=
  b.descr idx d 0x1A true [0x3103FF, 0x3FFF03FF, 0xFF0FFF] fun b =>
    let s := dTgt d
    let bad := if dB d 1 16 then b.flowState (dF d 3 0 12) != 2 else dF d 1 20 2 == s
    let b := b.when (!bad && (b.tile s (dF d 1 0 10)).st == .closed) fun b => b.ledEcc s (dF d 1 0 10) x
    let t := b.tile s (dF d 1 0 10)
    let h : Hop := { idx := idx, slot := dF d 1 0 10, remote := dB d 1 16, dstk := dF d 1 20 2, dslot := dF d 2 0 10,
                     dtag := dF d 2 16 14, flow := dF d 3 0 12, link := dF d 3 16 8,
                     ready := if t.st = .closed then
                       some (t.trec, b.rdLed s (tBase t.trec) (stBytes t.trec), t.flags) else none }
    if !h.remote && h.dstk == s then b.reject idx s 3
    else if h.remote && b.flowState h.flow != 2 then b.reject idx s 11
    else b.updStk s fun k => { k with hopQ := k.hopQ ++ [h] }

/-- A host write of word `i` of the tile record (R183): staged, and with word 7 the record is taken. Ignored while a
frame runs. A record for a slot whose tile fills or is open waits until it is CLOSED (R193). The answer says whether the
write acted. -/
def ldgTrecWrite (s i : Nat) (v : Word) (b : Block) : Block × Bool :=
  if b.inFrame then (b.raise (P_LDG s) 3, false) else
  let slot := b.rdF (LDG_TSEL s) 0 10
  let t := b.tile s slot
  let b := b.updStk s fun k => { k with stage := k.stage.put i v }
  if i < 7 then (b, true) else
  let tr := (List.range 8).map fun j => ((b.stk s).stage.find j).getD (tW t.trec j)
  let b := b.updStk s fun k => { k with stage := [] }
  (b.writeRecord s slot none tr, true)

/-- A write of `LDG_TSEL` (R183): selects a slot and discards an untaken staging copy. -/
def ldgTselWrite (s : Nat) (v : Word) (b : Block) : Block × Bool :=
  ((b.wr (LDG_TSEL s) (v &&& 0x3FF)).updStk s fun k => { k with stage := [] }, true)

/-- `LDG_TSTAT` of the selected slot (R203). -/
def Block.tstat (b : Block) (s : Nat) : Word :=
  let t := b.tile s (b.rdF (LDG_TSEL s) 0 10)
  wd (t.st.code + b2n t.sat * 8 + b2n t.incomplete * 16 + b2n t.zf * 32 + b2n t.extra * 64 + b2n t.ue * 128
    + b2n t.mixerr * 256 + t.flags % 128 * 512 + t.nappl % 65536 * 65536)

/-- `LDG_STAT` (R202): tiles OPEN or WAIT, CLOSED, a fill running, a frame running. -/
def Block.ldgStat (b : Block) (s : Nat) : Word :=
  let ts := (b.stk s).tiles
  let n (p : TState → Bool) : Nat := (ts.filter fun t => p t.2.st).length
  wd (n (fun t => t == .opn || t == .wait) + n (· == .closed) * 2 ^ 16 + b2n (n (· == .filling) != 0) * 2 ^ 28
    + b2n b.inFrame * 2 ^ 29)

/-- Is a scale entry allowed by R168: 0, or a normal value of magnitude 2^−80 to 2^48? -/
def scaleOk (w : Word) : Bool :=
  fld w 0 31 == 0 ||
  (let e := fld w 23 8
   decide (127 - 80 ≤ e) && (decide (e < 127 + 48) || (e == 127 + 48 && fld w 0 23 == 0)))

/-- A write to the pending scale table (R178). -/
def scaleWrite (s k : Nat) (v : Word) (b : Block) : Block × Bool :=
  if b.rdB (TLY_CTRL s) 0 || !scaleOk v then
    ((b.setB (TLY_STAT s) 2).ev 0x4204 s [(1, k), (4, v.toNat)], false)
  else (b.wr (TLY_SCALE_P s k) v, true)

/-- Setting `TLY_CTRL.SC_ARM` (R178). -/
def scArmWrite (s : Nat) (v : Word) (b : Block) : Block × Bool :=
  (b.when (bit v 0) fun b => (b.setB (TLY_CTRL s) 0).setB (TLY_STAT s) 0, true)

/-- The armed scale table copied into force at a boundary (R178). -/
def Block.scaleCopy (b : Block) (s : Nat) : Block :=
  if !b.rdB (TLY_CTRL s) 0 then b else
  let b := b.each (List.range 256) fun b k => b.wr (TLY_SCALE s k) (b.rd (TLY_SCALE_P s k))
  (((b.clrB (TLY_CTRL s) 0).clrB (TLY_STAT s) 0).setB (TLY_STAT s) 1).raise (P_TLY s) 0

/-- Every slot EMPTY (R192, R193): its record words and status bits stand until a record is written to it. -/
def Stk.emptySlots (k : Stk) : Stk :=
  { k with tiles := k.tiles.mapVals (fun _ => Tile.reset) fun _ t =>
      { t with st := .empty, rsCols := [], rsFlags := 0, rsEnded := false, recIdx := none } }

/-- The Ledger at the frame boundary (R192): open tiles closed as INCOMPLETE, SAT and ZF of the frame's tiles latched, every
slot EMPTY, messages still in the arrival store discarded with reason 8. -/
def Block.ledgerBoundary (b : Block) (s : Nat) (frame : Word) : Block :=
  let open_ := (b.stk s).tiles.filter fun t => t.2.st == .filling || t.2.st == .opn || t.2.st == .wait
  let b := b.updStk s fun k => { k with trecQ := [] }
  let b := b.each open_ fun b (slot, _) =>
    let b := b.updTile s slot fun t => { t with incomplete := true }
    ((b.closeTile s slot).bump (LDG_INCCNT s)).flag fTAINTED
  let b := b.when (!open_.isEmpty) fun b =>
    (b.evF 0x4102 s [(4, open_.length)] frame).raise (P_LDG s) 1
  let ts := (b.stk s).tiles.filter fun t => t.2.st != .empty
  let b := b.each ts fun b (_, t) => b.flag t.flags
  let bitsOf (p : Tile → Bool) (i : Nat) : Nat :=
    ts.foldl (fun a (slot, t) => if slot / 32 = i ∧ p t then a ||| 2 ^ (slot % 32) else a) 0
  let b := b.each (List.range 32) fun b i =>
    let sat := (b.rd (LDG_SATLIVE s i)) ||| wd (bitsOf (·.sat) i)
    ((b.wr (LDG_SATMAP s i) sat).wr (LDG_ZFMAP s i) (wd (bitsOf (·.zf) i))).wr (LDG_SATLIVE s i) 0
  let b := b.wr (LDG_LASTFRAME s) frame
  let gone := (b.stk s).store
  let b := b.each gone fun b m => b.tallyDiscard s m 8
  b.updStk s fun k =>
    { k.emptySlots with cons := [], rdbkQ := [], hopQ := [], fly := [], store := [], trecQ := [] }

/-! ## Meanings -/

/-- TREC (R291). -/
def execDTrec (idx : Nat) (d : Desc) (s : State) : Res := s.done (trecEff idx d)
/-- RDBK (R191, R291). -/
def execDRdbk (idx : Nat) (d : Desc) (ecc : Ecc) (s : State) : Res := s.done (rdbkEff idx d ecc)
/-- THOP (R292). -/
def execDThop (idx : Nat) (d : Desc) (ecc : Ecc) (s : State) : Res := s.done (thopEff idx d ecc)
/-- CONTRIBUTION_APPLY (R188). -/
def execContributionApply (st : Fin 4) (slot : Fin 1024) (ecc : Ecc) (s : State) : Res :=
  s.done (contributionApply st slot ecc)
/-- TILE_FILL_COMPLETE (R187). -/
def execTileFillComplete (st : Fin 4) (slot : Fin 1024) (s : State) : Res := s.done (tileFill st slot)
/-- ARRIVAL_STORE_MOVE (R198). -/
def execArrivalStoreMove (st : Fin 4) (slot : Fin 1024) (s : State) : Res := s.done (arrivalStoreMove st slot)
/-- STACK_HOP_DELIVERY (R195). -/
def execStackHopDelivery (st : Fin 4) (hop : Nat) (s : State) : Res := s.done (stackHopDelivery st hop)
/-- RUNNING_SUM_APPLY (R194). -/
def execRunningSumApply (st : Fin 4) (slot : Fin 1024) (ecc : Ecc) (s : State) : Res := s.done (runningSumApply st slot ecc)
/-- RUNNING_SUM_TIMEOUT (R194). -/
def execRunningSumTimeout (st : Fin 4) (slot : Fin 1024) (ecc : Ecc) (s : State) : Res :=
  s.done (runningSumTimeout st slot ecc)
/-- LDG_TREC_WRITE (R183). -/
def execLdgTrecWrite (m : Master) (st : Fin 4) (i : Fin 8) (v : Word) (s : State) : Res :=
  s.done fun b => b.gate m (LDG_TREC st i) (ldgTrecWrite st i v)
/-- LDG_TSEL_WRITE (R183). -/
def execLdgTselWrite (m : Master) (st : Fin 4) (v : Word) (s : State) : Res :=
  s.done fun b => b.gate m (LDG_TSEL st) (ldgTselWrite st v)
/-- SC_ARM (R178): a write of `TLY_CTRL`. -/
def execScArm (m : Master) (st : Fin 4) (v : Word) (s : State) : Res :=
  s.done fun b => b.gate m (TLY_CTRL st) (scArmWrite st v)
/-- TLY_SCALE_P_WRITE (R178). -/
def execTlyScalePWrite (m : Master) (st : Fin 4) (k : Fin 256) (v : Word) (s : State) : Res :=
  s.done fun b => b.gate m (TLY_SCALE_P st k) (scaleWrite st k v)

end Sys2Proof.Machine
end

