-- ==== Sys2Proof/Machine/Mint.lean ====
section
/-! DEFINITION. The Mint (R207 to R241, R288, R289): profiles, scales and codes, wide channels and rotation, weight
conversion, replay, delivery to the activation buses, saturation statistics. -/

namespace Sys2Proof.Machine

/-! ## Profiles (R237 to R239) -/

/-- A profile's fields (R239). -/
structure MProf where
  fmt : Nat
  out : Nat
  hsize : Nat
  p2 : Bool
  premul : Bool
  cset : Nat
  src32 : Bool
  clipf : Nat

def profOf (w0 w1 : Word) : MProf :=
  { fmt := fld w0 0 4, out := fld w0 4 2, hsize := fld w0 6 2, p2 := bit w0 8, premul := bit w0 9, cset := fld w0 10 2,
    src32 := bit w0 12, clipf := fld w1 0 17 }

def Block.mprof (b : Block) (p : Nat) : MProf := profOf (b.rd (MNT_PROF_W0 p)) (b.rd (MNT_PROF_W1 p))

/-- Is a profile valid (R239)? -/
def profValid (w0 w1 : Word) : Bool :=
  let p := profOf w0 w1
  fld w0 13 19 == 0 && fld w1 17 15 == 0 && decide (p.fmt ≤ 5) && p.out != 3
    && decide (1 ≤ p.clipf) && decide (p.clipf ≤ 65536) && (p.out == 0 || decide (p.fmt < 2))
    && !(p.premul && p.out == 2) && !(p.premul && decide (4 ≤ p.fmt)) && (p.hsize == 0 || p.out == 2)

/-- A write of a profile word (R237). -/
def profWrite (p : Nat) (hi : Bool) (v : Word) (b : Block) : Block × Bool :=
  let w0 := if hi then b.rd (MNT_PROF_W0 p) else v
  let w1 := if hi then v else b.rd (MNT_PROF_W1 p)
  if b.inFrame || !profValid w0 w1 then
    let b := (b.setB MNT_ERR 0).wrF MNT_ERR 4 4 p
    ((b.raise P_MNT 3).ev 0x4304 0 [(1, p), (4, w0.toNat), (4, w1.toNat)], false)
  else (b.wr (if hi then MNT_PROF_W1 p else MNT_PROF_W0 p) v, true)

/-! ## Scales and codes (R210 to R213, R231) -/

/-- `scale` of R210 as a binary32 encoding. -/
def mintScale (amax : Fr) (clipf : Nat) (qmax : Fr) (p2 : Bool) : Word :=
  if amax.isZero then 0 else
  let t := (amax.mul ⟨clipf, 65536⟩).div qmax
  let s : Word :=
    if p2 then
      let k := t.log2
      ((⟨1, 1⟩ : Fr).scale (if ((⟨1, 1⟩ : Fr).scale k).lt t then k + 1 else k)).toF32
    else t.toF32
  if s.toNat < 0x00800000 then 0x00800000 else s

/-- `code` of R211 for the integer formats: the code, and whether the element clipped. -/
def intCode (v s : Word) (lo hi : Int) : Int × Bool :=
  if isNonFinite v then (0, true)
  else if s = 0 then (0, false)
  else
    let q := ((f32D v).div (f32D s)).rneInt
    (clampI lo hi q, decide (q < lo ∨ hi < q))

/-- The index of the entry nearest to `x`, the even one when two are equally near (R211). -/
def nearest (cb : List Fr) (x : Fr) : Nat :=
  (List.range cb.length).foldl (fun best i =>
    let d (j : Nat) := ((cb.getD j ⟨0, 1⟩).sub x).abs
    if (d i).lt (d best) then i
    else if i ≠ best ∧ (d i).le (d best) ∧ i % 2 = 0 then i else best) 0

/-- The largest magnitude of the finite elements whose position satisfies `p`. -/
def amaxOf (vals : List Word) (p : Nat → Bool) : Fr :=
  (vals.zip (List.range vals.length)).foldl (fun m (v, i) =>
    if isNonFinite v || !p i then m else m.max (f32D v).abs) ⟨0, 1⟩

/-- One butterfly stage of R231 with distance `h`. -/
def fwhtStage (h : Nat) (v : List Word) : List Word :=
  (List.range v.length).map fun i =>
    if i / h % 2 = 0 then fadd (v.getD i 0) (v.getD (i + h) 0) else fsub (v.getD (i - h) 0) (v.getD i 0)

/-- The rotation of one block of 2^`k` elements (R231). -/
def fwht (k : Nat) (v : List Word) : List Word := (List.range k).foldl (fun v i => fwhtStage (2 ^ i) v) v

/-- A row rotated block by block. -/
def rotate (k : Nat) (v : List Word) : List Word :=
  (List.range (v.length / 2 ^ k)).flatMap fun n => fwht k ((v.drop (n * 2 ^ k)).take (2 ^ k))

/-- A converted row: codes, scale, elements converted, clipped and non-finite, and the first non-finite channel. -/
structure ConvRow where
  codes : List Int
  scale : Word
  conv : Nat
  clip : Nat
  nonfin : Nat
  first : Option Nat

/-- The codes of a row (R210, R211, R228): `cb` are the entries of a K4C codebook, `wide` the wide channels. With `CLIPF`
65,536 no finite element clips (R213), though rounding `s` may leave a K4C quotient above QMAX. -/
def convRow (p : MProf) (cb : List Int) (wide : List Nat) (vals : List Word) : ConvRow :=
  let isIn (i : Nat) : Bool := !wide.contains i
  let qmax : Fr := if p.fmt = 0 then ⟨63, 1⟩ else if p.fmt = 1 then ⟨4095, 1⟩ else if p.fmt = 2 then ⟨127, 1⟩
    else Fr.ofInt (cb.foldl (fun m e => max m (e.natAbs : Int)) 0)
  let s := mintScale (amaxOf vals isIn) p.clipf qmax p.p2
  let one (v : Word) : Int × Bool :=
    if p.fmt = 0 then intCode v s (-64) 63
    else if p.fmt = 1 then intCode v s (-4096) 4095
    else if p.fmt = 2 then intCode v s (-128) 127
    else if isNonFinite v then (0, true)
    else if s = 0 then (0, false)
    else
      let x := (f32D v).div (f32D s)
      ((nearest (cb.map Fr.ofInt) x : Nat), decide (p.clipf < 65536) && qmax.lt x.abs)
  let rs := (vals.zip (List.range vals.length)).map fun (v, i) => if isIn i then one v else (0, false)
  let nf (x : Word × Nat) : Bool := isNonFinite x.1 && isIn x.2
  { codes := rs.map (·.1), scale := s, conv := ((List.range vals.length).filter isIn).length,
    clip := (rs.filter (·.2)).length, nonfin := ((vals.zip (List.range vals.length)).filter nf).length,
    first := ((vals.zip (List.range vals.length)).find? nf).map (·.2) }

/-! ## The descriptor (R235, R288) -/

def MintJob.w (j : MintJob) (i lo n : Nat) : Nat := dF j.d i lo n
/-- A field of the MINTX, 0 without one. -/
def MintJob.x (j : MintJob) (i lo n : Nat) : Nat := match j.dx with | some d => dF d i lo n | none => 0
def MintJob.mop (j : MintJob) : Nat := j.w 1 4 3
def MintJob.dbus (j : MintJob) : Bool := dB j.d 1 7
def MintJob.dmem (j : MintJob) : Bool := dB j.d 1 8
def MintJob.bcast (j : MintJob) : Bool := dB j.d 1 9
def MintJob.units (j : MintJob) : List Nat := (List.range 16).filter fun u => (j.d.word 1).getLsbD (16 + u)
def MintJob.n (j : MintJob) : Nat := j.w 2 0 15
def MintJob.rows (j : MintJob) : Nat := j.w 2 16 11
def MintJob.src (j : MintJob) : Nat := dAddr j.d 3
def MintJob.dst (j : MintJob) : Nat := dAddr j.d 5
def MintJob.sstride (j : MintJob) : Nat := 64 * j.w 4 16 16
def MintJob.dstride (j : MintJob) : Nat := 64 * j.w 6 16 16
/-- The engines of its stack that unit `u` feeds. -/
def MintJob.emask (j : MintJob) (u : Nat) : List Nat :=
  (List.range 16).filter fun e => (j.d.word (8 + u / 2)).getLsbD (16 * (u % 2) + e)
def MintJob.scaddr (j : MintJob) : Nat := match j.dx with | some d => dAddr d 1 | none => 0
def MintJob.sumaddr (j : MintJob) : Nat := match j.dx with | some d => dAddr d 3 | none => 0
def MintJob.pmaddr (j : MintJob) : Nat := match j.dx with | some d => dAddr d 8 | none => 0

/-- Does a conversion need items of a MINTX (R235, R288)? -/
def MintJob.needsX (j : MintJob) (p : MProf) : Bool :=
  j.mop != 0 || j.dmem || p.out == 1 || p.premul || decide (3 ≤ p.fmt)

/-- Slices of 512 positions in a row. -/
def MintJob.slices (j : MintJob) : Nat := (j.n + 511) / 512

/-- Bytes of a stored row of a format. -/
def codeBytes (fmt n : Nat) : Nat := if fmt = 1 then 2 * n else if fmt = 3 then (n + 1) / 2 else n

/-- Does every unit have as many engines as slices per row where the slices are dealt out (R289)? -/
def MintJob.emaskOk (j : MintJob) : Bool :=
  let us := j.units
  !j.dbus || j.bcast || (us.zip (List.range us.length)).all fun (u, i) =>
    (j.emask u).length == ((List.range j.slices).filter fun k => k % us.length == i).length

/-! ## Rejection (R236) -/

/-- A rejection by the Mint. -/
def Block.mintReject (b : Block) (j : MintJob) (reason : Nat) : Block :=
  let b := ((b.wrF MNT_ERR 8 8 reason).setB MNT_ERR 1).bump MNT_REJCNT
  ((b.raise P_MNT 1).ev 0x4303 0 [(1, reason), (2, j.ord)]).reject j.idx 4 9

/-- A rejection for an address. -/
def Block.mintSpanErr (b : Block) (j : MintJob) : SpanErr → Block
  | .reserved => b.reject j.idx 4 4
  | .beyond a => (b.accessFault a 8).mintReject j 5

/-! ## Delivery to the buses (R218, R219, R289) -/

/-- The symbols of one slice of codes: drive codes and whether they are offset encoded (R45, R212). -/
def sliceSyms (a13 : Bool) (codes : List Int) : List (List Nat × Bool) :=
  let pad := codes ++ List.replicate (512 - codes.length) 0
  if a13 then
    [(pad.map fun x => (x / 64 + 64).toNat, true), (pad.map fun x => (2 * (x % 64)).toNat, false)]
  else [(pad.map fun x => (x + 64).toNat, true)]

/-- The deliveries of a tensor in order (R218, R289): unit, engines, row, slice, and the symbols of the slice, each with
`flags`. `syms` gives the symbols of a slice, as many as the format has. -/
def deliveries (j : MintJob) (flags : Nat) (syms : Nat → Nat → List (List Nat × Bool)) : List MintOut :=
  let us := j.units
  (List.range j.rows).flatMap fun r => (List.range j.slices).flatMap fun k =>
    let u := us.getD (k % us.length) 0
    let es := if j.bcast then j.emask u else match (j.emask u)[k / us.length]? with | some e => [e] | none => []
    let ys := syms r k
    (ys.zip (List.range ys.length)).map fun (y, i) =>
      { unit := u, engs := es.map (16 * (u / 4) + ·), row := r, slice := k, part := i, sym := ⟨u % 4, y.1, y.2, flags⟩ }

/-- The symbols of converted or stored rows. -/
def rowSyms (a13 : Bool) (rows : List (List Int)) (r k : Nat) : List (List Nat × Bool) :=
  sliceSyms a13 (((rows.getD r []).drop (512 * k)).take 512)

/-! ## Statistics (R215, R219, R233, R234) -/

/-- The statistics of a converted tensor: counts, saturation and its effects; whether it saturated. -/
def Block.mintStats (b : Block) (j : MintJob) (cset conv clip nonfin : Nat) (first : Option (Nat × Nat)) : Block × Bool :=
  let b := match first with
    | some (r, c) =>
      let b := (b.bump MNT_NONFIN nonfin).setB MNT_ERR 2
      (b.raise P_MNT 2).ev 0x4302 0 [(2, j.ord), (2, r), (2, c)]
    | none => b
  let sat := b.rdF (MNT_THR cset) 0 17 * conv < clip * 65536
  let share := if conv = 0 then 0 else clip * 65536 / conv
  let b := b.updFrm fun f =>
    { f with mConv := f.mConv + conv, mClip := f.mClip + clip, mNsat := f.mNsat + b2n sat,
             mWorst := max f.mWorst share, mWorstOrd := if f.mWorst < share then j.ord else f.mWorstOrd }
  (b.when sat fun b =>
    let b := ((b.bump (MNT_SATCNT cset)).setB MNT_ERR 3).raise P_MNT 0
    (b.ev 0x4301 0 [(2, j.ord), (1, cset), (4, clip), (4, conv)]).flag fCLIP, sat)

/-- The 16 bytes of a tensor summary (R216). -/
def summaryBytes (conv clip : Nat) (sat nonfin : Bool) (fmt : Nat) : List Byte :=
  bytesLE 4 conv ++ bytesLE 4 clip ++ bytesLE 4 (1 + 2 * b2n sat + 4 * b2n nonfin) ++ bytesLE 4 fmt

/-! ## Conversion (R208, R216, R227, R228) -/

/-- The source rows of a conversion as binary32, with the elements of uncorrectable sectors 0 (R419). -/
def Block.mintSource (b : Block) (j : MintJob) (src32 : Bool) : List (List Word) :=
  let sz := if src32 then 4 else 2
  (List.range j.rows).map fun r =>
    let a := j.src + r * j.sstride
    let bs := poisonBytes j.ecc.ue a (b.rdBytes a (sz * j.n))
    (List.range j.n).map fun i =>
      let v := ofBytesLE ((bs.drop (sz * i)).take sz)
      if src32 then wd v else bf16to32 v

/-- The source rows with each element multiplied by its factor where the profile calls for it, before anything else
(R227). -/
def Block.mintElems (b : Block) (j : MintJob) (p : MProf) : List (List Word) :=
  let rows := b.mintSource j p.src32
  if p.premul then
    let f := (List.range j.n).map fun i => b.rd32 (j.pmaddr + 4 * i)
    rows.map fun row => (row.zip f).map fun (v, x) => fmul v x
  else rows

/-- The wide-channel list of a descriptor (R228). -/
def Block.wideList (b : Block) (j : MintJob) : List Nat :=
  (List.range (j.x 6 0 6)).map fun i => b.rdLE (vsBase + j.x 5 0 25 + 2 * i) 2

def wideBad (n : Nat) (l : List Nat) : Bool :=
  l.isEmpty || decide (32 < l.length) || l.any (n ≤ ·)
    || (List.range (l.length - 1)).any fun i => decide (l.getD (i + 1) 0 ≤ l.getD i 0)

/-- `k` signed entries of `sz` bytes of the codebook at `CBADDR`. -/
def Block.mintCodebook (b : Block) (j : MintJob) (k sz : Nat) : List Int :=
  (List.range k).map fun i => sext (8 * sz) (b.rdLE (vsBase + j.x 10 0 25 + sz * i) sz)

def rising (l : List Int) : Bool := (List.range (l.length - 1)).all fun i => decide (l.getD i 0 < l.getD (i + 1) 0)

/-- The converted rows of a descriptor (R210 to R212, R227, R228, R231). -/
def Block.mintRows (b : Block) (j : MintJob) (p : MProf) : List ConvRow :=
  let wide := if p.out = 1 then b.wideList j else []
  let cb := if p.fmt = 3 then b.mintCodebook j 16 1 else []
  (b.mintElems j p).map fun row => convRow p cb wide (if p.out = 2 then rotate (6 + p.hsize) row else row)

/-- A value of the wide-value record in the source format (R228). A premultiplied bf16 value is rounded to nearest, ties to
even (assumption 101). -/
def wideBytes (p : MProf) (v : Word) : List Byte :=
  if p.src32 then bytesLE 4 v.toNat else bytesLE 2 (if p.premul then f32toBf16 v else v.toNat / 65536)

/-- A row of codes as stored (R209). The unused nibble of a K4C row of odd length is the free value `pad`. -/
def packCodes (fmt : Nat) (codes : List Int) (pad : Nat) : List Byte :=
  if fmt = 1 then codes.flatMap fun c => bytesLE 2 (unsx 16 c)
  else if fmt = 3 then (List.range ((codes.length + 1) / 2)).map fun i =>
    let hi := if 2 * i + 1 < codes.length then (codes.getD (2 * i + 1) 0).toNat else pad
    BitVec.ofNat 8 ((codes.getD (2 * i) 0).toNat % 16 + hi % 16 * 16)
  else codes.map fun c => BitVec.ofNat 8 (unsx 8 c)

/-- Totals of the rows of a tensor: converted, clipped, non-finite, and the first non-finite element. -/
def totals (rows : List ConvRow) : Nat × Nat × Nat × Option (Nat × Nat) :=
  (rows.foldl (fun a r => a + r.conv) 0, rows.foldl (fun a r => a + r.clip) 0, rows.foldl (fun a r => a + r.nonfin) 0,
   (rows.zip (List.range rows.length)).findSome? fun (r, i) => r.first.map fun c => (i, c))

/-- Scale array and tensor summary of a conversion as writes (R216): always with stored codes, and else where the
descriptor gives their addresses; 0 gives none. -/
def MintJob.finWrites (j : MintJob) (fmt : Nat) (scales : List Word) (conv clip : Nat) (sat nonfin : Bool) :
    List (Nat × List Byte) :=
  (if j.dmem || j.scaddr != 0 then [(j.scaddr, scales.flatMap fun s => bytesLE 4 s.toNat)] else [])
    ++ (if j.dmem || j.sumaddr != 0 then [(j.sumaddr, summaryBytes conv clip sat nonfin fmt)] else [])

/-- The first reason for which a conversion is rejected (R236), addresses apart. R224 holds a weight codebook against
`ENG_WLIM` and a conversion names no engine: which engine's is free (assumption 77). -/
def Block.mintReason (b : Block) (j : MintJob) (p : MProf) : Option Nat :=
  let weights := decide (4 ≤ p.fmt)
  if j.n = 0 ∨ 16384 < j.n ∨ j.rows = 0 ∨ j.units.isEmpty ∨ (j.dbus && decide (2 ≤ p.fmt)) ∨ (!j.dbus && !j.dmem)
      ∨ (j.dbus && (List.range 16).any fun u => !j.units.contains u && !(j.emask u).isEmpty) then some 1
  else if p.out = 1 ∧ wideBad j.n (b.wideList j) then some 2
  else if p.out = 2 ∧ j.n % 2 ^ (6 + p.hsize) ≠ 0 then some 3
  else if p.fmt = 3 ∧ (let cb := b.mintCodebook j 16 1; !rising cb || cb.all (· == 0)) then some 4
  else if weights ∧ (let cb := b.mintCodebook j (if p.fmt = 4 then 256 else 16) 2;
      !rising cb || cb.any fun e => decide ((b.rd (ENG_WLIM (Config.wlimEngine j.dst))).toNat < e.natAbs)) then some 4
  else if weights ∧ (j.n ≠ 512 ∨ j.rows ≠ 512) then some 7
  else none

/-- The address spans of a conversion (R235). -/
def MintJob.spans (j : MintJob) (p : MProf) : List (Nat × Nat) :=
  let sz := if p.src32 then 4 else 2
  let weights := decide (4 ≤ p.fmt)
  [(j.src, spanOf j.rows (sz * j.n) j.sstride)]
    ++ (if weights then [(j.dst, if p.fmt = 5 then 135744 else 266816)]
        else if j.dmem then [(j.dst, spanOf j.rows (codeBytes p.fmt j.n) j.dstride)] else [])
    ++ (if j.dmem || j.scaddr != 0 then [(j.scaddr, if weights then 4 else 4 * j.rows)] else [])
    ++ (if j.dmem || j.sumaddr != 0 then [(j.sumaddr, 16)] else [])
    ++ (if p.premul then [(j.pmaddr, 4 * j.n)] else [])
    ++ (if p.out = 1 then [(vsBase + j.x 5 0 25, 2 * j.x 6 0 6), (vsBase + j.x 7 0 25, j.rows * 32 * sz)] else [])
    ++ (if 3 ≤ p.fmt then [(vsBase + j.x 10 0 25, if p.fmt = 3 then 16 else if p.fmt = 4 then 512 else 32)] else [])

/-- What a Mint read does beside its data: traffic and ECC (R417, R419). -/
def Block.mintRead (b : Block) (j : MintJob) (n : Nat) : Block :=
  let b := b.each (List.range j.rows) fun b r => b.hbmTouch (j.src + r * j.sstride) n
  (b.eccSeen j.ecc 0).when (!j.ecc.ue.isEmpty) fun b => b.flag fTAINTED

/-- What a job that has begun leaves to do: its deliveries and its last writes. -/
abbrev MintTail := List MintOut × List (Nat × List Byte)

/-- A conversion to an integer format or K4C: codes, wide values and statistics at once, then the deliveries. A saturated
tensor marks its symbols with CLIP, so that every pass it feeds carries it (R219, assumption 101). -/
def Block.mintConvert (b : Block) (j : MintJob) (p : MProf) : Block × MintTail :=
  let rows := b.mintRows j p
  let sz := if p.src32 then 4 else 2
  let wide := if p.out = 1 then b.wideList j else []
  let elems := b.mintElems j p
  let b := b.each (if p.out = 1 then elems.zip (List.range j.rows) else []) fun b (row, r) =>
    let vals := wide.flatMap fun c => wideBytes p (row.getD c 0)
    b.wrBytes (vsBase + j.x 7 0 25 + r * 32 * sz) (vals ++ List.replicate (32 * sz - vals.length) 0)
  let b := b.mintRead j (sz * j.n)
  let (conv, clip, nonfin, first) := totals rows
  let b := b.each (if j.dmem then rows.zip (List.range rows.length) else []) fun b (row, r) =>
    let (pad, b) := if p.fmt = 3 ∧ j.n % 2 = 1 then b.freeUpTo 15 else (0, b)
    (b.wrBytes (j.dst + r * j.dstride) (packCodes p.fmt row.codes pad)).hbmTouch (j.dst + r * j.dstride) (codeBytes p.fmt j.n)
  let (b, sat) := b.mintStats j p.cset conv clip nonfin first
  (b, if j.dbus then deliveries j (if sat then fCLIP else 0) (rowSyms (p.fmt == 1) (rows.map (·.codes))) else [],
    j.finWrites p.fmt (rows.map (·.scale)) conv clip sat (nonfin != 0))

/-! ## Weight conversion (R222 to R225) -/

/-- The groups whose weights share the scale held for group `g`; none for the odd half of a ganged pair. -/
def sectionCols (gang g : Nat) : List Nat :=
  if gang.testBit (g / 2) then (if g % 2 = 0 then (List.range 128).map (64 * g + ·) else [])
  else (List.range 64).map (64 * g + ·)

/-- A weight conversion (R223): a complete load block at the destination, `U` at the scale-array address. -/
def Block.mintWeights (b : Block) (j : MintJob) (p : MProf) : Block × MintTail :=
  let k := if p.fmt = 4 then 256 else 16
  let cb := b.mintCodebook j k 2
  let emax : Fr := ⟨(cb.foldl (fun m e => max m e.natAbs) 0 : Nat), 16384⟩
  let tile := b.mintSource j p.src32
  let gang := j.w 7 0 4
  let big : Fr := tile.foldl (fun (m : Fr) row => m.max (amaxOf row fun _ => true)) ⟨0, 1⟩
  let u : Word := if big.isZero then 0 else
    ((big.mul ⟨p.clipf, 65536⟩).div ((Fr.ofInt 63).mul emax)).toF32 .up
  let scaleOf (row : List Word) (g : Nat) : Nat :=
    let cols := sectionCols gang g
    let a := amaxOf row fun i => cols.contains i
    if a.isZero ∨ u = 0 then 0 else min 63 (a.div ((f32D u).mul emax)).ceil.toNat
  let home (i : Nat) : Nat := let g := i / 64; if gang.testBit (g / 2) then g / 2 * 2 else g
  let ent := cb.map fun e => (⟨e, 16384⟩ : Fr)
  let rows : List (List Nat × List (Int × Bool)) := tile.map fun row =>
    let ss := (List.range 8).map (scaleOf row)
    (ss, (row.zip (List.range 512)).map fun (v, i) =>
      let s := ss.getD (home i) 0
      if isNonFinite v then (0, true)
      else if s = 0 then (0, false)
      else
        let x := (f32D v).div ((Fr.ofInt s).mul (f32D u))
        ((nearest ent x : Nat), emax.lt x.abs))
  let codes := rows.map fun r => r.2.map (·.1)
  let clip := rows.foldl (fun a r => a + (r.2.filter (·.2)).length) 0
  let nf (row : List Word) : List (Word × Nat) := (row.zip (List.range 512)).filter fun x => isNonFinite x.1
  let nonfin := tile.foldl (fun a row => a + (nf row).length) 0
  let first := (tile.zip (List.range 512)).findSome? fun (row, r) => (nf row).head?.map fun x => (r, x.2)
  let body := (List.range 256).flatMap (fun i => bytesLE 2 (unsx 16 (cb.getD i 0)))
    ++ rows.flatMap (fun r => r.1.map fun s => BitVec.ofNat 8 s)
    ++ codes.flatMap fun c => if p.fmt = 4 then c.map fun x => BitVec.ofNat 8 x.toNat else packCodes 3 c 0
  let len := if p.fmt = 4 then 266816 else 135744
  let head := bytesLE 4 ((if p.fmt = 4 then 8 else 4) + gang * 256) ++ bytesLE 4 len ++ bytesLE 4 (j.x 11 0 32)
  let tail := List.replicate 48 0 ++ body
  let crc := (crc32c (head ++ tail)).toNat
  let b := b.mintRead j ((if p.src32 then 4 else 2) * 512)
  let b := (b.wrBytes j.dst (head ++ bytesLE 4 crc ++ tail)).hbmTouch j.dst len
  let (b, sat) := b.mintStats j p.cset 262144 clip nonfin first
  (b, [], j.finWrites p.fmt [u] 262144 clip sat (nonfin != 0))

/-! ## Replay (R217, R386) -/

/-- Bytes of a VRECV buffer that never arrived: is the byte at offset `o` missing? -/
def Vrecv.missing (v : Vrecv) (o : Nat) : Bool :=
  decide (o < v.len) && !v.spans.any fun (a, n) => decide (a ≤ o ∧ o < a + n)

/-- The VRECV of the frame whose buffer holds address `a`. -/
def Block.vrecvAt (b : Block) (a : Nat) : Option Vrecv :=
  match b.frm with
  | some f => f.vrecvs.find? fun v => decide (v.dst ≤ a ∧ a < v.dst + v.len)
  | none => none

/-- Are `n` bytes from `a` complete: no byte of them in the buffer of a VRECV that still waits for it (R386)? -/
def Block.complete (b : Block) (a n : Nat) : Bool :=
  match b.frm with
  | none => true
  | some f => f.vrecvs.all fun v => v.done || (List.range n).all fun i =>
      !(decide (v.dst ≤ a + i ∧ a + i < v.dst + v.len) && v.missing (a + i - v.dst))

/-- Code bytes and address of a slice of a replay. -/
def MintJob.slice (j : MintJob) (sz r k : Nat) : Nat × Nat :=
  (j.src + r * j.sstride + sz * 512 * k, sz * min 512 (j.n - 512 * k))

/-- May slice `k` of row `r` of a replay be consumed (R386): in a cut-through replay its span and every span of the buffer
before it must have been received or zero-filled? -/
def Block.sliceReady (b : Block) (j : MintJob) (sz r k : Nat) : Bool :=
  let (a, n) := j.slice sz r k
  j.mop != 2 || match b.vrecvAt a with
    | some v => b.complete v.dst (a + n - v.dst)
    | none => true

/-- The codes of a slice as memory holds them, and TAINTED when a part of it never arrived (R217). -/
def Block.replaySlice (b : Block) (j : MintJob) (sz r k : Nat) : List Int × Nat :=
  let (a, n) := j.slice sz r k
  let bs := poisonBytes j.ecc.ue a (b.rdBytes a n)
  let lost := j.mop == 2 && (List.range n).any fun i => match b.vrecvAt (a + i) with
    | some v => v.missing (a + i - v.dst)
    | none => false
  ((List.range (n / sz)).map fun i => sext (8 * sz) (ofBytesLE ((bs.drop (sz * i)).take sz)), if lost then fTAINTED else 0)

/-- Bytes per code of the tensor whose summary a replay names. -/
def Block.replaySize (b : Block) (j : MintJob) : Nat := if bits (b.rdLE (j.sumaddr + 12) 4) 0 4 = 1 then 2 else 1

/-- A replay begins (R217): its checks; then stored codes are read, and those of a cut-through replay as they come. -/
def Block.mintReplay (b : Block) (j : MintJob) : Block × Option MintTail :=
  let flags := b.rdLE (j.sumaddr + 8) 4
  let sz := b.replaySize j
  if j.n = 0 ∨ 16384 < j.n ∨ j.rows = 0 ∨ j.units.isEmpty
      ∨ (List.range 16).any fun u => !j.units.contains u && !(j.emask u).isEmpty then (b.mintReject j 1, none) else
  match firstSpanErr b.grade [(j.src, spanOf j.rows (sz * j.n) j.sstride), (j.scaddr, 4 * j.rows), (j.sumaddr, 16)] with
  | some x => (b.mintSpanErr j x, none)
  | none =>
    if flags % 2 = 0 ∨ 1 < bits (b.rdLE (j.sumaddr + 12) 4) 0 4 then (b.mintReject j 6, none) else
    let clip := flags.testBit 1
    let ds := deliveries j (if clip then fCLIP else 0) fun r k =>
      sliceSyms (sz == 2) (if j.mop = 2 then [] else (b.replaySlice j sz r k).1)
    let b := ((b.mintRead j (sz * j.n)).hbmTouch j.scaddr (4 * j.rows)).hbmTouch j.sumaddr 16
    (b.when clip fun b => b.flag fCLIP, some (ds, []))

/-- The symbol of a delivery as its unit offers it now; none while the span of a cut-through replay is awaited. -/
def Block.offer (b : Block) (j : MintJob) (o : MintOut) : Option Sym :=
  if j.mop ≠ 2 then some o.sym else
  let sz := b.replaySize j
  if !b.sliceReady j sz o.row o.slice then none else
  let (codes, lost) := b.replaySlice j sz o.row o.slice
  let y := (sliceSyms (sz == 2) codes).getD o.part ([], false)
  some { o.sym with drive := y.1, flags := o.sym.flags ||| lost }

/-! ## The work of the units (R218, R236, R237) -/

/-- May a job begin (R386): a cut-through replay waits for its summary? -/
def Block.mintReady (b : Block) (j : MintJob) : Bool := j.mop != 2 || b.complete j.sumaddr 16

/-- A job begins (R236): its checks, then its work; none when it is rejected. -/
def Block.mintBegin (b : Block) (j : MintJob) : Block × Option MintTail :=
  if j.mop ≠ 0 then b.mintReplay j else
  let p := b.mprof (j.w 1 0 4)
  match b.mintReason j p with
  | some r => (b.mintReject j r, none)
  | none =>
    match firstSpanErr b.grade (j.spans p) with
    | some x => (b.mintSpanErr j x, none)
    | none => let r := if 4 ≤ p.fmt then b.mintWeights j p else b.mintConvert j p; (r.1, some r.2)

/-- Does work hold unit `u`: it has not begun and names it, or has symbols left to send on it? -/
def MintWork.holds (w : MintWork) (u : Nat) : Bool :=
  if w.begun then w.out.any fun o => o.unit == u else w.job.units.contains u

/-- The work of the Mint in the frame. -/
def Block.mintQ (b : Block) : List MintWork := match b.frm with | some f => f.mq | none => []

/-- The work of job `idx` replaced. -/
def Block.setWork (b : Block) (idx : Nat) (g : MintWork → MintWork) : Block :=
  b.updFrm fun f => { f with mq := f.mq.map fun w => if w.job.idx = idx then g w else w }

/-- The work of job `idx` taken from its units. -/
def Block.dropWork (b : Block) (idx : Nat) : Block :=
  b.updFrm fun f => { f with mq := f.mq.filter fun w => w.job.idx != idx }

/-- Work that has not begun begins, unless earlier work holds one of its units or its summary is awaited. The answer says
whether it did. -/
def Block.workBegin (b : Block) (w : MintWork) (earlier : List MintWork) : Block × Bool :=
  if earlier.any (fun v => w.job.units.any v.holds) || !b.mintReady w.job then (b, false) else
  match b.mintBegin w.job with
  | (b, none) => (b.dropWork w.job.idx, true)
  | (b, some (out, fin)) => (b.setWork w.job.idx fun w => { w with begun := true, out := out, fin := fin }, true)

/-- Work with nothing left to deliver ends (R216, R282): scale array and summary are written and the MINT is complete. -/
def Block.workEnd (b : Block) (w : MintWork) : Block :=
  let b := b.each w.fin fun b (a, bs) => (b.wrBytes a bs).hbmTouch a bs.length
  (b.dropWork w.job.idx).reached w.job.idx

/-- The fields of a MINT that its own words decide (R277 reason 3, R289): `MOP`, a destination in memory for a replay,
the engines of dealt slices, and a buffer of the frame for a cut-through replay. -/
def Block.mintFieldsBad (b : Block) (j : MintJob) : Bool :=
  decide (2 < j.mop) || (j.mop != 0 && (j.dmem || !j.dbus)) || !j.emaskOk
    || (j.mop == 2 && match b.frm with
        | some f => !f.vrecvs.any fun v => v.dst == j.src
        | none => true)

/-- Defined bits of MINT and MINTX. -/
def mintMasks : List Nat := [0xFFFF03FF, 0x07FF7FFF, mLo, 0xFFFF00FF, mLo, 0xFFFF00FF, 0xF] ++ List.replicate 8 0xFFFFFFFF
def mintxMasks : List Nat := [mLo, mHi, mLo, mHi, 0x1FFFFFF, 0x3F, 0x1FFFFFF, mLo, mHi, 0x1FFFFFF, mLo]

/-- The frame statistics latched at a boundary (R234). -/
def Block.mintBoundary (b : Block) (f : Frame) : Block :=
  let b := (b.wr MNT_LASTFRAME f.sr.frame).wr MNT_FR_CONV (wd (min f.mConv (2 ^ 32 - 1)))
  let b := b.wr MNT_FR_CLIP (wd (min f.mClip (2 ^ 32 - 1)))
  let b := b.wr MNT_FR_WORST (wd (min f.mWorst 131071 + min f.mWorstOrd 32767 * 2 ^ 17))
  b.wr MNT_FR_NSAT (wd f.mNsat)

/-- `MNT_STAT` (R238): units with work, feeders with work, and whether a frame runs. -/
def Block.mntStat (b : Block) : Word :=
  let busy (u : Nat) : Bool := b.mintQ.any fun w => w.holds u
  let feeder (n : Nat) : Bool := !(b.eng (64 + n)).dyn.jobs.isEmpty
  wd (((List.range 16).filter busy).foldl (fun a u => a + 2 ^ u) 0
    + ((List.range 8).filter feeder).foldl (fun a n => a + 2 ^ (16 + n)) 0 + b2n b.inFrame * 2 ^ 24)

/-! ## Meanings -/

/-- MNT_PROF_WRITE (R237). -/
def execMntProfWrite (m : Master) (p : Fin 16) (hi : Bool) (v : Word) (s : State) : Res :=
  s.done fun b => b.gate m (if hi then MNT_PROF_W1 p else MNT_PROF_W0 p) (profWrite p hi v)

end Sys2Proof.Machine
end

