-- ==== Sys2Proof/Machine/Resident.lean ====
section
/-! DEFINITION. Engine power states and wake hints (R29 to R33, R83, R269, R285), resident passes: the row digital stage
(R55 to R57), groups of the tally tree (R175, R179, R180, R287) and the engines' queues. -/

namespace Sys2Proof.Machine

/-! ## Power states (R29 to R33) -/

/-- The code of a power state in `PSTATE` (R82). -/
def PState.code : PState → Nat
  | .run => 0 | .doze => 1 | .nap => 2 | _ => 3

/-- The state register of an engine: `ENG_STATE` or `DEN_STATE`. -/
def engState (e : Nat) : Nat := if e < 64 then ENG_STATE e else DEN_STATE e

def Block.setPs (b : Block) (e : Nat) (p : PState) : Block :=
  (b.updEng e fun x => { x with ps := p }).wrF (engState e) 0 2 p.code

/-- A wake begins (R33, R156). -/
def Block.beginWake (b : Block) (e : Nat) (p : PState) : Block :=
  (b.setPs e p).updEng e fun x => { x with woke := x.woke + 1 }

/-- A wake towards Run: from Doze directly, from Nap through Doze; a descent is reversed (R30, R31). -/
def Block.wakeRun (b : Block) (e : Nat) : Block :=
  match (b.eng e).ps with
  | .run | .waking | .pllStart true => b
  | .doze | .toDoze | .toNap => b.beginWake e .waking
  | .nap => b.beginWake e (.pllStart true)
  | .pllStart false => b.setPs e (.pllStart true)
  | .redoze => b.setPs e .waking

/-- A wake towards Doze (R30, R31). The PLL of an engine that still descends to Nap has not stopped: the descent turns back
(R31). -/
def Block.wakeDoze (b : Block) (e : Nat) : Block :=
  match (b.eng e).ps with
  | .nap => b.beginWake e (.pllStart false)
  | .toNap => b.beginWake e .redoze
  | _ => b

/-- A hint (R30, R285): ignored outside Active. `HOLD` counts for an engine that a hint brings to Run; a hint to an engine in
Run restarts its idle timer and changes nothing else. -/
def Block.hint (b : Block) (e : Nat) (toRun : Bool) (hold : Nat) : Block :=
  if b.modState ≠ stActive then b else
  if toRun then
    if (b.eng e).ps = .run then b else (b.wakeRun e).updEng e fun x => { x with hold := max x.hold hold }
  else b.wakeDoze e

/-! ## The row digital stage (R55 to R57) -/

/-- Is the section of (row, group) disabled (R50)? A ganged pair has one scale (R52): it drops as a whole (R359). -/
def isOff (gang : Nat) (off : List Nat) (r g : Nat) : Bool :=
  off.contains (8 * r + g) || gang.testBit (g / 2) && off.contains (8 * r + (if g % 2 = 0 then g + 1 else g - 1))

/-- The section scale of (row, group) that the arithmetic uses: 0 in a disabled section; in a ganged pair the even
group's (R51, R52, R50). -/
def Half.scale (h : Half) (r g : Nat) : Nat :=
  if isOff h.gang h.off r g then 0 else
  let g' := if h.gang.testBit (g / 2) then g / 2 * 2 else g
  h.scales.get (fun _ => 0) (8 * r + g') % 64

/-- Steps 1 to 4 of R57 for one row and symbol. -/
def rowY (h : Half) (shift r : Nat) (adc : BitVec 8) (y : Sym) : Int :=
  let v : Int := adc.toInt * 2 ^ shift
  let v := if y.offset then v - 64 * h.wsum.get (fun _ => 0) r else v
  (h.park.filter fun k => k.row == r).foldl
    (fun v k => v - (h.scale r k.group : Int) * k.wpark * (y.drive.getD (64 * k.group + k.input) 0 : Nat)) v

/-- Row codes of −128 and +127 among the codes of a symbol (R55). -/
def nSat (adc : List (BitVec 8)) : Nat := (adc.filter fun a => a == 0x80#8 || a == 0x7F#8).length

/-- Is any region of engine `e` not Locked (R118)? -/
def Block.anyUnlocked (b : Block) (e : Nat) : Bool :=
  (List.range (if e < 64 then 64 else 4)).any fun q => b.rdB (LCK_R_STATE e q) 3

/-- Does a calibration hold engine `e` (R328)? -/
def Block.calHolds (b : Block) (e : Nat) : Bool :=
  match (b.stk (stackOf e)).cal with | some c => c.eng == e && c.hold | none => false

/-- The flags that an engine's results carry (R20, R190): STALE, DEGRADED, OVERRUN. -/
def Block.engFlags (b : Block) (e : Nat) : Nat :=
  let x := b.eng e
  (if b.calHolds e || b.anyUnlocked e || x.uncal then fSTALE else 0)
    ||| (if (if e < 64 then !x.fg.park.isEmpty || !x.fg.off.isEmpty else !x.parkF.isEmpty || !x.offF.isEmpty)
      then fDEGRADED else 0)
    ||| (if x.ovr then fOVERRUN else 0)

/-- Live symbols counted, and a sample taken when the count reaches a multiple of 2^`K` (R316). `mk` gives the sample
of a row. -/
def Block.countSymbol (b : Block) (e : Nat) (mk : Nat → Sample) : Block :=
  let s := stackOf e
  let x := b.eng e
  let n := x.symCnt + 1
  let k := b.rdF (ASY_CFG s) 0 5
  let take := n % 2 ^ k = 0 ∧ b.rdB (ASY_CTRL s) 0
  let row := x.sampleI % (if e < 64 then 512 else 64)
  b.setEng e { x with symCnt := n, sampleI := if take then x.sampleI + 1 else x.sampleI,
                      samples := if take then x.samples ++ [mk row] else x.samples }

/-- The step in word equivalents that the held regions of a calibration add to their bias (R326). -/
def Block.holdStep (b : Block) (c : Cal) (v : Int) : Block :=
  b.updEng c.eng fun x =>
    { x with regions := c.regions.foldl (fun m q => m.upd (fun _ => {}) q fun r => { r with step := v }) x.regions }

/-! ## Passes (R281, R286, R287) -/

/-- Has the PASS of every member of a group issued (R287)? -/
def Con.formed (c : Con) : Bool := c.dyn.isNone && popCount 16 c.mask == c.mem.length

/-- Must the first symbol of a pass wait, because another group that has started still uses one of its leaves (R180)? -/
def Stk.leafBusy (k : Stk) (c : Con) : Bool :=
  k.cons.any fun d => d.id != c.id && d.dyn.isNone && d.res.length < d.ncol && (d.mask &&& c.mask) != 0
    && d.mem.any fun m => m.sid.isSome

/-- Are passes on engine `e` held: by a load-mode scan (R72), a search in service (R105), or a probe point (R328)? -/
def Block.passHeld (b : Block) (e : Nat) : Bool :=
  b.rdB (ENG_STATE e) 5 || (match (b.eng e).search with | some q => !q.waiting | none => false)
    || (match (b.stk (stackOf e)).cal with | some c => c.eng == e && c.hold && !c.broken | none => false)

/-- The pass at the head of the queue of engine `e` and its group, when it can take a symbol of bus `bus` but for the
alignment of the tree: the engine in Run and not held, the group formed and its leaves free. -/
def Block.passTakes (b : Block) (e bus : Nat) : Option (PassQ × Con) :=
  match (b.eng e).passes with
  | [] => none
  | p :: _ =>
    if p.bus ≠ bus ∨ (b.eng e).ps ≠ .run ∨ b.passHeld e then none else
    match (b.stk (stackOf e)).cons.find? fun c => c.id == p.con with
    | none => none
    | some c => if !c.formed || (!p.started && (b.stk (stackOf e)).leafBusy c) then none else some (p, c)

/-- Is the leaf of engine `e` 64 columns ahead of the slowest leaf of its group (R179)? -/
def Con.ahead (c : Con) (e : Nat) : Bool :=
  let mine : Nat := (c.mem.filter fun m => m.leaf == e % 16).foldl (fun _ m => m.cols.length) 0
  let slow : Nat := c.mem.foldl (fun n m => min n m.cols.length) 4096
  decide (slow + 64 ≤ mine)

/-- One symbol taken by the pass `p` at the head of an engine's queue, of group `c`: the row results of R57, the counts of
R55 and R316, the flags. -/
def Block.passSymbol (b : Block) (e : Nat) (y : Sym) (p : PassQ) (c : Con) : Block :=
  let x := b.eng e
  let s := stackOf e
  let codes := p.adc.getD p.done []
  let shift := b.rdF (ENG_OSCALE e) 8 5
  let ys := (List.range 512).map fun r => rowY x.fg shift r (codes.getD r 0) y
  let second := p.a13 && p.done % 2 == 1
  let out : Option (List Int) :=
    if !p.a13 then some ys
    else if second then some ((p.hi.zip ys).map fun (h, l) => h * 128 + l) else none
  let b := b.when (!p.started) fun b => b.contributes e
  let last := p.done + 1 = p.nsym
  let p' := { p with done := p.done + 1, hi := ys, started := true, stalled := false }
  let b := b.setEng e { x with passes := if last then x.passes.tail else p' :: x.passes.tail }
  let fl := b.engFlags e ||| y.flags ||| (if p.late then fLATE else 0)
  let sid := b.rdF (ENG_OSCALE e) 16 8
  let b := b.updCon s c.id fun c =>
    { c with flags := c.flags ||| fl, mem := c.mem.map fun m =>
        if m.leaf = e % 16 then
          { m with sid := if p.started then m.sid else some sid,
                   cols := match out with | some v => m.cols ++ [v] | none => m.cols }
        else m }
  let b := (b.flag (b.engFlags e)).bump (ENG_ADCSAT e) (nSat codes)
  b.countSymbol e fun r =>
    { row := r, m := (⟨ys.getD r 0, 2 ^ (shift - 8)⟩ : Fr).rneInt, drive := y.drive,
      offset := y.offset, sat := nSat [codes.getD r 0] == 1, shift := shift, exact := none }

/-- A pass that alignment holds back (R179), counted once. -/
def Block.passStall (b : Block) (e : Nat) (p : PassQ) : Block :=
  if p.stalled then b
  else (b.bump (TLY_ALSTALL (stackOf e))).updEng e fun x => { x with passes := { p with stalled := true } :: x.passes.tail }

/-- The first delivery of work `w` on unit `u`, sent once every pass it feeds can take it: all take it together (R218). The
answer says whether it was sent. -/
def Block.sendOn (b : Block) (w : MintWork) (u : Nat) : Block × Bool :=
  match w.out.find? fun o => o.unit == u with
  | none => (b, false)
  | some o =>
    let ts := o.engs.filterMap fun e => (b.passTakes e o.sym.bus).map fun q => (e, q.1, q.2)
    match b.offer w.job o with
    | none => (b, false)
    | some y =>
      if ts.length < o.engs.length then (b, false)
      else if ts.any fun t => t.2.2.ahead t.1 then
        (b.each (ts.filter fun t => t.2.2.ahead t.1) fun b t => b.passStall t.1 t.2.1, false)
      else ((b.each ts fun b t => b.passSymbol t.1 y t.2.1 t.2.2).setWork w.job.idx fun w => { w with out := w.out.erase o }, true)

/-- One turn of the work of job `idx`: it begins, sends what its units can send, or ends. The answer says whether anything
was done. -/
def Block.workTurn (b : Block) (idx : Nat) : Block × Bool :=
  match b.mintQ.find? fun w => w.job.idx == idx with
  | none => (b, false)
  | some w =>
    if !w.begun then b.workBegin w (b.mintQ.takeWhile fun v => v.job.idx != idx)
    else if w.out.isEmpty then (b.workEnd w, true)
    else w.job.units.foldl (fun (acc : Block × Bool) u =>
      let w := (acc.1.mintQ.find? fun w => w.job.idx == idx).getD w
      let r := acc.1.sendOn w u
      (r.1, acc.2 || r.2)) (b, false)

/-- Turns that the work of the Mint can still take: a bound on its beginnings, deliveries and ends. -/
def Block.turns (b : Block) : Nat :=
  b.mintQ.foldl (fun n w => n + if w.begun then w.out.length + 1 else 2 * w.job.rows * w.job.slices + 2) 1

/-- Rounds over the work of the Mint in issue order until none can go on. -/
def Block.pumpRounds : Nat → Block → Block
  | 0, b => b
  | n + 1, b =>
    let r := (b.mintQ.map (·.job.idx)).foldl (fun (acc : Block × Bool) i =>
      let r := acc.1.workTurn i
      (r.1, acc.2 || r.2)) (b, false)
    if r.2 then Block.pumpRounds n r.1 else r.1

/-- The Mint and the passes it feeds go on as far as they can (R218, R281). -/
def Block.pump (b : Block) : Block := Block.pumpRounds b.turns b

/-- A pass issued to an engine outside Run (R32): the wake, LATE and its counts. -/
def Block.lateWake (b : Block) (e : Nat) : Block :=
  if (b.eng e).ps = .run then b else
  let b := ((b.wakeRun e).flag fLATE).updFrm fun f => { f with nlate := f.nlate + 1 }
  (b.bump (SEQ_LATECNT (stackOf e))).raise (P_SEQ (stackOf e)) 1

/-- Is the node that `GNODE` names over leaf `e`, and are all mask bits under it (R287, R277 reason 7)? -/
def groupOk (gnode mask leaf : Nat) : Bool :=
  let ls := leavesOf 4 (24 + gnode)
  mask.testBit leaf && ls.contains leaf && (List.range 16).all fun k => !mask.testBit k || ls.contains k

/-- PASS (R286, R287, R32, R72, R328). -/
def passEff (idx : Nat) (d : Desc) (adc : List (List (BitVec 8))) (b : Block) : Block :=
  b.descr idx d 0x10 true [0xFFFF077F, 0x03FF1FFF, 0xFFF] fun b =>
    let s := dTgt d
    let leaf := dF d 1 0 4
    let e := 16 * s + leaf
    let a13 := dB d 1 6
    let gnode := dF d 1 8 3
    let mask := dF d 1 16 16
    let nsym := dF d 2 0 13
    let slot := dF d 2 16 10
    let col0 := dF d 3 0 12
    if nsym = 0 ∨ 4096 < nsym ∨ a13 && nsym % 2 == 1 ∨ gnode = 7 then b.reject idx s 3
    else if !b.rdB (ENG_STATE e) 2 then b.reject idx s 6
    else if !groupOk gnode mask leaf then b.reject idx s 7
    else if b.beyondCols s slot (col0 + if a13 then nsym / 2 else nsym) then b.reject idx s 3
    else
    let k := b.stk s
    let ncol := if a13 then nsym / 2 else nsym
    let mem : Member := { leaf := leaf, idx := idx, sid := none, cols := [] }
    let low := (List.range 16).find? fun i => mask.testBit i
    let open_ := k.cons.find? fun c => c.dyn.isNone && c.gnode == 24 + gnode && c.mask == mask && !c.formed
    let join : Option (Block × Nat) := match open_ with
      | some c =>
        if c.slot ≠ slot ∨ c.col0 ≠ col0 ∨ c.ncol ≠ ncol ∨ c.a13 ≠ a13 ∨ c.mem.any fun m => m.leaf == leaf then none
        else some (b.updCon s c.id fun c => { c with mem := c.mem ++ [mem], idxs := c.idxs ++ [idx] }, c.id)
      | none =>
        some (b.updStk s fun k =>
          { k with nextCon := k.nextCon + 1,
                   cons := k.cons ++ [{ id := k.nextCon, place := none, slot := slot, col0 := col0, ncol := ncol,
                                        a13 := a13, gnode := 24 + gnode, mask := mask, dyn := none, idxs := [idx],
                                        mem := [mem], res := [], flags := 0 }] }, k.nextCon)
    match join with
    | none => b.reject idx s 5
    | some (b, id) =>
      let b := b.when (low = some leaf) fun b =>
        let pl := (b.stk s).nextPlace
        (b.updCon s id fun c => { c with place := some pl }).updStk s fun k => { k with nextPlace := pl + 1 }
      let b := b.pause s nsym
      let late := (b.eng e).ps ≠ .run
      let b := b.lateWake e
      let scan := b.rdB (ENG_STATE e) 5
      let srch := match (b.eng e).search with | some q => !q.waiting | none => false
      let b := b.when (scan || srch) fun b => (b.bump (ENG_HELD e)).when scan fun b =>
        let b := b.when (!(b.eng e).heldOne) fun b => (b.raise (P_ENG e) 4).updEng e fun x => { x with heldOne := true }
        b.updFrm fun f => { f with nheld := f.nheld + 1 }
      -- a pass interrupts a probe point of its engine (R328)
      let b := match (b.stk s).cal with
        | some c => if c.eng = e ∧ c.hold ∧ !c.broken then
            ((b.bump (ASY_PREEMPT s)).updStk s fun k => { k with cal := some { c with broken := true } }).holdStep c 0
          else b
        | none => b
      let p : PassQ := { idx := idx, con := id, bus := dF d 1 4 2, a13 := a13, nsym := nsym, adc := adc, done := 0,
                         hi := [], waits := if late then some b.time else none, started := false, stalled := false,
                         late := late }
      (b.updEng e fun x => { x with passes := x.passes ++ [p] }).pump

/-- Are the ADC codes of a PASS one list of 512 per symbol? -/
def passShape (d : Desc) (adc : List (List (BitVec 8))) : Bool :=
  adc.length == dF d 2 0 13 && adc.all fun a => a.length == 512

/-! ## Power events -/

/-- IDLE_TIMER_EXPIRY (R29, R83, R285). -/
def idleExpiry (e : Nat) (b : Block) : Block :=
  let x := b.eng e
  let en := if e < 64 then b.rdB (ENG_CFG e) 0 else b.rdB (DEN_CFG e) 0
  if x.ps = .run ∧ en ∧ x.hold = 0 ∧ !x.calRun ∧ x.passes.isEmpty ∧ x.dyn.jobs.isEmpty then b.setPs e .toDoze else b

/-- NAP_TIMER_EXPIRY (R29, R83). -/
def napExpiry (e : Nat) (b : Block) : Block :=
  let en := if e < 64 then b.rdB (ENG_CFG e) 1 else b.rdB (DEN_CFG e) 1
  if (b.eng e).ps = .doze ∧ en then b.setPs e .toNap else b

/-- DOZE_ENTRY_COMPLETE (R31). -/
def dozeEntry (e : Nat) (b : Block) : Block := if (b.eng e).ps = .toDoze then b.setPs e .doze else b
/-- NAP_ENTRY_COMPLETE (R31). -/
def napEntry (e : Nat) (b : Block) : Block := if (b.eng e).ps = .toNap then b.setPs e .nap else b

/-- WAKE_TO_DOZE_COMPLETE (R29). -/
def wakeDozeDone (e : Nat) (b : Block) : Block :=
  match (b.eng e).ps with
  | .pllStart r => b.setPs e (if r then .waking else .doze)
  | .redoze => b.setPs e .doze
  | _ => b

/-- WAKE_HOLD_EXPIRY (R285). -/
def holdExpiry (e : Nat) (b : Block) : Block := b.updEng e fun x => { x with hold := 0 }

/-- WAKE (R285): the hint acts at once with `DELAY` 0, else when its delay runs out. -/
def wakeEff (idx : Nat) (d : Desc) (b : Block) : Block :=
  b.descr idx d 0x03 true [0x0103FFFF, 0xFFFFFFFF] fun b =>
    let s := dTgt d
    let es := ((List.range 16).filter fun k => (d.word 1).getLsbD k).map (16 * s + ·)
      ++ ((List.range 2).filter fun k => (d.word 1).getLsbD (16 + k)).map (64 + 2 * s + ·)
    let toRun := dB d 1 24
    let hold := if toRun then dF d 2 16 16 else 0
    let b := if dF d 2 0 16 = 0 then b.each es fun b e => b.hint e toRun hold
      else { b with wakes := b.wakes ++ [⟨b.nextWake, es, toRun, hold⟩], nextWake := b.nextWake + 1 }
    b.reached idx

/-- WAKE_HINT_DELAY_EXPIRY (R285): the delay of hint `id` runs out. -/
def wakeDelayExpiry (id : Nat) (b : Block) : Block :=
  match b.wakes.find? fun w => w.id == id with
  | none => b
  | some w =>
    let b := { b with wakes := b.wakes.filter fun v => v.id != id }
    b.each w.engs fun b e => b.hint e w.toRun w.hold

/-- A write of `ENG_WAKE` or `DEN_WAKE` (R83, R269). -/
def wakeWrite (e : Nat) (v : Word) (b : Block) : Block × Bool :=
  let b := b.when (bit v 1) fun b => b.hint e false 0
  (b.when (bit v 0) fun b => b.hint e true 0, bit v 0 || bit v 1)

/-! ## Meanings -/

/-- PASS (R286). The codes are those the analogue chain delivers for each symbol and row (R54). -/
def execDPass (idx : Nat) (d : Desc) (adc : List (List (BitVec 8))) (s : State) : Res :=
  if passShape d adc then s.done (passEff idx d adc) else .fault .operandShape
/-- TREE_COLUMN_RESULT (R176); a group that waited for the leaves may start (R180). -/
def execTreeColumnResult (st : Fin 4) (con : Nat) (s : State) : Res := s.done fun b => (treeColumn st con b).pump
/-- WAKE (R285). -/
def execDWake (idx : Nat) (d : Desc) (s : State) : Res := s.done (wakeEff idx d)
/-- WAKE_HINT_DELAY_EXPIRY (R285). -/
def execWakeHintDelayExpiry (hint : Nat) (s : State) : Res := s.done (wakeDelayExpiry hint)
/-- WAKE_HOLD_EXPIRY (R285). -/
def execWakeHoldExpiry (e : Fin 72) (s : State) : Res := s.done (holdExpiry e)
/-- IDLE_TIMER_EXPIRY (R29). -/
def execIdleTimerExpiry (e : Fin 72) (s : State) : Res := s.done (idleExpiry e)
/-- NAP_TIMER_EXPIRY (R29). -/
def execNapTimerExpiry (e : Fin 72) (s : State) : Res := s.done (napExpiry e)
/-- DOZE_ENTRY_COMPLETE (R31). -/
def execDozeEntryComplete (e : Fin 72) (s : State) : Res := s.done (dozeEntry e)
/-- NAP_ENTRY_COMPLETE (R31). -/
def execNapEntryComplete (e : Fin 72) (s : State) : Res := s.done (napEntry e)
/-- WAKE_TO_DOZE_COMPLETE (R29). -/
def execWakeToDozeComplete (e : Fin 72) (s : State) : Res := s.done (wakeDozeDone e)
/-- ENG_WAKE_RUN (R83). -/
def execEngWakeRun (m : Master) (e : Fin 64) (v : Word) (s : State) : Res :=
  s.done fun b => b.gate m (ENG_WAKE e) (wakeWrite e (v ||| 1))
/-- ENG_WAKE_DOZE (R83). -/
def execEngWakeDoze (m : Master) (e : Fin 64) (v : Word) (s : State) : Res :=
  s.done fun b => b.gate m (ENG_WAKE e) (wakeWrite e (v ||| 2))
/-- DEN_WAKE_RUN (R269). -/
def execDenWakeRun (m : Master) (n : Fin 8) (v : Word) (s : State) : Res :=
  s.done fun b => b.gate m (DEN_WAKE (64 + n)) (wakeWrite (64 + n) (v ||| 1))
/-- DEN_WAKE_DOZE (R269). -/
def execDenWakeDoze (m : Master) (n : Fin 8) (v : Word) (s : State) : Res :=
  s.done fun b => b.gate m (DEN_WAKE (64 + n)) (wakeWrite (64 + n) (v ||| 2))

end Sys2Proof.Machine
end

