-- ==== Sys2Proof/Machine/Dynamic.lean ====
section
/-! DEFINITION. The dynamic engines (R242 to R263, R266, R268, R290): ring values, fills into the shadow registers, the
latch, score and value passes, and the end of an engine's wait for Run. -/

namespace Sys2Proof.Machine

/-! ## The ring table (R243 to R245) -/

/-- The production ring table. The spec gives the conditions of R244, R245 and R246 and no value: DESIGN CHOICE
(assumption 25), codes 20 to 212 in equal steps, each realising the mean of `G × v` over the values it serves. -/
def tblDefault (i : Nat) : Word :=
  let c := 192 * i / 255
  let lo := (255 * c + 191) / 192
  let hi := min ((255 * (c + 1) + 191) / 192 - 1) 255
  wd (20 + c + unsx 16 (⟨117 * ((lo + hi : Nat) - 256 : Int), 2⟩ : Fr).rneInt * 65536)

def tblGet (t : SMap Word) (i : Nat) : Word := t.get tblDefault i
/-- `CODE` and `WREAL` of an entry (R243). -/
def tCode (w : Word) : Nat := fld w 0 8
def tWreal (w : Word) : Int := sext 16 (fld w 16 16)

/-- The weight that a ring holding `v` realises by the table in force (R243). -/
def Eng.wreal (x : Eng) (v : Int) : Int := tWreal (tblGet x.dyn.tblF (v + 128).toNat)

/-! ## Rows (R251 to R254) -/

/-- The row valid bits cleared: no row is valid, no fill counts (R254). -/
def Block.rowsInvalid (b : Block) (e : Nat) : Block :=
  ((b.wr (DEN_RVALID_LO e) 0).wr (DEN_RVALID_HI e) 0).updEng e fun x => { x with dyn := { x.dyn with plan := [] } }

/-- Is no row of dynamic engine `e` valid? -/
def Block.noRows (b : Block) (e : Nat) : Bool := b.rd (DEN_RVALID_LO e) == 0 && b.rd (DEN_RVALID_HI e) == 0

/-- What a fill writes for row `r` given the value of each input (R251): rings by the assignment map in force, the row
sum over the enabled groups by the ring table in force, and the row's park entries. -/
def Eng.fillRow (x : Eng) (e r : Nat) (vals : List Int) (value : Bool) : DRow :=
  let on (g : Nat) : Bool := !x.offF.contains (sectKey r g)
  let served := (List.range 2).flatMap fun g => if on g then
      (List.range 68).filterMap fun k =>
        let m := mapGet x.mapF (ringIx e r g k)
        if mRole m = 0 then some (64 * g + mInput m) else none
    else []
  let w := (List.range 128).map fun j => if served.contains j then x.wreal (vals.getD j 0) else 0
  let park := (x.parkF.filter fun p => p / 512 == r && on (p % 512 / 64)).map fun p =>
    (p % 512, x.wparks.get wparkDef p)
  { v := vals, w := w, wsum := w.foldl (· + ·) 0, park := park, value := value }

def drowGet (m : SMap DRow) (r : Nat) : DRow := m.get (fun _ => {}) r

/-- The lost-weight ratio of a dynamic row in 2^−16 units (R359): the weights that its parked inputs and the inputs of
its disabled sections were filled with, against those of all inputs. -/
def Eng.dynLost (x : Eng) (r : Nat) (row : DRow) : Nat :=
  let term (j : Nat) : Nat := (x.wreal (row.v.getD j 0)).natAbs ^ 2
  let lost (j : Nat) : Bool := x.parkF.contains (512 * r + j) || x.offF.contains (sectKey r (j / 64))
  let all := (List.range 128).foldl (fun a j => a + term j) 0
  let bad := (List.range 128).foldl (fun a j => if lost j then a + term j else a) 0
  if all = 0 then 0 else min (sqrtFr ⟨bad * 2 ^ 32, all⟩) 65535

/-- `LOST`, `LROW` and `DIS` from the rows latched (R356, R359). -/
def Block.dynShowLost (b : Block) (e : Nat) : Block :=
  let x := b.eng e
  let best := x.dyn.rows.foldl (fun (a : Nat × Nat) (q : Nat × DRow) =>
    let l := x.dynLost q.1 q.2
    if a.1 < l then (l, q.1) else a) (0, 0)
  let dis := (List.range 2).any fun g => x.offF.contains (sectKey best.2 g)
  b.wr (DEN_EBUD0 e + 8) (wd (best.1 + best.2 * 2 ^ 16 + b2n dis * 2 ^ 25))

/-- The rows of the shadow moved into the DACs (R251, R252, R254). -/
def Block.latchRows (b : Block) (e : Nat) : Block :=
  let x := b.eng e
  let b := b.setEng e { x with dyn :=
    { x.dyn with rows := x.dyn.shadow.foldl (fun m q => m.set (fun _ => {}) q.1 q.2) x.dyn.rows, shadow := [] } }
  let b := b.each x.dyn.shadow fun b q =>
    (if q.1 < 32 then b.setB (DEN_RVALID_LO e) q.1 else b.setB (DEN_RVALID_HI e) (q.1 - 32)).wrB (DEN_STATE e) 5 q.2.value
  ((b.clrB (DEN_STATE e) 2).bump (DEN_LATCHCNT e)).dynShowLost e

/-- The digital row stage of a dynamic engine (R249). -/
def DRow.y (row : DRow) (shift : Nat) (adc : BitVec 8) (drive : List Nat) (offset : Bool) : Int :=
  let v : Int := adc.toInt * 2 ^ shift
  let v := if offset then v - 128 * row.wsum else v
  row.park.foldl (fun (v : Int) (p : Nat × Int) => v - p.2 * (drive.getD p.1 0 : Nat)) v

/-- The exact value of a row for the input values of a symbol: the sum of R249's table of values. -/
def DRow.exact (row : DRow) (u : List Int) : Int :=
  ((row.w.zip u).map fun (w, u) => w * u).foldl (· + ·) 0

/-! ## Descriptor fields (R265, R290, R295) -/

/-- A position field, with `PBASE` added when `PREL` is set (R295). -/
def Block.dynPos (b : Block) (d : Desc) (i : Nat) (prel : Bool) : Nat :=
  (dF d i 0 32 + (if prel then b.pbase else 0)) % 2 ^ 32

def dSrc (d : Desc) : Nat := dAddr d 2
def dStride (d : Desc) : Nat := dF d 3 16 16

/-- The 16 entries of a K4C or V4C codebook at vector SRAM offset `o` (R222). -/
def Block.dynBook (b : Block) (o : Nat) : List Int :=
  (List.range 16).map fun i => sext 8 (b.rd8 (vsBase + o + i)).toNat

/-- Is the codebook valid (R222)? -/
def bookOk (cb : List Int) : Bool :=
  ((List.range 15).all fun i => decide (cb.getD i 0 < cb.getD (i + 1) 0)) && cb.any (· != 0)

/-- 128 signed 8-bit values of a cache row (R226), the elements of uncorrectable sectors 0 (R419). -/
def Block.cacheRow (b : Block) (ue : List Nat) (a : Nat) (book : Option (List Int)) : List Int :=
  match book with
  | none => (poisonBytes ue a (b.rdBytes a 128)).map fun x => x.toInt
  | some cb =>
    let bs := poisonBytes ue a (b.rdBytes a 64)
    (List.range 128).map fun e => cb.getD (bits (bs.getD (e / 2) 0).toNat (4 * (e % 2)) 4) 0

/-- A dynamic descriptor rejected by its engine for a reason of R266. -/
def Block.dynReject (b : Block) (e idx reason : Nat) : Block :=
  let b := ((b.setB (DEN_ERR e) 0).wrF (DEN_ERR e) 8 4 reason).raise (P_DEN e) 0
  (b.ev 0x4401 e [(1, reason)]).reject idx (stackOf e) 10

/-- A dynamic descriptor refused for an address span: beyond the capacity an access fault and reason 5 (R266, R420),
otherwise reserved (R277 reason 4). -/
def Block.dynSpanErr (b : Block) (e idx : Nat) : SpanErr → Block
  | .reserved => b.reject idx (stackOf e) 4
  | .beyond a => (b.accessFault a (4 + stackOf e)).dynReject e idx 5

/-- Do rows below `r` and columns below `c` reach beyond the storage of a slot's record (R266 reason 1)? -/
def Block.beyondTile (b : Block) (s slot r c : Nat) : Bool :=
  match b.recordFor s slot with
  | some tr => decide (stRows tr < r ∨ stCols tr < c)
  | none => false

/-- Are rows 0 to `n - 1` filled with kind `k` in this frame (R254, R266 reason 3)? -/
def Block.rowsFilled (b : Block) (e n k : Nat) : Bool :=
  (List.range n).all fun r => (b.eng e).dyn.plan.get (fun _ => 0) r == k

/-! ## Fills (R251, R255) -/

/-- A fill carried out: its rows enter the shadow registers. -/
def Block.dynFill (b : Block) (e : Nat) (j : DJob) : Block :=
  let d := j.d
  let value := dB d 1 1
  let prel := dB d 6 1
  let p0 := b.dynPos d 4 prel
  let plim := b.dynPos d 5 prel
  let book := if value && dB d 1 2 then some (b.dynBook (dF d 7 0 25)) else none
  let len := if book.isSome then 64 else 128
  let src (i : Nat) : Nat := dSrc d + i * dStride d
  let from_ := if value then (List.range (min 128 (plim - p0))).map (p0 + ·) else List.range (dF d 1 8 7)
  let rows : List (List Int) :=
    if value then
      let pos := from_.map fun p => b.cacheRow j.ecc.ue (src p) book
      (List.range 64).map fun i => (List.range 128).map fun q => (pos.getD q []).getD (64 * dF d 6 0 1 + i) 0
    else from_.map fun i => b.cacheRow j.ecc.ue (src i) none
  let b := b.each from_ fun b p => b.hbmTouch (src p) len
  let b := (b.eccSeen j.ecc 0).when (!j.ecc.ue.isEmpty) fun b => b.flag fTAINTED
  let b := b.updEng e fun x => { x with dyn := { x.dyn with
    shadow := (rows.zip (List.range rows.length)).foldl
      (fun m (q : List Int × Nat) => m.put q.2 (x.fillRow e q.2 q.1 value)) x.dyn.shadow } }
  (b.setB (DEN_STATE e) 2).reached j.idx

/-! ## Passes (R249, R256 to R263) -/

/-- One symbol as the feeder drives it: drive codes and input values. -/
abbrev DSym := List Nat × List Int

/-- The symbols of a score pass (R247, R256): mode KEY. -/
def Block.keySyms (b : Block) (j : DJob) (kpos : Nat) : List DSym :=
  let book := if dB j.d 1 3 then some (b.dynBook (dF j.d 9 0 25)) else none
  (List.range (dF j.d 6 0 13)).map fun t =>
    let k := b.cacheRow j.ecc.ue (dSrc j.d + (kpos + t) * dStride j.d) book
    (k.map fun v => (v + 128).toNat, k)

/-- The drive code and value of one A7 code (R247): A7 or A7U, where every negative code is sent as 0. Any other stored
code outside −64 to +63 has no drive code in the spec: a free value. -/
def Block.probDrive (b : Block) (a7u : Bool) (x : Int) : (Nat × Int) × Block :=
  if a7u && decide (x < 0) then ((0, 0), b)
  else if x < -64 ∨ 63 < x then
    let (n, b) := b.freeUpTo 255
    ((n, if a7u then n else (n : Int) - 128), b)
  else if a7u then (((4 * x).toNat, 4 * x), b)
  else (((2 * x + 128).toNat, 2 * x), b)

/-- The symbols of a value pass (R247, R262), and the block that has taken the free values among them. -/
def Block.probSyms (b : Block) (j : DJob) (codes : List (List Int)) : List DSym × Block :=
  let a7u := dB j.d 1 1
  codes.foldl (fun (acc : List DSym × Block) row =>
    let (ps, b) := row.foldl (fun (a : List (Nat × Int) × Block) x =>
      let (p, b) := a.2.probDrive a7u x
      (a.1 ++ [p], b)) (([] : List (Nat × Int)), acc.2)
    (acc.1 ++ [(ps.map (·.1), ps.map (·.2))], b)) ([], b)

/-- The codes of a value pass: elements 128 *b* to 128 *b* + 127 of each stored row (R262). -/
def Block.probCodes (b : Block) (j : DJob) : List (List Int) :=
  (List.range (dF j.d 6 0 13)).map fun t =>
    b.cacheRow j.ecc.ue (dSrc j.d + t * dStride j.d + 128 * dF j.d 8 0 16) none

/-- Negative codes in A7U (R247): counted, and the first named. -/
def Block.negCodes (b : Block) (e : Nat) (codes : List (List Int)) : Block :=
  let neg (row : List Int) : Nat := (row.filter (· < 0)).length
  let n := codes.foldl (fun a row => a + neg row) 0
  match (List.range codes.length).find? fun t => neg (codes.getD t []) != 0 with
  | none => b
  | some t =>
    let b := ((b.bump (DEN_NEGCNT e) n).setB (DEN_ERR e) 1).raise (P_DEN e) 3
    b.ev 0x4403 e [(2, t), (2, t)]

/-- The symbols of a pass driven (R249, R253): every symbol's row results become its contributions' columns. `vis` says
whether row `r` of symbol `t` is applied, `fac` gives `c_t`. -/
def Block.drive (b : Block) (e : Nat) (j : DJob) (rows : Nat) (syms : List DSym) (offset : Bool) (sid flags : Nat)
    (vis : Nat → Nat → Bool) (fac : Nat → Word) : Block :=
  let s := stackOf e
  let n := syms.length
  let shift := b.rdF (DEN_OSCALE e) 8 5
  let b := b.contributes e
  let fl := b.engFlags e ||| flags ||| (if j.late then fLATE else 0)
  let b := b.flag fl
  let x := b.eng e
  let b := b.each (syms.zip (List.range n)) fun b (y, t) =>
    let adc := j.adc.getD t []
    let res (r : Nat) : Int := (drowGet x.dyn.rows r).y shift (adc.getD r 0) y.1 offset
    let col := ColRes.dyn ((List.range rows).map fun r => if vis t r then some (res r) else none) sid (fac t)
    let own (c : Con) : Con :=
      if c.id = j.con + t ∨ c.id = j.con + n + t then { c with res := [col], flags := c.flags ||| fl } else c
    let b := b.updStk s fun k => { k with cons := k.cons.map own }
    let b := (b.bump (DEN_ADCSAT e) (nSat (adc.take rows))).bump (DEN_SYMCNT e)
    b.countSymbol e fun r =>
      { row := r, m := (⟨res r, 2 ^ (shift - 8)⟩ : Fr).rneInt, drive := y.1, offset := offset,
        sat := nSat [adc.getD r 0] == 1, shift := shift, exact := some ((drowGet x.dyn.rows r).exact y.2) }
  b

/-- What a pass reads beside its data: HBM traffic and ECC (R417, R419). -/
def Block.dynRead (b : Block) (j : DJob) (addrs : List Nat) (len : Nat) : Block :=
  let b := b.each addrs fun b a => b.hbmTouch a len
  (b.eccSeen j.ecc 0).when (!j.ecc.ue.isEmpty) fun b => b.flag fTAINTED

/-- A score pass driven (R256 to R259). -/
def Block.dynScore (b : Block) (e : Nat) (j : DJob) : Block :=
  let d := j.d
  let prel := dB d 1 4
  let kpos := b.dynPos d 4 prel
  let qpos := b.dynPos d 5 prel
  let n := dF d 6 0 13
  let rpp := dF d 1 16 6
  let syms := b.keySyms j kpos
  let ka := dAddr d 11 + 4 * kpos
  let ks := poisonBytes j.ecc.ue ka (b.rdBytes ka (4 * n))
  let fac (t : Nat) : Word := if dB d 1 2 then wd (ofBytesLE ((ks.drop (4 * t)).take 4)) else 0x3F800000
  let vis (t r : Nat) : Bool := !dB d 1 1 || decide (kpos + t ≤ qpos + r / rpp)
  let b := b.dynRead j ((List.range n).map fun t => dSrc d + (kpos + t) * dStride d) (if dB d 1 3 then 64 else 128)
  let b := b.hbmTouch ka (4 * n)
  let b := b.drive e j (dF d 1 8 7) syms true (b.rdF (DEN_OSCALE e) 16 8) 0 vis fac
  b.wrBytes (vsBase + dF d 10 0 25) ks

/-- A value pass driven (R262). -/
def Block.dynValue (b : Block) (e : Nat) (j : DJob) : Block :=
  let d := j.d
  let a7u := dB d 1 1
  let codes := b.probCodes j
  let (syms, b) := b.probSyms j codes
  let b := b.dynRead j ((List.range codes.length).map fun t => dSrc d + t * dStride d + 128 * dF d 8 0 16) 128
  let b := b.when a7u fun b => b.negCodes e codes
  let clip := bit (b.rd32 (dAddr d 4 + 8)) 1 || a7u && codes.any fun row => row.any (· < 0)
  b.drive e j 64 syms (!a7u) (b.rdF (DEN_OSCALE e) 24 8) (if clip then fCLIP else 0) (fun _ _ => true) fun _ => 0x3F800000

/-! ## The queue (R253, R268, R281) -/

/-- Are fills and passes of dynamic engine `e` held, by a search in service (R105) or a probe point (R338)? -/
def Block.dynHeld (b : Block) (e : Nat) : Bool :=
  (match (b.eng e).search with | some q => !q.waiting | none => false)
    || (match (b.stk (stackOf e)).cal with | some c => c.eng == e && c.hold && !c.broken | none => false)

/-- The job at the head of an engine's queue carried out, if it can be: neither a fill nor a pass goes on while the shadow
awaits its latch (R251, R268), and a pass needs Run. -/
def Block.dynStep (b : Block) (e : Nat) : Block :=
  let x := b.eng e
  match x.dyn.jobs with
  | [] => b
  | j :: rest =>
    let pop (b : Block) : Block := b.updEng e fun x => { x with dyn := { x.dyn with jobs := rest } }
    if b.dynHeld e then b else
    match j.op with
    | .fill => if !x.dyn.shadow.isEmpty then b else (pop b).dynFill e j
    | .score => if x.ps ≠ .run ∨ !x.dyn.shadow.isEmpty then b else (pop b).dynScore e j
    | .value => if x.ps ≠ .run ∨ !x.dyn.shadow.isEmpty then b else (pop b).dynValue e j

/-- The queue of an engine served until its head must wait. -/
def Block.dynPump (b : Block) (e : Nat) : Block :=
  (List.range (b.eng e).dyn.jobs.length).foldl (fun b _ => b.dynStep e) b

/-- The queues of all engines of a stack served. -/
def Block.pumpAll (b : Block) (s : Nat) : Block := (b.pump.dynPump (64 + 2 * s)).dynPump (65 + 2 * s)

/-- A fill or pass that meets a probe point waits until the point ends (R338). -/
def Block.dynPreempt (b : Block) (e : Nat) : Block :=
  let s := stackOf e
  match (b.stk s).cal with
  | some c => if c.eng = e ∧ c.hold ∧ !c.broken then
      (b.bump (ASY_PREEMPT s)).updStk s fun k => { k with cal := some { c with yields := true } } else b
  | none => b

/-- A job issued to the engine's queue. -/
def Block.dynEnqueue (b : Block) (e : Nat) (j : DJob) : Block :=
  ((b.dynPreempt e).updEng e fun x => { x with dyn := { x.dyn with jobs := x.dyn.jobs ++ [j] } }).dynPump e

/-- The contributions of a pass, one per symbol and tile, in issue order (R181, R188, R256, R258). -/
def Block.dynCons (b : Block) (e : Nat) (idx n slot row0 col0 : Nat) (islot : Option Nat) : Block × Nat :=
  let s := stackOf e
  let k := b.stk s
  let base := k.nextCon
  let mk (id place slot t : Nat) (link : DLink) : Con :=
    { id := id, place := some place, slot := slot, col0 := col0 + t, ncol := 1, a13 := false, gnode := 0, mask := 0,
      dyn := some ((e - 64) % 2, row0), idxs := [idx], mem := [], res := [], flags := 0, link := link }
  let cs := (List.range n).flatMap fun t =>
    match islot with
    | none => [mk (base + t) (k.nextPlace + t) slot t .plain]
    | some i => [mk (base + t) (k.nextPlace + 2 * t) slot t (.score (base + n + t)),
                 mk (base + n + t) (k.nextPlace + 2 * t + 1) i t (.index none)]
  (b.setStk s { k with cons := k.cons ++ cs, nextCon := base + 2 * n, nextPlace := k.nextPlace + 2 * n }, base)

/-- A pass issued: pause symbols (R296), the wake of an engine outside Run (R32), then the queue. -/
def Block.dynPass (b : Block) (e : Nat) (j : DJob) (slot row0 col0 : Nat) (islot : Option Nat) : Block :=
  let n := dF j.d 6 0 13
  let b := b.pause (stackOf e) n
  let late := decide ((b.eng e).ps ≠ .run)
  let b := b.lateWake e
  let (b, base) := b.dynCons e j.idx n slot row0 col0 islot
  b.dynEnqueue e { j with con := base, waits := if late then some b.time else none, late := late }

/-- The engine of a dynamic descriptor (R290). -/
def dynEng (d : Desc) : Nat := 64 + 2 * dTgt d + dF d 1 0 1

/-- DFILL (R255, R266). -/
def dfillEff (idx : Nat) (d : Desc) (x : Ecc) (b : Block) : Block :=
  b.descr idx d 0x11 true [0x7F07, mLo, 0xFFFF00FF, mLo, mLo, 3, 0x1FFFFFF] fun b =>
    let e := dynEng d
    let value := dB d 1 1
    let rows := dF d 1 8 7
    let prel := dB d 6 1
    let p0 := b.dynPos d 4 prel
    let n := min 128 (b.dynPos d 5 prel - p0)
    let v4 := value && dB d 1 2
    let cbAt := dF d 7 0 25
    if b.modState ≠ stActive then b.reject idx (dTgt d) 6
    else if rows = 0 ∨ 64 < rows ∨ value && rows != 64 then b.dynReject e idx 1
    else if value ∧ 2 ^ 32 < p0 + 128 then b.dynReject e idx 7
    else
      let spans := (if value then [(dSrc d + p0 * dStride d, spanOf n (if v4 then 64 else 128) (dStride d))]
        else [(dSrc d, spanOf rows 128 (dStride d))]).filter (fun q => q.2 != 0)
        ++ (if v4 then [(vsBase + cbAt, 16)] else [])
      match firstSpanErr b.grade spans with
      | some q => b.dynSpanErr e idx q
      | none =>
        if v4 && !bookOk (b.dynBook cbAt) then b.dynReject e idx 7 else
        let b := b.updEng e fun x => { x with dyn := { x.dyn with
          plan := (List.range rows).foldl (fun m r => m.put r (if value then 2 else 1)) x.dyn.plan } }
        b.dynEnqueue e { idx := idx, op := .fill, d := d, ecc := x, adc := [], con := 0, waits := none, late := false }

/-- DSCORE (R256 to R259, R266). -/
def dscoreEff (idx : Nat) (d : Desc) (adc : List (List (BitVec 8))) (x : Ecc) (b : Block) : Block :=
  b.descr idx d 0x12 true [0x3F7F1F, mLo, 0xFFFF00FF, mLo, mLo, 0x03FF1FFF, 0x0FFF01FF, 0x800003FF, 0x1FFFFFF, 0x1FFFFFF,
      mLo, mHi] fun b =>
    let s := dTgt d
    let e := dynEng d
    let rows := dF d 1 8 7
    let rpp := dF d 1 16 6
    let n := dF d 6 0 13
    let slot := dF d 6 16 10
    let row0 := dF d 7 0 9
    let col0 := dF d 7 16 12
    let islot := if dB d 8 31 then some (dF d 8 0 10) else none
    let kpos := b.dynPos d 4 (dB d 1 4)
    let k4 := dB d 1 3
    let cbAt := dF d 9 0 25
    let iop : Nat := match islot with
      | some i => match b.recordFor s i with | some tr => tOp tr | none => 3
      | none => 3
    let ibad : Bool := match islot with | some i => b.beyondTile s i (row0 + rows) 0 | none => false
    if b.modState ≠ stActive then b.reject idx s 6
    else if rows = 0 ∨ 64 < rows ∨ n = 0 ∨ 4096 < n ∨ rpp = 0 ∨ 64 / rpp * rpp < rows
        ∨ b.beyondTile s slot (row0 + rows) (col0 + n)
        ∨ ibad then b.dynReject e idx 1
    else if !b.rowsFilled e rows 1 then b.dynReject e idx 3
    else if iop ≠ 3 ∧ iop ≠ 4 then b.dynReject e idx 4
    else
      match firstSpanErr b.grade ([(dSrc d + kpos * dStride d, spanOf n (if k4 then 64 else 128) (dStride d)),
          (dAddr d 11 + 4 * kpos, 4 * n), (vsBase + dF d 10 0 25, 4 * n)] ++ if k4 then [(vsBase + cbAt, 16)] else []) with
      | some q => b.dynSpanErr e idx q
      | none =>
        if k4 && !bookOk (b.dynBook cbAt) then b.dynReject e idx 7 else
        b.dynPass e { idx := idx, op := .score, d := d, ecc := x, adc := adc, con := 0, waits := none, late := false }
          slot row0 col0 islot

/-- DVALUE (R262, R266). -/
def dvalueEff (idx : Nat) (d : Desc) (adc : List (List (BitVec 8))) (x : Ecc) (b : Block) : Block :=
  b.descr idx d 0x13 true [3, mLo, 0xFFFF00FF, mLo, mHi, 0x03FF1FFF, 0x0FFF01FF, 0xFFFF] fun b =>
    let s := dTgt d
    let e := dynEng d
    let n := dF d 6 0 13
    let slot := dF d 6 16 10
    let row0 := dF d 7 0 9
    let col0 := dF d 7 16 12
    if b.modState ≠ stActive then b.reject idx s 6
    else if n = 0 ∨ 4096 < n ∨ b.beyondTile s slot (row0 + 64) (col0 + n) then b.dynReject e idx 1
    else if !b.rowsFilled e 64 2 then b.dynReject e idx 3
    else
      match firstSpanErr b.grade [(dSrc d + 128 * dF d 8 0 16, spanOf n 128 (dStride d)), (dAddr d 4, 16)] with
      | some q => b.dynSpanErr e idx q
      | none =>
        let fmt := b.rdLE (dAddr d 4 + 12) 4 % 16
        if fmt = 1 then b.dynReject e idx 2
        else if fmt ≠ 0 ∨ !bit (b.rd32 (dAddr d 4 + 8)) 0 then b.dynReject e idx 6
        else b.dynPass e { idx := idx, op := .value, d := d, ecc := x, adc := adc, con := 0, waits := none, late := false }
          slot row0 col0 none

/-- LATCH (R252, R253): at a symbol boundary, no symbol of the engine being in flight. Nothing happens with an empty
shadow, while a probe point holds the engine (R338), or outside Active. -/
def latchEff (e : Nat) (b : Block) : Block :=
  if (b.eng e).dyn.shadow.isEmpty ∨ b.dynHeld e then b else (b.latchRows e).dynPump e

/-- A dynamic engine at the frame boundary (R254, R268): shadow discarded, no row valid, the queue empty; the DACs keep
their values. -/
def Block.dynBoundary (b : Block) (e : Nat) : Block :=
  let b := (b.rowsInvalid e).clrB (DEN_STATE e) 2
  b.updEng e fun x => { x with dyn := { x.dyn with shadow := [], jobs := [] } }

/-- A dynamic engine in Stow or on a trip (R268): as at a boundary, and its DACs at 0 V. -/
def Block.dynStow (b : Block) (e : Nat) : Block :=
  (b.dynBoundary e).updEng e fun x => { x with dyn := { x.dyn with rows := [] } }

/-! ## Wakes and holds (R32, R328, R338) -/

/-- The hold of a calibration begins once the rows are decoded and the engine is in Run (R328): the loops of its regions
are held. A dynamic engine must have no valid row while a frame runs, and an idle feeder (R338); its rows then give way to
the probe's. -/
def Block.calHoldBegin (b : Block) (s : Nat) : Block :=
  match (b.stk s).cal with
  | none => b
  | some c =>
    let x := b.eng c.eng
    if !c.decoded || c.hold || c.fitting || c.retry || x.ps ≠ .run
      || (decide (64 ≤ c.eng) && (!x.dyn.jobs.isEmpty || b.inFrame && (!b.noRows c.eng || !x.dyn.shadow.isEmpty))) then b else
    let b := b.updStk s fun k => { k with cal := some { c with hold := true, point := 0, broken := false, yields := false, acc := [] } }
    let b := b.updEng c.eng fun x =>
      { x with regions := c.regions.foldl (fun m q => m.upd (fun _ => {}) q fun r => { r with held := true }) x.regions }
    b.when (64 ≤ c.eng) fun b => b.dynStow c.eng

/-- WAKE_TO_RUN_COMPLETE (R29, R32): the passes held for the engine start, each that waited logged (R313). -/
def wakeRunDone (e : Nat) (b : Block) : Block :=
  if (b.eng e).ps ≠ .waking then b else
  let b := b.setPs e .run
  let waited := (b.eng e).passes.filterMap (·.waits) ++ (b.eng e).dyn.jobs.filterMap (·.waits)
  let b := b.each waited fun b t => b.evF 0x4507 (stackOf e) [(1, e), (4, (b.time - t).toNat * 4)] b.frameId
  let b := b.updEng e fun x => { x with
    passes := x.passes.map fun p => { p with waits := none }
    dyn := { x.dyn with jobs := x.dyn.jobs.map fun j => { j with waits := none } } }
  let b := b.pumpAll (stackOf e)
  match (b.stk (stackOf e)).cal with
  | some c => if c.eng = e then b.calHoldBegin (stackOf e) else b
  | none => b

/-! ## Meanings -/

/-- Are the ADC codes of a dynamic pass one list of 64 per symbol? -/
def dynShape (d : Desc) (adc : List (List (BitVec 8))) : Bool :=
  adc.length == dF d 6 0 13 && adc.all fun a => a.length == 64

/-- DFILL (R255). -/
def execDDfill (idx : Nat) (d : Desc) (ecc : Ecc) (s : State) : Res := s.done (dfillEff idx d ecc)
/-- LATCH (R252). -/
def execLatch (n : Fin 8) (s : State) : Res := s.done (latchEff (64 + n))
/-- DSCORE (R256). The codes are those the analogue chain delivers for each symbol and row. -/
def execDDscore (idx : Nat) (d : Desc) (adc : List (List (BitVec 8))) (ecc : Ecc) (s : State) : Res :=
  if dynShape d adc then s.done (dscoreEff idx d adc ecc) else .fault .operandShape
/-- DVALUE (R262). -/
def execDDvalue (idx : Nat) (d : Desc) (adc : List (List (BitVec 8))) (ecc : Ecc) (s : State) : Res :=
  if dynShape d adc then s.done (dvalueEff idx d adc ecc) else .fault .operandShape
/-- WAKE_TO_RUN_COMPLETE (R32). -/
def execWakeToRunComplete (e : Fin 72) (s : State) : Res := s.done (wakeRunDone e)

end Sys2Proof.Machine
end

