-- ==== Sys2Proof/Machine/CalEnd.lean ====
section
/-! DEFINITION. How a calibration ends without being accepted (R331, R337), and how regions become due (R322): what the
plate machinery, the lock block, module transitions and resets ask of the calibration. -/

namespace Sys2Proof.Machine

def Block.region (b : Block) (e q : Nat) : Region := (b.eng e).regions.get (fun _ => {}) q
def Block.updRegion (b : Block) (e q : Nat) (f : Region → Region) : Block :=
  b.updEng e fun x => { x with regions := x.regions.upd (fun _ => {}) q f }

/-- The regions of engine `e`. -/
def regionsOf (e : Nat) : List Nat := List.range (if e < 64 then 64 else 4)

/-- Lock state code of a region (R118). -/
def Block.lockSt (b : Block) (e q : Nat) : Nat := b.rdF (LCK_R_STATE e q) 0 3

/-- What is due and since when, with a further trigger (R322, R323): the older time, the larger scope. -/
def addDue (d : Option (BitVec 64 × Nat)) (now : BitVec 64) (scope : Nat) : Option (BitVec 64 × Nat) :=
  match d with
  | some (t, sc) => some (t, max sc scope)
  | none => some (now, scope)

/-- A region becomes due for calibration (R322), with the scope of its trigger; a region Off or Failed does not, and one
in backoff only by request. A request made while a calibration of the region runs is kept for its end. -/
def Block.makeDue (b : Block) (e q scope : Nat) (request : Bool) : Block :=
  let st := b.lockSt e q
  if st = 0 ∨ st = 7 then b else
  let r := b.region e q
  if r.backoff && !request then b else
  let running := match (b.stk (stackOf e)).cal with | some c => c.eng == e && c.regions.contains q | none => false
  if !running then b.updRegion e q fun r => { r with due := addDue r.due b.time scope }
  else if request then b.updRegion e q fun r => { r with dueNew := addDue r.dueNew b.time scope }
  else b

/-- The hold of a calibration ends: its regions are released (R147), and the engine is no longer kept in Run (R324); in
Hold it goes to Nap (R34). -/
def Block.releaseHold (b : Block) (c : Cal) : Block :=
  let b := b.each c.regions fun b q => b.updRegion c.eng q fun r => { r with held := false, step := 0 }
  let b := b.updEng c.eng fun x => { x with calRun := false }
  b.when (b.modState == stHold) fun b => (b.setPs c.eng .nap).updEng c.eng fun x => { x with hold := 0 }

/-- The slot number in `ASY` fields of engine `e` (R343). -/
def asySlot (e : Nat) : Nat := slotOf e

/-- A calibration ends abandoned (outcome 1) or aborted (outcome 2), with its cause (R331, R337): old values stay, event
0x4703; an abandonment puts its regions in backoff, an abort leaves them due. -/
def Block.calStop (b : Block) (s outcome cause : Nat) : Block :=
  match (b.stk s).cal with
  | none => b
  | some c =>
    let b := (b.releaseHold c).updStk s fun k => { k with cal := none, decoding := false }
    let b := b.each c.regions fun b q => b.updRegion c.eng q fun r =>
      { r with backoff := r.backoff || outcome == 1, dueNew := none,
               due := if outcome = 1 then r.dueNew else match r.dueNew with
                 | some (t, sc) => addDue r.due t sc
                 | none => r.due,
               aban := min (r.aban + 1) 65535 }
    let b := b.wr (ASY_LAST s) (wd (outcome + asySlot c.eng * 2 ^ 2 + c.first * 2 ^ 7 + c.scope * 2 ^ 13
      + min c.attempt 7 * 2 ^ 16 + cause * 2 ^ 20))
    let b := (b.bump (ASY_ABNCNT s)).raise (P_ASY s) 1
    (b.ev 0x4703 s [(1, asySlot c.eng), (1, c.first), (1, cause), (1, c.attempt)]).pumpAll s

/-- The calibration of engine `e`, if one runs, is abandoned with `cause` (R337). -/
def Block.calAbandon (b : Block) (e cause : Nat) : Block :=
  match (b.stk (stackOf e)).cal with
  | some c => if c.eng = e then b.calStop (stackOf e) 1 cause else b
  | none => b

/-! ## Results of an accepted calibration that wait (R334, R335, R337) -/

/-- The results of an accepted calibration of engine `e` that wait to come into force. -/
def Block.calWaiting (b : Block) (e : Nat) : Option CalRes :=
  ((b.stk (stackOf e)).calDone.find? fun c => c.eng == e).bind fun c => c.res

/-- `QDEPTH` shows the ring-trim writes queued (R88). -/
def Block.showQueue (b : Block) (e : Nat) : Block := b.wrF (TRM_STAT e) 16 13 (b.eng e).trimQ.length

/-- `SLEWING` shows whether row trims are armed to slew (R90). -/
def Block.showSlew (b : Block) (e : Nat) : Block :=
  b.wrB (TRM_STAT e) 2 (b.rdB (TRM_CTRL e) 0 && b.rdB (TRM_CTRL e) 2)

/-- `ROW_ARM` (0) or `MOD_ARM` (1) with its pending bit. -/
def Block.armTrim (b : Block) (e k : Nat) (x : Bool) : Block := (b.wrB (TRM_CTRL e) k x).wrB (TRM_STAT e) k x

/-- A modulator's gain written to the pending copy of its word (R89). -/
def Block.setMgain (b : Block) (e m : Nat) (g : Int) : Block :=
  let i := m / 2
  let cur := ((b.eng e).modP.find i).getD (b.rd (TRM_MOD e i))
  b.updEng e fun x => { x with modP := x.modP.put i (setFld cur (16 * (m % 2)) 8 (unsx 8 g)) }

/-- The row and modulator trims of the results that wait for engine `e` are armed (R334, R335): pending fields, arm bits,
and `SLEW` for a gradual application. What they replace is kept for a discard. -/
def Block.calArm (b : Block) (e : Nat) : Block :=
  match b.calWaiting e with
  | none => b
  | some res =>
    let set (b : Block) (y : TrimSaved) : Block := b.updStk (stackOf e) fun k => { k with calDone := k.calDone.map fun c =>
      if c.eng = e then { c with armed := true, res := some { res with saved := some y } } else c }
    match res.saved with
    | some y => set b y
    | none =>
      let y : TrimSaved :=
        { ctl := b.rdF (TRM_CTRL e) 0 3, rows := res.rows.map fun x => (x.1, b.rdF (TRM_ROW e x.1) 0 16),
          mods := (res.mods.map fun x => x.1 / 2).dedup.map fun i => (i, (b.eng e).modP.find i) }
      let b := b.each res.rows fun b (r, g, o) => b.wrF (TRM_ROW e r) 0 16 (unsx 8 g + unsx 8 o * 256)
      let b := b.each res.mods fun b (m, g) => b.setMgain e m g
      let b := (b.wrB (TRM_CTRL e) 2 res.gradual).armTrim e 0 true
      let b := b.when (!res.mods.isEmpty) fun b => b.armTrim e 1 true
      set (b.showSlew e) y

/-- What the arming of results replaced put back, as far as it has not come into force (R337). -/
def Block.calUnarm (b : Block) (e : Nat) (y : TrimSaved) : Block :=
  let b := b.when (b.rdB (TRM_CTRL e) 0) fun b =>
    (b.each y.rows fun b (r, v) => b.wrF (TRM_ROW e r) 0 16 v).armTrim e 0 (y.ctl.testBit 0)
  let b := b.when (b.rdB (TRM_CTRL e) 1) fun b =>
    (b.updEng e fun x => { x with modP := y.mods.foldl (fun m (i, w) => match w with
      | some v => m.put i v | none => m.drop i) x.modP }).armTrim e 1 (y.ctl.testBit 1)
  (b.wrB (TRM_CTRL e) 2 (y.ctl.testBit 2)).showSlew e

/-- The waiting results that `p` names are discarded with what they queued and armed (R337). Ring trims that a rebuild
under way has taken stay with it. -/
def Block.calDrop (b : Block) (s : Nat) (p : Cal → Bool) : Block :=
  let b := b.each ((b.stk s).calDone.filter p) fun b c =>
    let e := c.eng
    let b := b.when (b.eng e).build.isNone fun b =>
      (b.updEng e fun x => { x with trimQ := x.trimQ.filter fun w => !w.cal }).showQueue e
    match c.res.bind fun r => r.saved with
    | some y => b.calUnarm e y
    | none => b
  b.updStk s fun k => { k with calDone := k.calDone.filter fun c => !p c }

/-! ## The staging copy (R469) -/

/-- The failed-ring marks of engine `e` staged, when a map is committed or a ring replaced. -/
def Block.stageMarks (b : Block) (e : Nat) : Block :=
  let mine := ((b.eng e).mapP.filter fun w => mRole w.2 == 2).map fun w => (e, w.1, w.2)
  { b with pw := { b.pw with stage := { b.pw.stage with
      marks := (b.pw.stage.marks.filter fun w => w.1 != e) ++ mine } } }

/-- Does register offset `o` hold a row or modulator trim of engine `e` (R88, R471)? -/
def isTrim (e o : Nat) : Bool :=
  match pageAt o with
  | some (.trm, i) | some (.trmd, i) => i == e && decide (0x100 ≤ o % 0x1000)
  | _ => false

/-- What the save keeps of a trim register: of a row trim only the part in force, as both parts. -/
def trimKept (o : Nat) (v : Word) : Word :=
  if 0x800 ≤ o % 0x1000 then wd (fld v 16 16 * 65536 + fld v 16 16) else v

/-- Row and modulator trims and far-off weights of engine `e` staged, when results of a calibration come into force. -/
def Block.stageTrims (b : Block) (e : Nat) : Block :=
  let mine := (b.regs.filter fun x => isTrim e x.1).map fun x => (x.1, trimKept x.1 x.2)
  let old := b.pw.stage.trims.filter fun x => !isTrim e x.1
  { b with pw := { b.pw with stage := { b.pw.stage with
      trims := mine.foldl (fun m x => m.put x.1 x.2) old, parks := b.pw.stage.parks.put e (b.eng e).wparks } } }

/-! ## The error-budget register as loads and calibrations change it (R356, R358, R359) -/

/-- `EBUD0` to `EBUD3` of an engine. -/
def ebud (e k : Nat) : Nat := (if e < 64 then ENG_EBUD0 e else DEN_EBUD0 e) + 4 * k

/-- A START's swap, or a `RANGE` coming into force, takes the validity of the estimates (R358); a new model that of
`LOCK` too. -/
def Block.ebudInvalid (b : Block) (e : Nat) (model : Bool) : Block :=
  let b := (b.clrB (ebud e 3) 24).clrB (ebud e 3) 27
  let b := ((b.wr (ebud e 0) 0).wrF (ebud e 1) 16 16 0).wrF (ebud e 3) 0 16 0
  b.when model fun b =>
    ((b.clrB (ebud e 3) 25).wrF (ebud e 1) 0 16 0).updEng e fun x => { x with lkN := 0, lkSum := 0 }

/-- `LOST`, `LROW` and `DIS` (R356), with event 0x470A when a rebuild raises `LOST`. -/
def Block.showLost (b : Block) (e : Nat) (q : Nat × Nat × Bool) (rises : Bool) : Block :=
  let b := b.wr (ebud e 2) (wd (q.1 + q.2.1 * 2 ^ 16 + b2n q.2.2 * 2 ^ 25))
  b.when rises fun b => b.ev 0x470A 0 [(1, e), (2, q.1), (2, q.2.1), (1, b2n q.2.2)]

end Sys2Proof.Machine
end

