-- ==== Sys2Proof/Machine/Plate.lean ====
section
/-! DEFINITION. Plates: the codebook and ring words, decoding, builds and rebuilds, the assignment map as the builder
reads it, plate halves and their swap, the refresh scan, ring, row and modulator trims (R47 to R90, R101, R102). -/

namespace Sys2Proof.Machine

/-! ## The assignment map (R47, R97, R98, R101, R102) -/

/-- A line that can carry an input: not one of the pilots L08, L26, L44, L62 (R41, R107). -/
def computeLine (l : Nat) : Bool := l < 72 && l != 8 && l != 26 && l != 44 && l != 62
def computeLines : List Nat := (List.range 72).filter computeLine

/-- The active rings of an Accord that serve input `j`. -/
def activeFor (e : Nat) (m : SMap Word) (r g j : Nat) : List Nat :=
  (List.range 68).filter fun k => let w := mapGet m (ringIx e r g k); mRole w == 0 && mInput w == j

/-- Has every active input of every enabled section an active ring or a park entry (R98)? -/
def mapComplete (e : Nat) (m : SMap Word) (park off : List Nat) : Bool :=
  (List.range (rowsOfEng e)).all fun r => (List.range (groupsOf e)).all fun g =>
    off.contains (sectKey r g) || (List.range 64).all fun j =>
      park.contains (inputKey r g j) || !(activeFor e m r g j).isEmpty

/-- Is a pending map valid (R102)? -/
def mapValid (e : Nat) (x : Eng) : Bool :=
  let ln (g j : Nat) := x.lineP.get (fun _ => 0) (64 * g + j)
  (List.range (groupsOf e)).all (fun g =>
    let ls := (List.range 64).map (ln g)
    let sp := (List.range 4).map fun i => x.spareP.get (fun _ => 0) (4 * g + i)
    ls.all computeLine && (List.range 63).all (fun j => decide (ln g j < ln g (j + 1)))
      && sp.all (fun l => computeLine l && !ls.contains l) && sp.dedup.length == 4
      && (List.range (rowsOfEng e)).all fun r =>
        let off := x.offP.contains (sectKey r g)
        (List.range 68).all (fun k =>
          let w := mapGet x.mapP (ringIx e r g k)
          mRole w != 0 || mLine w == ln g (mInput w))
        && (List.range 64).all fun j =>
          let n := (activeFor e x.mapP r g j).length
          let p := x.parkP.contains (inputKey r g j)
          decide (n ≤ 1) && (off || n + b2n p == 1))

/-- The assignment map in force, and the pending one. -/
def Eng.asgF (x : Eng) : Asg := ⟨x.mapF, x.lineF, x.spareF, x.parkF, x.offF⟩
def Eng.asgP (x : Eng) : Asg := ⟨x.mapP, x.lineP, x.spareP, x.parkP, x.offP⟩
/-- `a` put into force. -/
def Eng.setAsgF (x : Eng) (a : Asg) : Eng :=
  { x with mapF := a.map, lineF := a.line, spareF := a.spare, parkF := a.park, offF := a.off }

/-! ## Codebook, ring words and decoding (R61 to R63) -/

/-- The value of a codebook or curve halfword, signed Q1.14. -/
def q14 (n : Nat) : Int := sext 16 n

/-- `position(t)` of R61 on a curve; none when no interval of the curve holds `t`. -/
def position (curve : List Int) (wlim : Nat) (t : Int) : Option Nat :=
  let t := clampI (-(wlim : Int)) wlim t
  (List.range 255).findSome? fun i =>
    let c0 := curve.getD i 0
    let c1 := curve.getD (i + 1) 0
    if c0 ≤ t ∧ t < c1 then some ((16 * i + (⟨16 * (t - c0), (c1 - c0).toNat⟩ : Fr).rneInt.toNat)) else none

/-- The lowest code that breaks a condition of R62, on `n` codes in use. -/
def codebookBad (curve : List Int) (wlim n : Nat) (cb : List Int) : Option Nat :=
  let pos := cb.map (position curve wlim)
  let bad (c : Nat) : Bool :=
    let t := cb.getD c 0
    if n ≤ c then t != 0 else
    decide (wlim < t.natAbs)
    || (match pos.getD c none with
        | none => true
        | some p => decide (p < 320 ∨ 3392 < p)
            || (c != 0 && (decide (t ≤ cb.getD (c - 1) 0)
                || match pos.getD (c - 1) none with | some q => decide (p < q + 2) | none => false)))
  (List.range 256).find? bad

/-- `RGAIN` and `ROFS` of a trim word (R88). -/
def rgain (w : Nat) : Int := sext 10 (bits w 0 10)
def rofs (w : Nat) : Int := sext 10 (bits w 16 10)

/-- `word(p, rgain, rofs)` of R61. -/
def ringWord (p : Nat) (t : Nat) : Int := (⟨(p : Int) * (4096 + rgain t) + 2048 * rofs t, 4096⟩ : Fr).rneInt

/-- `decode` of R63 among `n` codes; none on a decode fault. The search takes at most `fuel` steps. -/
def decodeRing (pos : Nat → Nat) (t : Nat) (v : Int) : Nat → Nat → Nat → Option Nat
  | 0, lo, _ => if ringWord (pos lo) t = v then some lo else none
  | f + 1, lo, hi =>
    if lo < hi then
      let mid := (lo + hi) / 2
      if ringWord (pos mid) t < v then decodeRing pos t v f (mid + 1) hi else decodeRing pos t v f lo mid
    else if ringWord (pos lo) t = v then some lo else none

/-- The number of codes of a half. -/
def Half.ncodes (h : Half) : Nat := if h.w4 then 16 else 256

/-- The weight code that a ring of a half holds (R63). -/
def Half.codeAt (h : Half) (trims : SMap Nat) (ring : Nat) : Option Nat :=
  decodeRing (h.pos.get fun _ => 0) (trims.get (fun _ => 0) ring) (h.plate.get (fun _ => 0) ring : Nat) 9 0 (h.ncodes - 1)

/-- The weight code that a ring of the foreground holds: none where its plate word is uncorrectable (R65) or does not
decode (R63). -/
def Eng.code (x : Eng) (ring : Nat) : Option Nat :=
  if x.ueRings.contains ring then none else x.fg.codeAt x.trims ring

/-- A curve of 256 entries from the packed words of `PLT_CURVE` or `PLT_CURVE_P`. -/
def Block.curveOf (b : Block) (reg : Nat → Nat) : List Int :=
  (List.range 256).map fun i => q14 (fld (b.rd (reg (i / 2))) (16 * (i % 2)) 16)

/-- The curve a build uses: the armed pending table while an arm is pending, else the table in force (R339). -/
def Block.buildCurve (b : Block) (s : Nat) : List Int :=
  if b.rdB (PLT_CURVE_STAT s) 0 then b.curveOf (PLT_CURVE_P s) else b.curveOf (PLT_CURVE s)

/-- `LOST`, `LROW` and `DIS` of a half (R356, R359): by section the scale as loaded, the sum of squared codebook values of
its lost inputs, and of all its inputs. -/
def lostOf (rows : Nat) (scale lost all : Nat → Nat → Nat) (off : Nat → Nat → Bool) : Nat × Nat × Bool :=
  let sum (f : Nat → Nat → Nat) (r : Nat) : Nat := (List.range 8).foldl (fun a g => a + scale r g ^ 2 * f r g) 0
  let ratio (r : Nat) : Nat := if sum all r = 0 then 0 else min (sqrtFr ⟨sum lost r * 2 ^ 32, sum all r⟩) 65535
  let best := (List.range rows).foldl (fun (acc : Nat × Nat) r => let x := ratio r; if acc.1 < x then (x, r) else acc) (0, 0)
  (best.1, best.2, (List.range 8).any fun g => off best.2 g)

/-- What a half is encoded from: format, ganging, tag, codebook, section scales, map, trims, far-off weights, the code of
every input that has one, and by section the squared weight given up (R359). -/
structure HalfSrc where
  w4 : Bool
  gang : Nat
  tag : Word
  cb : List Int
  scales : List Nat
  asg : Asg
  trims : SMap Nat
  wpark : Nat → Int
  code : Nat → Nat → Option Nat
  gone : Nat → Nat

/-- A half of engine `e` encoded (R61, R55, R87, R359). -/
def Block.mkHalf (b : Block) (e : Nat) (q : HalfSrc) : Half :=
  let s := stackOf e
  let curve := b.buildCurve s
  let wlim := (b.rd (ENG_WLIM e)).toNat
  let pos := q.cb.map fun t => (position curve wlim t).getD 0
  let off (r g : Nat) : Bool := isOff q.gang q.asg.off r g
  let plate := (List.range (ringsOf e)).map fun i =>
    let w := mapGet q.asg.map i
    let g := i % 544 / 68
    if mRole w = 0 then
      (ringWord (pos.getD ((q.code (i / 544) (64 * g + mInput w)).getD 0) 0) (q.trims.get (fun _ => 0) i)).toNat
    else mPword w
  let sq (r i : Nat) : Nat := match q.code r i with | some c => (q.cb.getD c 0).natAbs ^ 2 | none => 0
  let ins (g : Nat) : List Nat := (List.range 64).map (64 * g + ·)
  let all (r g : Nat) : Nat := (ins g).foldl (fun a i => a + sq r i) (q.gone (8 * r + g))
  let lost (r g : Nat) : Nat :=
    if off r g then all r g else
    (ins g).foldl (fun a i => if q.asg.park.contains (512 * r + i) then a + sq r i else a) (q.gone (8 * r + g))
  let given (n : Nat) : Nat :=
    (ins (n % 8)).foldl (fun a i =>
      if (activeFor e q.asg.map (n / 8) (n % 8) (i % 64)).isEmpty then a + sq (n / 8) i else a) (q.gone n)
  let h : Half :=
    { w4 := q.w4, gang := q.gang, tag := q.tag, plate := SMap.ofVals (fun _ => 0) 0 plate,
      scales := SMap.ofVals (fun _ => 0) 0 q.scales, cb := SMap.ofVals (fun _ => 0) 0 (q.cb.map (unsx 16)),
      pos := SMap.ofVals (fun _ => 0) 0 pos, wsum := [], curve := b.rdB (PLT_CURVE_STAT s) 0, off := q.asg.off,
      gone := SMap.ofVals (fun _ => 0) 0 ((List.range 4096).map given),
      lostQ := lostOf 512 (fun r g => q.scales.getD (8 * r + (if q.gang.testBit (g / 2) then g / 2 * 2 else g)) 0) lost all off,
      park := (q.asg.park.filter fun k => !off (k / 512) (k % 512 / 64)).map fun k =>
        ⟨k / 512, k % 512 / 64, k % 64, q.wpark k⟩ }
  let wsum := (List.range 512).map fun r =>
    ((List.range 8).map fun g =>
      (h.scale r g : Int) * ((List.range 64).map fun j =>
        if q.asg.park.contains (inputKey r g j) then 0
        else q.cb.getD ((q.code r (64 * g + j)).getD 0) 0).foldl (· + ·) 0).foldl (· + ·) 0
  { h with wsum := SMap.ofVals (fun _ => 0) 0 wsum }

/-- The largest change of a ring word between two halves (R72). -/
def wordDelta (old new : Half) (n : Nat) : Nat :=
  (List.range n).foldl (fun d i =>
    max d (((old.plate.get (fun _ => 0) i : Nat) : Int) - ((new.plate.get (fun _ => 0) i : Nat) : Int)).natAbs) 0

/-! ## Builds (R64, R70, R73 to R77) -/

/-- A build leaves the builder: `BUSY` and `BUILD` clear, the request is removed from the stack's queue. -/
def Block.buildOver (b : Block) (e : Nat) : Block :=
  let b := (b.updEng e fun x => { x with build := none }).updStk (stackOf e) fun k =>
    { k with builder := k.builder.filter (· != e) }
  (b.clrB (ENG_STATE e) 4).clrB (ENG_LOAD_STAT e) 0

/-- An error bit of `ENG_LOAD_STAT` (R84, R85). -/
def Block.loadErr (b : Block) (e bit : Nat) : Block := (b.setB (ENG_LOAD_STAT e) bit).raise (P_ENG e) 1

/-- A build that fails (R75, R77): both halves stay. -/
def Block.buildFail (b : Block) (e bit : Nat) : Block := (b.buildOver e).loadErr e bit

/-- The build of a START that the builder takes up: the load block is read and checked (R74, R75, R419, R420). -/
def Block.beginLoad (b : Block) (e addr : Nat) (x : Ecc) (bd : Build) : Block :=
  let hdr := b.rdBytes addr 64
  let word (i : Nat) := ofBytesLE ((hdr.drop (4 * i)).take 4)
  let far (n : Nat) : Bool := decide (b.grade.bytes < addr + n)
  if far 64 then (b.accessFault addr (4 + stackOf e)).buildFail e 5 else
  let fmt := word 0
  let w4 := bits fmt 0 8 == 4
  let len := if w4 then 135744 else 266816
  let ok := (bits fmt 0 8 = 8 ∨ bits fmt 0 8 = 4) ∧ fmt < 4096 ∧ word 1 = len
    ∧ (hdr.drop 16).all (· == 0)
  if !ok then b.buildFail e 3
  else if far len then (b.accessFault addr (4 + stackOf e)).buildFail e 5 else
  let raw := poisonBytes x.ue addr (b.rdBytes addr len)
  let b := (b.hbmTouch addr len).eccSeen x 2
  let scales := ((raw.drop 0x240).take 4096).map (·.toNat)
  if scales.any (64 ≤ ·) then b.buildFail e 3
  else if !x.ue.isEmpty ∨ (crc32c (raw.take 12 ++ raw.drop 16)).toNat ≠ word 3 then b.buildFail e 2 else
  let cb := (List.range 256).map fun i => q14 (ofBytesLE ((raw.drop (0x40 + 2 * i)).take 2))
  let curve := b.buildCurve (stackOf e)
  match codebookBad curve (b.rd (ENG_WLIM e)).toNat (if w4 then 16 else 256) cb with
  | some c => (b.wrF (ENG_LOAD_STAT e) 16 8 c).buildFail e 4
  | none =>
    let en := b.eng e
    let codes := raw.drop 0x1240
    let code (r i : Nat) : Nat :=
      if w4 then bits (codes.getD (256 * r + i / 2) 0).toNat (4 * (i % 2)) 4 else (codes.getD (512 * r + i) 0).toNat
    let asg := en.asgF
    let h := b.mkHalf e { w4 := w4, gang := bits fmt 8 4, tag := wd (word 2), cb := cb, scales := scales, asg := asg,
                          trims := en.trims, wpark := en.wparks.get wparkDef, code := fun r i => some (code r i),
                          gone := fun _ => 0 }
    let bd := { bd with waiting := false, asg := asg, half := h, delta := wordDelta en.fg h (ringsOf e) }
    b.updEng e fun y => { y with build := some bd }

/-- Ring trims written by ring, and far-off weights by input (R88, R97). -/
def putTrims (m : SMap Nat) (ws : List (Nat × Nat)) : SMap Nat := ws.foldl (fun m w => m.set (fun _ => 0) w.1 w.2) m
def putParks (m : SMap Int) (ws : List (Nat × Int)) : SMap Int := ws.foldl (fun m w => m.set wparkDef w.1 w.2) m

/-- The trims in force with the first `n` queued entries, then further ring trims, applied (R73, R77). -/
def Eng.trimsWith (x : Eng) (n : Nat) (more : List (Nat × Nat) := []) : SMap Nat :=
  putTrims (putTrims x.trims ((x.trimQ.take n).map fun w => (w.ring, w.v))) more

/-- A rebuild that the builder takes up (R77). It serves a calibration whose results wait (R334). An input whose ring had
been given up and that the pending map serves again has no code to decode: its code is a free value (assumption 91). -/
def Block.beginRebuild (b : Block) (e : Nat) (bd : Build) : Block :=
  let x := b.eng e
  let ntrim := x.trimQ.length
  let scales := (List.range 4096).map fun i => x.scaleP.get (fun _ => 0) i
  if !mapValid e x ∨ scales.any (64 ≤ ·) then b.buildFail e 3 else
  let cb := (List.range 256).map fun i => q14 (x.cbP.get (fun _ => 0) i)
  match codebookBad (b.buildCurve (stackOf e)) (b.rd (ENG_WLIM e)).toNat x.fg.ncodes cb with
  | some c => (b.wrF (ENG_LOAD_STAT e) 16 8 c).buildFail e 4
  | none =>
    let ringOf (n : Nat) : Option Nat :=
      (activeFor e x.mapF (n / 512) (n % 512 / 64) (n % 64)).head?.map fun k => ringIx e (n / 512) (n % 512 / 64) k
    let inputs := List.range 262144
    match inputs.findSome? fun n => (ringOf n).bind fun k => if (x.code k).isNone then some (n, k) else none with
    | some (n, k) => (b.ev 0x4805 0 [(1, e), (2, n / 512), (3, k)]).buildFail e 3
    | none =>
      let back := inputs.filter fun n =>
        (ringOf n).isNone && !(activeFor e x.mapP (n / 512) (n % 512 / 64) (n % 64)).isEmpty
      let fresh : SMap Nat := (back.zip (List.range back.length)).map fun (n, i) =>
        (n, (Config.freeBelow (b.free + i) (x.fg.ncodes - 1)).val)
      let sq (n : Nat) : Nat := (cb.getD (fresh.get (fun _ => 0) n) 0).natAbs ^ 2
      let gone (n : Nat) : Nat :=
        x.fg.gone.get (fun _ => 0) n
          - (back.filter fun k => sectKey (k / 512) (k % 512 / 64) == n).foldl (fun a k => a + sq k) 0
      let res := b.calWaiting e
      let more := match res with | some q => q.more | none => []
      let park := match res with
        | some q => putParks x.wparks q.parks
        | none => x.wparks
      let h := b.mkHalf e { w4 := x.fg.w4, gang := x.fg.gang, tag := x.fg.tag, cb := cb, scales := scales, asg := x.asgP,
                            trims := x.trimsWith ntrim more, wpark := park.get wparkDef, gone := gone,
                            code := fun r i => match ringOf (512 * r + i) with
                              | some k => x.code k
                              | none => fresh.find (512 * r + i) }
      let bd := { bd with waiting := false, cal := res.isSome, ntrim := ntrim, more := more, asg := x.asgP, half := h,
                          delta := wordDelta x.fg h (ringsOf e) }
      { b.updEng e fun y => { y with build := some bd } with free := b.free + back.length }

/-- The builder takes up the request of engine `e` (R64). -/
def Block.beginBuild (b : Block) (e : Nat) (x : Ecc) : Block :=
  match (b.eng e).build with
  | some bd => if bd.rebuild then b.beginRebuild e bd else b.beginLoad e bd.addr x bd
  | none => b

/-- A build request accepted (R64, R73): it is taken up at once when the stack's builder is free; a load block is not read
while a REHASH runs (R415). A completed build that awaits its swap is cancelled: R73 says so of a START, and the model
takes a REBUILD alike (DESIGN CHOICE, assumption 78). -/
def Block.requestBuild (b : Block) (e : Nat) (rebuild : Bool) (x : Ecc) : Block :=
  let s := stackOf e
  let addr := (b.rd (ENG_LOAD_LO e)).toNat + b.rdF (ENG_LOAD_HI e) 0 5 * 2 ^ 32
  let busy := !(b.stk s).builder.isEmpty || !rebuild && b.host.rehash.isSome
  let b := (b.setB (ENG_STATE e) 4).setB (ENG_LOAD_STAT e) 0
  let b := b.clrB (ENG_STATE e) 3
  let bd : Build :=
    { rebuild := rebuild, addr := addr, waiting := busy, cal := false, ntrim := 0, more := [], asg := {}, half := .empty,
      delta := 0 }
  let b := b.updEng e fun y => { y with built := none, build := some bd }
  let b := b.updStk s fun k => { k with builder := k.builder ++ [e] }
  b.when (!busy) fun b => b.beginBuild e x

/-- A rebuild that the module itself requests (R104, R334, R339): refused like any other (R73). -/
def Block.autoRebuild (b : Block) (e : Nat) : Block :=
  if b.rdB (ENG_STATE e) 4 ∨ !b.rdB (ENG_STATE e) 2 then b else b.requestBuild e true ⟨[], []⟩

/-- A running build ended, or a queued one removed (R73). -/
def Block.abortBuild (b : Block) (e : Nat) : Block :=
  if !b.rdB (ENG_STATE e) 4 then b else
  (b.buildOver e).updEng e fun x => { x with bg := .empty }

/-- A write of `ENG_LOAD_CTRL` (R73, R75, R77, R337). A START also discards the results of an accepted calibration that
wait (assumption 90). -/
def loadCtrlWrite (e : Nat) (v : Word) (x : Ecc) (b : Block) : Block × Bool :=
  let n := fld v 0 1 + fld v 1 1 + fld v 2 1
  let busy := b.rdB (ENG_STATE e) 4
  let refuse (b : Block) : Block := b.loadErr e 6
  if n = 0 then (b, false)
  else if 1 < n then (refuse b, true)
  else if bit v 2 then
    (if busy then (b.abortBuild e).loadErr e 7 else b, true)
  else if busy then (refuse b, true)
  else if bit v 1 then
    (if b.rdB (ENG_STATE e) 2 then b.requestBuild e true x else refuse b, true)
  else if b.modState ≠ stHold ∧ b.modState ≠ stActive ∨ !b.rdB (ASG_STAT e) 1 then (refuse b, true)
  else (((b.calAbandon e 4).calDrop (stackOf e) (·.eng == e)).requestBuild e false x, true)

/-- QUEUED_BUILD_START (R64): the builder of stack `s` takes up its next request. -/
def queuedBuildStart (s : Nat) (x : Ecc) (b : Block) : Block :=
  match (b.stk s).builder with
  | e :: _ => match (b.eng e).build with
    | some bd => if bd.waiting && (bd.rebuild || b.host.rehash.isNone) then b.beginBuild e x else b
    | none => b
  | [] => b

/-- BUILD_COMPLETE (R70, R334): the background half is whole and waits for its swap; a calibration's trims are armed.
Where results of a calibration came too late for a rebuild, their own rebuild follows. -/
def buildComplete (e : Nat) (b : Block) : Block :=
  match (b.eng e).build with
  | none => b
  | some bd =>
    if bd.waiting then b else
    let b := (b.updEng e fun x => { x with bg := bd.half, built := some bd }).buildOver e
    let b := ((b.setB (ENG_LOAD_STAT e) 1).setB (ENG_STATE e) 3).raise (P_ENG e) 0
    if bd.cal then b.calArm e
    else if bd.rebuild && (b.calWaiting e).isSome then b.autoRebuild e
    else b

/-! ## Swap and scan (R66 to R72) -/

/-- A load-mode scan starts from row 0 (R72). -/
def Block.loadScan (b : Block) (e : Nat) : Block :=
  let b := (b.setB (ENG_STATE e) 5).wrF (ENG_SCAN e) 0 16 (2 ^ 9 + 2 ^ 10)
  b.updEng e fun x => { x with scanNext := 0, heldOne := false }

/-- `ENG_PARK` from the foreground (R81): parked rings and disabled sections. -/
def Block.showPark (b : Block) (e : Nat) (park off : List Nat) : Block :=
  if e < 64 then b.wr (ENG_PARK e) (wd (park.length + off.length * 2 ^ 16))
  else b.wr (DEN_PARK e) (wd (park.length + off.length * 2 ^ 16))

/-- The first `n` ring trims queued put in force in the order in which they were written, then `more` (R73, R77). -/
def Block.takeTrims (b : Block) (e n : Nat) (more : List (Nat × Nat) := []) : Block :=
  (b.updEng e fun x => { x with trims := x.trimsWith n more, trimQ := x.trimQ.drop n }).showQueue e

/-- `ASG_STAT.COMPLETE` shows whether the map in force is complete (R98). -/
def Block.showComplete (b : Block) (e : Nat) : Block :=
  let x := b.eng e
  b.wrB (ASG_STAT e) 1 (mapComplete e x.mapF x.parkF x.offF)

/-- The plate halves of engine `e` swap at a boundary (R70 to R72, R77, R322), `frame` the last closed frame. The map that
comes into force is the one that the rebuild encoded with. -/
def Block.swapHalves (b : Block) (e : Nat) (frame : Word) : Block :=
  if !b.rdB (ENG_STATE e) 3 ∨ b.rdB (ENG_STATE e) 4 then b else
  match (b.eng e).built with
  | none => b
  | some bd =>
    let b := b.when (!bd.rebuild) fun b => (b.calAbandon e 4).calDrop (stackOf e) (·.eng == e)
    let x := b.eng e
    let big := x.firstLoad || decide ((b.rd (ENG_XLIM e)).toNat < bd.delta)
    let y := { x with
      fg := x.bg, bg := x.fg, built := none, firstLoad := false,
      cbP := x.bg.cb, scaleP := x.bg.scales, oldRows := List.range 512, ueRings := [],
      uncal := if bd.rebuild then x.uncal else true }
    let b := b.setEng e (if bd.rebuild then y.setAsgF bd.asg else y)
    let b := b.when bd.rebuild fun b => (b.takeTrims e bd.ntrim bd.more).stageMarks e
    let h := (b.eng e).fg
    let b := (b.clrB (ENG_STATE e) 3).setB (ENG_STATE e) 2
    let b := (b.wrF (ENG_STATE e) 6 1 (b2n h.w4)).wrF (ENG_STATE e) 8 4 h.gang
    let b := ((b.wr (ENG_MODEL_TAG e) h.tag).wr (ENG_SWAP_FRAME e) frame).raise (P_ENG e) 2
    let b := b.showPark e (h.park.map fun _ => 0) h.off
    let b := if bd.rebuild then b.showLost e h.lostQ (decide (b.rdF (ENG_EBUD2 e) 0 16 < h.lostQ.1))
      else (b.ebudInvalid e true).showLost e h.lostQ false
    let b := b.when bd.rebuild fun b => (b.clrB (ASG_STAT e) 2).showComplete e
    let b := b.when (big || b.rdB (ENG_STATE e) 5) fun b => b.loadScan e
    if bd.rebuild then b else
    let b := b.each (regionsOf e) fun b q => b.makeDue e q 2 true
    let b := b.updStk (stackOf e) fun k =>
      { k with pub := k.pub.mapVals (fun _ => {}) fun j p => if j / 512 = slotOf e then { p with sinceModel := false } else p }
    b.wrF (ASY_E_INFO (stackOf e) (slotOf e)) 16 16 0

/-- REFRESH_SCAN_START (R66): while lit, and not while a search in service pauses the scan (R105). -/
def scanStart (e : Nat) (b : Block) : Block :=
  let lit := b.modState = stHold ∨ b.modState = stActive
  if !lit ∨ b.rdB (ENG_SCAN e) 9 ∨ (b.eng e).search.any fun q => !q.waiting then b else
  (b.wrF (ENG_SCAN e) 0 11 (2 ^ 9)).updEng e fun x => { x with scanNext := 0 }

/-- The rings of row `r` whose 12-bit words lie in 64-bit word `k` of the row's 102 (R65, R86). -/
def wordRings (r k : Nat) : List Nat :=
  (List.range ((64 * k + 63) / 12 - 64 * k / 12 + 1)).map fun i => 544 * r + 64 * k / 12 + i

/-- REFRESH_ROW_WRITE (R65 to R67): the next row of the scan is written, with what its ECC observed: the number of words
corrected, and the uncorrectable words by their number in the row. -/
def rowWrite (e ce : Nat) (ue : List Nat) (b : Block) : Block :=
  let x := b.eng e
  let r := x.scanNext
  let s := stackOf e
  if !b.rdB (ENG_SCAN e) 9 ∨ 512 ≤ r ∨ x.search.any (fun q => !q.waiting) then b else
  let b := b.setEng e { x with scanNext := r + 1, oldRows := x.oldRows.filter (· != r) }
  let b := b.wrF (ENG_SCAN e) 0 9 r
  let b := b.when (ce ≠ 0) fun b =>
    ((b.when (b.rd (PLT_CECNT s) = 0) fun b => b.raise (P_PLT s) 2).bump (PLT_CECNT s) ce).ev 0x4801 s [(1, e), (2, r)]
  let b := b.when (!ue.isEmpty) fun b =>
    let b := (b.bump (PLT_UECNT s) ue.length).wr (PLT_UEADDR s) (wd (e % 16 + r * 2 ^ 4))
    let b := (b.raise (P_PLT s) 3).raise (P_ENG e) 5
    (b.ev 0x4802 0 [(1, e), (2, r)]).updEng e fun x => { x with ueRings := (x.ueRings ++ ue.flatMap (wordRings r)).dedup }
  if r = 511 ∧ !b.rdB (ENG_SCAN e) 10 then
    (b.clrB (ENG_SCAN e) 9).wrF (ENG_SCAN e) 16 16 (b.rdF (ENG_SCAN e) 16 16 + 1)
  else b

/-- LOAD_MODE_SCAN_COMPLETE (R72, R85): the passes held on the engine proceed. -/
def loadScanDone (e : Nat) (b : Block) : Block :=
  if !b.rdB (ENG_STATE e) 5 ∨ (b.eng e).scanNext < 512 then b else
  let b := (b.clrB (ENG_STATE e) 5).wrF (ENG_SCAN e) 9 2 0
  let b := b.wrF (ENG_SCAN e) 16 16 (b.rdF (ENG_SCAN e) 16 16 + 1)
  (b.raise (P_ENG e) 3).pump

/-! ## The engine image (R86, R87) -/

/-- Does a search force the section scale of (row, group) to 0, as it sweeps another group in that row (R95)? -/
def Eng.forced (x : Eng) (r g : Nat) : Bool :=
  match x.search with
  | some q => match q.sweeping with
    | some h => h != g && (q.scope != 2 || q.row == r)
    | none => false
  | none => false

/-- A byte of the engine image: a disabled section shows the scale 0 that R50 sets, and so does one that a sweep forces to 0
(R95). -/
def Block.imageByte (b : Block) (e a : Nat) : Nat :=
  let x := b.eng e
  let h := x.fg
  let half (v : Nat) (k : Nat) : Nat := bits v (8 * k) 8
  if a < 0x66000 then
    let i := a / 3
    half (h.plate.get (fun _ => 0) (2 * i) + h.plate.get (fun _ => 0) (2 * i + 1) * 4096) (a % 3)
  else if a < 0x67000 then
    if isOff h.gang h.off ((a - 0x66000) / 8) (a % 8) || x.forced ((a - 0x66000) / 8) (a % 8) then 0 else h.scales.get (fun _ => 0) (a - 0x66000)
  else if a < 0x68000 then x.scaleP.get (fun _ => 0) (a - 0x67000)
  else if a < 0x68200 then half (h.cb.get (fun _ => 0) ((a - 0x68000) / 2)) (a % 2)
  else if a < 0x68400 then half (x.cbP.get (fun _ => 0) ((a - 0x68200) / 2)) (a % 2)
  else if a < 0x68600 then half (h.pos.get (fun _ => 0) ((a - 0x68400) / 2)) (a % 2)
  else if 0x68800 ≤ a ∧ a < 0x69000 then
    half (unsx 32 (h.wsum.get (fun _ => 0) ((a - 0x68800) / 4))) (a % 4)
  else if 0x69000 ≤ a ∧ a < 0x69800 then
    match h.park[(a - 0x69000) / 8]? with
    | some p => half (p.row + p.group * 2 ^ 9 + p.input * 2 ^ 12 + unsx 16 p.wpark * 2 ^ 32 + 2 ^ 63) (a % 8)
    | none => 0
  else 0

/-- Is a byte of the engine image writable (R86)? -/
def imageRW (a : Nat) : Bool := (0x67000 ≤ a && a < 0x68000) || (0x68200 ≤ a && a < 0x68400)

/-- Bytes written to an engine image (R86): ignored with `REFUSED` while a build runs. -/
def plateWrite (e a : Nat) (bs : List Byte) (b : Block) : Block :=
  if b.rdB (ENG_STATE e) 4 then b.loadErr e 6 else
  b.each (bs.zip (List.range bs.length)) fun b (v, i) =>
    let p := a + i
    b.updEng e fun x =>
      if 0x67000 ≤ p ∧ p < 0x68000 then { x with scaleP := x.scaleP.set (fun _ => 0) (p - 0x67000) v.toNat }
      else if 0x68200 ≤ p ∧ p < 0x68400 then
        { x with cbP := x.cbP.upd (fun _ => 0) ((p - 0x68200) / 2) fun w =>
            if p % 2 = 0 then w / 256 * 256 + v.toNat else w % 256 + v.toNat * 256 }
      else x

/-! ## Trims (R73, R88 to R90, R268, R271) -/

/-- Ring-trim writes that an engine queues at most (R88, R268). -/
def queueLen (e : Nat) : Nat := if e < 64 then 4096 else 1024

/-- The bits of `TRM_RDATA` that hold trims. -/
def trimMask (e : Nat) : Word := if e < 64 then 0x03FF03FF else 0xFF3F

/-- Do ring-trim writes take effect at once (R88, R268)? -/
def Block.trimsNow (b : Block) (e : Nat) : Bool :=
  if e < 64 then !b.rdB (ENG_STATE e) 2 && !b.rdB (ENG_STATE e) 3 && !b.rdB (ENG_STATE e) 4 else !b.inFrame

/-- A ring trim that the host or assignment sets or queues (R73, R88, R268). The answer says whether it was taken. `QFULL` is
set by a write that a full queue refuses, and an index beyond the rings writes nothing (DESIGN CHOICE, assumption 81). -/
def Block.setTrim (b : Block) (e ring : Nat) (v : Word) : Block × Bool :=
  let w := (v &&& trimMask e).toNat
  let x := b.eng e
  if ringsOf e ≤ ring then (b, false)
  else if b.trimsNow e then (b.setEng e { x with trims := x.trims.set (fun _ => 0) ring w }, true)
  else if queueLen e ≤ x.trimQ.length then ((b.bump (TRM_QREFUSED e)).setB (TRM_STAT e) 3, false)
  else ((b.setEng e { x with trimQ := x.trimQ ++ [⟨ring, w, false⟩] }).showQueue e, true)

/-- A calibration of engine `e` that would set a trim of region `q` or band is abandoned by a host write of it, or loses
that pending value when it has been accepted (R337). -/
def Block.hostTrim (b : Block) (e : Nat) (hit : Nat → Bool) (drop : CalRes → CalRes) : Block :=
  let s := stackOf e
  let b := match (b.stk s).cal with
    | some c => if c.eng = e ∧ c.regions.any hit then b.calAbandon e 7 else b
    | none => b
  b.updStk s fun k => { k with calDone := k.calDone.map fun c =>
    if c.eng = e then { c with res := c.res.map drop } else c }

/-- Row `r` left out of what a calibration still sets. -/
def CalRes.dropRow (c : CalRes) (r : Nat) : CalRes :=
  { c with rows := c.rows.filter fun x => x.1 != r,
           saved := c.saved.map fun y => { y with rows := y.rows.filter fun x => x.1 != r } }

/-- Ring `k` left out of what a calibration still sets. -/
def CalRes.dropRing (c : CalRes) (k : Nat) : CalRes :=
  { c with rings := c.rings.filter fun x => x.1 != k, more := c.more.filter fun x => x.1 != k }

/-- A host write of a ring trim. -/
def ringTrimWrite (e ring : Nat) (v : Word) (b : Block) : Block × Bool :=
  let r := ring / ringsPerRow e
  let g := ring % ringsPerRow e / 68
  let b := b.hostTrim e (· == regionAt e r g) (·.dropRing ring)
  b.setTrim e ring v

/-- The index of `TRM_RADDR` advanced when `AINC` is set (R88); after the last ring it wraps to 0 (DESIGN CHOICE,
assumption 81). -/
def Block.trimNext (b : Block) (e : Nat) : Block :=
  if b.rdB (TRM_RADDR e) 31 then b.wrF (TRM_RADDR e) 0 19 ((b.rdF (TRM_RADDR e) 0 19 + 1) % ringsOf e) else b

/-- A write of `TRM_RDATA` (R88). -/
def trmRdataWrite (e : Nat) (v : Word) (b : Block) : Block × Bool :=
  let (b, a) := ringTrimWrite e (b.rdF (TRM_RADDR e) 0 19) v b
  (b.trimNext e, a)

/-- The trims in force of a ring as `TRM_RDATA` shows them. -/
def Block.trimWord (b : Block) (e ring : Nat) : Word := wd ((b.eng e).trims.get (fun _ => 0) ring)

/-- A write of `TRM_CTRL` (R90): `SLEWING` is set while `ROW_ARM` stands with `SLEW`, until every row matches. -/
def trmCtrlWrite (e : Nat) (v : Word) (b : Block) : Block × Bool :=
  let b := b.wrB (TRM_CTRL e) 2 (bit v 2)
  let b := b.when (bit v 0) fun b => (b.setB (TRM_CTRL e) 0).setB (TRM_STAT e) 0
  let b := b.when (bit v 1) fun b => (b.setB (TRM_CTRL e) 1).setB (TRM_STAT e) 1
  (b.showSlew e, true)

/-- A write of a modulator trim word goes to its pending copy (R89), and replaces there what an accepted calibration would
set (assumption 90). -/
def trmModWrite (e k : Nat) (v : Word) (b : Block) : Block × Bool :=
  let b := b.updStk (stackOf e) fun q => { q with calDone := q.calDone.map fun c =>
    if c.eng = e then { c with res := c.res.map fun y =>
      { y with mods := y.mods.filter fun x => x.1 / 2 != k,
               saved := y.saved.map fun z => { z with mods := z.mods.filter fun x => x.1 != k } } } else c }
  (b.updEng e fun x => { x with modP := x.modP.put k v }, true)

/-- A write of a row trim: the pending fields (R89, R337). -/
def trmRowWrite (e r : Nat) (v : Word) (b : Block) : Block × Bool :=
  let b := b.hostTrim e (fun q => if e < 64 then q / 8 == r / 64 else q / 2 == r / 32)
    (·.dropRow r)
  (b.wrF (TRM_ROW e r) 0 16 (fld v 0 16), true)

/-- One signed 8-bit step towards a target. -/
def slewStep (cur tgt : Nat) : Nat :=
  let a := sext 8 cur
  let t := sext 8 tgt
  unsx 8 (if a < t then a + 1 else if t < a then a - 1 else a)

/-- Row and modulator trims at a frame boundary (R90), and the ring trims of a dynamic engine (R268). -/
def Block.trimBoundary (b : Block) (e : Nat) : Block :=
  let rows := List.range (rowsOfEng e)
  let b := b.when (b.rdB (TRM_CTRL e) 1) fun b =>
    let b := b.each (b.eng e).modP fun b (k, v) => b.wr (TRM_MOD e k) v
    ((b.updEng e fun x => { x with modP := [] }).clrB (TRM_CTRL e) 1).clrB (TRM_STAT e) 1
  let b := b.when (b.rdB (TRM_CTRL e) 0) fun b =>
    let done (b : Block) : Block := ((b.clrB (TRM_CTRL e) 0).clrB (TRM_STAT e) 0).clrB (TRM_STAT e) 2
    if !b.rdB (TRM_CTRL e) 2 then
      done (b.each rows fun b r => b.wrF (TRM_ROW e r) 16 16 (b.rdF (TRM_ROW e r) 0 16))
    else
      let both := (b.eng e).gainSlew
      let b := b.each rows fun b r =>
        let b := b.wrF (TRM_ROW e r) 24 8 (slewStep (b.rdF (TRM_ROW e r) 24 8) (b.rdF (TRM_ROW e r) 8 8))
        b.when both fun b =>
          b.wrF (TRM_ROW e r) 16 8 (slewStep (b.rdF (TRM_ROW e r) 16 8) (b.rdF (TRM_ROW e r) 0 8))
      let b := b.updEng e fun x => { x with gainSlew := !both }
      if rows.all fun r => b.rdF (TRM_ROW e r) 16 16 == b.rdF (TRM_ROW e r) 0 16 then
        (done b).updEng e fun x => { x with gainSlew := false }
      else b
  if e < 64 then b else b.takeTrims e (b.eng e).trimQ.length

/-- A `RANGE` write brought into force at a boundary (R83, R270, R322), and the calibration it requests. -/
def Block.rangeBoundary (b : Block) (e : Nat) : Block :=
  if !(b.eng e).rangeNew then b else
  let off := if e < 64 then ENG_OSCALE e else DEN_OSCALE e
  let r := b.rdF off 0 2
  let b := b.wrF off 8 5 ((if e < 64 then 21 else 20) - r)
  let b := (b.updEng e fun x => { x with range := r, rangeNew := false }).ebudInvalid e false
  b.each (regionsOf e) fun b q => b.makeDue e q 2 true

/-- A write of `ENG_OSCALE` or `DEN_OSCALE` (R83, R270). A write that leaves `RANGE` as it was is a `RANGE` write too (DESIGN
CHOICE, assumption 79). -/
def oscaleWrite (e : Nat) (v : Word) (b : Block) : Block × Bool :=
  let off := if e < 64 then ENG_OSCALE e else DEN_OSCALE e
  let b := (b.wrF off 0 2 (fld v 0 2)).wrF off 16 8 (fld v 16 8)
  let b := b.when (64 ≤ e) fun b => b.wrF off 24 8 (fld v 24 8)
  (b.updEng e fun x => { x with rangeNew := true }, true)

/-! ## Meanings -/

/-- ENG_LOAD_START (R75). -/
def execEngLoadStart (m : Master) (e : Fin 64) (v : Word) (ecc : Ecc) (s : State) : Res :=
  s.done fun b => b.gate m (ENG_LOAD_CTRL e) (loadCtrlWrite e (v ||| 1) ecc)
/-- ENG_LOAD_REBUILD (R77). -/
def execEngLoadRebuild (m : Master) (e : Fin 64) (v : Word) (s : State) : Res :=
  s.done fun b => b.gate m (ENG_LOAD_CTRL e) (loadCtrlWrite e (v ||| 2) ⟨[], []⟩)
/-- ENG_LOAD_ABORT (R73). -/
def execEngLoadAbort (m : Master) (e : Fin 64) (v : Word) (s : State) : Res :=
  s.done fun b => b.gate m (ENG_LOAD_CTRL e) (loadCtrlWrite e (v ||| 4) ⟨[], []⟩)
/-- QUEUED_BUILD_START (R64). -/
def execQueuedBuildStart (st : Fin 4) (ecc : Ecc) (s : State) : Res := s.done (queuedBuildStart st ecc)
/-- BUILD_COMPLETE (R70). -/
def execBuildComplete (e : Fin 64) (s : State) : Res := s.done (buildComplete e)
/-- LOAD_MODE_SCAN_COMPLETE (R72). -/
def execLoadModeScanComplete (e : Fin 64) (s : State) : Res := s.done (loadScanDone e)
/-- REFRESH_SCAN_START (R66). -/
def execRefreshScanStart (e : Fin 64) (s : State) : Res := s.done (scanStart e)
/-- REFRESH_ROW_WRITE (R67). -/
def execRefreshRowWrite (e : Fin 64) (ce : Nat) (ue : List (Fin 102)) (s : State) : Res :=
  s.done (rowWrite e ce (ue.map (·.val)))
/-- ENG_OSCALE_WRITE (R83). -/
def execEngOscaleWrite (m : Master) (e : Fin 64) (v : Word) (s : State) : Res :=
  s.done fun b => b.gate m (ENG_OSCALE e) (oscaleWrite e v)
/-- DEN_OSCALE_WRITE (R270). -/
def execDenOscaleWrite (m : Master) (n : Fin 8) (v : Word) (s : State) : Res :=
  s.done fun b => b.gate m (DEN_OSCALE (64 + n)) (oscaleWrite (64 + n) v)
/-- TRM_RDATA_WRITE (R88, R268). -/
def execTrmRdataWrite (m : Master) (e : Fin 72) (v : Word) (s : State) : Res :=
  s.done fun b => b.gate m (TRM_RDATA e) (trmRdataWrite e v)
/-- TRM_ROW_ARM (R90). -/
def execTrmRowArm (m : Master) (e : Fin 72) (v : Word) (s : State) : Res :=
  s.done fun b => b.gate m (TRM_CTRL e) (trmCtrlWrite e (v ||| 1))
/-- TRM_MOD_ARM (R90). -/
def execTrmModArm (m : Master) (e : Fin 72) (v : Word) (s : State) : Res :=
  s.done fun b => b.gate m (TRM_CTRL e) (trmCtrlWrite e (v ||| 2))

end Sys2Proof.Machine
end

