-- ==== Sys2Proof/Machine/Assay.lean ====
section
/-! DEFINITION. The Assay unit's live samples, windows and publication (R314 to R320), and the error-budget register as
Mionus keeps it (R350 to R359). -/

namespace Sys2Proof.Machine

/-! ## Live samples (R315 to R318) -/

/-- The key of a row in the Assay unit of its stack: slot × 512 + row. -/
def asyKey (e r : Nat) : Nat := 512 * slotOf e + r

/-- Is a live sample of row `r` discarded as it is taken (R317)? -/
def Block.sampleSkipped (b : Block) (e r : Nat) : Bool :=
  let x := b.eng e
  let band := (List.range (groupsOf e)).map fun g => regionAt e r g
  band.any (fun q => b.lockSt e q != 3 || (b.region e q).held) || x.oldRows.contains r
    || (e < 64 && b.rdB (ENG_STATE e) 5) || x.ueRings.any fun i => i / 544 == r

/-- ASSAY_LIVE_SAMPLE (R316 to R318): the oldest sample taken by engine `e` is skipped, queued or dropped. -/
def liveSample (e : Nat) (b : Block) : Block :=
  let x := b.eng e
  let s := stackOf e
  match x.samples with
  | [] => b
  | y :: rest =>
    let b := b.setEng e { x with samples := rest }
    if b.sampleSkipped e y.row then b.bump (ASY_SKIPCNT s)
    else if 32 ≤ (b.stk s).asyQ.length then
      let b := b.when (b.rd (ASY_DROPCNT s) == 0) fun b => b.raise (P_ASY s) 4
      (b.bump (ASY_DROPCNT s)).ev 0x4707 s
    else b.updStk s fun k => { k with asyQ := k.asyQ ++ [(slotOf e, y)] }

/-- The exact value of row `r` of engine `e` for the drive codes of a symbol (R57, R315): parked inputs count as 0; none
when a code fails to decode, or cannot be read (R65). -/
def Eng.exactRow (x : Eng) (e r : Nat) (drive : List Nat) (offset : Bool) : Option Int :=
  let rings := (List.range 8).flatMap fun g => (List.range 68).filterMap fun k =>
    let i := ringIx e r g k
    let w := mapGet x.mapF i
    if mRole w = 0 then some (g, mInput w, i) else none
  rings.foldl (fun acc (g, j, i) => acc.bind fun sum =>
    (x.code i).map fun c =>
      let d : Int := (drive.getD (64 * g + j) 0 : Nat)
      let a := if offset then d - 64 else d
      sum + (x.fg.scale r g : Int) * sext 16 (x.fg.cb.get (fun _ => 0) c) * a) (some 0)

/-- A 64-bit sum that saturates, and whether it did (R319). -/
def satAdd (a d : Int) : Int × Bool :=
  let v := a + d
  let c := clampI (-(2 ^ 63)) (2 ^ 63 - 1) v
  (c, c != v)

/-- A sample added to the sums of a window (R319). -/
def Sums.add (w : Sums) (x m : Int) (sat : Bool) : Sums :=
  let e := m - x
  let (sx, f1) := satAdd w.sx x
  let (se, f2) := satAdd w.se e
  let (sxx, f3) := satAdd w.sxx (x * x)
  let (see, f4) := satAdd w.see (e * e)
  let (smx, f5) := satAdd w.smx (m * x)
  { n := w.n + 1, sx := sx, se := se, sxx := sxx, see := see, smx := smx, nsat := w.nsat + b2n sat,
    full := w.full || f1 || f2 || f3 || f4 || f5 }

/-- ASSAY_SAMPLE_DECODE (R315, R317 to R319): the plate builder, free of builds, recovers the codes of the oldest
queued sample's row, and the sample enters its window. -/
def sampleDecode (s : Nat) (b : Block) : Block :=
  let k := b.stk s
  match k.asyQ with
  | [] => b
  | (slot, y) :: rest =>
    if !k.builder.isEmpty then b else
    let e := engAt s slot
    let b := b.setStk s { k with asyQ := rest }
    let x := b.eng e
    let exact := match y.exact with
      | some v => some v
      | none => if x.oldRows.contains y.row || x.ueRings.any (fun i => i / 544 == y.row) then none else x.exactRow e y.row y.drive y.offset
    match exact with
    | none => b.bump (ASY_SKIPCNT s)
    | some v =>
      let xx := (⟨v * 256, 2 ^ y.shift⟩ : Fr).rneInt
      let key := asyKey e y.row
      let w := k.win.get (fun _ => ({} : Sums)) key
      let w' := w.add xx y.m y.sat
      let b := b.when (w'.full && !w.full) fun b => b.ev 0x4708 s [(1, slot), (2, y.row)]
      b.updStk s fun k =>
        { k with win := k.win.set (fun _ => {}) key w',
                 pub := if w'.full then k.pub.upd (fun _ => {}) key fun p => { p with sumsat := true } else k.pub }

/-! ## The fit of a window (R320) -/

/-- The fit of R320 in units of 1/256 LSB: gain (none when the expected values are all equal), offset, and the squared
residual. -/
structure Fit where
  a : Option Fr
  c : Fr
  res2 : Fr

def fitOf (n : Nat) (sx se sxx see smx : Int) : Fit :=
  let sm := sx + se
  let d := n * sxx - sx * sx
  let smm := 2 * smx - sxx + see
  let r2 (a : Fr) (c : Fr) : Fr :=
    let v := ((Fr.ofInt smm).sub (a.mul (Fr.ofInt smx))).sub (c.mul (Fr.ofInt sm))
    (v.mul ⟨1, n⟩).max ⟨0, 1⟩
  if d ≤ 0 then
    let c : Fr := ⟨se, n⟩
    { a := none, c := c, res2 := r2 ⟨1, 1⟩ c }
  else
    let a : Fr := ⟨n * smx - sx * sm, d.toNat⟩
    let c := ((Fr.ofInt sm).sub (a.mul (Fr.ofInt sx))).mul ⟨1, n⟩
    { a := some a, c := c, res2 := r2 a c }

/-- A root mean square in units of 1/256 LSB, given as its square, as the published unsigned 2^−16 of full scale. -/
def pubRms (ms : Fr) : Nat := min (sqrtFr (ms.mul ⟨65536, 65025⟩)) 65535

/-- A mean in units of 1/256 LSB as the published signed 2^−16 of full scale. -/
def pubMean (m : Fr) : Nat := unsx 16 (clampI (-32768) 32767 (m.mul ⟨256, 255⟩).rneInt)

/-- The engine summary (R319, R343): over the latest publication of each row. -/
def Block.assaySummary (b : Block) (e : Nat) : Block :=
  let s := stackOf e
  let rows := ((b.stk s).pub.filter fun x => x.1 / 512 == slotOf e && x.2.n != 0)
  let n : Nat := rows.foldl (fun a x => a + x.2.n) 0
  let see : Nat := rows.foldl (fun a x => a + x.2.see) 0
  let worst := rows.foldl (fun (acc : Nat × Nat) x =>
    let v := fld x.2.live 0 16
    if acc.1 < v then (v, x.1 % 512) else acc) (0, 0)
  let fresh := (rows.filter fun x => x.2.sinceModel).length
  let b := b.wr (ASY_E_RMS s (slotOf e)) (wd ((if n = 0 then 0 else pubRms ⟨see, n⟩) + worst.1 * 2 ^ 16))
  b.wr (ASY_E_INFO s (slotOf e)) (wd (worst.2 + fresh * 65536))

/-- ASSAY_WINDOW_PUBLISH (R319, R320, R353): a window of 2^`LWIN` samples is fitted, published and cleared. -/
def windowPublish (s key : Nat) (b : Block) : Block :=
  let w := (b.stk s).win.get (fun _ => {}) key
  if w.n < 2 ^ b.rdF (ASY_CFG s) 8 5 ∨ w.n = 0 then b else
  let b := b.updStk s fun k => { k with win := k.win.set (fun _ => {}) key {} }
  if w.full then b else
  let f := fitOf w.n w.sx w.se w.sxx w.see w.smx
  let mean : Fr := ⟨w.se, w.n⟩
  let a := f.a.getD ⟨0, 1⟩
  let var : Fr := (⟨w.sxx, w.n⟩ : Fr).sub (⟨w.sx * w.sx, w.n * w.n⟩ : Fr)
  let g1 := match f.a with | some a => a.sub ⟨1, 1⟩ | none => ⟨0, 1⟩
  let t2 := ((g1.mul g1).mul var).add (mean.mul mean)
  let live := wd (pubRms ⟨w.see, w.n⟩ + pubMean mean * 2 ^ 16)
  let fit := wd ((clampI 0 65535 (a.mul ⟨16384, 1⟩).rneInt).toNat + unsx 16 (clampI (-32768) 32767 f.c.rneInt) * 2 ^ 16)
  let b := b.updStk s fun k =>
    { k with pub := k.pub.upd (fun _ => {}) key fun p =>
        { p with n := w.n, see := w.see.toNat, live := live, fit := fit, sumsat := false, t2 := t2, sinceModel := true,
                 sinceCal := true } }
  b.assaySummary (engAt s (key / 512))

/-- A write of `ASY_CFG` (R316, R343): fields out of range take the nearest legal value; a new `K` restarts the count. -/
def asyCfgWrite (s : Nat) (v : Word) (b : Block) : Block × Bool :=
  let k := clampN 10 20 (fld v 0 5)
  let same := b.rdF (ASY_CFG s) 0 5 == k
  let b := b.wr (ASY_CFG s) (wd (k + clampN 6 12 (fld v 8 5) * 2 ^ 8 + clampN 8 64 (fld v 16 8) * 2 ^ 16))
  (b.when (!same) fun b => b.each (List.range 18) fun b n => b.updEng (engAt s n) fun x => { x with symCnt := 0 }, true)

/-! ## The error-budget register (R350 to R358) -/

/-- Does an estimate need Mionus (R352, R357)? Nothing moves while it does not run. -/
def Block.mionusRuns (b : Block) : Bool := b.pw.mionus

/-- LOCK_WINDOW_CLOSE (R352): `LOCK` from the readings kept, unless they are fewer than 64. With δ = e_s / (0.25 FS/GHz)
the estimate is 0.021 × 65,536 × 4 / 32,768 = 0.168 of the root mean square of `e_s` in its own units. -/
def lockClose (e : Nat) (b : Block) : Block :=
  if !b.mionusRuns then b else
  let x := b.eng e
  let b := b.setEng e { x with lkN := 0, lkSum := 0 }
  if x.lkN < 64 then b else
  let v := min (sqrtFr ⟨28224 * x.lkSum, 1000000 * x.lkN⟩) 65535
  (b.wrF (ebud e 1) 0 16 v).setB (ebud e 3) 25

/-- LOCK_READING (R352): the next region of the engine in turn; the 4,096th reading kept closes the window. -/
def lockReading (e : Nat) (b : Block) : Block :=
  if !b.mionusRuns then b else
  let x := b.eng e
  let q := x.lkNext % (regionsOf e).length
  if x.ps == .run && b.lockSt e q == 3 then
    let b := b.setEng e { x with lkNext := q + 1, lkN := x.lkN + 1,
                                 lkSum := x.lkSum + (b.region e q).es.natAbs ^ 2 }
    b.when (decide (4096 ≤ x.lkN + 1)) (lockClose e)
  else b.setEng e { x with lkNext := q + 1 }

/-- The typical droop rate of R68 in 0.001 % per ms, interpolated linearly at a temperature in Q8.8 °C and continued
along its outer parts beyond 60 and 85 °C. -/
def droopRate (t : Int) : Fr :=
  if t ≤ 70 * 256 then ((⟨12, 1⟩ : Fr).add ⟨12 * (t - 60 * 256), 10 * 256⟩).max ⟨0, 1⟩
  else (⟨24, 1⟩ : Fr).add ⟨46 * (t - 70 * 256), 15 * 256⟩

/-- The square of the droop term in units of 2^−16 of full scale (R354), `p` the refresh period in µs. -/
def droop2 (t : Int) (p : Nat) : Fr :=
  -- 2.0 × r × P / √12, with r in 10^−5 of full scale per ms and P in 10^−3 ms
  let v := ((droopRate t).mul ⟨p, 1⟩).mul ⟨2 * 65536, 100000000⟩
  (v.mul v).mul ⟨1, 12⟩

/-- `TRIMR` of an engine (R353). -/
def Block.trimr (b : Block) (e : Nat) : Nat :=
  let rows := (b.stk (stackOf e)).pub.filter fun x => x.1 / 512 == slotOf e && x.2.sinceCal
  if rows.isEmpty then 0 else
  pubRms ((rows.foldl (fun a x => a.add x.2.t2) (⟨0, 1⟩ : Fr)).mul ⟨1, rows.length⟩)

/-- TOTAL_RECOMPUTE (R353, R354, R357), `t` the hold-switch junction temperature in Q8.8 °C. -/
def totalRecompute (e : Nat) (t : Int) (b : Block) : Block :=
  if !b.mionusRuns ∨ !b.rdB (ebud e 3) 24 then b else
  let b := b.wrF (ebud e 1) 16 16 (b.trimr e)
  let noise := b.rdF (ebud e 0) 0 16
  let syst := b.rdF (ebud e 0) 16 16
  let trimr := b.rdF (ebud e 1) 16 16
  let lock := if b.rdB (ebud e 3) 25 then b.rdF (ebud e 1) 0 16 else 0
  let droop := if e < 64 then droop2 t (b.rd (ENG_REFRESH e)).toNat else ⟨0, 1⟩
  let model := sqrtFr ((⟨(noise ^ 2 + syst ^ 2 + trimr ^ 2 + lock ^ 2 : Nat), 1⟩ : Fr).add droop)
  let s := stackOf e
  let live := if 64 ≤ b.rdF (ASY_E_INFO s (slotOf e)) 16 16 then b.rdF (ASY_E_RMS s (slotOf e)) 0 16 else 0
  let total := min (max model live) 65535
  let high := (if e < 64 then 393 else 492) < total
  let was := b.rdB (ebud e 3) 27
  let b := (b.wrF (ebud e 3) 0 16 total).wrB (ebud e 3) 27 high
  b.when (high && !was) fun b =>
    b.ev 0x4709 e [(2, total), (2, noise), (2, syst), (2, b.rdF (ebud e 1) 0 16), (2, trimr)]

/-- Is a region of an engine beyond ΔT_cal of its `T_last` (R322)? -/
def Block.beyond (b : Block) (e q : Nat) : Bool :=
  match (b.region e q).tlast with
  | none => false
  | some t => decide (b.rdF (ASY_DTCAL (stackOf e)) 0 16 < (sext 16 (b.rdF (LCK_R_RTEMP e q) 0 16) - t).natAbs)

/-- `BEYOND` recomputed (R356, R358). -/
def Block.showBeyond (b : Block) (e : Nat) : Block := b.wrB (ebud e 3) 26 ((regionsOf e).any fun q => b.beyond e q)

/-! ## Meanings -/

/-- ASSAY_LIVE_SAMPLE (R316). -/
def execAssayLiveSample (e : Fin 72) (s : State) : Res := s.done (liveSample e)
/-- ASSAY_SAMPLE_DECODE (R318). -/
def execAssaySampleDecode (st : Fin 4) (s : State) : Res := s.done (sampleDecode st)
/-- ASSAY_WINDOW_PUBLISH (R319). -/
def execAssayWindowPublish (st : Fin 4) (slot : Fin 18) (row : Fin 512) (s : State) : Res :=
  s.done (windowPublish st (512 * slot + row))
/-- LOCK_READING (R352). -/
def execLockReading (e : Fin 72) (s : State) : Res := s.done (lockReading e)
/-- LOCK_WINDOW_CLOSE (R352). -/
def execLockWindowClose (e : Fin 72) (s : State) : Res := s.done (lockClose e)
/-- TOTAL_RECOMPUTE (R357). -/
def execTotalRecompute (e : Fin 72) (t : BitVec 16) (s : State) : Res := s.done (totalRecompute e t.toInt)

end Sys2Proof.Machine
end

