-- ==== Sys2Proof/Machine/CeTable.lean ====
section
/-! DEFINITION. The control engine's loops and table memory as the lock block, the calibration and the control engine read
them (R115, R131 to R138, R145, R148, R150, R151, R158). -/

namespace Sys2Proof.Machine

/-! ## Loops (R115, R131, R148) -/

/-- Resident engines 0 to 15 and dynamic engines of a stack, in the order of the photonic die (R148). -/
def dieOrder (s : Nat) : List Nat := [64 + 2 * s] ++ (List.range 16).map (16 * s + ·) ++ [65 + 2 * s]

/-- The loop, and heater, index of region `q` of engine `e` in its stack (R115, R131). -/
def loopIx (e q : Nat) : Nat := if e < 64 then 64 * (e % 16) + q else 1024 + 4 * ((e - 64) % 2) + q

/-- The engine and region that loop `i` of stack `s` serves. -/
def loopOf (s i : Nat) : Nat × Nat := if i < 1024 then (16 * s + i / 64, i % 64) else (64 + 2 * s + (i - 1024) / 4, i % 4)

/-! ## Table memory (R150, R151, R158) -/

/-- Loop group of loop `i` (R132), and the engine and regions of a group. -/
def groupOfLoop (i : Nat) : Nat := if i < 1024 then i / 64 else 16 + (i - 1024) / 4
def groupEng (s g : Nat) : Nat := engAt s g
def groupLoops (g : Nat) : List Nat :=
  if g < 16 then (List.range 64).map (64 * g + ·) else (List.range 4).map (1024 + 4 * (g - 16) + ·)

/-- What an unlisted table word reads as: the production rates of the group tables with `BUMP` 1 (R132, R151), else 0. -/
def tabDefault (w : Nat) : Word :=
  let a := w * 4 % 0x40000
  if w * 4 < 0x80000 ∧ 0x21000 ≤ a ∧ a < 0x21040 then 0x12 else
  if w * 4 < 0x80000 ∧ 0x21040 ≤ a ∧ a < 0x21048 then 0x13 else 0

/-- A stored table word by byte address. -/
def Stk.tab (k : Stk) (a : Nat) : Word := k.ceTab.get tabDefault (a / 4)

/-- Byte address of word `o` of the record of loop `i` in a bank, and of a group table entry. -/
def recAddr (bank i o : Nat) : Nat := bank * 0x40000 + 128 * i + o
def grpAddr (bank g : Nat) : Nat := bank * 0x40000 + 0x21000 + 4 * g

/-- The active bank of group `g` (R150). -/
def Block.activeBank (b : Block) (s g : Nat) : Nat := b.rdF (CE_BANK_ACT s) g 1

/-- Entries of the slope table from a curve (R138). -/
def slopeOf (c : List Int) : List Nat :=
  (List.range 255).map fun i =>
    let d := c.getD (i + 1) 0 - c.getD i 0
    if d ≤ 0 then 65535
    else clampN 4096 65535 (⟨16384 * (c.getD 255 0 - c.getD 0 0), 255 * d.toNat⟩ : Fr).rneInt.toNat

/-- The slope table as group `g` uses it: in force, or as before until the group has taken it (R138). -/
def Block.slopeTab (b : Block) (s g : Nat) : List Nat :=
  let k := b.stk s
  let l := match k.slopeWait.find? fun w => w.1 == g with | some w => w.2 | none => k.slope
  if l.isEmpty then slopeOf (b.curveOf (PLT_CURVE s)) else l

/-- Its entry `i`. -/
def Block.slopeFor (b : Block) (s g i : Nat) : Nat := (b.slopeTab s g).getD i 4096

/-! ## Sections and presets (R137, R145, R150, R151) -/

/-- The fields of one section (R150). -/
structure Section where
  b0 : Int
  b1 : Int
  b2 : Int
  a1 : Int
  a2 : Int
  csh : Nat
  intg : Bool

def Stk.section (k : Stk) (bank i n : Nat) : Section :=
  let w0 := k.tab (recAddr bank i (0x10 + 16 * n))
  let w1 := k.tab (recAddr bank i (0x14 + 16 * n))
  let w2 := k.tab (recAddr bank i (0x18 + 16 * n))
  { b0 := sext 16 (fld w0 0 16), b1 := sext 16 (fld w0 16 16), b2 := sext 16 (fld w1 0 16),
    a1 := sext 16 (fld w1 16 16), a2 := sext 16 (fld w2 0 16), csh := fld w2 16 2, intg := bit w2 18 }

/-- `NB` and `NH` of a loop's record (R150). -/
def Stk.sections (k : Stk) (bank i : Nat) : Nat × Nat :=
  let cfg := k.tab (recAddr bank i 0)
  (fld cfg 0 3, fld cfg 4 3)

/-- The section states preset from a loop part (R145, R151): all cleared but the `INTG` section of each path. -/
def Stk.presets (k : Stk) (bank i : Nat) (uB uH : Int) : List (Int × Int) :=
  let (nb, nh) := k.sections bank i
  (List.range (nb + nh)).map fun j =>
    if (k.section bank i j).intg then ((if j < nb then uB else uH) * 32768, 0) else (0, 0)

/-- The section states of region `q` preset from its loop part with its group's active bank (R145, R151). -/
def Block.preset (b : Block) (e q : Nat) : Block :=
  let s := stackOf e
  let i := loopIx e q
  let k := b.stk s
  b.updRegion e q fun r => { r with s := k.presets (b.activeBank s (groupOfLoop i)) i r.uB r.uH }

/-! ## Lane loads (R135) -/

/-- The load of lane `l` in ‰ with bank `bank g` for each group (R135). -/
def Stk.laneLoad (k : Stk) (bank : Nat → Nat) (l : Nat) : Nat :=
  let loops := (List.range 64).map (64 * l + ·) ++ (if l < 8 then [1024 + l] else [])
  -- loads in units of lane cycles × 250 kHz
  let sum := (loops.map fun i =>
    let g := groupOfLoop i
    let cfg := k.tab (recAddr (bank g) i 0)
    let rate := fld (k.tab (grpAddr (bank g) g)) 0 2
    (4 + 2 * (fld cfg 0 3 + fld cfg 4 3)) * 2 ^ rate).foldl (· + ·) 0
  (sum + 4) / 5

end Sys2Proof.Machine
end

