-- ==== Sys2Proof/Machine/Sine.lean ====
section
/-! DEFINITION. The sine tables of the laser-control outputs (R504) and of the dither generators (R109): 1,024 entries of
sin in Q1.15. -/

namespace Sys2Proof.Machine

/-- 32,767 sin(2πj / 1,024), rounded down, for j from 0 to 256. -/
def sineQuarter : List Nat :=
  [0, 201, 402, 603, 804, 1005, 1206, 1406, 1607, 1808, 2009, 2209, 2410, 2610, 2811, 3011, 3211,
   3411, 3611, 3811, 4011, 4210, 4409, 4608, 4807, 5006, 5205, 5403, 5601, 5799, 5997, 6195]
  ++ [6392, 6589, 6786, 6982, 7179, 7375, 7571, 7766, 7961, 8156, 8351, 8545, 8739, 8932, 9126, 9319,
   9511, 9703, 9895, 10087, 10278, 10469, 10659, 10849, 11038, 11227, 11416, 11604, 11792, 11980,
   12166, 12353]
  ++ [12539, 12724, 12909, 13094, 13278, 13462, 13645, 13827, 14009, 14191, 14372, 14552, 14732, 14911,
   15090, 15268, 15446, 15623, 15799, 15975, 16150, 16325, 16499, 16672, 16845, 17017, 17189, 17360,
   17530, 17699, 17868, 18036]
  ++ [18204, 18371, 18537, 18702, 18867, 19031, 19194, 19357, 19519, 19680, 19840, 20000, 20159, 20317,
   20474, 20631, 20787, 20942, 21096, 21249, 21402, 21554, 21705, 21855, 22004, 22153, 22301, 22448,
   22594, 22739, 22883, 23027]
  ++ [23169, 23311, 23452, 23592, 23731, 23869, 24006, 24143, 24278, 24413, 24546, 24679, 24811, 24942,
   25072, 25201, 25329, 25456, 25582, 25707, 25831, 25954, 26077, 26198, 26318, 26437, 26556, 26673,
   26789, 26905, 27019, 27132]
  ++ [27244, 27355, 27466, 27575, 27683, 27790, 27896, 28001, 28105, 28208, 28309, 28410, 28510, 28608,
   28706, 28802, 28897, 28992, 29085, 29177, 29268, 29358, 29446, 29534, 29621, 29706, 29790, 29873,
   29955, 30036, 30116, 30195]
  ++ [30272, 30349, 30424, 30498, 30571, 30643, 30713, 30783, 30851, 30918, 30984, 31049, 31113, 31175,
   31236, 31297, 31356, 31413, 31470, 31525, 31580, 31633, 31684, 31735, 31785, 31833, 31880, 31926,
   31970, 32014, 32056, 32097]
  ++ [32137, 32176, 32213, 32249, 32284, 32318, 32350, 32382, 32412, 32441, 32468, 32495, 32520, 32544,
   32567, 32588, 32609, 32628, 32646, 32662, 32678, 32692, 32705, 32717, 32727, 32736, 32744, 32751,
   32757, 32761, 32764, 32766]
  ++ [32767]

/-- Entry `i` of sine table `t` (0 of R504, 1 of R109). What the spec leaves open of an entry is its last bits, which hang
on the rounding and on whether full scale is 32,767 or 32,768: they are free (assumption 47). Entries on an axis are exact. -/
def sineAt (t i : Nat) : Int :=
  let i := i % 1024
  let k := i % 512
  let j := if k ≤ 256 then k else 512 - k
  let m : Nat := if j = 0 then 0 else min 32767 (sineQuarter.getD j 0 + (Config.sineRound t i).val)
  if i < 512 then m else -(m : Int)

end Sys2Proof.Machine
end

