-- ==== Sys2Proof/Machine/Lock.lean ====
section
/-! DEFINITION. Region lock and heaters (R106 to R130): the states of the region loops and their transitions, lost light,
the pilot code, the heater PWM. -/

namespace Sys2Proof.Machine

/-! ## Region states (R118, R119) -/

/-- Is the heater of region `q` of engine `e` under test (R117)? -/
def Block.heaterTest (b : Block) (e q : Nat) : Bool :=
  let s := stackOf e
  b.rdB (HTR_TEST s) 15 && b.rdF (HTR_TEST s) 0 11 == loopIx e q

/-- Is engine `e` lit, so that its loops may run? -/
def Block.lit (b : Block) : Bool := b.modState == stHold || b.modState == stActive

/-- The summary registers of the `LCK` page of engine `e` (R125). -/
def Block.lockSummary (b : Block) (e : Nat) : Block :=
  let qs := regionsOf e
  let n (st : Nat) : Nat := (qs.filter fun q => b.lockSt e q == st).length
  let unl (lo : Nat) : Nat := qs.foldl (fun a q =>
    if lo ≤ q ∧ q < lo + 32 ∧ b.rdB (LCK_R_STATE e q) 3 then a ||| 2 ^ (q - lo) else a) 0
  let b := b.wr (LCK_STAT e) (wd (n 3 + n 5 * 2 ^ 8 + n 7 * 2 ^ 16 + b2n (n 3 == qs.length) * 2 ^ 24))
  (b.wr (LCK_UNLK_LO e) (wd (unl 0))).wr (LCK_UNLK_HI e) (wd (unl 32))

/-- The `UNLOCKED` bit of a region from its state and the heater test (R117, R118). -/
def Block.showUnlocked (b : Block) (e q : Nat) : Block :=
  (b.wrF (LCK_R_STATE e q) 3 1 (b2n (b.lockSt e q != 3 || b.heaterTest e q))).lockSummary e

/-- A region enters a state of R118. A region of the engine that leaves Locked abandons the engine's calibration with
cause 3 (R337). Entry to Locked or Off resets the count of wide attempts; the runs of samples that Verify and Locked share
go on from one to the other (R119). Off clears the bias loop part and every section state (R144). -/
def Block.setLock (b : Block) (e q st : Nat) : Block :=
  let old := b.lockSt e q
  if old = st then b else
  let b := b.wrF (LCK_R_STATE e q) 0 3 st
  let b := b.updRegion e q fun r =>
    { r with wide := if st = 3 ∨ st = 0 then 0 else r.wide, rail := if old = 2 ∧ st = 3 then r.rail else 0, clear := 0,
             back := none, again := false, errs := if st = 5 ∨ st = 0 then [] else r.errs, means := [], swept := 0,
             bofs := if st = 4 then r.bofs else 0 }
  let b := b.when (st = 0) fun b => b.updRegion e q fun r =>
    { r with uB := 0, s := [], outs := [], sB := 0, sD := 0, b := 0, move := 0, sword := none }
  let b := b.when (st = 0) fun b => (b.wrF (LCK_R_BIAS e q) 0 14 0).wrF (LCK_R_STATE e q) 4 2 0
  let b := b.showUnlocked e q
  let b := b.when (old = 3) fun b => b.calAbandon e 3
  if st = 7 then (b.raise (P_LCK e) 2).ev 0x3A04 e else b

/-- Entry to Verify from Acquire or Re-search closes the loop bumplessly (R145): the section states are cleared and each
integrator is preset from the loop part. -/
def Block.enterVerify (b : Block) (e q : Nat) : Block := (b.setLock e q 2).preset e q

/-- Entry to Locked (R119, R121, R322): `T_last` is set at the first entry; a relock requests calibration. -/
def Block.enterLocked (b : Block) (e q : Nat) (relock : Bool) : Block :=
  let b := b.setLock e q 3
  let b := b.updRegion e q fun r =>
    { r with tlast := match r.tlast with | some t => some t | none => some (sext 16 (b.rdF (LCK_R_RTEMP e q) 0 16)) }
  b.when relock fun b => ((b.raise (P_LCK e) 4).ev 0x3A06 e).makeDue e q 0 true

/-- Entry to Re-search (R119, R120). -/
def Block.enterResearch (b : Block) (e q : Nat) : Block := (b.setLock e q 6).bump (LCK_RSCNT e)

/-- A wide attempt has failed (R119): another, or Failed after `LCK_RETRY.WIDE` attempts. -/
def Block.wideFailed (b : Block) (e q : Nat) : Block :=
  let b := b.updRegion e q fun r => { r with wide := r.wide + 1 }
  if b.rdF (LCK_RETRY e) 0 4 ≤ (b.region e q).wide then b.setLock e q 7 else b

/-- The regions that a sweep of group `g` puts in Search: one per band (R95). -/
def sweepRegions (e g : Nat) : List Nat := (regionsOf e).filter fun q => (if e < 64 then q % 8 else q % 2) == g

/-- The sweep of a group is over: the search bias is removed, and each region returns to Locked or enters Coast within
8 samples (R95, R119). -/
def Block.sweepOff (b : Block) (e g : Nat) : Block :=
  b.each (sweepRegions e g) fun b q =>
    if b.lockSt e q = 4 then b.updRegion e q fun r => { r with bofs := 0, back := some 0 } else b

/-- A sweep that covers region `q` of engine `e` ends when the region leaves Search (R123); a region that does not come
back to Locked after its sweep breaks the group off too. -/
def Block.sweepBreak (b : Block) (e q : Nat) : Block :=
  match (b.eng e).search with
  | none => b
  | some sr =>
    let g := if e < 64 then q % 8 else q % 2
    let now := sr.sweeping == some g
    let after := (b.region e q).back.isSome && sr.swept.contains g && !sr.bad.contains g
    if !now && !after then b else
    let b := b.when now fun b => b.sweepOff e g
    let b := (b.setB (ASG_STAT e) 5).ev 0x3B02 0 [(1, e), (1, g)]
    b.updEng e fun x =>
      { x with search := some { sr with sweeping := if now then none else sr.sweeping, bad := sr.bad ++ [g] } }

/-- The fibre of engine `e` within the module is `fibreOf e`; its engines. -/
def fibreEngs (f : Nat) : List Nat := (List.range 72).filter fun e => fibreOf e == f

/-- The regions fed by fibre `f`. -/
def fibreRegions (f : Nat) : List (Nat × Nat) := (fibreEngs f).flatMap fun e => (regionsOf e).map fun q => (e, q)

/-- Lost light (R122): the first region of a fibre to enter Coast opens an account of the fibre's regions that are
Verify or Locked; when all of them have entered Coast within 10 µs the fibre is flagged dark. -/
def Block.judgeDark (b : Block) (e q : Nat) (before : List (Nat × Nat)) : Block :=
  let f := fibreOf e
  let s := stackOf e
  let k := b.stk s
  let open_ := k.dark.find? fun d => d.1 == f && decide ((b.time - d.2.1).toNat ≤ 2500) && d.2.2.contains (e, q)
  let acc : Nat × BitVec 64 × List (Nat × Nat) := open_.getD (f, b.time, before)
  let b := b.updStk s fun k => { k with dark := acc :: k.dark.filter fun d => d.1 != f }
  if acc.2.2.all fun (e, q) => b.lockSt e q == 5 then
    let b := b.updStk s fun k => { k with dark := k.dark.filter fun d => d.1 != f }
    let b := b.each (fibreRegions f) fun b (e, q) => b.setB (LCK_R_STATE e q) 5
    (b.each (fibreEngs f) fun b e => b.raise (P_LCK e) 3).ev 0x3A05 f
  else b

/-- Entry to Coast (R119, R122, R123): cause 0 the rail flag, 1 the variance. -/
def Block.enterCoast (b : Block) (e q cause : Nat) : Block :=
  let before := (fibreRegions (fibreOf e)).filter fun (e, q) => b.lockSt e q == 2 || b.lockSt e q == 3
  let b := b.sweepBreak e q
  let b := b.updRegion e q fun r => { r with pre := r.uB }
  let b := ((b.setLock e q 5).bump (LCK_COASTCNT e)).raise (P_LCK e) 0
  let b := b.ev 0x3A01 e [(1, cause)]
  if before.contains (e, q) then b.judgeDark e q before else b

/-- Is a peak among the excluded ones: within 1 GHz of an excluded bias, 1 GHz being 1,638 steps of Q1.15 (R108, R120)? -/
def excluded (r : Region) (p : Int) : Bool := r.excl.any fun x => decide ((x - p).natAbs ≤ 1638)

/-- `NEXCL` of a region (R126). -/
def Block.showExcl (b : Block) (e q : Nat) : Block := b.wrF (LCK_R_STATE e q) 8 3 (b.region e q).excl.length

/-- The peak a region sits on is excluded; a region keeps up to 4, the oldest leaving (R120). -/
def Block.exclude (b : Block) (e q : Nat) : Block :=
  (b.updRegion e q fun r => { r with excl := (r.excl ++ [r.uB]).drop (r.excl.length + 1 - 4) }).showExcl e q

/-! ## The pilot code (R107, R119) -/

/-- The code that the photonic die impresses on pilot `p`, chip 0 in bit 15 (R107). -/
def pilotCode (p : Nat) : BitVec 16 :=
  match p with | 0 => 0x0F0F | 1 => 0x3C3C | 2 => 0x5A5A | _ => 0x6969

/-- Chip `k` of pilot `p` as +1 or −1. -/
def pilotChip (p k : Nat) : Int := if (pilotCode p).getLsbD (15 - k % 16) then 1 else -1

/-- The chip of the pilot codes under which a sample latched at STEADY time `t` was taken: one chip lasts a microsecond,
250 ticks. Chip 0 begins at time 0 (DESIGN CHOICE, assumption 94). -/
def chipAt (t : BitVec 64) : Nat := (t.toNat - 1) / 250 % 16

/-- The normalised correlation of samples, each with its chip number, with the code of pilot `p` (R119), in units of 2^−15
rounded down; none where the samples are all equal and the quotient is 0 / 0. -/
def pilotCorr (xs : List (Nat × Nat)) (p : Nat) : Option Int :=
  let n := xs.length
  let sx := (xs.map (·.1)).sum
  let sxx := (xs.map fun x => x.1 * x.1).sum
  let sc : Int := (xs.map fun x => pilotChip p x.2).sum
  let scx : Int := (xs.map fun x => pilotChip p x.2 * (x.1 : Int)).sum
  let num : Int := n * scx - sx * sc
  let den : Nat := n * n * (n * sxx - sx * sx)
  if den = 0 then none else
  let sq := num.natAbs ^ 2 * 2 ^ 30
  let r := isqrt (sq / den)
  some (if 0 ≤ num then r else if r * r * den = sq then -(r : Int) else -(r : Int) - 1)

/-- The correlations of samples with the four codes, and the block that has taken the free values among them. -/
def Block.correlate (b : Block) (xs : List (Nat × Nat)) : List Int × Block :=
  (List.range 4).foldl (fun (acc : List Int × Block) p =>
    match pilotCorr xs p with
    | some c => (acc.1 ++ [c], acc.2)
    | none => let (w, b) := acc.2.freeWord; (acc.1 ++ [sext 16 (fld w 0 16)], b)) ([], b)

/-- The samples of one Verify attempt, 16 × `LCK_CORR.PERIODS` (R119). -/
def Block.verifyLen (b : Block) (e : Nat) : Nat := 16 * b.rdF (LCK_CORR e) 16 4

/-- The last `n` detector means of a region, each with its chip. -/
def Region.window (r : Region) (n : Nat) : List (Nat × Nat) := r.means.drop (r.means.length - n)

/-- A failed code check (R119): WRONG_LINE, the peak excluded, Re-search. `corr` are the correlations, in pilot order,
in units of 2^−15. -/
def Block.wrongLine (b : Block) (e q : Nat) (corr : List Int) : Block :=
  let b := b.sweepBreak e q
  let b := (b.exclude e q).setB (LCK_R_STATE e q) 4
  let b := b.setB (if q < 32 then LCK_WRONG_LO e else LCK_WRONG_HI e) (q % 32)
  let b := (b.raise (P_LCK e) 1).ev 0x3A03 e ((List.range 4).map fun k => (1, unsx 8 (corr.getD k 0 / 256)))
  b.enterResearch e q

/-- The target pilot of a region and the correlation with it. -/
def Block.target32 (b : Block) (e q : Nat) (corr : List Int) : Nat × Int :=
  let p := b.rdF (LCK_R_CFG e q) 1 2
  (p, corr.getD p 0)

/-- Does a correlation pass, and does it fail (R119)? A pass comes first. -/
def Block.codeJudge (b : Block) (e q : Nat) (corr : List Int) : Bool × Bool :=
  let (p, c) := b.target32 e q corr
  let pass : Int := b.rdF (LCK_CORR e) 0 8 * 128
  let fail : Int := b.rdF (LCK_CORR e) 8 8 * 128
  let other := (List.range 4).any fun k => k != p && decide (pass ≤ corr.getD k 0)
  (decide (pass ≤ c), decide (c < fail) || other)

/-- The last correlation as `LCK_R_STATE.CORR` shows it, signed Q0.7. -/
def Block.showCorr (b : Block) (e q : Nat) (corr : List Int) : Block :=
  b.wrF (LCK_R_STATE e q) 16 8 (unsx 8 (clampI (-128) 127 ((b.target32 e q corr).2 / 256)))

/-! ## Lock events -/

/-- WIDE_ACQUISITION_END (R119, R108): a peak as bias and heater loop parts, or none; a start-up also measures
`LCK_KBIAS`. -/
def wideEnd (e q : Nat) (peak : Option (Int × Int)) (kbias : Option (BitVec 16)) (b : Block) : Block :=
  if b.lockSt e q ≠ 1 then b else
  let b := match kbias with
    | some k => if b.pw.startup.isSome then b.wrF (LCK_KBIAS e q) 0 16 k.toNat else b
    | none => b
  match peak with
  | some (p, h) =>
    if excluded (b.region e q) p ∨ p < -32768 ∨ 32767 < p ∨ h < 0 ∨ 32767 < h then b.wideFailed e q
    else (b.updRegion e q fun r => { r with uB := p, uH := h }).enterVerify e q
  | none => b.wideFailed e q

/-- VERIFY_ATTEMPT_COMPLETE (R119): once the region has taken the samples of an attempt. -/
def verifyEnd (e q : Nat) (b : Block) : Block :=
  let n := b.verifyLen e
  if b.lockSt e q ≠ 2 ∨ (b.region e q).means.length < n then b else
  let (corr, b) := b.correlate ((b.region e q).window n)
  let b := b.showCorr e q corr
  let (pass, fail) := b.codeJudge e q corr
  if pass then (b.clrB (LCK_R_STATE e q) 4).enterLocked e q true
  else if fail || (b.region e q).again then b.wrongLine e q corr
  else b.updRegion e q fun r => { r with again := true, means := [] }

/-- CORRELATION_CHECK (R119), over the last 1,024 samples of a Locked region. A correlation between the two thresholds
leaves the region Locked, and nothing is repeated or counted (DESIGN CHOICE, assumption 82). -/
def corrCheck (e q : Nat) (b : Block) : Block :=
  if b.lockSt e q ≠ 3 ∨ (b.region e q).means.length < 1024 then b else
  let (corr, b) := b.correlate ((b.region e q).window 1024)
  let b := b.showCorr e q corr
  let (pass, fail) := b.codeJudge e q corr
  if !pass && fail then b.wrongLine e q corr else b

/-- COAST_TIMEOUT (R119); the timer of a dark fibre's regions is suspended (R122). -/
def coastTimeout (e q : Nat) (b : Block) : Block :=
  if b.lockSt e q = 5 ∧ !b.rdB (LCK_R_STATE e q) 5 then b.enterResearch e q else b

/-- The peak of the sweep from −0.50 V to +0.50 V nearest the bias before Coast that is not excluded (R120). Where the
region comes from Locked, that is the bias kept from its last Coast (DESIGN CHOICE, assumption 83). -/
def nearestPeak (r : Region) (ps : List Int) : Option Int :=
  (ps.filter fun p => !excluded r p && decide (-32768 ≤ p ∧ p ≤ 32767)).foldl (fun best p => match best with
    | none => some p
    | some x => if (p - r.pre).natAbs < (x - r.pre).natAbs then some p else some x) none

/-- RE_SEARCH_COMPLETE (R119, R120): the peaks found as bias values. -/
def researchEnd (e q : Nat) (peaks : List Int) (b : Block) : Block :=
  if b.lockSt e q ≠ 6 then b else
  match nearestPeak (b.region e q) peaks with
  | some p => (b.updRegion e q fun r => { r with uB := p }).enterVerify e q
  | none =>
    let b := b.ev 0x3A02 e
    if b.rdF (LCK_RETRY e) 0 4 ≤ (b.region e q).wide then b.setLock e q 7 else b.setLock e q 1

/-- EXCLUSION_EXPIRY (R120). -/
def exclExpiry (e q : Nat) (b : Block) : Block :=
  if b.lockSt e q = 3 then (b.updRegion e q fun r => { r with excl := [] }).showExcl e q else b

/-- DARK_LIGHT_CHECK (R122): the regions of a dark fibre on which light has returned go to Verify. -/
def darkCheck (f : Nat) (light : Bool) (b : Block) : Block :=
  if !light then b else
  b.each (fibreRegions f) fun b (e, q) =>
    if b.rdB (LCK_R_STATE e q) 5 then
      let b := b.clrB (LCK_R_STATE e q) 5
      if b.lockSt e q = 5 then b.setLock e q 2 else b
    else b

/-- `LCK_CMD` (R125): RESEARCH, RELEASE and CLREXCL of one region or of all. -/
def lckCmdWrite (e : Nat) (v : Word) (b : Block) : Block × Bool :=
  let qs := if bit v 11 then regionsOf e else (regionsOf e).filter (· == fld v 0 6)
  let b := b.when (bit v 8) fun b => b.each qs fun b q =>
    let st := b.lockSt e q
    if st = 3 ∨ st = 5 then (b.sweepBreak e q).enterResearch e q else b
  let b := b.when (bit v 9) fun b => b.each qs fun b q =>
    if b.lockSt e q = 7 then (b.updRegion e q fun r => { r with wide := 0 }).setLock e q 1 else b
  let b := b.when (bit v 10) fun b => b.each qs fun b q =>
    (b.updRegion e q fun r => { r with excl := [] }).showExcl e q
  (b, bit v 8 || bit v 9 || bit v 10)

/-- Is a region enabled: its own `EN` and that of its engine (R125, R126)? -/
def Block.loopEn (b : Block) (e q : Nat) : Bool := b.rdB (LCK_CTRL e) 0 && b.rdB (LCK_R_CFG e q) 0

/-- May a region enter Acquire at once: the module is lit, and of a start-up the warm-up is complete and the engine is not
skipped (R100, R119)? -/
def Block.warm (b : Block) (e : Nat) : Bool :=
  match b.pw.startup with
  | none => b.lit
  | some .acquire => !b.pw.dark.contains (fibreOf e)
  | _ => false

/-- A region's state after its enables changed (R119): Off when disabled, Acquire when enabled while lit. -/
def Block.enChanged (b : Block) (e q : Nat) : Block :=
  if !b.loopEn e q then (b.sweepBreak e q).setLock e q 0
  else if b.lockSt e q = 0 ∧ b.warm e then b.setLock e q 1 else b

/-- A write of `LCK_R_CFG` (R123, R126). -/
def rcfgWrite (e q : Nat) (v : Word) (b : Block) : Block × Bool :=
  if !(regionsOf e).contains q then (b, false) else
  let p := b.rdF (LCK_R_CFG e q) 1 2
  let b := b.wr (LCK_R_CFG e q) (v &&& 0xFF07)
  let b := b.enChanged e q
  (b.when (p ≠ fld v 1 2 ∧ b.lockSt e q = 3) fun b => (b.sweepBreak e q).setLock e q 1, true)

/-- A write of `LCK_CTRL` (R125). -/
def lckCtrlWrite (e : Nat) (v : Word) (b : Block) : Block × Bool :=
  let b := b.wrB (LCK_CTRL e) 0 (bit v 0)
  (b.each (regionsOf e) fun b q => b.enChanged e q, true)

/-- A write of `LCK_R_SWORD` (R111, R123, R146): the bias integrator compensates the move while the loop computes, and
the new word acts with that computation. -/
def rswordWrite (e q : Nat) (v : Word) (b : Block) : Block × Bool :=
  if !(regionsOf e).contains q then (b, false) else
  let old := b.rdF (LCK_R_SWORD e q) 0 12
  let b := b.wr (LCK_R_SWORD e q) (v &&& 0x3FF0FFF)
  let dw : Int := (fld v 0 12 : Int) - old
  let kb := b.rdF (LCK_KBIAS e q) 0 16
  let st := b.lockSt e q
  if dw = 0 ∨ st ≠ 2 ∧ st ≠ 3 ∨ kb = 0 then (b, true)
  else
    let du := -(⟨dw * 288384, kb⟩ : Fr).rneInt * 2 ^ 15
    (b.updRegion e q fun r => { r with move := r.move + du, sword := some (r.sword.getD old) }, true)

/-! ## Dither (R109) -/

/-- The phase of a region's dither generator at STEADY time `t` (R109): `LCK_R_DFREQ` per tick since it was last set. The
phase at power-on is 0 (DESIGN CHOICE, assumption 95). -/
def Block.ditherPhase (b : Block) (e q : Nat) (t : BitVec 64) : BitVec 32 :=
  let r := b.region e q
  r.ph + (t - r.phAt).setWidth 32 * b.rd (LCK_R_DFREQ e q)

/-- The entry of the sine table that a phase addresses: its ten most significant bits (R109). -/
def sineAddr (ph : BitVec 32) : Nat := ph.toNat / 2 ^ 22

/-- The dither's increment set, the phase going on from where it stands. -/
def Block.setDither (b : Block) (e q : Nat) (inc : Word) : Block :=
  let ph := b.ditherPhase e q b.time
  (b.updRegion e q fun r => { r with ph := ph, phAt := b.time }).wr (LCK_R_DFREQ e q) inc

/-- A write of `LCK_R_DFREQ`, clamped to 4 to 12 MHz (R109). -/
def dfreqWrite (e q : Nat) (v : Word) (b : Block) : Block × Bool :=
  if !(regionsOf e).contains q then (b, false) else
  (b.setDither e q (wd (clampN 68719477 206158430 v.toNat)), true)

/-- The electrode word that a sentinel is driven at (R106, R109, R146): the word its DAC holds and the dither, `DAMP` words
at its peak. -/
def Block.sentinelDrive (b : Block) (e q : Nat) : Fr :=
  let w := (b.region e q).sword.getD (b.rdF (LCK_R_SWORD e q) 0 12)
  let sine := sineAt 1 (sineAddr (b.ditherPhase e q b.time))
  (Fr.ofInt w).add ⟨b.rdF (LCK_R_CFG e q) 8 8 * sine, 32767⟩

/-! ## Heaters (R114 to R117) -/

/-- The duty asked for heater `i` of stack `s` (R114, R117). -/
def Block.heaterDuty (b : Block) (s i : Nat) : Nat :=
  let (e, q) := loopOf s i
  if !b.rdB (HTR_CTRL s) 0 then 0
  else if b.heaterTest e q then b.rdF (HTR_TEST s) 16 16
  else (b.region e q).duty

/-- HEATER_PWM_PERIOD (R114, R116): the duties applied are those that `HTR_DUTY` and `LCK_R_HEAT` show. -/
def pwmPeriod (s : Nat) (b : Block) : Block :=
  let ix := List.range 1032
  let asked := ix.map fun i => b.heaterDuty s i
  let sum := asked.foldl (· + ·) 0
  -- mA × 655,360
  let lim := (b.rd (HTR_ILIM s)).toNat * 655360
  let tooMuch := lim < sum * 33
  let duties := asked.map fun d => if tooMuch then d * lim / (sum * 33) else d
  let b := b.wrF (HTR_STAT s) 16 16 (duties.foldl (· + ·) 0 * 33 / 655360)
  let b := b.wrB (HTR_STAT s) 0 tooMuch
  let b := b.when tooMuch fun b => ((b.bump (HTR_LIMITCNT s)).raise (P_HTR s) 0).ev 0x3C01 s
  let stag := b.rdB (HTR_CTRL s) 1
  let (b, ps) := (duties.zip ix).foldl (fun ((b, ps) : Block × List (Nat × Nat × Nat)) (d, i) =>
    let (e, q) := loopOf s i
    let acc := (b.region e q).carry + d * 256
    let n := min (acc / 65536) 256
    let n' := if n < 2 then 0 else n
    let b := b.updRegion e q fun r => { r with carry := acc - n' * 65536 }
    let b := (b.wrF (HTR_DUTY s (i / 2)) (16 * (i % 2)) 16 d).wrF (LCK_R_HEAT e q) 0 16 d
    let b := b.when (n = 1) fun b => b.bump (HTR_SKIPCNT s)
    (b, if n' = 0 then ps else ps ++ [(i, if stag then 61 * i % 256 else 0, n')])) (b, [])
  b.send (.pulses s ps)

/-- HEATER_STOW_HOLD_EXPIRY (R117): in Stow the heaters of stack `s` switch off. -/
def stowHoldExpiry (s : Nat) (b : Block) : Block :=
  if b.lit || b.pw.startup.isSome then b else
  b.each (List.range 1032) fun b i =>
    let (e, q) := loopOf s i
    (b.updRegion e q fun r => { r with duty := 0, uH := 0 }).wrF (LCK_R_HEAT e q) 0 16 0

/-- A write of `HTR_TEST` (R117). -/
def htrTestWrite (s : Nat) (v : Word) (b : Block) : Block × Bool :=
  let old := b.rdF (HTR_TEST s) 0 11
  let b := b.wr (HTR_TEST s) (v &&& 0xFFFF87FF)
  (b.each [old, fld v 0 11] fun b i =>
    if i < 1032 then let (e, q) := loopOf s i; b.showUnlocked e q else b, true)

/-- After a module or page reset has cleared `HTR_TEST`: the region it named no longer shows its override (R117). `was` are
the loops by stack. -/
def Block.testsOver (b : Block) (was : List (Nat × Nat)) : Block :=
  b.each was fun b (s, i) => if i < 1032 then let (e, q) := loopOf s i; b.showUnlocked e q else b

/-- The loop that each stack's `HTR_TEST` names. -/
def Block.testLoops (b : Block) : List (Nat × Nat) := (List.range 4).map fun s => (s, b.rdF (HTR_TEST s) 0 11)

/-! ## Meanings -/

/-- WIDE_ACQUISITION_END (R119). -/
def execWideAcquisitionEnd (e : Fin 72) (q : Fin 64) (peak : Option (Int × Int)) (kbias : Option (BitVec 16))
    (s : State) : Res := s.done (wideEnd e q peak kbias)
/-- ACQUIRE_TIMEOUT (R119): the attempt ends without a peak. -/
def execAcquireTimeout (e : Fin 72) (q : Fin 64) (s : State) : Res := s.done (wideEnd e q none none)
/-- VERIFY_ATTEMPT_COMPLETE (R119). -/
def execVerifyAttemptComplete (e : Fin 72) (q : Fin 64) (s : State) : Res := s.done (verifyEnd e q)
/-- CORRELATION_CHECK (R119). -/
def execCorrelationCheck (e : Fin 72) (q : Fin 64) (s : State) : Res := s.done (corrCheck e q)
/-- COAST_TIMEOUT (R119). -/
def execCoastTimeout (e : Fin 72) (q : Fin 64) (s : State) : Res := s.done (coastTimeout e q)
/-- RE_SEARCH_COMPLETE (R120). -/
def execReSearchComplete (e : Fin 72) (q : Fin 64) (peaks : List Int) (s : State) : Res :=
  s.done (researchEnd e q peaks)
/-- EXCLUSION_EXPIRY (R120). -/
def execExclusionExpiry (e : Fin 72) (q : Fin 64) (s : State) : Res := s.done (exclExpiry e q)
/-- DARK_LIGHT_CHECK (R122). -/
def execDarkLightCheck (fibre : Fin 16) (light : Bool) (s : State) : Res := s.done (darkCheck fibre light)
/-- LCK_RESEARCH (R119). -/
def execLckResearch (m : Master) (e : Fin 72) (v : Word) (s : State) : Res :=
  s.done fun b => b.gate m (LCK_CMD e) (lckCmdWrite e (v ||| 0x100))
/-- LCK_RELEASE (R119). -/
def execLckRelease (m : Master) (e : Fin 72) (v : Word) (s : State) : Res :=
  s.done fun b => b.gate m (LCK_CMD e) (lckCmdWrite e (v ||| 0x200))
/-- LCK_CLREXCL (R120). -/
def execLckClrexcl (m : Master) (e : Fin 72) (v : Word) (s : State) : Res :=
  s.done fun b => b.gate m (LCK_CMD e) (lckCmdWrite e (v ||| 0x400))
/-- LCK_R_SWORD_WRITE (R146). -/
def execLckRSwordWrite (m : Master) (e : Fin 72) (q : Fin 64) (v : Word) (s : State) : Res :=
  s.done fun b => b.gate m (LCK_R_SWORD e q) (rswordWrite e q v)
/-- LCK_R_CFG_WRITE (R123). -/
def execLckRCfgWrite (m : Master) (e : Fin 72) (q : Fin 64) (v : Word) (s : State) : Res :=
  s.done fun b => b.gate m (LCK_R_CFG e q) (rcfgWrite e q v)
/-- HEATER_PWM_PERIOD (R114). -/
def execHeaterPwmPeriod (st : Fin 4) (s : State) : Res := s.done (pwmPeriod st)
/-- HEATER_STOW_HOLD_EXPIRY (R117). -/
def execHeaterStowHoldExpiry (st : Fin 4) (s : State) : Res := s.done (stowHoldExpiry st)
/-- HTR_TEST_WRITE (R117). -/
def execHtrTestWrite (m : Master) (st : Fin 4) (v : Word) (s : State) : Res :=
  s.done fun b => b.gate m (HTR_TEST st) (htrTestWrite st v)

end Sys2Proof.Machine
end

