-- ==== Sys2Proof/Machine/Assign.lean ====
section
/-! DEFINITION. Resonance assignment (R91 to R105, R127, R128): searches, the choice of lines and rings, commits,
replacements, and the map as `ASG_DATA` shows it. -/

namespace Sys2Proof.Machine

/-! ## Searches (R93, R95, R99, R105, R128) -/

/-- The pending map of engine `e` comes into force without a rebuild: a commit on an engine without a model (R100), or
the boundary of a dynamic engine (R124). -/
def Block.commitMap (b : Block) (e : Nat) : Block :=
  let x := b.eng e
  let b := b.setEng e { x with mapF := x.mapP, lineF := x.lineP, spareF := x.spareP, parkF := x.parkP, offF := x.offP }
  (((b.showPark e x.parkP x.offP).clrB (ASG_STAT e) 2).showComplete e).stageMarks e

/-- The pending map of engine `e` has changed. -/
def Block.mapDirty (b : Block) (e : Nat) : Block := b.setB (ASG_STAT e) 2

/-- Is the correlator bank of engine `e` free: no other engine of its fibre is being searched; the fifth bank of a stack
serves both dynamic engines at once (R99, R566)? -/
def Block.bankFree (b : Block) (e : Nat) : Bool :=
  64 ≤ e || !((List.range 64).any fun d => d != e && fibreOf d == fibreOf e && (b.eng d).search.any fun q => !q.waiting)

/-- The rings that the pending map of an engine marks failed. -/
def failedRings (m : SMap Word) : List Nat := (m.filter fun x => mRole x.2 == 2).map (·.1)

/-- The passes already in the queue of a resident engine whose search begins are held and counted (R105). -/
def Block.searchHolds (b : Block) (e : Nat) : Block :=
  b.when (decide (e < 64)) fun b => b.bump (ENG_HELD e) (b.eng e).passes.length

/-- A search of a scope accepted (R99): it is served at once when its correlator bank is free. A group that a dynamic engine
does not have is no group to sweep (DESIGN CHOICE, assumption 85). The step of a dynamic engine's sweep is 16 DAC codes
(R124). -/
def Block.newSearch (b : Block) (e scope row group : Nat) (startup wait : Bool) : Block :=
  let todo := if scope = 0 then List.range (groupsOf e) else [group].filter (· < groupsOf e)
  let waits := wait || !b.bankFree e
  let sr : Search :=
    { scope := scope, row := row, group := group, waiting := waits, todo := todo, sweeping := none, swept := [],
      peaks := [], bad := [], startup := startup, start := b.time,
      step := if e < 64 then b.rdF (ASG_SWEEP e) 0 8 else 16, dwell := b.rdF (ASG_SWEEP e) 8 8,
      bofs := b.rdF (ASG_SWEEP e) 16 9, failed := failedRings (b.eng e).mapP }
  let b := (b.updEng e fun x => { x with search := some sr }).setB (ASG_STAT e) 0
  b.when (!waits) fun b => b.searchHolds e

/-- Row, group and ring of `ASG_TARGET`. -/
def Block.asgTarget (b : Block) (e : Nat) : Nat × Nat × Nat :=
  (b.rdF (ASG_TARGET e) 0 9, b.rdF (ASG_TARGET e) 9 3, b.rdF (ASG_TARGET e) 12 7)

/-- Is a START of a scope, or a REPLACE (none), refused (R128)? -/
def Block.asgRefused (b : Block) (e : Nat) (scope : Option Nat) : Bool :=
  let (r, g, k) := b.asgTarget e
  let one := scope == none || scope == some 2
  (b.eng e).search.isSome || (e < 64 && b.rdB (ENG_STATE e) 4) || !b.lit || scope == some 3
    || (one && (decide (67 < k) || decide (rowsOfEng e ≤ r) || decide (groupsOf e ≤ g)
        || b.lockSt e (regionAt e r g) != 3))

/-- The search of engine `e` stops unfinished (R128): swept rows restored, pending map unchanged, `ABORTED`. -/
def Block.abortSearch (b : Block) (e : Nat) : Block :=
  match (b.eng e).search with
  | none => b
  | some sr =>
    let b := match sr.sweeping with | some g => b.sweepOff e g | none => b
    let b := (b.updEng e fun x => { x with search := none }).clrB (ASG_STAT e) 0
    ((b.setB (ASG_STAT e) 5).ev 0x3B02 0 [(1, e)]).pumpAll (stackOf e)

/-- SEARCH_START_AFTER_WAIT (R99): a waiting search is served once its bank is free; the searches of a start-up begin
when every region of the stack is Locked, Failed or Off (R100). -/
def searchAfterWait (e : Nat) (b : Block) : Block :=
  match (b.eng e).search with
  | none => b
  | some sr =>
    let settled := (List.range 72).all fun d => stackOf d != stackOf e ||
      (regionsOf d).all fun q => let st := b.lockSt d q; st == 3 || st == 7 || st == 0 || b.rdB (LCK_R_STATE d q) 5
    if !sr.waiting ∨ !b.bankFree e ∨ sr.startup && !(b.pw.startup == some .acquire && settled) then b
    else (b.updEng e fun x => { x with search := some { sr with waiting := false, start := b.time } }).searchHolds e

/-- GROUP_SWEEP_BEGIN (R95): the engine's next group is swept, or refused when one of its regions is not Locked. -/
def sweepBegin (e : Nat) (b : Block) : Block :=
  match (b.eng e).search with
  | none => b
  | some sr =>
    match sr.waiting, sr.sweeping, sr.todo with
    | false, none, g :: rest =>
      let qs := sweepRegions e g
      if qs.all fun q => b.lockSt e q == 3 then
        let b := b.each qs fun b q => (b.setLock e q 4).updRegion e q fun r => { r with bofs := sr.bofs }
        b.updEng e fun x => { x with search := some { sr with sweeping := some g, todo := rest } }
      else
        let b := (b.setB (ASG_STAT e) 4).ev 0x3B02 0 [(1, e), (1, g)]
        b.updEng e fun x => { x with search := some { sr with todo := rest, bad := sr.bad ++ [g] } }
    | _, _, _ => b

/-- SWEEP_END (R95): the offset is removed, the regions return, the swept rows are rewritten; what the sweep found. -/
def sweepEnd (e : Nat) (peaks : List Peak) (b : Block) : Block :=
  match (b.eng e).search with
  | none => b
  | some sr => match sr.sweeping with
    | none => b
    | some g =>
      let b := b.sweepOff e g
      let sr := { sr with sweeping := none, swept := sr.swept ++ [g],
                          peaks := sr.peaks ++ peaks.filter fun p => p.group == g }
      b.updEng e fun x =>
        { x with search := some sr,
                 oldRows := if sr.scope = 2 then x.oldRows.filter (· != sr.row) else [] }

/-! ## The sweep's measurements (R91, R93, R94) -/

/-- The frequency in Hz of the tone on a compute-capable line (R93): by its rank among the 68, in line order. -/
def toneHz (l : Nat) : Nat := 10000000 + 5000000 * computeLines.idxOf l

/-- The drive code of a tone (R93), given the sine of its phase: mean 64, amplitude 32. -/
def toneDrive (sine : Fr) : Fr := (Fr.ofInt 64).add ((Fr.ofInt 32).mul sine)

/-- The time that the sweep of a group takes, in 4 ns ticks (R93): the baseline of 20 µs, then 68 rings at `STEP` words per
step, each step for its dwell. -/
def Search.sweepTicks (sr : Search) (e : Nat) : Nat :=
  5000 + 68 * ((if e < 64 then 4096 else 256) / sr.step) * sr.dwell

/-- The highest of some steps (step, magnitude), the lowest of equals. -/
def topStep (ms : List (Nat × Nat)) : Option (Nat × Nat) :=
  ms.foldl (fun best m => match best with
    | none => some m
    | some x => if x.2 < m.2 then some m else some x) none

/-- The vertex of the parabola through three points; none where they lie on a line. -/
def vertex (p q r : Nat × Nat) : Option Fr :=
  let (x1, y1) : Int × Int := (p.1, p.2)
  let (x2, y2) : Int × Int := (q.1, q.2)
  let (x3, y3) : Int × Int := (r.1, r.2)
  let n := (x2 ^ 2 - x3 ^ 2) * y1 + (x3 ^ 2 - x1 ^ 2) * y2 + (x1 ^ 2 - x2 ^ 2) * y3
  let d := 2 * ((x2 - x3) * y1 + (x3 - x1) * y2 + (x1 - x2) * y3)
  if d = 0 then none else some ((Fr.ofInt n).div (Fr.ofInt d)).red

/-- The centre of a peak in steps of the sweep (R93): the parabola through the three highest steps of the tone's magnitude.
A flat tone has no peak. -/
def peakCentre (p : Peak) : Option Fr :=
  let ms := (List.range p.mags.length).zip p.mags
  match topStep ms with
  | none => none
  | some a =>
    let ms := ms.erase a
    match topStep ms with
    | none => none
    | some b => match topStep (ms.erase b) with
      | none => none
      | some c => vertex a b c

/-- The centre word of a peak (R91, R94): the place observed in the sweep and the shift by the search bias; in DAC codes of
4.31 mV for a dynamic engine (R246, assumption 24). -/
def Block.peakWord (b : Block) (e : Nat) (sr : Search) (p : Peak) : Option Fr :=
  let kb := b.rdF (LCK_KBIAS e (regionAt e p.row p.group)) 0 16
  let delta := (⟨(sr.bofs * 2 * kb * 10000 : Nat), 16384 * (if e < 64 then 2686 else 43100)⟩ : Fr).rneInt
  (peakCentre p).map fun c => ((c.mul (Fr.ofInt sr.step)).add (Fr.ofInt delta)).red

/-- The offset of a ring on the line of its peak (R91). For a dynamic engine the spec gives no nominal place: a free
constant, scaled by `DGAIN` (assumption 24). -/
def Block.peakOffset (b : Block) (e : Nat) (sr : Search) (p : Peak) : Option Fr :=
  let t := (b.eng e).trims.get (fun _ => 0) (ringIx e p.row p.group p.ring)
  let nominal : Int := if e < 64 then (⟨4080 * (4096 + rgain t), 4096⟩ : Fr).rneInt
    else (⟨(Config.dynCentre : Nat) * (500 + sext 6 (bits t 0 6)), 500⟩ : Fr).rneInt
  (b.peakWord e sr p).map fun c => (c.sub (Fr.ofInt nominal)).red

/-! ## The choice of lines and rings (R96, R97) -/

/-- A ring found reaching a line: row, ring of the Accord, line, offset. -/
abbrev Reach1 := Nat × Nat × Nat × Fr

/-- The rings of group `g` that reach a line (R91, R92, R96): failed rings are left out. -/
def Block.reachOf (b : Block) (e : Nat) (sr : Search) (g : Nat) (peaks : List Peak) : List Reach1 :=
  let win : Nat := if e < 64 then (b.rd (ASG_WIN e)).toNat else 15
  let ok (p : Peak) : Bool :=
    p.group == g && decide (p.row < rowsOfEng e) && decide (p.ring < 68) && computeLine p.line
      && !sr.failed.contains (ringIx e p.row g p.ring) && (sr.scope != 2 || p.row == sr.row)
  (peaks.filter ok).filterMap fun p => (b.peakOffset e sr p).bind fun o =>
    if o.abs.le (Fr.ofInt win) then some (p.row, p.ring, p.line, o) else none

/-- The first candidate of (row, line): smallest offset, then lowest ring (R96). -/
def candOf (rs : List Reach1) (r l : Nat) : Option (Nat × Fr) :=
  rs.foldl (fun best (r', k, l', o) =>
    if r' ≠ r ∨ l' ≠ l then best else
    match best with
    | none => some (k, o)
    | some (k0, o0) => if o.abs.lt o0.abs || !o0.abs.lt o.abs && decide (k < k0) then some (k, o) else best) none

/-- `n` picks of the line with the largest miss, then cost, then number (R96). -/
def pickSpares (cost : Nat → Nat × Fr) : Nat → List Nat → List Nat
  | 0, _ => []
  | n + 1, ls =>
    let better (a c : Nat) : Bool :=
      let (ma, ca) := cost a
      let (mc, cc) := cost c
      decide (mc < ma) || mc == ma && (cc.lt ca || !ca.lt cc && decide (c < a))
    match ls.foldl (fun (best : Option Nat) l =>
        match best with | none => some l | some x => if better l x then some l else some x) none with
    | none => []
    | some x => x :: pickSpares cost n (ls.filter (· != x))

/-- The four spare lines of a group over all its rows (R96). -/
def spareLines (rows : Nat) (rs : List Reach1) : List Nat :=
  let cost (l : Nat) : Nat × Fr :=
    (List.range rows).foldl (fun (m, c) r => match candOf rs r l with
      | some (_, o) => (m, (c.add o.abs).red)
      | none => (m + 1, c)) (0, Fr.ofInt 0)
  let sp := pickSpares cost 4 computeLines
  computeLines.filter sp.contains

/-- A map entry. -/
def mapWord (input role pword line : Nat) : Word :=
  wd (input % 64 + role % 4 * 2 ^ 6 + pword % 4096 * 2 ^ 8 + line % 128 * 2 ^ 20)

/-- The words at which a ring may be parked: 0 to 1,023 (R97), or the DAC codes of a dynamic ring outside those of the
production table (R246). -/
def parkWords (e : Nat) : List Nat :=
  if e < 64 then List.range 1024 else List.range 20 ++ List.range' 213 43

/-- The park word that the sweep data give a ring (R97): the word furthest from every compute line found, the lowest of
several. `cs` are the centres of the lines that the ring was seen on; the word's distance to a line is counted in words. -/
def parkWord (e : Nat) (cs : List Fr) : Nat :=
  let dist (w : Nat) : Option Fr := cs.foldl (fun m c =>
    let d := (c.sub (Fr.ofInt w)).abs
    match m with | none => some d | some x => if d.lt x then some d else some x) none
  if cs.isEmpty then 0 else
  ((parkWords e).foldl (fun (best : Option (Nat × Fr)) w =>
    match dist w, best with
    | some d, some (_, x) => if x.lt d then some (w, d) else best
    | some d, none => some (w, d)
    | none, _ => best) none).elim 0 (·.1)

/-- The centres of the compute lines that a ring was seen on. -/
def Block.centresOf (b : Block) (e : Nat) (sr : Search) (peaks : List Peak) (r g k : Nat) : List Fr :=
  (peaks.filter fun p => p.row == r && p.group == g && p.ring == k && computeLine p.line).filterMap (b.peakWord e sr)

/-- One Accord's entries of the pending map from the rings that reach lines, the group's active lines and the rings' park
words (R96, R97). -/
def accordMap (e : Nat) (sr : Search) (m : SMap Word) (rs : List Reach1) (active : List Nat)
    (park : Nat → Nat) (r g : Nat) : SMap Word :=
  (List.range 68).foldl (fun m k =>
    let i := ringIx e r g k
    let pw := park k
    if sr.failed.contains i then mapSet m i (setFld (mapGet m i) 8 12 pw) else
    match rs.find? fun x => x.1 == r && x.2.1 == k with
    | none => mapSet m i (mapWord 0 3 pw 0x7F)
    | some (_, _, l, _) =>
      match (List.range 64).find? fun j => active.getD j 0x7F == l && (candOf rs r l).map (·.1) == some k with
      | some j => mapSet m i (mapWord j 0 0 l)
      | none => mapSet m i (mapWord 0 1 pw l)) m

/-- The inputs of an Accord without an active ring. -/
def unserved (e : Nat) (m : SMap Word) (r g : Nat) : List Nat :=
  (List.range 64).filter fun j => (activeFor e m r g j).isEmpty

/-- Parked inputs and disabled sections of an engine from the inputs to be parked of each Accord, in order of row and
group (R50, R97): more than 4 in an Accord, or more than 256 in a resident engine, disable the section. -/
def parkLimit (e : Nat) (want : Nat → Nat → Option (List Nat)) : List Nat × List Nat :=
  let accs := (List.range (rowsOfEng e)).flatMap fun r => (List.range (groupsOf e)).map fun g => (r, g)
  accs.foldl (fun (acc : List Nat × List Nat) (r, g) =>
    match want r g with
    | none => (acc.1, acc.2 ++ [sectKey r g])
    | some js =>
      if 4 < js.length ∨ e < 64 ∧ 256 < acc.1.length + js.length then (acc.1, acc.2 ++ [sectKey r g])
      else (acc.1 ++ js.map (inputKey r g), acc.2)) ([], [])

/-- The lines of a group in a line table, and their replacement. -/
def tblSet (t : SMap Nat) (base : Nat) (ls : List Nat) : SMap Nat := t.setMany (fun _ => 0) base ls

/-- `ROFS` of a ring set by assignment (R91): the other field keeps the value written last. -/
def Block.assignOfs (b : Block) (e ring : Nat) (o : Fr) : Block :=
  let x := b.eng e
  let w := wd ((x.trimsWith x.trimQ.length).get (fun _ => 0) ring)
  let times (n : Int) : Int := ((Fr.ofInt n).mul o).rneInt
  let v := if e < 64 then setFld w 16 10 (unsx 10 (times 2)) else setFld w 8 8 (unsx 8 (clampI (-128) 127 (times 8)))
  (b.setTrim e ring v).1

/-- Events 0x3B04 and 0x3B05 for what the map did not hold before (R98). -/
def Block.parkEvents (b : Block) (park0 off0 park off : List Nat) : Block :=
  let b := b.each (park.filter fun p => !park0.contains p) fun b p =>
    b.ev 0x3B04 0 [(2, p / 512), (1, p % 512 / 64), (1, p % 64)]
  b.each (off.filter fun s => !off0.contains s) fun b s => b.ev 0x3B05 0 [(2, s / 8), (1, s % 8)]

/-- The groups swept and not broken off. -/
def Search.good (sr : Search) : List Nat := sr.swept.filter fun g => !sr.bad.contains g

/-- SEARCH_COMPLETE (R91, R96 to R100, R103, R105): lines and rings are chosen; `fails` are the Accords (row, group) that
failed verification, which a search of one Accord does not have, whose second sweep found `peaks`. -/
def searchComplete (e : Nat) (fails : List (Nat × Nat)) (peaks : List Peak) (b : Block) : Block :=
  match (b.eng e).search with
  | none => b
  | some sr =>
    if sr.waiting ∨ sr.sweeping.isSome ∨ !sr.todo.isEmpty then b else
    let again (r g : Nat) : Bool := sr.scope != 2 && fails.contains (r, g)
    let second := peaks.filter fun p => again p.row p.group
    let allPeaks := sr.peaks.filter (fun p => !again p.row p.group) ++ second
    let good := sr.good
    let x := b.eng e
    let rows := if sr.scope = 2 then [sr.row] else List.range (rowsOfEng e)
    -- the lines are chosen from the first sweep; an Accord swept again takes its second result on them
    let step (acc : SMap Word × SMap Nat × SMap Nat × List (Nat × Fr)) (g : Nat) :=
      let (m, ln, sp, os) := acc
      let rs0 := b.reachOf e sr g sr.peaks
      let rs := b.reachOf e sr g allPeaks
      let spare := if sr.scope = 2 then (List.range 4).map fun i => sp.get (fun _ => 0) (4 * g + i)
        else spareLines (rowsOfEng e) rs0
      let active := if sr.scope = 2 then (List.range 64).map fun j => ln.get (fun _ => 0) (64 * g + j)
        else computeLines.filter fun l => !spare.contains l
      let park (r k : Nat) : Nat := parkWord e (b.centresOf e sr allPeaks r g k)
      let m := rows.foldl (fun m r => accordMap e sr m rs active (park r) r g) m
      (m, tblSet ln (64 * g) active, tblSet sp (4 * g) spare,
        os ++ rs.map fun (r, k, _, o) => (ringIx e r g k, o))
    let (m, ln, sp, os) := good.foldl step (x.mapP, x.lineP, x.spareP, [])
    let want (r g : Nat) : Option (List Nat) :=
      if good.contains g && rows.contains r then some (unserved e m r g)
      else if x.offP.contains (sectKey r g) then none
      else some ((x.parkP.filter fun p => p / 512 == r && p % 512 / 64 == g).map (· % 64))
    let (park, off) := if good.isEmpty then (x.parkP, x.offP) else parkLimit e want
    let b := b.setEng e
      { x with search := none, mapP := m, lineP := ln, spareP := sp, parkP := park, offP := off,
               offs := os.foldl (fun t (i, o) => t.set (fun _ => ⟨0, 1⟩) i o) x.offs }
    let b := b.each os fun b (i, o) => b.assignOfs e i o
    let b := b.when (!good.isEmpty) fun b => b.mapDirty e
    let b := b.when (!good.isEmpty && !sr.startup && e < 64 && !b.rdB (ENG_STATE e) 2) fun b => b.commitMap e
    let us := (b.time - sr.start).toNat / 250
    let b := ((b.wr (ASG_TIME e) (wd us)).clrB (ASG_STAT e) 0).setB (ASG_STAT e) 3
    let b := b.raise (P_ASG e) 0
    let b := if mapComplete e m park off then b.ev 0x3B01 0 [(1, sr.scope), (4, us)]
      else (b.raise (P_ASG e) 1).ev 0x3B02 0 [(1, e)]
    (b.parkEvents x.parkP x.offP park off).pumpAll (stackOf e)

/-! ## Replacement (R104) -/

/-- The spare of an Accord for a line: the smallest recorded offset, then the lowest ring. -/
def bestSpare (e : Nat) (x : Eng) (r g l : Nat) : Option Nat :=
  ((List.range 68).filter fun k => let w := mapGet x.mapP (ringIx e r g k); mRole w == 1 && mLine w == l).foldl
    (fun best k =>
      let o (k : Nat) := (x.offs.get (fun _ => ⟨0, 1⟩) (ringIx e r g k)).abs
      match best with | none => some k | some k0 => if (o k).lt (o k0) then some k else some k0) none

/-- A replacement of ring `k` of Accord (`r`, `g`), accepted, up to the rebuild (R104). A ring that fails while active keeps
the park word that its entry holds, 0 where a search wrote it (DESIGN CHOICE, assumption 88). -/
def Block.replaceAt (b : Block) (e r g k : Nat) : Block :=
  let x := b.eng e
  let i := ringIx e r g k
  let w := mapGet x.mapP i
  let done (b : Block) : Block := (b.setB (ASG_STAT e) 3).raise (P_ASG e) 0
  if mRole w = 2 then done b else
  let mark := mapSet x.mapP i (setFld w 6 2 2)
  let b := b.mapDirty e
  let b :=
    if mRole w ≠ 0 then b.setEng e { x with mapP := mark }
    else match bestSpare e x r g (mLine w) with
      | some k' =>
        let i' := ringIx e r g k'
        let b := b.setEng e { x with mapP := mapSet mark i' (mapWord (mInput w) 0 0 (mLine w)) }
        (b.assignOfs e i' (x.offs.get (fun _ => ⟨0, 1⟩) i')).ev 0x3B03 0 [(3, i), (3, i')]
      | none =>
        let here (p : Nat) : Bool := p / 512 == r && p % 512 / 64 == g
        let b := b.setB (ASG_STAT e) 6
        if x.offP.contains (sectKey r g) then b.setEng e { x with mapP := mark } else
        let n := (x.parkP.filter here).length
        let b :=
          if 4 ≤ n ∨ e < 64 ∧ 256 ≤ x.parkP.length then
            (b.setEng e { x with mapP := mark, parkP := x.parkP.filter (fun p => !here p),
                                 offP := x.offP ++ [sectKey r g] }).ev 0x3B05 0 [(2, r), (1, g)]
          else
            (b.setEng e { x with mapP := mark, parkP := x.parkP ++ [inputKey r g (mInput w)] }).ev 0x3B04 0
              [(2, r), (1, g), (1, mInput w)]
        b.raise (P_ASG e) 2
  done b

/-- A replacement of the ring that `ASG_TARGET` names, accepted (R104). -/
def Block.replaceRing (b : Block) (e : Nat) : Block :=
  let (r, g, k) := b.asgTarget e
  let failed := mRole (mapGet (b.eng e).mapP (ringIx e r g k)) == 2
  let b := (b.replaceAt e r g k).stageMarks e
  if 64 ≤ e || failed then b
  else if b.rdB (ENG_STATE e) 2 then b.autoRebuild e else b.commitMap e

/-- A write of `ASG_CTRL` (R128): ABORT, then START, then REPLACE when several bits are set. -/
def asgCtrlWrite (e : Nat) (v : Word) (b : Block) : Block × Bool :=
  let b := b.when (bit v 4) fun b => b.abortSearch e
  let b := b.when (bit v 0) fun b =>
    let scope := fld v 1 2
    if b.asgRefused e (some scope) then
      (b.setB (ASG_STAT e) 4).when (scope == 3) fun b => b.ev 0x3B02 0 [(1, e)]
    else
      let (r, g, _) := b.asgTarget e
      b.newSearch e scope r g false false
  let b := b.when (bit v 3) fun b => if b.asgRefused e none then b.setB (ASG_STAT e) 4 else b.replaceRing e
  (b, bit v 0 || bit v 3 || bit v 4)

/-! ## The map windows (R101, R103, R127) -/

/-- Does `ASG_ADDR.SEL` name the pending map? -/
def Block.asgSel (b : Block) (e : Nat) : Bool := b.rdB (ASG_ADDR e) 30

/-- The index of `ASG_ADDR` advanced when `AINC` is set; after the last ring it wraps to 0 (DESIGN CHOICE, assumption
87). -/
def Block.asgNext (b : Block) (e : Nat) : Block :=
  if b.rdB (ASG_ADDR e) 31 then b.wrF (ASG_ADDR e) 0 19 ((b.rdF (ASG_ADDR e) 0 19 + 1) % ringsOf e) else b

/-- A write of `ASG_DATA`: the pending map only (R103); an index outside the engine writes nothing. -/
def asgDataWrite (e : Nat) (v : Word) (b : Block) : Block × Bool :=
  let i := b.rdF (ASG_ADDR e) 0 19
  let b := if ringsOf e ≤ i then b else
    (b.updEng e fun x => { x with mapP := mapSet x.mapP i v }).mapDirty e
  (b.asgNext e, true)

/-- What `ASG_DATA` shows. -/
def Block.asgWord (b : Block) (e : Nat) : Word :=
  let i := b.rdF (ASG_ADDR e) 0 19
  if ringsOf e ≤ i then 0
  else mapGet (if b.asgSel e then (b.eng e).mapP else (b.eng e).mapF) i

/-- What `ASG_COUNT` shows: spare rings that reach a line and failed rings of the map selected. -/
def Block.asgCount (b : Block) (e : Nat) : Word :=
  let m := if b.asgSel e then (b.eng e).mapP else (b.eng e).mapF
  let n (p : Word → Bool) : Nat := (m.filter fun x => p x.2).length
  wd (n (fun w => mRole w == 1 && mLine w != 0x7F) % 65536 + n (fun w => mRole w == 2) % 65536 * 65536)

/-- A word of the line or spare table windows of `ASG`. -/
def Block.asgTable (b : Block) (e i : Nat) (spare : Bool) : Word :=
  let x := b.eng e
  let t := if b.asgSel e then (if spare then x.spareP else x.lineP) else (if spare then x.spareF else x.lineF)
  wd (ofBytesLE ((t.getMany (fun _ => 0) (4 * i) 4).map (BitVec.ofNat 8 ·)))

/-- A write of a table window: the pending table, when `SEL` names it (R127). -/
def asgTableWrite (e i : Nat) (spare : Bool) (v : Word) (b : Block) : Block × Bool :=
  if !b.asgSel e then (b, false) else
  let ls := (bytesLE 4 v.toNat).map (·.toNat)
  ((b.updEng e fun x =>
    if spare then { x with spareP := tblSet x.spareP (4 * i) ls } else { x with lineP := tblSet x.lineP (4 * i) ls }).mapDirty e,
   true)

/-- MAP_COMMIT (R100): the maps of the start-up's searches come into force on engines without a model, and on dynamic
engines. -/
def mapCommit (b : Block) : Block :=
  b.each allEngs fun b e =>
    if !b.rdB (ASG_STAT e) 2 then b
    else if e < 64 then (if b.rdB (ENG_STATE e) 2 then b else b.commitMap e)
    else if mapValid e (b.eng e) then b.commitMap e else b

/-- The pending map of a dynamic engine at a frame boundary (R124, R102). One that is not valid waits on, and no error shows
(DESIGN CHOICE, assumption 86). -/
def Block.dynMapBoundary (b : Block) (e : Nat) : Block :=
  if b.rdB (ASG_STAT e) 2 ∧ mapValid e (b.eng e) then b.commitMap e else b

/-! ## Meanings -/

/-- ASG_START (R99, R128). -/
def execAsgStart (m : Master) (e : Fin 72) (v : Word) (s : State) : Res :=
  s.done fun b => b.gate m (ASG_CTRL e) (asgCtrlWrite e (v ||| 1))
/-- ASG_REPLACE (R104). -/
def execAsgReplace (m : Master) (e : Fin 72) (v : Word) (s : State) : Res :=
  s.done fun b => b.gate m (ASG_CTRL e) (asgCtrlWrite e (v ||| 8))
/-- ASG_ABORT (R128). -/
def execAsgAbort (m : Master) (e : Fin 72) (v : Word) (s : State) : Res :=
  s.done fun b => b.gate m (ASG_CTRL e) (asgCtrlWrite e (v ||| 16))
/-- SEARCH_START_AFTER_WAIT (R99). -/
def execSearchStartAfterWait (e : Fin 72) (s : State) : Res := s.done (searchAfterWait e)
/-- GROUP_SWEEP_BEGIN (R95). -/
def execGroupSweepBegin (e : Fin 72) (s : State) : Res := s.done (sweepBegin e)
/-- SWEEP_END (R95). -/
def execSweepEnd (e : Fin 72) (peaks : List Peak) (s : State) : Res := s.done (sweepEnd e peaks)
/-- SEARCH_COMPLETE (R96 to R100). -/
def execSearchComplete (e : Fin 72) (fails : List (Nat × Nat)) (peaks : List Peak) (s : State) : Res :=
  s.done (searchComplete e fails peaks)
/-- ASG_DATA_WRITE (R103). -/
def execAsgDataWrite (m : Master) (e : Fin 72) (v : Word) (s : State) : Res :=
  s.done fun b => b.gate m (ASG_DATA e) (asgDataWrite e v)

end Sys2Proof.Machine
end

