-- ==== Sys2Proof/Machine/Control.lean ====
section
/-! DEFINITION. The control engine: table memory, the loops' arithmetic, coefficient banks and trace buffers (R131 to
R162). -/

namespace Sys2Proof.Machine

/-! ## The loop's arithmetic (R137 to R141) -/

def sat16 (i : Int) : Int := clampI (-32768) 32767 i

/-- `round_half_even(i / 2^15)`. -/
def rne15 (i : Int) : Int := (⟨i, 32768⟩ : Fr).rneInt

/-- One section (R139, R140): output, new states, whether a clamp acted, and the saturations. -/
def secStep (c : Section) (x : Int) (s : Int × Int) (lo hi : Int) : Int × (Int × Int) × Bool × Nat :=
  let m : Int := 2 ^ c.csh
  let acc := c.b0 * x * m + s.1
  let top := hi * 32768
  let bot := lo * 32768
  let up := c.intg && decide (top < acc)
  let acc := if up then top else acc
  let down := c.intg && decide (acc < bot)
  let acc := if down then bot else acc
  let y := rne15 acc
  let t1 := c.b1 * x * m - rne15 (c.a1 * acc * m) + s.2
  let t2 := c.b2 * x * m - rne15 (c.a2 * acc * m)
  let n := b2n (sat16 y != y) + b2n (sat40 t1 != t1) + b2n (sat40 t2 != t2)
  (sat16 y, (sat40 t1, sat40 t2), up || down, n)

/-- What a path has done so far: value, states in order, outputs in order, clamp, saturations. -/
structure PathAcc where
  x : Int
  s : List (Int × Int)
  outs : List Int
  clamp : Bool
  sats : Nat

/-- Sections `a` to `a + n - 1` of loop `i` on `x` (R137). -/
def runPath (k : Stk) (bank i a n : Nat) (st : List (Int × Int)) (lo hi x : Int) : PathAcc :=
  (List.range n).foldl (fun p j =>
    let (y, s, c, m) := secStep (k.section bank i (a + j)) p.x (st.getD (a + j) (0, 0)) lo hi
    { x := y, s := p.s ++ [s], outs := p.outs ++ [y], clamp := p.clamp || c, sats := p.sats + m })
    { x := x, s := [], outs := [], clamp := false, sats := 0 }

/-- The full cascade of a loop on raw error `e` (R138, R139, R146). -/
def Block.cascade (b : Block) (s i : Nat) (err : Int) : Block :=
  let (e, q) := loopOf s i
  let k := b.stk s
  let g := groupOfLoop i
  let bank := b.activeBank s g
  let r := b.region e q
  let (nb, nh) := k.sections bank i
  let lim (o lo : Nat) : Int := sext 16 (fld (k.tab (recAddr bank i o)) lo 16)
  let st := (List.range (nb + nh)).map fun j =>
    let x := r.s.getD j (0, 0)
    if j < nb ∧ (k.section bank i j).intg then (x.1 + r.move, x.2) else x
  let sw := b.rdF (LCK_R_SWORD e q) 0 12
  let es0 := (⟨err * (b.slopeFor s g (min (r.sword.getD sw / 16) 254) : Nat), 16384⟩ : Fr).rneInt
  let es := sat16 es0
  let pB := runPath k bank i 0 nb st (lim 4 0) (lim 4 16) es
  let pH := runPath k bank i nb nh st (lim 8 0) (lim 8 16) pB.x
  let nc := b2n (pB.clamp || pH.clamp)
  let b := (b.bump (CE_SATCNT s) (pB.sats + pH.sats + b2n (es0 != es))).bump (CE_CLAMPCNT s) nc
  b.updRegion e q fun r =>
    { r with es := es, uB := pB.x, uH := pH.x, s := pB.s ++ pH.s, outs := pB.outs ++ pH.outs, move := 0, sword := none,
             clamps := min (r.clamps + nc) 65535, clampN := r.clampN + nc, lastClamp := nc != 0 }

/-! ## Sillage (R112, R113, R148, R149) -/

/-- The symbols of the passes that an engine has queued: resident passes (R286), or score and value passes (R290). -/
def Eng.queued (x : Eng) : Nat :=
  (x.passes.map fun p => p.nsym - p.done).foldl (· + ·) 0
    + (x.dyn.jobs.map fun j => if j.op = .fill then 0 else dF j.d 6 0 13).foldl (· + ·) 0

/-- Activity level of engine `e` for the next period of a group at `RATE` `rate` (R112). A descent to Nap that turns back
counts as the Doze it leaves and reaches. -/
def Block.activity (b : Block) (e rate : Nat) : Nat :=
  let x := b.eng e
  match x.ps with
  | .nap | .toNap => if x.ps = .nap then 0 else 1
  | .doze | .redoze => 1
  | .pllStart _ | .waking => 2
  | .run | .toDoze =>
    let slots := 8000 / 2 ^ rate
    let occ := min slots x.queued
    3 + (12 * occ + slots - 1) / slots

/-- The Sillage terms of loop `i` (R149). -/
def Block.sillage (b : Block) (s i : Nat) : Int × Int :=
  let k := b.stk s
  let (e, _) := loopOf s i
  let rate := fld (k.tab (grpAddr (b.activeBank s (groupOfLoop i)) (groupOfLoop i))) 0 2
  let order := dieOrder s
  let p := order.idxOf e
  let lv (j : Option Nat) : Option Nat := j.map fun e => b.activity e rate
  let own := b.activity e rate
  let before := lv (if p = 0 then none else order[p - 1]?)
  let after := lv order[p + 1]?
  let ent (l lo : Nat) : Int := sext 16 (fld (k.tab (0x80000 + 64 * i + 4 * l)) lo 16)
  let nb := k.tab (0x92000 + 4 * i)
  let at_ (l : Option Nat) (lo : Nat) : Int := match l with | some l => ent l lo | none => 0
  let term (lo : Nat) : Int :=
    ent own lo + (⟨(fld nb 0 8 : Int) * at_ before lo + (fld nb 8 8 : Int) * at_ after lo, 256⟩ : Fr).rneInt
  (term 0, term 16)

/-- What the search of the lock block writes to the loop part at a boundary (R118, R144): in Acquire the bias and the heater
of a wide search whose course the spec does not give (free values); in Re-search the bias, swept evenly over the samples of
16 µs (R120, DEDUCED, assumption 96). In the warm-up of a start-up the heater of an Off region has a free duty (R100). -/
def Block.searchPart (b : Block) (s i : Nat) : Block :=
  let (e, q) := loopOf s i
  let st := b.lockSt e q
  if st = 1 then
    let (w, b) := b.freeWord
    b.updRegion e q fun r => { r with uB := sext 16 (fld w 0 16), uH := fld w 16 15 }
  else if st = 6 then
    let n := 4 * 2 ^ fld ((b.stk s).tab (grpAddr (b.activeBank s (groupOfLoop i)) (groupOfLoop i))) 0 2
    b.updRegion e q fun r =>
      { r with uB := if n ≤ r.swept then r.uB else (⟨65535 * r.swept, n - 1⟩ : Fr).rneInt - 32768, swept := r.swept + 1 }
  else if st = 0 ∧ b.pw.startup = some .warm ∧ b.loopEn e q ∧ !b.pw.dark.contains (fibreOf e) then
    let (w, b) := b.freeWord
    b.updRegion e q fun r => { r with duty := fld w 0 16 }
  else b

/-- `LCK_R_RTEMP` (R126): the nearest readout-die diode and the rise that the heater's duty makes, in Q8.8 °C. -/
def Block.showRtemp (b : Block) (s i : Nat) : Block :=
  let (e, q) := loopOf s i
  let prod := match b.inForce with | some x => x.prod.bytes | none => []
  let t := b.rdF (THM_T (24 + 12 * s + (Config.nearestDiode (1032 * s + i)).val)) 0 16
  let rise := Config.heaterRise prod s i (BitVec.ofNat 16 (b.rdF (LCK_R_HEAT e q) 0 16))
  b.wrF (LCK_R_RTEMP e q) 0 16 (t + rise.toNat)

/-- The move term (R141, R144): the search bias, and the step of a probe point in word equivalents (R326), each in Q1.15. -/
def Block.moveTerm (b : Block) (e q : Nat) : Int :=
  let r := b.region e q
  let kb := b.rdF (LCK_KBIAS e q) 0 16
  (if b.lockSt e q = 4 then (⟨(r.bofs : Int) * 131072, 1000⟩ : Fr).rneInt else 0)
    + (if kb = 0 then 0 else (⟨r.step * 288384, kb⟩ : Fr).rneInt)

/-- The output stage at a boundary (R141, R142, R144): the loop part latched before, Sillage and the move term. The duty
that the heater takes stands in `LCK_R_HEAT` once a PWM period begins with it (R141). -/
def Block.outputStage (b : Block) (s i : Nat) : Block :=
  let (e, q) := loopOf s i
  let b := (b.searchPart s i).showRtemp s i
  if b.lockSt e q = 0 then b else
  let r := b.region e q
  let (sb, sd) := b.sillage s i
  let raw := r.uB + sb + b.moveTerm e q
  let bb := sat16 raw
  let code := clampI (-8192) 8191 (⟨bb, 4⟩ : Fr).rneInt
  let d := clampI 0 32767 (r.uH + sd)
  let b := b.when (raw != bb) fun b => b.bump (CE_SATCNT s)
  let b := b.updRegion e q fun r => { r with sB := sb, sD := sd, b := bb, d := d, duty := 2 * d.toNat }
  (b.wrF (LCK_R_BIAS e q) 0 14 (unsx 14 code)).wrF (LCK_R_HEAT e q) 16 16 (unsx 16 sd)

/-- A group takes the slope table at its next boundary (R138). -/
def Block.takeSlope (b : Block) (s g : Nat) : Block :=
  b.updStk s fun k => { k with slopeWait := k.slopeWait.filter fun w => w.1 != g }

/-- Is the variance of the last 64 errors below `LCK_VFLOOR` (R119)? Variance in LSB² times 64². -/
def lowVar (errs : List Int) (floor : Nat) : Bool :=
  errs.length == 64 &&
    (let s := errs.foldl (· + ·) 0
     let ss := (errs.map fun e => e * e).foldl (· + ·) 0
     decide (64 * ss - s * s < (floor : Int) * 4096))

/-- The integral of the detector stream times the generator's cosine over one sample period (R109, R110): a detector
sample every fourth tick, the newest at the boundary; the cosine stands 256 entries ahead in the sine table and is delayed
by `DPHASE` entries (DEDUCED, assumption 95). -/
def Block.demodulate (b : Block) (e q : Nat) (xs : List (BitVec 12)) : Int :=
  let dph := b.rdF (LCK_R_SWORD e q) 16 10
  let last := b.time.toNat / 4
  (xs.zip (List.range xs.length)).foldl (fun a (x, j) =>
    let t := BitVec.ofNat 64 (4 * (last - (xs.length - 1 - j)))
    let k := (sineAddr (b.ditherPhase e q t) + 256 + 1024 - dph) % 1024
    a + x.toNat * sineAt 1 k) 0

/-- The mean detector level (R110): the last bit that a mean between two levels leaves open is a free value. -/
def Block.meanLevel (b : Block) (xs : List (BitVec 12)) : Nat × Block :=
  let sum := xs.foldl (fun a x => a + x.toNat) 0
  if sum % xs.length = 0 then (sum / xs.length, b) else
  let (i, b) := b.freeUpTo 1
  (sum / xs.length + i, b)

/-- What the demodulator delivers for a period's detector stream (R110): error and mean level. -/
def Block.measure (b : Block) (e q : Nat) (xs : List (BitVec 12)) : (Int × Nat) × Block :=
  let (mean, b) := b.meanLevel xs
  (((Config.demodScale xs.length (b.demodulate e q xs)).toInt, mean), b)

/-- The feedback monitor of a sample (R119): the rail flag and the runs of samples. -/
def Block.monitor (b : Block) (e q : Nat) (err : Int) (mean : Nat) : Block :=
  let rail := decide (mean ≤ b.rdF (LCK_RAIL e) 0 12) || decide (b.rdF (LCK_RAIL e) 16 12 ≤ mean)
  let b := b.wrB (LCK_R_STATE e q) 6 rail
  b.updRegion e q fun r =>
    let errs := (r.errs ++ [err]).drop (r.errs.length + 1 - 64)
    let low := lowVar errs (b.rd (LCK_VFLOOR e)).toNat
    { r with e := err, mean := mean, errs := errs, rail := if rail then r.rail + 1 else 0,
             clear := if !rail && !low then r.clear + 1 else 0,
             means := (r.means ++ [(mean, chipAt b.time)]).drop (r.means.length + 1 - 1024),
             lastOvr := false, lastClamp := false }

/-- LOOP_SAMPLE (R110, R119, R142, R144, R147): at a boundary the previous output is applied, the sample is latched, the
feedback monitored and the loop computed as its state asks. A region that does not come back from a sweep enters Coast with
cause 0 (DESIGN CHOICE, assumption 84). -/
def loopSample (s i : Nat) (xs : List (BitVec 12)) (b : Block) : Block :=
  let (e, q) := loopOf s i
  let b := (b.outputStage s i).takeSlope s (groupOfLoop i)
  let st := b.lockSt e q
  if st = 0 ∨ (b.region e q).held then b else
  let ((err, mean), b) := b.measure e q xs
  let b := b.monitor e q err mean
  let r := b.region e q
  match st with
  | 2 | 3 =>
    if 64 ≤ r.rail then b.enterCoast e q 0
    else if lowVar r.errs (b.rd (LCK_VFLOOR e)).toNat then b.enterCoast e q 1
    else b.cascade s i err
  | 4 =>
    match r.back with
    | none => b
    | some n =>
      if err.natAbs < 8192 then b.enterLocked e q false
      else if 8 ≤ n + 1 then b.enterCoast e q 0
      else b.updRegion e q fun r => { r with back := some (n + 1) }
  | 5 => if 64 ≤ r.clear ∧ r.errs.length = 64 ∧ !b.rdB (LCK_R_STATE e q) 5 then b.setLock e q 2 else b
  | _ => b

/-- The lane that computes loop `i` (R131). -/
def laneOf (i : Nat) : Nat := if i < 1024 then i / 64 else i - 1024

/-- LOOP_OVERRUN (R136, R143): the sample is dropped and the old output reapplied. A lane with a load of 900 ‰ or less never
overruns, nor does a loop that the lane does not compute. -/
def loopOverrun (s i : Nat) (b : Block) : Block :=
  let (e, q) := loopOf s i
  if b.lockSt e q = 0 ∨ (b.region e q).held ∨ (b.stk s).laneLoad (b.activeBank s) (laneOf i) ≤ 900 then b else
  let b := b.outputStage s i
  let b := b.updRegion e q fun r => { r with ovr := min (r.ovr + 1) 65535, ovrs := r.ovrs + 1, lastOvr := true }
  let b := ((b.bump (CE_OVR_TOTAL s)).setB (CE_OVR_GRP s) (groupOfLoop i)).raise (P_CE s) 2
  let b := b.ev 0x3D01 s [(1, laneOf i), (2, i)]
  if !b.inFrame then b else
  let b := b.updEng e fun x => { x with ovr := true }
  match b.frm with
  | some f => if f.engines.contains e then b.flag fOVERRUN else b
  | none => b

/-! ## Coefficient banks (R150 to R154) -/

/-- The reserved bits of a loop record (R150): by word, the defined bits. -/
def recMask (o nsec : Nat) : Nat :=
  if o = 0 then 0x77 else if o = 4 ∨ o = 8 then 0xFFFFFFFF
  else if 0x10 ≤ o ∧ o < 0x70 then
    let n := (o - 0x10) / 16
    if nsec ≤ n then 0 else
    match o % 16 with | 0 => 0xFFFFFFFF | 4 => 0xFFFFFFFF | 8 => 0x7FFFF | _ => 0
  else 0

/-- Does the record of loop `i` in a bank break check `reason` of R152 (1 to 4)? -/
def Stk.recBad (k : Stk) (bank i reason : Nat) : Bool :=
  let w (o : Nat) := k.tab (recAddr bank i o)
  let nb := fld (w 0) 0 3
  let nh := fld (w 0) 4 3
  let lim (o lo : Nat) : Int := sext 16 (fld (w o) lo 16)
  match reason with
  | 1 => nb == 0 || nh == 0 || decide (5 < nb) || decide (5 < nh) || decide (6 < nb + nh)
  | 2 => (List.range (nb + nh)).any fun j => (k.section bank i j).intg != (j + 1 == nb || j + 1 == nb + nh)
  | 3 => decide (lim 4 16 ≤ lim 4 0) || decide (lim 8 16 ≤ lim 8 0) || decide (lim 8 0 < 0)
  | _ => (List.range 32).any fun n =>
      (w (4 * n)).toNat &&& (0xFFFFFFFF ^^^ recMask (4 * n) (nb + nh)) != 0

/-- The first pair of loops of a group whose sentinels share a guide and break the dither rule of R134 at a rate. -/
def Block.ditherBad (b : Block) (s g rate : Nat) : Option (Nat × Nat) :=
  let e := groupEng s g
  let n := if e < 64 then 8 else 2
  let hz := 250000 * 2 ^ rate
  let inc (q : Nat) : Nat := (b.rd (LCK_R_DFREQ e q)).toNat
  let ok (p q : Nat) : Bool :=
    let d := ((inc p : Int) - inc q).natAbs * 250000000
    let m := hz * 2 ^ 32
    let k := (d + m / 2) / m
    k != 0 && decide (((d : Int) - (k * m : Nat)).natAbs ≤ 250000000)
  let qs := regionsOf e
  (qs.flatMap fun p => (qs.filter fun q => p < q && p % n == q % n).map fun q => (p, q)).findSome? fun (p, q) =>
    if ok p q then none else some (loopIx e p, loopIx e q)

/-- Groups among the bits of a mask. -/
def groupsIn (m : Nat) : List Nat := (List.range 18).filter fun g => m.testBit g

/-- `CE_BANK_STAT.ARMED` follows the arm bits. -/
def Block.showArmed (b : Block) (s : Nat) : Block := b.wrB (CE_BANK_STAT s) 1 (b.rdF (CE_BANK_ARM s) 0 18 != 0)

/-- CE_BANK_ARM (R152): the check of the groups set begins. -/
def bankArmWrite (s : Nat) (v : Word) (b : Block) : Block × Bool :=
  let g := fld v 0 18
  if g = 0 then (b, false) else
  let b := b.wr (CE_BANK_ARM s) (b.rd (CE_BANK_ARM s) ||| wd g)
  let b := (b.setB (CE_BANK_STAT s) 0).showArmed s
  (b.updStk s fun k => { k with checking := k.checking ||| g }, true)

/-- CE_BANK_DISARM (R154). -/
def bankDisarmWrite (s : Nat) (v : Word) (b : Block) : Block × Bool :=
  let g := fld v 0 18
  let b := (b.wr (CE_BANK_ARM s) (b.rd (CE_BANK_ARM s) &&& ~~~(wd g))).showArmed s
  let c := (b.stk s).checking &&& (0x3FFFF ^^^ g)
  let b := b.updStk s fun k => { k with checking := c }
  (b.wrB (CE_BANK_STAT s) 0 (c != 0), g != 0)

/-- A failed arm (R152): the groups of the arm are disarmed. -/
def Block.armFail (b : Block) (s bit loop group reason : Nat) : Block :=
  let c := (b.stk s).checking
  let b := (b.wr (CE_BANK_ARM s) (b.rd (CE_BANK_ARM s) &&& ~~~(wd c))).showArmed s
  let e := wd (loop + group * 2 ^ 16 + reason * 2 ^ 24)
  let b := ((b.wr (CE_BANK_ERR s) e).setB (CE_BANK_STAT s) bit).raise (P_CE s) 1
  b.ev 0x3D03 0 [(4, e.toNat)]

/-- BANK_CHECK_COMPLETE (R152). -/
def bankCheckDone (s : Nat) (b : Block) : Block :=
  let k := b.stk s
  let c := k.checking
  if c = 0 then b else
  let gs := groupsIn c
  let armed := b.rdF (CE_BANK_ARM s) 0 18
  let pend (g : Nat) : Nat := if armed.testBit g then 1 - b.activeBank s g else b.activeBank s g
  let bad := [1, 2, 3, 4].findSome? fun reason => gs.findSome? fun g =>
    let tail := if reason = 4 then (k.tab (grpAddr (pend g) g)).toNat &&& 0xFFFFFFEC != 0 else false
    if tail then some ((groupLoops g).headD 0, g, 4) else
    ((groupLoops g).find? fun i => k.recBad (pend g) i reason).map fun i => (i, g, reason)
  let loads := (List.range 16).map fun l => k.laneLoad pend l
  let b := b.each ((List.range 16).zip loads) fun b (l, x) => b.wrF (CE_LOAD s l) 16 11 x
  let b := match bad with
    | some (i, g, reason) => b.armFail s 3 i g reason
    | none =>
      match ((List.range 16).zip loads).find? fun (x : Nat × Nat) => decide (1000 < x.2) with
      | some (l, _) => b.armFail s 4 (64 * l) (groupOfLoop (64 * l)) 5
      | none =>
        let heavy := ((List.range 16).zip loads).filter fun (x : Nat × Nat) => decide (900 < x.2)
        let dith := gs.filterMap fun g =>
          (b.ditherBad s g (fld (k.tab (grpAddr (pend g) g)) 0 2)).map fun x => (g, x)
        -- `CE_BANK_ERR` shows the first of the warnings
        let b := match heavy, dith with
          | (l, _) :: _, _ => b.wr (CE_BANK_ERR s) (wd (64 * l + groupOfLoop (64 * l) * 2 ^ 16 + 6 * 2 ^ 24))
          | [], (g, p, _) :: _ => b.wr (CE_BANK_ERR s) (wd (p + g * 2 ^ 16 + 7 * 2 ^ 24))
          | [], [] => b
        let b := b.each heavy fun b (l, x) => ((b.setB (CE_BANK_STAT s) 5).raise (P_CE s) 3).ev 0x3D04 0 [(1, l), (2, x)]
        b.each dith fun b (g, p, q) => ((b.setB (CE_BANK_STAT s) 6).raise (P_CE s) 3).ev 0x3D05 0 [(1, g), (2, p), (2, q)]
  (b.updStk s fun k => { k with checking := 0 }).clrB (CE_BANK_STAT s) 0

/-- Armed groups at a boundary begin to wait for their grid points (R153). -/
def Block.bankBoundary (b : Block) (s : Nat) : Block :=
  let gs := (groupsIn (b.rdF (CE_BANK_ARM s) 0 18)).filter fun g => !(b.stk s).checking.testBit g
  if gs.isEmpty then b else
  (b.updStk s fun k => { k with swapping := gs }).setB (CE_BANK_STAT s) 8

/-- The swap of group `g` of stack `s` at its grid point (R151, R153, R154). -/
def bankSwap (s g : Nat) (b : Block) : Block :=
  let k := b.stk s
  if !k.swapping.contains g then b else
  let e := groupEng s g
  let new := 1 - b.activeBank s g
  let b := b.wrF (CE_BANK_ACT s) g 1 new
  let b := (b.clrB (CE_BANK_ARM s) g).showArmed s
  let bump := bit (k.tab (grpAddr new g)) 4
  let b := b.when bump fun b => b.each (regionsOf e) fun b q => if b.lockSt e q = 0 then b else b.preset e q
  let b := ((b.setB (CE_BANK_STAT s) 2).raise (P_CE s) 0).ev 0x3D02 0 [(3, 2 ^ g)]
  let b := b.updStk s fun k => { k with swapping := k.swapping.filter (· != g) }
  let b := b.when (b.stk s).swapping.isEmpty fun b => b.clrB (CE_BANK_STAT s) 8
  let k := b.stk s
  b.each (List.range 16) fun b l => b.wrF (CE_LOAD s l) 0 11 (k.laneLoad (b.activeBank s) l)

/-- SLOPE_TABLE_RECOMPUTE (R138): each group takes the new table at its next boundary. -/
def slopeRecompute (s : Nat) (b : Block) : Block :=
  let new := slopeOf (b.curveOf (PLT_CURVE s))
  b.updStk s fun k => { k with slope := new, slopeWait := (List.range 18).map fun g => (g, b.slopeTab s g) }

/-! ## Table access (R154, R158) -/

/-- A bank address: the bank, its group, and the loop if it is a loop record. -/
def bankAt (a : Nat) : Option (Nat × Nat × Option Nat) :=
  if 0x80000 ≤ a then none else
  let bank := a / 0x40000
  let o := a % 0x40000
  if o < 128 * 1032 then some (bank, groupOfLoop (o / 128), some (o / 128))
  else if 0x21000 ≤ o ∧ o < 0x21048 then some (bank, (o - 0x21000) / 4, none) else none

/-- A 16-bit halfword of a signed value. -/
def h16 (i : Int) : Nat := unsx 16 i

/-- The value of a table word at byte address `a` (R158). -/
def Block.tabRead (b : Block) (s a : Nat) : Word :=
  let k := b.stk s
  if (bankAt a).isSome ∨ (0x80000 ≤ a ∧ a < 0x80000 + 64 * 1032) ∨ (0x92000 ≤ a ∧ a < 0x92000 + 4 * 1032) then k.tab a
  else if 0xA0000 ≤ a ∧ a < 0xA01FE + 2 then
    let l := if k.slope.isEmpty then slopeOf (b.curveOf (PLT_CURVE s)) else k.slope
    let j := (a - 0xA0000) / 2
    wd (l.getD j 0 + l.getD (j + 1) 0 * 65536)
  else if 0xC0000 ≤ a ∧ a < 0xC0000 + 32 * 1032 then
    let i := (a - 0xC0000) / 32
    let (e, q) := loopOf s i
    let r := b.region e q
    let bank := b.activeBank s (groupOfLoop i)
    let (nb, nh) := k.sections bank i
    let integ (lo n : Nat) : Nat :=
      unsx 64 ((List.range n).foldl (fun v j => if (k.section bank i (lo + j)).intg then (r.s.getD (lo + j) (0, 0)).1 else v) 0)
    match (a % 32) / 4 with
    | 0 => wd (h16 r.uB + h16 r.uH * 65536)
    | 1 => wd (h16 r.e + h16 r.es * 65536)
    | 2 => wd (r.ovr + r.clamps * 65536)
    | 3 => wd (b2n r.held + bank * 2)
    | 4 => wd (integ 0 nb)
    | 5 => wd (bits (integ 0 nb) 32 8)
    | 6 => wd (integ nb nh)
    | _ => wd (bits (integ nb nh) 32 8)
  else if 0x100000 ≤ a ∧ a < 0x120000 then
    let t := (a - 0x100000) / 0x8000
    let n := (a % 0x8000) / 8
    let v := ((k.trc.get (fun _ => {}) t).mem).get (fun _ => 0) n
    wd (v / 2 ^ (32 * (a / 4 % 2)))
  else 0

/-- The address of `CE_TADDR` advanced when `AINC` is set. -/
def Block.tabNext (b : Block) (s : Nat) : Block :=
  if b.rdB (CE_TADDR s) 31 then b.wrF (CE_TADDR s) 0 24 (b.rdF (CE_TADDR s) 0 24 + 4) else b

/-- Is a write to a bank refused (R154)? -/
def Block.bankRefuses (b : Block) (s bank g : Nat) : Bool :=
  let e := groupEng s g
  if b.activeBank s g = bank then (regionsOf e).any fun q => b.lockSt e q != 0
  else b.rdB (CE_BANK_ARM s) g || (b.stk s).checking.testBit g

/-- A write of `CE_TDATA` (R154, R158). -/
def ceTdataWrite (s : Nat) (v : Word) (b : Block) : Block × Bool :=
  let a := b.rdF (CE_TADDR s) 0 24 / 4 * 4
  let put (b : Block) (a : Nat) : Block :=
    b.updStk s fun k => { k with ceTab := k.ceTab.set tabDefault (a / 4) v }
  let (b, acted) : Block × Bool := match bankAt a with
    | some (bank, g, loop) =>
      if b.bankRefuses s bank g then ((b.setB (CE_BANK_STAT s) 7).bump (CE_TREFCNT s), false)
      else match loop with
        | some i =>
          let all := if b.rdB (CE_TADDR s) 30 then groupLoops g else [i]
          (b.each all fun b i => put b (recAddr bank i (a % 128)), true)
        | none => (put b a, true)
    | none =>
      if (0x80000 ≤ a ∧ a < 0x80000 + 64 * 1032) ∨ (0x92000 ≤ a ∧ a < 0x92000 + 4 * 1032) then (put b a, true)
      else (b, false)
  (b.tabNext s, acted)

/-- A read of `CE_TDATA` (R157, R158): the word, `TORN` for trace memory outside Done. -/
def ceTdataRead (s : Nat) (b : Block) : Block × Word :=
  let a := b.rdF (CE_TADDR s) 0 24 / 4 * 4
  let w := b.tabRead s a
  let t := (a - 0x100000) / 0x8000
  let b := b.when (0x100000 ≤ a ∧ a < 0x120000 ∧ b.rdF (CE_TRC_STAT s t) 0 2 ≠ 3) fun b => b.setB (CE_TRC_STAT s t) 3
  (b.tabNext s, w)

/-! ## Trace buffers (R155 to R157) -/

def Block.trace (b : Block) (s t : Nat) : Trace := (b.stk s).trc.get (fun _ => {}) t
def Block.updTrace (b : Block) (s t : Nat) (f : Trace → Trace) : Block :=
  b.updStk s fun k => { k with trc := k.trc.upd (fun _ => {}) t f }

/-- Loop and code of node `n` of buffer `t` (R161). -/
def Block.traceNode (b : Block) (s t n : Nat) : Nat × Nat :=
  let r := if n < 2 then CE_TRC_NODE01 s t else CE_TRC_NODE23 s t
  (b.rdF r (16 * (n % 2)) 11, b.rdF r (16 * (n % 2) + 11) 5)

/-- The value of a node (R155). -/
def Block.nodeValue (b : Block) (s : Nat) (n : Nat × Nat) : Int :=
  let (i, code) := n
  let (e, q) := loopOf s (i % 1032)
  let r := b.region e q
  if 2 ≤ code ∧ code ≤ 7 then r.outs.getD (code - 2) 0 else
  match code with
  | 0 => r.e | 1 => r.es | 8 => r.uB | 9 => r.uH | 10 => r.sB | 11 => r.sD | 12 => r.b
  | 13 => (b.rdF (LCK_R_HEAT e q) 0 16 / 2 : Nat)
  | 14 => r.mean
  | 15 =>
    let rate := fld ((b.stk s).tab (grpAddr (b.activeBank s (groupOfLoop i)) (groupOfLoop i))) 0 2
    let order := dieOrder s
    let p := order.idxOf e
    let lv (j : Option Nat) : Nat := match j with | some e => b.activity e rate | none => 0
    (lv (some e) + lv (if p = 0 then none else order[p - 1]?) * 16 + lv order[p + 1]? * 256 : Nat)
  | 16 => (b.lockSt e q + b2n r.lastOvr * 8 + b2n r.lastClamp * 16 + b2n r.held * 32
      + b2n (b.rdB (LCK_R_STATE e q) 6) * 64 : Nat)
  | _ => 0

/-- The count that a counted trigger source watches: overruns, clamps, boundaries, wakes, triggers of another buffer. -/
def Block.traceCount (b : Block) (s t : Nat) : Nat :=
  let (i, _) := b.traceNode s t (b.rdF (CE_TRC_TRIG s t) 4 2)
  let (e, q) := loopOf s (i % 1032)
  match b.rdF (CE_TRC_TRIG s t) 0 4 with
  | 7 => (b.region e q).ovrs
  | 8 => (b.region e q).clampN
  | 9 => b.bnds
  | 10 => (b.eng e).woke
  | 11 => (b.trace s (b.rdF (CE_TRC_THR s t) 0 2)).trigs
  | _ => 0

/-- Does the trigger of buffer `t` fire (R156)? -/
def Block.traceFires (b : Block) (s t : Nat) : Bool :=
  let n := b.traceNode s t (b.rdF (CE_TRC_TRIG s t) 4 2)
  let (e, q) := loopOf s (n.1 % 1032)
  let cur := b.nodeValue s n
  let tr := b.trace s t
  let raw := b.rdF (CE_TRC_THR s t) 0 16
  let thr : Int := if 14 ≤ n.2 ∧ n.2 ≤ 16 then (raw : Int) else sext 16 raw
  match b.rdF (CE_TRC_TRIG s t) 0 4 with
  | 1 => decide (tr.prev < thr ∧ thr ≤ cur)
  | 2 => decide (thr ≤ tr.prev ∧ cur < thr)
  | 3 => decide (thr ≤ cur)
  | 4 => decide (cur < thr)
  | 5 => decide (thr.natAbs ≤ cur.natAbs)
  | 6 => b.lockSt e q == raw % 8 && tr.prevSt != raw % 8
  | 7 | 8 | 9 | 10 | 11 => b.traceCount s t != tr.seen
  | _ => false

/-- `CE_GRID` (R133, R159): the 2 MHz grid count, 125 ticks of 4 ns each. -/
def Block.ceGrid (b : Block) : Word := wd (b.time.toNat / 125)

/-- What a trigger, or FORCE, records (R157). -/
def Block.traceMark (b : Block) (s t : Nat) : Block :=
  let b := b.wrF (CE_TRC_STAT s t) 4 12 (b.rdF (CE_TRC_STAT s t) 16 12)
  let b := (b.wr (CE_TRC_TIME s t) b.ceGrid).wrB (CE_TRC_STAT s t) 2 (!b.inFrame)
  let b := b.when b.inFrame fun b => b.wr (CE_TRC_FRAME s t) b.frameId
  b.updTrace s t fun x => { x with trigs := x.trigs + 1 }

/-- Entry to Done (R157). -/
def Block.traceDone (b : Block) (s t : Nat) : Block := (b.wrF (CE_TRC_STAT s t) 0 2 3).raise (P_CE s) (4 + t)

/-- Entry to Triggered with `POST` samples to record. -/
def Block.traceTriggered (b : Block) (s t : Nat) : Block :=
  let post := b.rdF (CE_TRC_TRIG s t) 16 12
  (b.updTrace s t fun x => { x with left := post }).wrF (CE_TRC_STAT s t) 0 2 2

/-- A write of `CE_TRC_CTRL` (R157, R161). -/
def trcCtrlWrite (s t : Nat) (v : Word) (b : Block) : Block × Bool :=
  let b := b.wrB (CE_TRC_CTRL s t) 0 (bit v 0)
  let st := b.rdF (CE_TRC_STAT s t) 0 2
  let b := if bit v 4 ∧ (st = 0 ∨ st = 3) ∧ b.rdF (CE_TRC_TRIG s t) 0 4 < 12 then
      let seen := b.traceCount s t
      let (e, q) := loopOf s ((b.traceNode s t (b.rdF (CE_TRC_TRIG s t) 4 2)).1 % 1032)
      let b := b.updTrace s t fun x =>
        { x with mem := [], skip := 0, seen := seen, prev := 0, prevSt := b.lockSt e q, mode := bit v 0 }
      b.wr (CE_TRC_STAT s t) (wd (1 + 8 * b.rdF (CE_TRC_STAT s t) 3 1))
    else b
  let st := b.rdF (CE_TRC_STAT s t) 0 2
  let b := if bit v 5 ∧ st = 1 then
      ((b.traceMark s t).ev 0x3D06 t [(1, t), (1, b.rdF (CE_TRC_TRIG s t) 0 4)]).traceTriggered s t
    else b
  let st := b.rdF (CE_TRC_STAT s t) 0 2
  let b := if bit v 6 ∧ (st = 1 ∨ st = 2) then
      (if st = 1 then b.wrF (CE_TRC_STAT s t) 4 12 (b.rdF (CE_TRC_STAT s t) 16 12) else b).traceDone s t
    else b
  (b, true)

/-- TRACE_SAMPLE (R155 to R157): a boundary of node 0's group. -/
def traceSample (s t : Nat) (b : Block) : Block :=
  let st := b.rdF (CE_TRC_STAT s t) 0 2
  if st ≠ 1 ∧ st ≠ 2 then b else
  let x := b.trace s t
  let fires := st = 1 ∧ b.traceFires s t
  let n := b.traceNode s t (b.rdF (CE_TRC_TRIG s t) 4 2)
  let (e, q) := loopOf s (n.1 % 1032)
  let cur := b.nodeValue s n
  let seen := b.traceCount s t
  let stc := b.lockSt e q
  let recorded := x.skip = 0 ∧ (st = 1 ∨ x.left ≠ 0)
  let v := (List.range 4).foldl (fun a j => a + h16 (b.nodeValue s (b.traceNode s t j)) * 2 ^ (16 * j)) 0
  let w := b.rdF (CE_TRC_STAT s t) 16 12
  let b := b.when fires fun b =>
    let b := (b.traceMark s t).ev 0x3D06 t [(1, t), (1, b.rdF (CE_TRC_TRIG s t) 0 4)]
    if x.mode then b else b.traceTriggered s t
  let b := b.when recorded fun b =>
    let b := b.updTrace s t fun y => { y with mem := y.mem.set (fun _ => 0) w v }
    let b := b.wrF (CE_TRC_STAT s t) 16 12 ((w + 1) % 4096)
    b.when (w = 4095) fun b => b.setB (CE_TRC_STAT s t) 28
  b.updTrace s t fun y =>
    { y with skip := if recorded then b.rdF (CE_TRC_TRIG s t) 8 8 else y.skip - 1, prev := cur, prevSt := stc, seen := seen,
             left := if recorded ∧ st = 2 then y.left - 1 else y.left }

/-- TRACE_POST_COMPLETE (R157): a Triggered buffer has recorded its `POST` samples. -/
def tracePostDone (s t : Nat) (b : Block) : Block :=
  if b.rdF (CE_TRC_STAT s t) 0 2 = 2 ∧ (b.trace s t).left = 0 then b.traceDone s t else b

/-! ## Meanings -/

/-- LOOP_SAMPLE (R142), with the period's stream of the sentinel's detector (R106, R110). -/
def execLoopSample (st : Fin 4) (i : Fin 1032) (stream : List (BitVec 12)) (s : State) : Res :=
  s.done (loopSample st i stream)
/-- LOOP_OVERRUN (R143). -/
def execLoopOverrun (st : Fin 4) (i : Fin 1032) (s : State) : Res := s.done (loopOverrun st i)
/-- CE_BANK_ARM (R152). -/
def execCeBankArm (m : Master) (st : Fin 4) (v : Word) (s : State) : Res :=
  s.done fun b => b.gate m (CE_BANK_ARM st) (bankArmWrite st v)
/-- CE_BANK_DISARM (R154). -/
def execCeBankDisarm (m : Master) (st : Fin 4) (v : Word) (s : State) : Res :=
  s.done fun b => b.gate m (CE_BANK_DISARM st) (bankDisarmWrite st v)
/-- BANK_CHECK_COMPLETE (R152). -/
def execBankCheckComplete (st : Fin 4) (s : State) : Res := s.done (bankCheckDone st)
/-- SLOPE_TABLE_RECOMPUTE (R138). -/
def execSlopeTableRecompute (st : Fin 4) (s : State) : Res := s.done (slopeRecompute st)
/-- CE_TDATA_WRITE (R158). -/
def execCeTdataWrite (m : Master) (st : Fin 4) (v : Word) (s : State) : Res :=
  s.done fun b => b.gate m (CE_TDATA st) (ceTdataWrite st v)
/-- TRACE_ARM (R157). -/
def execTraceArm (m : Master) (st t : Fin 4) (v : Word) (s : State) : Res :=
  s.done fun b => b.gate m (CE_TRC_CTRL st t) (trcCtrlWrite st t (v ||| 0x10))
/-- TRACE_FORCE (R157). -/
def execTraceForce (m : Master) (st t : Fin 4) (v : Word) (s : State) : Res :=
  s.done fun b => b.gate m (CE_TRC_CTRL st t) (trcCtrlWrite st t (v ||| 0x20))
/-- TRACE_STOP (R157). -/
def execTraceStop (m : Master) (st t : Fin 4) (v : Word) (s : State) : Res :=
  s.done fun b => b.gate m (CE_TRC_CTRL st t) (trcCtrlWrite st t (v ||| 0x40))
/-- TRACE_SAMPLE (R155). -/
def execTraceSample (st t : Fin 4) (s : State) : Res := s.done (traceSample st t)
/-- TRACE_POST_COMPLETE (R157). -/
def execTracePostComplete (st t : Fin 4) (s : State) : Res := s.done (tracePostDone st t)

end Sys2Proof.Machine
end

