-- ==== Sys2Proof/Machine/MintCmd.lean ====
section
/-! DEFINITION. MINT and MINTX (R288): how a conversion comes to its units. -/

namespace Sys2Proof.Machine

/-- A job handed to its units. -/
def Block.mintIssue (b : Block) (j : MintJob) : Block :=
  if b.mintFieldsBad j then b.reject j.idx 4 3
  else (b.updFrm fun f => { f with mq := f.mq ++ [⟨j, false, [], []⟩] }).pump

/-- Is the descriptor after index `idx` a MINTX of the module sequencer, so that the two form one (R288)? -/
def Block.pairs (b : Block) (idx : Nat) : Bool :=
  match b.frm with
  | none => false
  | some f =>
    let d := b.progDesc f (idx + 1)
    decide (64 * (idx + 1) < f.sr.plen) && dOp d == 0x21 && dTgt d == 4

/-- MINT (R288) of the operation `mop`; a reserved operation shows under any of the commands. A MINT with a MINTX behind it
waits for it; one that needs a MINTX and has none is rejected (R277 reason 1). -/
def mintEff (mop idx : Nat) (d : Desc) (x : Ecc) (b : Block) : Block :=
  if dOp d = 0x20 ∧ dF d 1 4 3 ≤ 2 ∧ dF d 1 4 3 ≠ mop then b else
  b.descr idx d 0x20 false mintMasks fun b =>
    match b.frm with
    | none => b
    | some f =>
      let j : MintJob := { idx := idx, ord := f.mOrd, d := d, dx := none, ecc := x }
      let b := b.updFrm fun f => { f with mOrd := f.mOrd + 1 }
      if b.pairs idx then b.updFrm fun f => { f with mint := some j }
      else if j.needsX (b.mprof (j.w 1 0 4)) then b.reject idx 4 1
      else b.mintIssue j

/-- MINTX (R288): part of the MINT directly before it; any other is rejected (R277 reason 1). -/
def mintxEff (idx : Nat) (d : Desc) (x : Ecc) (b : Block) : Block :=
  let pair := match b.frm with | some f => f.mint | none => none
  b.descr idx d 0x21 false mintxMasks fun b =>
    match pair with
    | none => b.reject idx 4 1
    | some j => b.mintIssue { j with dx := some d, ecc := ⟨j.ecc.ce ++ x.ce, j.ecc.ue ++ x.ue⟩ }

/-! ## Meanings -/

/-- MINT_CONVERT (R210, R288). -/
def execDMintConvert (idx : Nat) (d : Desc) (ecc : Ecc) (s : State) : Res := s.done (mintEff 0 idx d ecc)
/-- MINT_REPLAY (R217). -/
def execDMintReplay (idx : Nat) (d : Desc) (ecc : Ecc) (s : State) : Res := s.done (mintEff 1 idx d ecc)
/-- MINT_CUT_THROUGH_REPLAY (R386). -/
def execDMintCutThroughReplay (idx : Nat) (d : Desc) (s : State) : Res := s.done (mintEff 2 idx d ⟨[], []⟩)
/-- MINTX (R288). -/
def execDMintx (idx : Nat) (d : Desc) (ecc : Ecc) (s : State) : Res := s.done (mintxEff idx d ecc)

end Sys2Proof.Machine
end

