-- ==== Sys2Proof/Machine/Seq.lean ====
section
/-! DEFINITION. The sequencers (R273 to R284, R297, R303, R304): start records and the refusal of frames, fences,
completion, END, the frame limit, and how the work of a frame is stopped. -/

namespace Sys2Proof.Machine

/-! ## Refusal and start records (R278, R279, R304) -/

/-- The cause for which the module refuses frames (`MSQ_STAT.WHY`, R304), 0 when it accepts them. -/
def Block.why (b : Block) : Nat :=
  if b.modState = stStow ∨ b.pw.now = some stStow then 2 else if b.modState ≠ stActive then 1
  else if b.rdB ROL_STAT 0 then 3 else if !b.rdB MSQ_CTRL 0 then 4 else 0

/-- Does the module refuse frames for a cause that lasts: R304, or a module reset that drains (R464)? -/
def Block.refusesOn (b : Block) : Bool := b.why != 0 || b.pw.drain

/-- Does the module refuse start records: for a cause that lasts, or for a request out of Active that was made with no frame
running (R40)? -/
def Block.refuses (b : Block) : Bool := b.refusesOn || b.pw.wait.isSome && !b.inFrame && !b.tail

/-- A start record discarded (R279): counted and logged with `FRAME` and the items of its event. -/
def Block.startLost (b : Block) (code : Nat) (data : List (Nat × Nat)) (frame : Word) : Block :=
  ((b.bump MSQ_SREFUSED).raise P_MSQ 3).evF code 0 data frame

/-- On entering refusal the queued start records are discarded (R303, R304). Cause 2 of event 0x4504: frames refused. -/
def Block.dropStarts (b : Block) : Block :=
  let q := b.startQ
  { b with startQ := [] }.each q fun b r => b.startLost 0x4504 [(1, 2)] r.frame

/-- The start queue when the module may have entered refusal. -/
def Block.recheck (b : Block) : Block := if b.refusesOn then b.dropStarts else b

/-- A start record arrives (R279): queued, or discarded for a full queue (cause 0), a field out of range (1), refusal
(2), or a `FRAME` that is not later. -/
def Block.pushStart (b : Block) (w : List Word) : Block :=
  let frame := w.getD 0 0
  if 8 ≤ b.startQ.length then b.startLost 0x4504 [(1, 0)] frame else
  match startOf w with
  | none => b.startLost 0x4504 [(1, 1)] frame
  | some r =>
    if b.refuses then b.startLost 0x4504 [(1, 2)] frame else
    match b.lastId with
    | some l => if seqGT r.frame l then { b with startQ := b.startQ ++ [r], lastId := some r.frame }
        else b.startLost 0x4505 [(4, l.toNat)] frame
    | none => { b with startQ := b.startQ ++ [r], lastId := some r.frame }

/-- A write of `MSQ_SPUSH` (R279, R311). -/
def spushWrite (v : Word) (b : Block) : Block × Bool :=
  if bit v 0 then (b.pushStart ((List.range 8).map fun k => b.rd (MSQ_SREC k)), true) else (b, false)

/-- A write of `MSQ_CTRL` (R304, R311). -/
def msqCtrlWrite (v : Word) (b : Block) : Block × Bool := ((b.wrB MSQ_CTRL 0 (bit v 0)).recheck, true)

/-- `MSQ_STAT` (R311). -/
def Block.msqStat (b : Block) : Word :=
  wd (b2n b.inFrame + b2n b.tail * 2 + b2n b.refuses * 4 + b.why * 16 + b.startQ.length * 256)

/-- `SEQ_STAT` of a stack (R310): a frame runs, a fence holds the sequencer, the depth of its queue. -/
def Block.seqStat (b : Block) (s : Nat) : Word :=
  match b.frm with
  | none => 0
  | some f => wd (1 + b2n (f.fenced s) * 2 + (f.queue.filter fun q => q.tgt == s).length * 256)

/-! ## Fences and completion (R282, R284) -/

/-- Is the condition of a fence met? -/
def Block.fencePasses (b : Block) (f : Frame) (w : FenceW) : Bool :=
  decide (w.fval ≤ b.rdF (MSQ_CTR w.fctr) 0 16)
    && (!w.all || !f.infl.any fun i => i.tgt == w.tgt && decide (i.idx < w.idx))

/-- FENCE (R284): it completes on issue, and holds its sequencer until its condition is met. -/
def fenceEff (idx : Nat) (d : Desc) (b : Block) : Block :=
  b.descr idx d 0x02 false [0x1000F, 0xFFFF] fun b =>
    match b.frm with
    | none => b
    | some f =>
      let w : FenceW := ⟨min (dTgt d) 4, idx, dF d 1 0 4, dF d 2 0 16, dB d 1 16⟩
      let b := b.reached idx
      if b.fencePasses f w then b else b.updFrm fun f => { f with fences := f.fences ++ [w] }

/-- FENCE_RELEASE (R282): the fence of sequencer `tgt`, once its condition is met. -/
def fenceRelease (tgt : Nat) (b : Block) : Block :=
  match b.frm with
  | none => b
  | some f =>
    match f.fences.find? fun w => w.tgt == tgt with
    | none => b
    | some w => if b.fencePasses f w then
        b.updFrm fun f => { f with fences := f.fences.filter fun v => v.tgt != tgt } else b

/-- The counter of a completed descriptor with `SIG` counts (R275, R282). -/
def Block.countSig (b : Block) (i : Infl) : Block := b.when i.sig fun b => b.bumpF (MSQ_CTR i.ctr) 0 16

/-- DESCRIPTOR_COMPLETE (R282): a descriptor at its completion point leaves the frame; with `SIG` its counter counts. -/
def descriptorDone (idx : Nat) (b : Block) : Block :=
  match b.frm with
  | none => b
  | some f =>
    match f.infl.find? fun i => i.idx == idx && i.reached with
    | none => b
    | some i =>
      let b := b.updFrm fun f => { f with infl := f.infl.erase i, vops := f.vops.filter fun v => v.1 != idx }
      b.countSig i

/-- END (R283). Its `SIG` does nothing: R282 gives END no completion point. A misaligned `SADDR` is reason 3. -/
def endEff (idx : Nat) (d : Desc) (b : Block) : Block :=
  b.descr idx d 0x01 false [mLo, mHi, 1] fun b =>
    let a := dAddr d 1
    if a % 32 ≠ 0 then b.reject idx 4 3 else
    match (if a = 0 then none else opSpan b.grade a 32) with
    | some .reserved => b.reject idx 4 4
    | some (.beyond x) => (b.accessFault x 8).reject idx 4 4
    | none =>
      b.endIssue.updFrm fun f => { f with
        irq := dB d 3 0, saddr := if a = 0 then none else some a, infl := f.infl.filter fun i => i.idx != idx }

/-! ## Stopping a frame (R297, R303) -/

/-- A receive ends its wait (R294, R387): missing spans zero-filled, TAINTED, the VRECV complete. -/
def Block.vrecvEnd (b : Block) (v : Vrecv) : Block :=
  if v.done then b else
  let gaps := (List.range v.len).filter fun o => v.missing o
  let b := b.each gaps fun b o => b.wrBytes (v.dst + o) [0]
  let b := b.when (!gaps.isEmpty) fun b => (b.hbmTouch v.dst v.len).flag fTAINTED
  let b := b.updFrm fun f => { f with vrecvs := f.vrecvs.map fun w => if w.idx = v.idx then { w with done := true } else w }
  b.reached v.idx

/-- Every receive of the frame ends its wait. -/
def Block.vrecvEndAll (b : Block) : Block :=
  match b.frm with | some f => b.each f.vrecvs Block.vrecvEnd | none => b

/-- Issue stopped, fences and receives ended, passes and conversions ended: every descriptor complete or abandoned (R297,
R299, R303). Those that have reached their completion point count for `SIG`. -/
def Block.haltFrame (b : Block) : Block :=
  let b := b.vrecvEndAll
  let b := b.each ((match b.frm with | some f => f.infl | none => []).filter (·.reached)) Block.countSig
  let b := b.each allEngs fun b e => b.updEng e fun x =>
    { x with passes := [], dyn := { x.dyn with jobs := [] } }
  let b := b.each (List.range 4) fun b s => b.updStk s fun k =>
    { k with cons := [], trecQ := [], rdbkQ := [], hopQ := [], fly := [] }
  b.updFrm fun f =>
    { f with stopped := true, queue := [], infl := [], fences := [], mint := none, mq := [], vops := [], flags := f.flags ||| fTAINTED }

/-- FRAME_LIMIT_EXPIRY (R297). -/
def frameLimit (b : Block) : Block :=
  match b.frm with
  | none => b
  | some f =>
    if f.tlimit || f.abandon then b else
    let b := b.haltFrame.updFrm fun f => { f with tlimit := true, byEnd := false }
    ((b.bump MSQ_TLIMCNT).raise P_MSQ 2).evF 0x4502 0 [(3, f.lastIdx)] f.sr.frame

/-! ## Meanings -/

/-- MSQ_SPUSH (R279). -/
def execMsqSpush (m : Master) (v : Word) (s : State) : Res := s.done fun b => b.gate m MSQ_SPUSH (spushWrite (v ||| 1))
/-- MSQ_CTRL_WRITE (R304). -/
def execMsqCtrlWrite (m : Master) (v : Word) (s : State) : Res := s.done fun b => b.gate m MSQ_CTRL (msqCtrlWrite v)
/-- END (R283). -/
def execDEnd (idx : Nat) (d : Desc) (s : State) : Res := s.done (endEff idx d)
/-- FENCE (R284). -/
def execDFence (idx : Nat) (d : Desc) (s : State) : Res := s.done (fenceEff idx d)
/-- FENCE_RELEASE (R282). -/
def execFenceRelease (tgt : Fin 5) (s : State) : Res := s.done (fenceRelease tgt)
/-- DESCRIPTOR_COMPLETE (R282). -/
def execDescriptorComplete (idx : Nat) (s : State) : Res := s.done (descriptorDone idx)
/-- FRAME_LIMIT_EXPIRY (R297). -/
def execFrameLimitExpiry (s : State) : Res := s.done frameLimit

end Sys2Proof.Machine
end

