-- ==== Sys2Proof/Machine/Vector.lean ====
section
/-! DEFINITION. The vector cores (R306 to R309, R312): operand formats, the 48 operations, and their rejection. Layouts and
orders that the spec leaves open are fixed here as assumption 31 says. -/

namespace Sys2Proof.Machine

/-! ## The descriptor (R307) -/

/-- The fields of a vector operation of code `op`. -/
structure VOp where
  op : Nat
  af : Nat
  bf : Nat
  df : Nat
  cores : Nat
  a : Nat
  b : Nat
  c : Nat
  d : Nat
  len : Nat
  rows : Nat
  p : Nat → Word

/-- The operation that a descriptor asks for; its `VOPC` is `op` (R307). -/
def vopOf (op : Nat) (d : Desc) : VOp :=
  { op := op, af := dF d 1 8 2, bf := dF d 1 10 2, df := dF d 1 12 2, cores := dF d 2 0 32, a := dAddr d 3,
    b := dAddr d 5, c := dAddr d 7, d := dAddr d 9, len := dF d 11 0 15, rows := dF d 11 16 11,
    p := fun i => d.word (12 + i) }

def vopMasks : List Nat :=
  [0x3F3F, mLo, mLo, mHi, mLo, mHi, mLo, mHi, mLo, mHi, 0x07FF7FFF, mLo, mLo, mLo, mLo]

/-- Bytes of an element of a format. -/
def fmtSize (f : Nat) : Nat := if f = 0 then 2 else 4

/-- The operands beside D that an operation uses, as (A, B, C). -/
def vopUses (op : Nat) : Bool × Bool × Bool :=
  if op ∈ [1, 2, 8, 29, 47] then (true, true, true)
  else if op = 45 then (false, false, false)
  else if op ∈ [0, 3, 4, 5, 6, 7, 11, 12, 14, 17, 18, 28, 30, 36, 38, 39, 41, 42] then (true, true, false)
  else (true, false, false)

/-! ## Elements -/

/-- An output element: a binary32 result rounded once to the row's format, a word stored as it is, a free value of the
row's format, or a free int32 up to a bound. -/
inductive VItem where
  | val (w : Word)
  | word (w : Word)
  | free
  | freeUpTo (n : Nat)
  deriving DecidableEq, Repr

/-- An output row: its address where it does not follow the row before it, its format, its row number, its items. -/
structure VRow where
  at_ : Option Nat := none
  fmt : Nat
  row : Nat
  items : List VItem
  deriving DecidableEq, Repr

def VItem.size (fmt : Nat) : VItem → Nat
  | .val _ | .free => fmtSize fmt
  | _ => 4

def VRow.size (r : VRow) : Nat := (r.items.map (VItem.size r.fmt)).foldl (· + ·) 0

/-- Element `i` of an array at `a` as binary32: bf16 widened exactly, int32 rounded to nearest. -/
def Block.vElem (b : Block) (a fmt i : Nat) : Word :=
  if fmt = 0 then bf16to32 (b.rdLE (a + 2 * i) 2)
  else if fmt = 1 then b.rd32 (a + 4 * i) else fofInt (sext 32 (b.rdLE (a + 4 * i) 4))

/-- `n` elements from element `i`. -/
def Block.vElems (b : Block) (a fmt i n : Nat) : List Word := (List.range n).map fun k => b.vElem a fmt (i + k)

/-- Rows of `len` consecutive elements, row after row. -/
def Block.vRows (b : Block) (a fmt rows len : Nat) : List (List Word) :=
  (List.range rows).map fun r => b.vElems a fmt (r * len) len

/-- An int32 of an array. -/
def Block.vInt (b : Block) (a i : Nat) : Int := sext 32 (b.rdLE (a + 4 * i) 4)

/-- One level of a pairwise tree; an odd last element passes up. -/
def pairUp (f : Word → Word → Word) : List Word → List Word
  | x :: y :: r => f x y :: pairUp f r
  | r => r

/-- A reduction as a pairwise tree over element index (R306); a row has at most 2^14 elements. -/
def treeOf (f : Word → Word → Word) (v : List Word) : Word :=
  ((List.range 15).foldl (fun v _ => pairUp f v) v).headD 0

def fsum (v : List Word) : Word := treeOf fadd v
def fsq (x : Word) : Word := fmul x x
def fone : Word := 0x3F800000

/-- The largest element and its lowest index. -/
def maxAt (v : List Word) : Word × Nat :=
  (v.zip (List.range v.length)).foldl (fun (m : Word × Nat) q => if fnum m.1 < fnum q.1 then q else m) (v.headD 0, 0)

def vexp (x : Word) : Word := Config.vecFun 0 x
def vtanh (x : Word) : Word := Config.vecFun 1 x
def vlog (x : Word) : Word := Config.vecFun 2 x
def vsilu (x : Word) : Word := fmul x (Config.vecFun 3 x)
def vgelu (x : Word) : Word := Config.vecFun 4 x

/-! ## Row operations -/

/-- RMSNORM of a row with gain `g` and epsilon `eps`. -/
def rmsRow (eps : Word) (g row : List Word) : List Word :=
  let ms := fdiv (fsum (row.map fsq)) (fofInt row.length)
  let den := fsqrt (fadd ms eps)
  (row.zip g).map fun (x, g) => fmul (fdiv x den) g

/-- LNORM of a row with gain `g`, bias `h` and epsilon `eps`. -/
def lnRow (eps : Word) (g h row : List Word) : List Word :=
  let n := fofInt row.length
  let mu := fdiv (fsum row) n
  let ds := row.map fun x => fsub x mu
  let den := fsqrt (fadd (fdiv (fsum (ds.map fsq)) n) eps)
  ((ds.zip g).zip h).map fun ((d, g), h) => fadd (fmul (fdiv d den) g) h

/-- Softmax of a row. -/
def smxRow (row : List Word) : List Word :=
  let m := (maxAt row).1
  let es := row.map fun x => vexp (fsub x m)
  let s := fsum es
  es.map fun e => fdiv e s

/-- The rotary embedding of a row by the cosines and sines of its position: element `i` of the first half of the rotated
dimensions pairs with element `i` of the second half. -/
def ropeRow (dims : Nat) (cs sn row : List Word) : List Word :=
  let h := dims / 2
  (List.range row.length).map fun i =>
    let x (k : Nat) := row.getD k 0
    if i < h then fsub (fmul (x i) (cs.getD i 0)) (fmul (x (i + h)) (sn.getD i 0))
    else if i < 2 * h then fadd (fmul (x i) (cs.getD (i - h) 0)) (fmul (x (i - h)) (sn.getD (i - h) 0))
    else x i

/-- A position placed in a list of positions in the order `before`. -/
def placeIn (before : Nat → Nat → Bool) (i : Nat) : List Nat → List Nat
  | [] => [i]
  | j :: js => if before i j then i :: j :: js else j :: placeIn before i js

/-- Positions of a row in descending order of value, equal values by index. -/
def descending (row : List Word) : List Nat :=
  let before (i j : Nat) : Bool :=
    let x := fnum (row.getD i 0)
    let y := fnum (row.getD j 0)
    decide (y < x) || (x == y && decide (i ≤ j))
  (List.range row.length).foldl (fun l i => placeIn before i l) []

/-- The positions that TOPP keeps: the smallest prefix, in descending order, whose sum reaches `p`. -/
def toppKeep (p : Word) (row : List Word) : List Nat :=
  ((descending row).foldl (fun (acc : List Nat × Word) i =>
    if fnum acc.2 < fnum p then (acc.1 ++ [i], fadd acc.2 (row.getD i 0)) else acc) ([], 0)).1

/-- The index that SAMPLE draws with the random bits `x` (R309); none when the running sum never exceeds, or a sum is not
finite. -/
def sampleRow (x : Nat) (row : List Word) : Option Nat :=
  let s := fsum row
  ((row.zip (List.range row.length)).foldl (fun (acc : Word × Option Nat) q =>
    match acc.2 with
    | some _ => acc
    | none =>
      let run := fadd acc.1 q.1
      let past := !isNonFinite run && !isNonFinite s
        && ((f32D s).mul (⟨x, 2 ^ 32⟩ : Fr)).lt (f32D run)
      (run, if past then some q.2 else none)) ((0 : Word), none)).2

/-- A row of codes of DEQUANT: int8, or K4C through the codebook `cb`. -/
def Block.deqRow (b : Block) (v : VOp) (r : Nat) : List Int :=
  if v.c = 0 then (List.range v.len).map fun i => (b.rd8 (v.a + r * v.len + i)).toInt
  else (List.range v.len).map fun i =>
    let byte := (b.rd8 (v.a + r * ((v.len + 1) / 2) + i / 2)).toNat
    (b.rd8 (v.c + bits byte (4 * (i % 2)) 4)).toInt

/-! ## Operand spans and parameters (R307, R308) -/

/-- The spans an operation reads, apart from rows that an index chooses. -/
def VOp.reads (v : VOp) (ncand : Nat) : List (Nat × Nat) :=
  let ea := fmtSize v.af
  let eb := fmtSize v.bf
  let n := v.rows * v.len
  let a (k : Nat) : Nat × Nat := (v.a, k)
  let bb (k : Nat) : Nat × Nat := (v.b, k)
  match v.op with
  | 0 => [a (n * ea), bb (v.len * eb)]
  | 1 => [a (n * ea), bb (v.len * eb), (v.c, n * ea)]
  | 2 => [a (n * ea), bb (v.len * eb), (v.c, v.len * ea)]
  | 7 => [a (n * ea), bb (v.rows * eb)]
  | 8 => [a (n * ea), bb (v.len * eb)] ++ (if v.c = 0 then [] else [(v.c, n * ea)])
  | 11 | 42 => [bb (4 * v.rows)]
  | 12 => [a (n * ea), bb (4 * v.rows)]
  | 14 => [a (n * ea)]
  | 29 => [a (n * ea), bb (8 * v.rows), (v.c, 4 * v.rows)]
  | 30 => [a ((v.p 0).toNat * n * ea), bb ((v.p 0).toNat * v.rows * 2 * eb)]
  | 32 => [a (8 * v.rows)]
  | 36 => [a (n * ea), bb (4 * v.rows)]
  | 38 => [a (4 * (ncand - 1)), bb (4 * ncand)]
  | 39 => [a (v.rows * 32 * ea), bb (v.len * 32 * eb)]
  | 45 => []
  | 47 => [a (if v.c = 0 then n else v.rows * ((v.len + 1) / 2)), bb (v.rows * eb)] ++ (if v.c = 0 then [] else [(v.c, 16)])
  | op => if (vopUses op).2.1 then [a (n * ea), bb (n * eb)] else [a (n * ea)]

/-- The position of row `r` under ROPE. -/
def VOp.ropePos (v : VOp) (pbase r : Nat) : Nat := (pbase + (v.p 1).toNat + r / (v.p 2).toNat) % 2 ^ 32

/-- Are the parameters and the listed operand formats invalid (R277 reason 12)? -/
def VOp.badParams (v : VOp) : Bool :=
  let dims := (v.p 0).toNat
  match v.op with
  | 11 | 12 | 36 | 42 => v.bf != 2
  | 14 => decide (v.len < dims) || dims % 2 == 1 || v.p 2 == 0
  | 29 => v.p 1 == 0
  | 30 => v.p 0 == 0
  | 40 => decide (dims < 6 ∨ 9 < dims) || v.len % 2 ^ dims != 0
  | _ => false

/-- Operands that the operation does not use must be 0 (R307); no core at all cannot run it. -/
def VOp.badUse (v : VOp) : Bool :=
  let (ua, ub, uc) := vopUses v.op
  (!ua && v.a != 0) || (!ub && v.b != 0) || (!uc && v.c != 0) || v.cores == 0

/-- The spans that the operation's indices choose, with the row index of each: none when an index is negative or, for
PENALTY, outside the row. -/
def Block.vopIndexed (b : Block) (v : VOp) : Option (List (Nat × Nat)) :=
  let idx := (List.range v.rows).map fun r => b.vInt v.b r
  match v.op with
  | 11 | 42 => if idx.any (· < 0) then none
      else some (idx.map fun i => (v.a + i.toNat * v.len * fmtSize v.af, v.len * fmtSize v.af))
  | 12 => if idx.any (· < 0) then none else some []
  | 14 => some ((List.range v.rows).map fun r =>
      (v.b + v.ropePos b.pbase r * (v.p 0).toNat * fmtSize v.bf, (v.p 0).toNat * fmtSize v.bf))
  | 36 => if idx.any fun i => decide (i < 0 ∨ (v.len : Int) ≤ i) then none else some []
  | _ => some []

/-! ## The operations (R308) -/

/-- SPEC_VERIFY: the drafts accepted, those that equal the tokens sampled at the positions before them. -/
def Block.vopAccepted (b : Block) (v : VOp) (ncand : Nat) : Nat :=
  ((List.range (ncand - 1)).takeWhile fun i => b.rd32 (v.a + 4 * i) == b.rd32 (v.b + 4 * i)).length

/-- What an operation writes, row by row. -/
def Block.vopRun (b : Block) (v : VOp) (ncand : Nat) (seed : BitVec 64) : List VRow :=
  let A := b.vRows v.a v.af v.rows v.len
  let B := b.vRows v.b v.bf v.rows v.len
  let g (n : Nat) := b.vElems v.b v.bf 0 n
  let p0 := v.p 0
  let out (rs : List (List Word)) : List VRow :=
    (rs.zip (List.range rs.length)).map fun (r, i) => { fmt := v.df, row := i, items := r.map .val }
  let un (f : Word → Word) : List VRow := out (A.map fun r => r.map f)
  let bin (f : Word → Word → Word) : List VRow := out ((A.zip B).map fun (x, y) => (x.zip y).map fun (x, y) => f x y)
  let rowItems (f : Nat → List VItem) : List VRow :=
    (List.range v.rows).map fun r => { fmt := v.df, row := r, items := f r }
  let arow (r : Nat) : List Word := A.getD r []
  match v.op with
  | 0 => out (A.map (rmsRow p0 (g v.len)))
  | 1 =>
    let c := b.vRows v.c v.af v.rows v.len
    let sum := (A.zip c).map fun (x, y) => (x.zip y).map fun (x, y) => fadd x y
    -- C takes the format of A; the norm is formed from C as stored
    let stored (w : Word) : Word := if v.af = 0 then bf16to32 (f32toBf16 w) else w
    let put := (sum.zip (List.range v.rows)).map fun (r, i) =>
      ({ at_ := some (v.c + i * v.len * fmtSize v.af), fmt := v.af, row := i, items := r.map .val } : VRow)
    let d := ((sum.map fun r => rmsRow p0 (g v.len) (r.map stored)).zip (List.range v.rows)).map fun (r, i) =>
      ({ at_ := some (v.d + i * v.len * fmtSize v.df), fmt := v.df, row := i, items := r.map .val } : VRow)
    put ++ d
  | 2 => out (A.map (lnRow p0 (g v.len) (b.vElems v.c v.af 0 v.len)))
  | 3 => bin fadd
  | 4 => bin fsub
  | 5 => bin fmul
  | 6 => bin fun x y => fadd (fmul p0 x) y
  | 7 => out ((A.zip (g v.rows)).map fun (r, s) => r.map fun x => fmul x s)
  | 8 =>
    let s := g v.len
    let c := b.vRows v.c v.af v.rows v.len
    out ((List.range v.rows).map fun r => (List.range v.len).map fun t =>
      fadd (fmul (b.vElem v.a v.af (t * v.rows + r)) (s.getD t 0)) (if v.c = 0 then 0 else (c.getD r []).getD t 0))
  | 9 | 10 =>
    if v.af = v.df ∧ v.af = 2 then
      rowItems fun r => (List.range v.len).map fun i => .word (b.rd32 (v.a + 4 * (r * v.len + i)))
    else un id
  | 11 | 42 => out ((List.range v.rows).map fun r => b.vElems v.a v.af ((b.vInt v.b r).toNat * v.len) v.len)
  | 12 => (List.range v.rows).map fun r =>
      { at_ := some (v.d + (b.vInt v.b r).toNat * v.len * fmtSize v.df), fmt := v.df, row := r,
        items := (arow r).map .val }
  | 13 => out ((List.range v.len).map fun t => (List.range v.rows).map fun r => (arow r).getD t 0)
  | 14 => out ((List.range v.rows).map fun r =>
      let n := p0.toNat / 2
      let at_ := v.ropePos b.pbase r * p0.toNat
      ropeRow p0.toNat (b.vElems v.b v.bf at_ n) (b.vElems v.b v.bf (at_ + n) n) (arow r))
  | 15 => un vsilu
  | 16 => un vgelu
  | 17 => bin fun x y => fmul (vsilu x) y
  | 18 => bin fun x y => fmul (vgelu x) y
  | 19 => un fun x => fsq (fmax x 0)
  | 20 => un vexp
  | 21 => un fun x => fdiv fone x
  | 22 => un fun x => fdiv fone (fsqrt x)
  | 23 => un fun x => fmul p0 (vtanh (fdiv x p0))
  | 24 => un fun x => fmin (fmax x p0) (v.p 1)
  | 25 => rowItems fun r => let m := maxAt (arow r); [.val m.1, .word (wd m.2)]
  | 26 => out (A.map fun r => [fsum r])
  | 27 => out (A.map fun r => [fsum (r.map fsq)])
  | 28 => bin fun x y => if isZero32 y then p0 else x
  | 29 =>
    let part (r : Nat) : List Word × Word × Word :=
      let sq := b.rd32 (v.c + 4 * r)
      let m := fmul (b.rd32 (v.b + 8 * r)) sq
      let pos : Int := sext 32 (b.pbase + p0.toNat + r / (v.p 1).toNat)
      let ps := (List.range v.len).map fun (t : Nat) =>
        if pos < (t : Int) then 0 else vexp (fsub (fmul (b.vElem v.a v.af (t * v.rows + r)) sq) m)
      (ps, m, fsum ps)
    (rowItems fun r => (part r).1.map .val)
      ++ (List.range v.rows).map fun r => { fmt := 1, row := r, items := [.val (part r).2.1, .val (part r).2.2] }
  | 30 =>
    let k := p0.toNat
    out ((List.range v.rows).map fun r =>
      let ml := (List.range k).map fun e =>
        (b.vElem v.b v.bf (2 * (e * v.rows + r)), b.vElem v.b v.bf (2 * (e * v.rows + r) + 1))
      let m := (maxAt (ml.map (·.1))).1
      let ws := ml.map fun q => vexp (fsub q.1 m)
      let l := fsum ((ws.zip ml).map fun (w, q) => fmul w q.2)
      (List.range v.len).map fun t =>
        fdiv (fsum ((ws.zip (List.range k)).map fun (w, e) => fmul w (b.vElem v.a v.af ((e * v.rows + r) * v.len + t)))) l)
  | 31 => out (A.map fun r => smxRow (r.map fun x => fmul p0 x))
  | 32 => rowItems fun r => [.word (b.rd32 (v.a + 8 * r + 4))]
  | 33 => out (A.map fun r =>
      let keep := (descending r).take p0.toNat
      (r.zip (List.range r.length)).map fun (x, i) => if keep.contains i then x else negInf)
  | 34 => rowItems fun r =>
      let keep := toppKeep p0 (arow r)
      ((arow r).zip (List.range v.len)).map fun (x, i) => if keep.contains i then .val x else .free
  | 35 => un fun x => fdiv x p0
  | 36 => out ((List.range v.rows).map fun r =>
      let tok := (b.vInt v.b r).toNat
      ((arow r).zip (List.range v.len)).map fun (x, i) =>
        if i ≠ tok then x else if 0 < fnum x then fdiv x p0 else if fnum x < 0 then fmul x p0 else x)
  -- one draw per candidate position: rows beyond `NCAND` are ignored (R298, assumption 100)
  | 37 => (rowItems fun r =>
      let x := srBits (seed ^^^ 0x9E3779B97F4A7C15) (BitVec.ofNat 64 ((v.p 3).toNat * 2 ^ 32 + r))
      match sampleRow x.toNat (arow r) with | some i => [.word (wd i)] | none => [.freeUpTo (v.len - 1)]) |>.take ncand
  | 38 =>
    let acc := b.vopAccepted v ncand
    [{ fmt := v.df, row := 0, items := .word (wd acc) :: (List.range (acc + 1)).map fun i => .word (b.rd32 (v.b + 4 * i)) }]
  | 39 => out ((List.range v.rows).map fun r => (List.range v.len).map fun t =>
      (List.range 32).foldl (fun s k =>
        fadd s (fmul (b.vElem v.a v.af (32 * r + k)) (b.vElem v.b v.bf (32 * t + k)))) 0)
  | 40 => out (A.map fun r => rotate p0.toNat r)
  | 41 => out ((A.zip B).map fun (x, y) => [fsum ((x.zip y).map fun (x, y) => fmul x y)])
  | 43 => out (A.map fun r =>
      let m := (maxAt r).1
      [fadd m (vlog (fsum (r.map fun x => vexp (fsub x m))))])
  | 44 => rowItems fun r =>
      [.word (crc32c (b.rdBytes (v.a + r * v.len * fmtSize v.af) (v.len * fmtSize v.af)))]
  | 45 => out (List.replicate v.rows (List.replicate v.len p0))
  | 46 => out (A.map fun r =>
      let n := fofInt r.length
      [treeOf fmin r, treeOf fmax r, fdiv (fsum r) n, fsqrt (fdiv (fsum (r.map fsq)) n)])
  | 47 => out ((List.range v.rows).map fun r =>
      let s := b.vElem v.b v.bf r
      (b.deqRow v r).map fun c => fmul (fofInt c) s)
  | _ => []
/-! ## Writing the results (R306) -/

/-- An item encoded in a row's format: its bytes, and whether it is non-finite. Rounding to int32 is to nearest with ties
to even; a result outside its range, or not finite, has no stated int32 and is a free value. -/
def Block.vEncode (b : Block) (fmt : Nat) : VItem → Block × List Byte × Bool
  | .word w => (b, bytesLE 4 w.toNat, false)
  | .free => let (w, b) := b.freeWord; (b, bytesLE (fmtSize fmt) w.toNat, false)
  | .freeUpTo n => let (k, b) := b.freeUpTo n; (b, bytesLE 4 k, false)
  | .val w =>
    if fmt = 0 then let h := f32toBf16 w; (b, bytesLE 2 h, isNonFinite (bf16to32 h))
    else if fmt = 1 then (b, bytesLE 4 w.toNat, isNonFinite w)
    else
      let i := (f32D w).rneInt
      if isNonFinite w ∨ i < -(2 ^ 31) ∨ 2 ^ 31 ≤ i then
        let (x, b) := b.freeWord
        (b, bytesLE 4 x.toNat, isNonFinite w)
      else (b, bytesLE 4 (unsx 32 i), false)

/-- What writing rows has done: the block, the address of the next row, and the row of each non-finite result. -/
structure VPut where
  b : Block
  at_ : Nat
  nonfin : List Nat

/-- A row written. -/
def VPut.row (p : VPut) (r : VRow) : VPut :=
  let a := r.at_.getD p.at_
  let (b, bs, n) := r.items.foldl (fun (x : Block × List Byte × Nat) i =>
    let (b, e, bad) := x.1.vEncode r.fmt i
    (b, x.2.1 ++ e, x.2.2 + b2n bad)) (p.b, [], 0)
  { b := (b.wrBytes a bs).hbmTouch a bs.length, at_ := if r.at_.isSome then p.at_ else a + bs.length,
    nonfin := p.nonfin ++ List.replicate n r.row }

/-- The spans that rows are written to. -/
def writeSpans (d : Nat) (rs : List VRow) : List (Nat × Nat) :=
  (rs.foldl (fun (x : Nat × List (Nat × Nat)) r =>
    match r.at_ with
    | some a => (x.1, x.2 ++ [(a, r.size)])
    | none => (x.1 + r.size, x.2 ++ [(x.1, r.size)])) (d, [])).2

/-! ## Rejection and execution (R277, R306, R312) -/

/-- What the vector cores note of a rejected operation (R312, R313). -/
def Block.vecNote (b : Block) (op reason : Nat) : Block :=
  let b := (b.bump VEC_REJCNT).wr VEC_LASTERR (wd (op + 256 * reason))
  (b.raise P_VEC 0).ev 0x4601 0 [(1, op), (1, reason)]

/-- A vector operation rejected. -/
def Block.vecReject (b : Block) (idx op reason : Nat) : Block := (b.vecNote op reason).reject idx 4 reason

/-- The cores that an operation keeps busy: its rows go round the cores of `CMASK` (R306). -/
def VOp.busy (v : VOp) : Word :=
  wd ((((List.range 32).filter fun k => v.cores.testBit k).take v.rows).foldl (fun a k => a + 2 ^ k) 0)

/-- `VEC_BUSY` (R312): the cores of the oldest operation not yet complete; operations run one at a time (R306). -/
def Block.vecBusy (b : Block) : Word :=
  match b.frm with
  | some f => match f.vops with | v :: _ => v.2 | [] => 0
  | none => 0

/-- Operation `op` executed on its operands. -/
def Block.vopDo (b : Block) (idx : Nat) (v : VOp) (ncand : Nat) (seed : BitVec 64) (reads : List (Nat × Nat)) : Block :=
  let rs := b.vopRun v ncand seed
  match firstSpanErr b.grade (reads ++ writeSpans v.d rs) with
  | some .reserved => b.vecReject idx v.op 4
  | some (.beyond a) => (b.accessFault a 8).vecReject idx v.op 4
  | none =>
    let acc := b.vopAccepted v ncand
    let b := b.each reads fun b (a, n) => b.hbmTouch a n
    let p := rs.foldl VPut.row ⟨b, v.d, []⟩
    let b := p.b.bump VEC_OPCNT
    let b := b.when (v.op == 38) fun b => b.wr VEC_SPEC (wd acc)
    let b := b.each p.nonfin fun b r => ((b.bump VEC_NONFIN).raise P_VEC 1).ev 0x4602 0 [(1, v.op), (2, r)]
    (b.updFrm fun f => { f with vops := f.vops ++ [(idx, v.busy)] }).reached idx

/-- The reason for which the common checks reject a VOP issued now (R277): a target not allowed, a reserved bit of word 0
or beyond the layout. -/
def vopFault (d : Desc) : Option Nat :=
  if dTgt d ≠ 4 then some 1 else if !reservedZero d (List.replicate 15 0xFFFFFFFF) then some 2 else none

/-- A VOP descriptor of operation `op` (R306 to R308). Its `VOPC` names the operation; 48 to 63 are no operations and are
rejected (reason 12) under any command. Rejections by the common checks are noted too. -/
def vopEff (op idx : Nat) (d : Desc) (b : Block) : Block :=
  let code := dF d 1 0 6
  let isVop := dOp d == 0x28 && match b.frm with | some f => decide (64 * idx < f.sr.plen) | none => false
  if isVop ∧ code < 48 ∧ code ≠ op then b else
  let issued := isVop && !b.host.rehash.isSome && match b.frm with | some f => f.issues idx d | none => false
  let b := match vopFault d with
    | some r => b.when issued fun b => b.vecNote code r
    | none => b
  b.descr idx d 0x28 false (List.replicate 15 0xFFFFFFFF) fun b =>
    if 48 ≤ code then b.vecReject idx code 12 else
    match b.frm with
    | none => b
    | some f =>
      let v := vopOf op d
      if !reservedZero d vopMasks then b.vecReject idx op 2
      else if v.len = 0 ∨ 16384 < v.len ∨ v.rows = 0 ∨ 2048 < v.rows ∨ v.af = 3 ∨ v.bf = 3 ∨ v.df = 3 then
        b.vecReject idx op 3
      else if v.badUse || v.badParams then b.vecReject idx op 12
      else
        let direct := v.reads f.sr.ncand
        match firstSpanErr b.grade direct with
        | some .reserved => b.vecReject idx op 4
        | some (.beyond a) => (b.accessFault a 8).vecReject idx op 4
        | none =>
          match b.vopIndexed v with
          | none => b.vecReject idx op 12
          | some more => b.vopDo idx v f.sr.ncand f.sr.seed (direct ++ more)

/-! ## Meanings (R308) -/

/-- VOP RMSNORM (R308). -/
def execVopRmsnorm (idx : Nat) (d : Desc) (s : State) : Res := s.done (vopEff 0 idx d)
/-- VOP RESNORM (R308). -/
def execVopResnorm (idx : Nat) (d : Desc) (s : State) : Res := s.done (vopEff 1 idx d)
/-- VOP LNORM (R308). -/
def execVopLnorm (idx : Nat) (d : Desc) (s : State) : Res := s.done (vopEff 2 idx d)
/-- VOP ADD (R308). -/
def execVopAdd (idx : Nat) (d : Desc) (s : State) : Res := s.done (vopEff 3 idx d)
/-- VOP SUB (R308). -/
def execVopSub (idx : Nat) (d : Desc) (s : State) : Res := s.done (vopEff 4 idx d)
/-- VOP MUL (R308). -/
def execVopMul (idx : Nat) (d : Desc) (s : State) : Res := s.done (vopEff 5 idx d)
/-- VOP AXPY (R308). -/
def execVopAxpy (idx : Nat) (d : Desc) (s : State) : Res := s.done (vopEff 6 idx d)
/-- VOP ROWSCALE (R308). -/
def execVopRowscale (idx : Nat) (d : Desc) (s : State) : Res := s.done (vopEff 7 idx d)
/-- VOP COLSCALE (R308). -/
def execVopColscale (idx : Nat) (d : Desc) (s : State) : Res := s.done (vopEff 8 idx d)
/-- VOP CVT (R308). -/
def execVopCvt (idx : Nat) (d : Desc) (s : State) : Res := s.done (vopEff 9 idx d)
/-- VOP COPY (R308). -/
def execVopCopy (idx : Nat) (d : Desc) (s : State) : Res := s.done (vopEff 10 idx d)
/-- VOP GATHER (R308). -/
def execVopGather (idx : Nat) (d : Desc) (s : State) : Res := s.done (vopEff 11 idx d)
/-- VOP SCATTER (R308). -/
def execVopScatter (idx : Nat) (d : Desc) (s : State) : Res := s.done (vopEff 12 idx d)
/-- VOP TRANSPOSE (R308). -/
def execVopTranspose (idx : Nat) (d : Desc) (s : State) : Res := s.done (vopEff 13 idx d)
/-- VOP ROPE (R308). -/
def execVopRope (idx : Nat) (d : Desc) (s : State) : Res := s.done (vopEff 14 idx d)
/-- VOP SILU (R308). -/
def execVopSilu (idx : Nat) (d : Desc) (s : State) : Res := s.done (vopEff 15 idx d)
/-- VOP GELU (R308). -/
def execVopGelu (idx : Nat) (d : Desc) (s : State) : Res := s.done (vopEff 16 idx d)
/-- VOP SWIGLU (R308). -/
def execVopSwiglu (idx : Nat) (d : Desc) (s : State) : Res := s.done (vopEff 17 idx d)
/-- VOP GEGLU (R308). -/
def execVopGeglu (idx : Nat) (d : Desc) (s : State) : Res := s.done (vopEff 18 idx d)
/-- VOP RELU2 (R308). -/
def execVopRelu2 (idx : Nat) (d : Desc) (s : State) : Res := s.done (vopEff 19 idx d)
/-- VOP EXP (R308). -/
def execVopExp (idx : Nat) (d : Desc) (s : State) : Res := s.done (vopEff 20 idx d)
/-- VOP RECIP (R308). -/
def execVopRecip (idx : Nat) (d : Desc) (s : State) : Res := s.done (vopEff 21 idx d)
/-- VOP RSQRT (R308). -/
def execVopRsqrt (idx : Nat) (d : Desc) (s : State) : Res := s.done (vopEff 22 idx d)
/-- VOP SOFTCAP (R308). -/
def execVopSoftcap (idx : Nat) (d : Desc) (s : State) : Res := s.done (vopEff 23 idx d)
/-- VOP CLAMP (R308). -/
def execVopClamp (idx : Nat) (d : Desc) (s : State) : Res := s.done (vopEff 24 idx d)
/-- VOP ROWMAX (R308). -/
def execVopRowmax (idx : Nat) (d : Desc) (s : State) : Res := s.done (vopEff 25 idx d)
/-- VOP ROWSUM (R308). -/
def execVopRowsum (idx : Nat) (d : Desc) (s : State) : Res := s.done (vopEff 26 idx d)
/-- VOP ROWSUMSQ (R308). -/
def execVopRowsumsq (idx : Nat) (d : Desc) (s : State) : Res := s.done (vopEff 27 idx d)
/-- VOP MASKFILL (R308). -/
def execVopMaskfill (idx : Nat) (d : Desc) (s : State) : Res := s.done (vopEff 28 idx d)
/-- VOP SMX_PART (R308). -/
def execVopSmxPart (idx : Nat) (d : Desc) (s : State) : Res := s.done (vopEff 29 idx d)
/-- VOP SMX_COMB (R308). -/
def execVopSmxComb (idx : Nat) (d : Desc) (s : State) : Res := s.done (vopEff 30 idx d)
/-- VOP SMX_FULL (R308). -/
def execVopSmxFull (idx : Nat) (d : Desc) (s : State) : Res := s.done (vopEff 31 idx d)
/-- VOP ARGMAX_IDX (R308). -/
def execVopArgmaxIdx (idx : Nat) (d : Desc) (s : State) : Res := s.done (vopEff 32 idx d)
/-- VOP TOPK (R308). -/
def execVopTopk (idx : Nat) (d : Desc) (s : State) : Res := s.done (vopEff 33 idx d)
/-- VOP TOPP (R308). -/
def execVopTopp (idx : Nat) (d : Desc) (s : State) : Res := s.done (vopEff 34 idx d)
/-- VOP TEMP (R308). -/
def execVopTemp (idx : Nat) (d : Desc) (s : State) : Res := s.done (vopEff 35 idx d)
/-- VOP PENALTY (R308). -/
def execVopPenalty (idx : Nat) (d : Desc) (s : State) : Res := s.done (vopEff 36 idx d)
/-- VOP SAMPLE (R308). -/
def execVopSample (idx : Nat) (d : Desc) (s : State) : Res := s.done (vopEff 37 idx d)
/-- VOP SPEC_VERIFY (R308). -/
def execVopSpecVerify (idx : Nat) (d : Desc) (s : State) : Res := s.done (vopEff 38 idx d)
/-- VOP OUT_DOT (R308). -/
def execVopOutDot (idx : Nat) (d : Desc) (s : State) : Res := s.done (vopEff 39 idx d)
/-- VOP FWHT (R308). -/
def execVopFwht (idx : Nat) (d : Desc) (s : State) : Res := s.done (vopEff 40 idx d)
/-- VOP DOT (R308). -/
def execVopDot (idx : Nat) (d : Desc) (s : State) : Res := s.done (vopEff 41 idx d)
/-- VOP EMBED (R308). -/
def execVopEmbed (idx : Nat) (d : Desc) (s : State) : Res := s.done (vopEff 42 idx d)
/-- VOP LSE (R308). -/
def execVopLse (idx : Nat) (d : Desc) (s : State) : Res := s.done (vopEff 43 idx d)
/-- VOP DIGEST (R308). -/
def execVopDigest (idx : Nat) (d : Desc) (s : State) : Res := s.done (vopEff 44 idx d)
/-- VOP FILL (R308). -/
def execVopFill (idx : Nat) (d : Desc) (s : State) : Res := s.done (vopEff 45 idx d)
/-- VOP STATS (R308). -/
def execVopStats (idx : Nat) (d : Desc) (s : State) : Res := s.done (vopEff 46 idx d)
/-- VOP DEQUANT (R308). -/
def execVopDequant (idx : Nat) (d : Desc) (s : State) : Res := s.done (vopEff 47 idx d)

end Sys2Proof.Machine
end

