-- ==== Sys2Proof/Machine/Hbm.lean ====
section
/-! DEFINITION. HBM: stream copies (R293), the channel hash and its change (R412 to R416), imbalance detection (R417), the
BAR2 aperture (R424), host DMA (R430) and the frame-program window (R432). -/

namespace Sys2Proof.Machine

/-- Host DMA channel `c`. -/
def Block.dma (b : Block) (c : Nat) : Option Dma := b.host.dma.get (fun _ => none) c
def Block.setDma (b : Block) (c : Nat) (x : Option Dma) : Block :=
  { b with host := { b.host with dma := b.host.dma.set (fun _ => none) c x } }

/-- Is no HBM request outstanding (`HBM_STAT.IDLE`, R415)? Host DMA, BAR2 accesses that wait, descriptors in flight, and a
plate build that reads staging space. -/
def Block.hbmIdle (b : Block) : Bool :=
  b.host.dma.isEmpty && b.host.bar2Q.isEmpty && (match b.frm with | some f => f.infl.isEmpty | none => true)
    && (List.range 64).all fun e => match (b.eng e).build with
      | some bd => bd.rebuild || bd.waiting
      | none => true

/-- `HBM_STAT` (R422); its bits [2:0] are held. -/
def Block.hbmStat (b : Block) : Word := setFld (b.rd HBM_STAT) 3 1 (b2n b.hbmIdle)

/-- Does a span of `n` bytes at module address `a` overlap the running frame's program (R293)? -/
def Block.hitsProgram (b : Block) (a n : Nat) : Bool :=
  match b.frm with
  | some f => let p := fpBase + f.sr.paddr; decide (a < p + f.sr.plen ∧ p < a + n)
  | none => false

/-! ## Stream copies (R293, R419, R420) -/

/-- The position-relative address of an HBM descriptor's operand. -/
def hbmAddr (d : Desc) (i k pbase : Nat) : Nat := dAddr d i + (if dB d 1 k then pbase * dF d 7 0 16 else 0)

/-- HBM (R293): the copy takes its source as it stands at issue. -/
def hbmEff (idx : Nat) (d : Desc) (x : Ecc) (b : Block) : Block :=
  b.descr idx d 0x30 false [0x307, mLo, mHi, mLo, mHi, mLo, 0xFFFF] fun b =>
    let src := hbmAddr d 2 8 b.pbase
    let dst := hbmAddr d 4 9 b.pbase
    let n := dF d 6 0 32
    if n = 0 then b.reject idx 4 3 else
    let bad := match opSpan b.grade src n, mspan b.grade dst n with
      | some e, _ => some e
      | none, .fpsram => none
      | none, _ => opSpan b.grade dst n
    match bad with
    | some .reserved => b.reject idx 4 4
    | some (.beyond a) => (b.accessFault a 8).reject idx 4 4
    | none =>
      if b.hitsProgram dst n then b.reject idx 4 8 else
      let b := (b.eccSeen x 1).hbmTouch src n
      let b := b.when (!x.ue.isEmpty) fun b => b.flag fTAINTED
      ((b.wrBytes dst (poisonBytes x.ue src (b.rdBytes src n))).hbmTouch dst n).reached idx

/-! ## The aperture (R424, R419, R420) -/

/-- Bytes of which those in uncorrectable sectors are free values: the data of a poisoned completion. -/
def Block.freePoison (b : Block) (ue : List Nat) (a : Nat) (bs : List Byte) : Block × List Byte :=
  let r := (bs.zip (List.range bs.length)).foldl (fun (x : Block × List Byte) (q : Byte × Nat) =>
    if ue.any fun u => u / 64 == (a + q.2) / 64 then
      let (k, b) := x.1.freeUpTo 255
      (b, x.2 ++ [BitVec.ofNat 8 k])
    else (x.1, x.2 ++ [q.1])) (b, [])
  r

/-- The bytes that a write enables, stored at consecutive addresses. -/
def Block.wrEnabled (b : Block) (a : Nat) (bs : List (Option Byte)) : Block :=
  b.each (bs.zip (List.range bs.length)) fun b q => match q.1 with | some v => b.wrBytes (a + q.2) [v] | none => b

/-- A BAR2 access reaches HBM. -/
def Block.bar2Do (b : Block) : Bar2 → Block
  | .read a n x =>
    match opSpan b.grade a n with
    | some (.beyond f) => (b.accessFault f 0).send (.errResp .pf0 false)
    | _ =>
      let b := (b.eccSeen x 5).hbmTouch a n
      let (b, bs) := b.freePoison x.ue a (b.rdBytes a n)
      b.send (.bar2 bs (!x.ue.isEmpty))
  | .write a bs =>
    match opSpan b.grade a bs.length with
    | some (.beyond f) => (b.accessFault f 0).recErr 3 0 f true
    | _ => (b.wrEnabled a bs).hbmTouch a bs.length

/-- A BAR2 access of PF0: Unsupported Request in D3hot (R427), an error response while the HBM is down (R440), a wait
while a REHASH runs (R415). -/
def Block.bar2 (b : Block) (a : Nat) (q : Bar2) : Block :=
  let write := match q with | .write _ _ => true | .read _ _ _ => false
  if b.cutOff .pf0 then b else if b.host.pf0D3 then b.send (.unsupported .pf0)
  else if !b.domUp .hbm then
    ((b.recErr 0 0 a write).ev 0x6101 0 [(1, 0), (5, a), (1, b2n write)]).send (.errResp .pf0 write)
  else if b.host.rehash.isSome then { b with host := { b.host with bar2Q := b.host.bar2Q ++ [q] } }
  else b.bar2Do q

/-! ## The channel hash (R415, R421) -/

/-- A write of `HBM_CMD` (R415): an accepted REHASH discards the messages in the Vyivim receive pool. -/
def hbmCmdWrite (v : Word) (b : Block) : Block × Bool :=
  if !bit v 0 then (b, false)
  else if b.inFrame || !b.hbmIdle || b.host.rehash.isSome then (b.setB HBM_ERR 0, false)
  else
    let b := b.setB HBM_STAT 1
    let b := b.emptyPool
    ({ b with host := { b.host with rehash := some (b.rdF HBM_HASH_P 0 2) } }, true)

/-- REHASH_COMPLETE (R415): the hash is in force, the contents of HBM are undefined, and waiting requests proceed. -/
def rehashDone (b : Block) : Block :=
  match b.host.rehash with
  | none => b
  | some h =>
    let q := b.host.bar2Q
    let b := { b with host := { b.host with rehash := none, bar2Q := [] }, hbmGen := b.hbmGen + 1,
                      mem := b.mem.keep fun a => decide (b.grade.bytes ≤ a) }
    let b := ((b.wr HBM_CFG (wd h)).clrB HBM_STAT 1).raise P_HBM 3
    b.each q Block.bar2Do

/-! ## Imbalance (R417) -/

/-- HBM_WINDOW_END (R417). The ratio is cut to Q8.8; the first of several equal pseudo-channels is named. -/
def hbmWindowEnd (b : Block) : Block :=
  let cnt (p : Nat) : Nat := b.host.hbmCnt.get (fun _ => 0) (p % 16)
  let ps := List.range 64
  let total := ps.foldl (fun a p => a + cnt p) 0
  let b' := { b with host := { b.host with hbmCnt := [] } }
  if total < 65536 then b' else
  let top := ps.foldl (fun m p => if cnt m < cnt p then p else m) 0
  let ratio := 64 * 256 * cnt top / total
  let b := b'.each ps fun b p => b.wr (HBM_PC_CNT p) (wd (min (cnt p) (2 ^ 32 - 1)))
  let b := b.wr HBM_IMB (wd (ratio % 65536 + top * 65536))
  if b.rdF HBM_IMBTHR 0 16 < ratio then
    (((b.setB HBM_STAT 2).bump HBM_IMBCNT).raise P_HBM 0).ev 0x6001 0 [(2, ratio), (1, b.rdF HBM_CFG 0 2)]
  else b.clrB HBM_STAT 2

/-! ## Host DMA (R430) -/

/-- A DMA channel fails for a reason; a refused GO (reason 6) leaves the running copy alone. -/
def Block.dmaFail (b : Block) (c reason : Nat) : Block :=
  let b := b.when (reason != 6) fun b => (b.setDma c none).clrB (GLB_DMA_STAT c) 0
  let b := (b.setB (GLB_DMA_STAT c) 2).wrF (GLB_DMA_STAT c) 4 4 reason
  (b.raise P_GLB 5).ev 0x6104 0 [(1, c), (1, reason)]

/-- The channel ends its copy with reason 5 (ABORT, or FLR of PF0). -/
def Block.dmaAbort (b : Block) (c : Nat) : Block := if (b.dma c).isSome then b.dmaFail c 5 else b

/-- GO on channel `c` with the other bits of the write `v`. -/
def Block.dmaGo (b : Block) (c : Nat) (v : Word) : Block :=
  if (b.dma c).isSome then b.dmaFail c 6 else
  let h := (b.rd (GLB_DMA_HADDR_LO c)).toNat + (b.rd (GLB_DMA_HADDR_HI c)).toNat * 2 ^ 32
  let a := (b.rd (GLB_DMA_MADDR_LO c)).toNat + b.rdF (GLB_DMA_MADDR_HI c) 0 8 * 2 ^ 32
  let n := (b.rd (GLB_DMA_LEN c)).toNat
  let toHost := bit v 1
  let b := b.wr (GLB_DMA_DONELEN c) 0
  if n = 0 then b.dmaFail c 3 else
  match mspan b.grade a n with
  | .reserved => b.dmaFail c 1
  | .beyond => (b.accessFault (if mspace b.grade a = .beyond then a else b.grade.bytes) 0).dmaFail c 1
  | sp =>
    if sp = .hbm ∧ b.domUp .hbm = false then
      ((b.recErr 0 0 a (!toHost)).ev 0x6101 0 [(1, 0), (5, a), (1, b2n (!toHost))]).send (.errResp .pf0 (!toHost))
    else if !toHost && b.hitsProgram a n then b.dmaFail c 2
    else (b.setDma c (some ⟨toHost, bit v 2, h, a, n⟩)).setB (GLB_DMA_STAT c) 0

/-- A write of `GLB_DMA_CTRL[c]`: ABORT before GO. -/
def dmaCtrlWrite (c : Nat) (v : Word) (b : Block) : Block × Bool :=
  let b := b.when (bit v 3) fun b => b.dmaAbort c
  (b.when (bit v 0) fun b => b.dmaGo c v, bit v 0 || bit v 3)

/-- DMA_COMPLETE (R430, R419): the copy of channel `c` ends. `hdata` is what the host returned, `x` what ECC observed,
`fail` the bytes moved before a PCIe completion error. A copy with an uncorrectable sector ends behind that sector. -/
def dmaDone (c : Nat) (hdata : List Byte) (x : Ecc) (fail : Option Nat) (b : Block) : Block :=
  match b.dma c with
  | none => b
  | some q =>
    if b.host.rehash.isSome && decide (mspace b.grade q.maddr = .hbm) then b else
    if !q.toHost && b.hitsProgram q.maddr q.len then b.dmaFail c 2 else
    let bad := if q.toHost then (x.ue.filter fun u => decide (q.maddr < u / 64 * 64 + 64 ∧ u < q.maddr + q.len)).foldl
      (fun (m : Option Nat) u => some (match m with | some w => min w u | none => u)) none else none
    let full := match bad with | some u => min q.len (u / 64 * 64 + 64 - q.maddr) | none => q.len
    let n := match fail with | some k => min k full | none => full
    -- a host that returns fewer bytes than asked for ends the copy with a completion error
    let short := !q.toHost && decide (hdata.length < n)
    let n := if short then hdata.length else n
    let b := b.when q.toHost fun b => b.eccSeen x 6
    let b := (if q.toHost then
        let (b, bs) := b.freePoison x.ue q.maddr (b.rdBytes q.maddr n)
        b.send (.hostMem q.haddr bs bad.isSome)
      else b.wrBytes q.maddr ((List.range n).map fun i => hdata.getD i 0)).hbmTouch q.maddr n
    let b := b.wr (GLB_DMA_DONELEN c) (wd n)
    if fail.isSome || short then b.dmaFail c 4
    else if bad.isSome then b.dmaFail c 7
    else
      let b := ((b.setDma c none).clrB (GLB_DMA_STAT c) 0).setB (GLB_DMA_STAT c) 1
      b.when q.irq fun b => b.raise P_GLB (1 + c)

/-! ## The frame-program window (R432, R305) -/

/-- A write through the frame-program window: bytes inside the running program are ignored, and the write counted. -/
def fpWrite (a : Nat) (bs : List (Option Byte)) (b : Block) : Block :=
  let inside (i : Nat) : Bool := b.hitsProgram (fpBase + a + i) 1
  let en := (bs.zip (List.range bs.length)).filter fun q => q.1.isSome
  let b' := b.wrEnabled (fpBase + a) ((bs.zip (List.range bs.length)).map fun q => if inside q.2 then none else q.1)
  if en.any fun q => inside q.2 then b'.bump MSQ_PWREF else b'

/-- A write of one of the memory windows of BAR0: PCIe power state, reach and domain come first (R427, R438, R440). -/
def Block.window (b : Block) (m : Master) (off : Nat) (eff : Block → Block) : Block := b.gate m off fun b => (eff b, true)

/-! ## Meanings -/

/-- HBM (R293). -/
def execDHbm (idx : Nat) (d : Desc) (ecc : Ecc) (s : State) : Res := s.done (hbmEff idx d ecc)
/-- REHASH (R415). -/
def execRehash (m : Master) (v : Word) (s : State) : Res := s.done fun b => b.gate m HBM_CMD (hbmCmdWrite (v ||| 1))
/-- REHASH_COMPLETE (R415). -/
def execRehashComplete (s : State) : Res := s.done rehashDone
/-- HBM_WINDOW_END (R417). -/
def execHbmWindowEnd (s : State) : Res := s.done hbmWindowEnd
/-- BAR2_READ (R424). -/
def execBar2Read (a : BitVec 37) (n : Nat) (ecc : Ecc) (s : State) : Res :=
  s.done fun b => b.bar2 a.toNat (.read a.toNat n ecc)
/-- BAR2_WRITE (R424). -/
def execBar2Write (a : BitVec 37) (bytes : List (Option Byte)) (s : State) : Res :=
  s.done fun b => b.bar2 a.toNat (.write a.toNat bytes)
/-- DMA_GO (R430). -/
def execDmaGo (m : Master) (c : Fin 4) (v : Word) (s : State) : Res :=
  s.done fun b => b.gate m (GLB_DMA_CTRL c) (dmaCtrlWrite c (v ||| 1))
/-- DMA_ABORT (R430). -/
def execDmaAbort (m : Master) (c : Fin 4) (v : Word) (s : State) : Res :=
  s.done fun b => b.gate m (GLB_DMA_CTRL c) (dmaCtrlWrite c (v ||| 8))
/-- DMA_COMPLETE (R430). -/
def execDmaComplete (c : Fin 4) (hdata : List Byte) (ecc : Ecc) (fail : Option Nat) (s : State) : Res :=
  s.done (dmaDone c hdata ecc fail)
/-- FRAME_PROGRAM_WINDOW_WRITE (R432). -/
def execFrameProgramWindowWrite (m : Master) (a : Fin 4194304) (bytes : List (Option Byte)) (s : State) : Res :=
  s.done fun b => b.window m (0x1400000 + a) (fpWrite a (bytes.take (4194304 - a)))

end Sys2Proof.Machine
end

