-- ==== Sys2Proof/Machine/RingTable.lean ====
section
/-! DEFINITION. The ring tables of the dynamic engines (R243 to R245, R268 to R270). -/

namespace Sys2Proof.Machine

/-- The first entry that breaks a condition of R244. -/
def tblBad (t : SMap Word) : Option Nat :=
  (List.range 256).find? fun i =>
    let w := tblGet t i
    let p := tblGet t (i - 1)
    decide (15073 < (tWreal w).natAbs) || (i == 128 && tWreal w != 0) || fld w 8 8 != 0
      || (i != 0 && (decide (tCode w < tCode p) || decide (tWreal w < tWreal p)
            || ((tWreal w == tWreal p) != (tCode w == tCode p))))

/-- A write of `DEN_TBL_CTRL` with `ARM` (R244). -/
def denTblArm (e : Nat) (b : Block) : Block × Bool :=
  if b.rdB (DEN_TBL_CTRL e) 0 then (b, true) else
  match tblBad (b.eng e).dyn.tblP with
  | some i =>
    let b := (b.setB (DEN_TBL_STAT e) 2).wrF (DEN_TBL_STAT e) 8 8 i
    ((b.raise (P_DEN e) 2).ev 0x4402 0 [(1, e), (1, i)], true)
  | none => ((b.setB (DEN_TBL_CTRL e) 0).setB (DEN_TBL_STAT e) 0, true)

/-- The entry index advanced when `AINC` is set (R269). -/
def Block.tblNext (b : Block) (e : Nat) : Block :=
  if b.rdB (DEN_TBL_ADDR e) 31 then b.wrF (DEN_TBL_ADDR e) 0 8 (b.rdF (DEN_TBL_ADDR e) 0 8 + 1) else b

/-- A write of `DEN_TBL_DATA` (R268, R269): refused while armed. -/
def denTblWrite (e : Nat) (v : Word) (b : Block) : Block × Bool :=
  if b.rdB (DEN_TBL_CTRL e) 0 then (b.setB (DEN_TBL_STAT e) 3, false) else
  let i := b.rdF (DEN_TBL_ADDR e) 0 8
  let b := b.updEng e fun x => { x with dyn := { x.dyn with tblP := x.dyn.tblP.set tblDefault i v } }
  (b.tblNext e, true)

/-- What `DEN_TBL_DATA` shows. -/
def Block.tblWord (b : Block) (e : Nat) : Word :=
  let d := (b.eng e).dyn
  tblGet (if b.rdB (DEN_TBL_ADDR e) 8 then d.tblP else d.tblF) (b.rdF (DEN_TBL_ADDR e) 0 8)

/-- An armed ring table comes into force at a boundary (R244), `frame` its frame ID. -/
def Block.tblBoundary (b : Block) (e : Nat) (frame : Word) : Block :=
  if !b.rdB (DEN_TBL_CTRL e) 0 then b else
  let b := b.updEng e fun x => { x with dyn := { x.dyn with tblF := x.dyn.tblP } }
  let b := ((b.clrB (DEN_TBL_CTRL e) 0).clrB (DEN_TBL_STAT e) 0).setB (DEN_TBL_STAT e) 1
  (b.raise (P_DEN e) 1).evF 0x4404 0 [(1, e)] frame

/-- DEN_TBL_ARM (R244). -/
def execDenTblArm (m : Master) (n : Fin 8) (s : State) : Res :=
  s.done fun b => b.gate m (DEN_TBL_CTRL (64 + n)) (denTblArm (64 + n))
/-- DEN_TBL_DATA_WRITE (R268). -/
def execDenTblDataWrite (m : Master) (n : Fin 8) (v : Word) (s : State) : Res :=
  s.done fun b => b.gate m (DEN_TBL_DATA (64 + n)) (denTblWrite (64 + n) v)

end Sys2Proof.Machine
end

