-- ==== Sys2Proof/Machine/Calibrate.lean ====
section
/-! DEFINITION. Calibration: triggers, scheduling, the probe and its hold, the fit and its acceptance, bringing results
into force (R321 to R340), and the tuning curve (R339). -/

namespace Sys2Proof.Machine

/-! ## Triggers and scheduling (R322 to R324) -/

def bandOf (e q : Nat) : Nat := if e < 64 then q / 8 else q / 2

/-- A write of `ASY_REQ` with `GO` (R322, R323, R343). -/
def asyReq (s : Nat) (v : Word) (b : Block) : Block × Bool :=
  if !bit v 31 then (b, false) else
  let slot := fld v 0 5
  let q := fld v 5 6
  let scope := fld v 12 2
  let e := engAt s slot
  if 17 < slot ∨ (regionsOf e).length ≤ q ∨ scope = 3 then (b.raise (P_ASY s) 5, false) else
  let qs := (regionsOf e).filter fun k => scope == 2 || (scope == 1 && bandOf e k == bandOf e q) || k == q
  (b.each qs fun b k => b.makeDue e k scope true, true)

/-- CAL_TEMP_CHECK (R322, R358). A region whose calibration is accepted and not yet in force is left out. -/
def tempCheck (s : Nat) (b : Block) : Block :=
  if !b.lit then b else
  b.each ((List.range 18).map (engAt s)) fun b e =>
    let waits (q : Nat) : Bool := (b.stk s).calDone.any fun c => c.eng == e && c.regions.contains q
    let b := b.when (b.rdB (ASY_CTRL s) 1) fun b => b.each (regionsOf e) fun b q =>
      if b.beyond e q && !waits q then b.makeDue e q 0 false else b
    b.showBeyond e

/-- The engine of a stack with the oldest due region: engine, region, when it became due (R324). An engine whose accepted
results still wait to come into force is not calibrated again (DESIGN CHOICE, assumption 90). -/
def Block.calPick (b : Block) (s : Nat) : Option (Nat × Nat × BitVec 64) :=
  (((List.range 18).filter fun n => (b.calWaiting (engAt s n)).isNone).flatMap fun n => (regionsOf (engAt s n)).map fun q => (engAt s n, q)).foldl (fun best (e, q) =>
    match (b.region e q).due, best with
    | none, _ => best
    | some (t, _), none => some (e, q, t)
    | some (t, _), some (_, _, t0) => if t.toNat < t0.toNat then some (e, q, t) else best) none

/-- Scope and regions of a calibration: the smallest scope that covers the engine's due regions (R323). -/
def Block.calScope (b : Block) (e : Nat) : Nat × List Nat :=
  let due := (regionsOf e).filterMap fun q => (b.region e q).due.map fun d => (q, d.2)
  let band := bandOf e ((due.map (·.1)).headD 0)
  if due.any (fun d => d.2 == 2) || due.any (fun d => bandOf e d.1 != band) then (2, regionsOf e)
  else if due.any (fun d => d.2 == 1) || decide (1 < due.length) then (1, (regionsOf e).filter fun q => bandOf e q == band)
  else (0, due.map (·.1))

/-- CALIBRATION_START (R324, R338): the oldest due engine, once a start condition holds. -/
def calStart (s : Nat) (b : Block) : Block :=
  if (b.stk s).cal.isSome ∨ !b.lit ∨ !b.mionusRuns then b else
  match b.calPick s with
  | none => b
  | some (e, q, t) =>
    let x := b.eng e
    let late := b.rdF (ASY_SCHED s) 16 16 * 250000 ≤ (b.time - t).toNat
    let ready := !b.inFrame || (if e < 64 then x.passes.isEmpty || late
      else b.noRows e && x.dyn.shadow.isEmpty && x.dyn.jobs.isEmpty)
    if !ready ∨ x.rangeNew then b else
    let (scope, qs) := b.calScope e
    let c : Cal := { eng := e, scope := scope, regions := qs, first := q, attempt := 1, decoded := false, hold := false,
                     point := 0, broken := false, fitting := false, retry := false, res := none, armed := false }
    let b := b.updStk s fun k => { k with cal := some c, decoding := e < 64 }
    (b.updEng e fun x => { x with calRun := true }).wakeRun e

/-- The rows whose results a calibration applies. -/
def Cal.rows (c : Cal) : List Nat :=
  let bands := (c.regions.map (bandOf c.eng)).dedup
  let n := if c.eng < 64 then 64 else 32
  bands.flatMap fun k => (List.range n).map (n * k + ·)

/-- CAL_DECODE_COMPLETE (R328, R337): a decode fault abandons the calibration with cause 8. -/
def calDecoded (s : Nat) (b : Block) : Block :=
  match (b.stk s).cal with
  | none => b
  | some c =>
    if c.decoded then b.calHoldBegin s else
    let x := b.eng c.eng
    let bad := c.eng < 64 && c.rows.any fun r => (x.exactRow c.eng r [] false).isNone
    let b := b.updStk s fun k => { k with decoding := false }
    if bad then b.calStop s 1 8
    else (b.updStk s fun k => { k with cal := some { c with decoded := true } }).calHoldBegin s

/-! ## The probe (R325 to R328) -/

/-- Probe points of the two runs together (R325, R338). -/
def probePoints (e : Nat) : Nat := if e < 64 then 6 else 4

/-- `H[t][i]` of the Sylvester Hadamard matrix (R325): the sign is the parity of the bits that `t` and `i` share. The
recursion printed in R325 leaves out that `i` loses its lowest bit (DEDUCED, assumption 93). -/
def hadamard (t i : Nat) : Int := if popCount 9 (t &&& i) % 2 = 0 then 1 else -1

/-- The order of the matrix: inputs driven by the probe (R325, R338). -/
def probeN (e : Nat) : Nat := if e < 64 then 512 else 128

/-- The value of input `i` in probe symbol `t`. -/
def probeX (e t i : Nat) : Int := 32 * hadamard (t % probeN e) i

/-- The drive codes of probe symbol `t`: mode A7 on a resident engine (R45), KEY on a dynamic one (R247). -/
def probeDrive (e t : Nat) : List Nat :=
  (List.range (probeN e)).map fun i => (probeX e t i + (if e < 64 then 64 else 128)).toNat

/-- The values that the rings of row `r` of a dynamic engine hold at probe point `k` (R338): `v` = +96, then −96, in the
held regions; other rings hold 0 (DESIGN CHOICE, assumption 93). -/
def Cal.dynVals (c : Cal) (r k : Nat) : List Int :=
  (List.range 128).map fun j => if c.regions.contains (regionAt c.eng r (j / 64)) then (if k = 0 then 96 else -96) else 0

/-- The measured value and the expected value of one probe symbol of row `r` (R315), in units of 1/256 LSB; the expected
value counts as 0 where the row does not decode. -/
def Block.probeSample (b : Block) (c : Cal) (r k t : Nat) (code : BitVec 8) : Int × Int :=
  let e := c.eng
  let x := b.eng e
  let sh := b.rdF (if e < 64 then ENG_OSCALE e else DEN_OSCALE e) 8 5
  let lsb (v : Int) : Int := (⟨v * 256, 2 ^ sh⟩ : Fr).rneInt
  if e < 64 then
    let y : Sym := { bus := 0, drive := probeDrive e t, offset := true, flags := 0 }
    (lsb (rowY x.fg sh r code y), lsb ((x.exactRow e r y.drive true).getD 0))
  else
    let row := x.fillRow e r (c.dynVals r k) false
    (lsb (row.y sh code (probeDrive e t) true), lsb (row.exact ((List.range 128).map (probeX e t))))

/-- One point of a run of row `r` added to what is accumulated: `k` is the point of the run (R319, R327, R350). -/
def Block.probeAcc (b : Block) (c : Cal) (r k : Nat) (adc : List (BitVec 8)) (a : ProbeAcc) : ProbeAcc :=
  let e := c.eng
  let ms := (adc.zip (List.range adc.length)).map fun (v, t) => b.probeSample c r k t v
  let est := (List.range (probeN e)).map fun i =>
    (ms.zip (List.range ms.length)).foldl (fun s (x : (Int × Int) × Nat) => s + hadamard (x.2 % probeN e) i * x.1.1) 0
  let pt := if e < 64 then k else k + 1
  if pt = 0 ∨ (64 ≤ e ∧ k = 0) then
    let err (t : Nat) : Int := (ms.getD t (0, 0)).1 - (ms.getD t (0, 0)).2
    let d := (List.range (ms.length - probeN e)).foldl (fun s t => s + (err (t + probeN e) - err t).natAbs ^ 2) 0
    let a := { a with sums := ms.foldl (fun w (m : Int × Int) => w.add m.2 m.1 false) {}, dsum := d }
    if pt = 0 then { a with ec := est } else { a with ep := est }
  else if pt = 1 then { a with ep := est } else { a with en := est }

/-- The bias step of the held regions at probe point `k` of a run (R325, R326): 0, +δ, −δ word equivalents. -/
def Block.stepHeld (b : Block) (c : Cal) (k : Nat) : Block :=
  let d : Int := b.rdF (ASY_CFG (stackOf c.eng)) 16 8
  let v : Int := if 64 ≤ c.eng then 0 else if k = 1 then d else if k = 2 then -d else 0
  b.holdStep c v

/-- PROBE_POINT_COMPLETE (R325 to R329): the point's symbols are accumulated, with the row ADC codes as the analogue chain
delivers them, and the held regions take the next point's bias. The last point of the second run ends the hold. A fill
or pass of a dynamic engine that waits runs now (R338). -/
def probePoint (s : Nat) (adc : List (List (BitVec 8))) (b : Block) : Block :=
  match (b.stk s).cal with
  | none => b
  | some c =>
    if !c.hold || c.broken then b else
    let n := probePoints c.eng / 2
    let k := c.point % n
    let acc := (adc.zip (List.range (rowsOfEng c.eng))).foldl (fun m (codes, r) =>
      m.upd (fun _ => {}) (512 * (c.point / n) + r) (b.probeAcc c r k codes)) c.acc
    let c := { c with acc := acc }
    if c.point + 1 < probePoints c.eng then
      let b := b.updStk s fun k =>
        { k with cal := some { c with point := c.point + 1, broken := c.yields, yields := false } }
      let b := b.stepHeld c (if c.yields then 0 else (c.point + 1) % n)
      b.when c.yields fun b => b.pumpAll s
    else
      let b := ((b.stepHeld c 0).releaseHold c).updStk s fun k =>
        { k with cal := some { c with hold := false, point := 0, yields := false, fitting := true } }
      b.pumpAll s

/-- PROBE_POINT_RESTART (R328): the engine has had no pass for `GAP` µs. -/
def probeRestart (s : Nat) (b : Block) : Block :=
  match (b.stk s).cal with
  | some c =>
    if c.hold && c.broken && (b.eng c.eng).passes.isEmpty && (b.eng c.eng).dyn.jobs.isEmpty then
      let b := b.updStk s fun k => { k with cal := some { c with broken := false } }
      (b.stepHeld c (c.point % (probePoints c.eng / 2))).when (64 ≤ c.eng) fun b => b.dynStow c.eng
    else b
  | none => b

/-- CAL_HOLD_LIMIT (R328). -/
def calHoldLimit (s : Nat) (b : Block) : Block :=
  match (b.stk s).cal with | some c => if c.hold then b.calStop s 1 2 else b | none => b

/-! ## The fit (R329, R330, R332, R338) -/

/-- The fit of one row from both runs: gains and offsets of the runs and their means. -/
structure RowFit where
  row : Nat
  aA : Fr
  aB : Fr
  cA : Fr
  cB : Fr
  a : Fr
  c : Fr
  resA : Fr
  msA : Fr
  meanA : Fr
  d : Nat

def half2 (x y : Fr) : Fr := (x.add y).mul ⟨1, 2⟩

/-- The fit of row `r` from what both runs accumulated. A row whose expected values are all equal keeps its gain: `a`
counts as 1 (assumption 26). -/
def rowFit (r : Nat) (p q : ProbeAcc) : RowFit :=
  let fit (w : Sums) : Fit := fitOf 4096 w.sx w.se w.sxx w.see w.smx
  let fa := fit p.sums
  let fb := fit q.sums
  let aA := fa.a.getD ⟨1, 1⟩
  let aB := fb.a.getD ⟨1, 1⟩
  { row := r, aA := aA, aB := aB, cA := fa.c, cB := fb.c, a := half2 aA aB, c := half2 fa.c fb.c,
    resA := fa.res2, msA := ⟨p.sums.see, 4096⟩, meanA := ⟨p.sums.se, 4096⟩, d := p.dsum }

/-- The new row trims of R329 before clamping: gain and offset. -/
def rowTrims (gain ofs : Int) (f : RowFit) : Int × Int :=
  let g := ((((Fr.ofInt (16000 + 15 * gain)).div f.a).sub (Fr.ofInt 16000)).mul ⟨1, 15⟩).rneInt
  let o := (((Fr.ofInt ofs).sub (f.c.mul ⟨1, 32⟩)).div f.a).rneInt
  (g, o)

/-- Weight estimates of one ring at the three points, in Q1.14 units (R327): of each run and averaged, divided by the
row's gain. -/
abbrev Est3 := Fr × Fr × Fr

/-- The estimates of run sums `p` for input `i` of a row with section scale `sc` and `SHIFT` `sh`. -/
def estOf (sh sc i : Nat) (c a : Fr) (p : Int × Int × Int) : Est3 :=
  let one (v : Int) : Fr :=
    let v := (Fr.ofInt v).sub (if i = 0 then c.mul ⟨4096, 1⟩ else ⟨0, 1⟩)
    ((v.mul ⟨2 ^ sh, 256 * 4096 * 32 * sc⟩).div a)
  (one p.1, one p.2.1, one p.2.2)

def est2 (x y : Est3) : Est3 := (half2 x.1 y.1, half2 x.2.1 y.2.1, half2 x.2.2 y.2.2)
def estDiv (x : Est3) (d : Fr) : Est3 := (x.1.div d, x.2.1.div d, x.2.2.div d)

/-- What a ring fit answers: the two trims before clamping, the new word (codes of a dynamic ring; none where the formula
divides by a slope of 0), and whether the measured slope has the right sign and the trims lie in range. -/
structure RingFit where
  g : Int
  o : Int
  v : Option Fr
  ok : Bool

/-- A ring without a fit. -/
def RingFit.none : RingFit := ⟨0, 0, .none, false⟩

/-- What the fit of a resident ring rests on: `w_t`, position, word in force, `RGAIN`, curve, δ. -/
structure RingIn where
  wt : Int
  pos : Nat
  v : Nat
  rg : Int
  curve : List Int
  delta : Nat

def inTrim (x : Int) : Bool := decide (-512 ≤ x ∧ x ≤ 511)

/-- The ring fit of R330. -/
def ringFit (r : RingIn) (w : Est3) : RingFit :=
  let i := r.pos / 16
  let dc := r.curve.getD (i + 1) 0 - r.curve.getD i 0
  let k : Fr := ⟨dc, 16⟩
  let m := (w.2.1.sub w.2.2).mul ⟨1, 2 * r.delta⟩
  let steep := r.curve.getD 255 0 - r.curve.getD 0 0 ≤ 510 * dc
  if dc ≤ 0 ∨ (steep ∧ m.n = 0) then .none else
  let eta : Fr := if steep then m.div k else ⟨4096, (4096 + r.rg).toNat⟩
  let g := if steep then (((Fr.ofInt 4096).div eta).sub (Fr.ofInt 4096)).rneInt else r.rg
  let v := (Fr.ofInt r.v).sub ((w.1.sub (Fr.ofInt r.wt)).div (k.mul eta))
  let o := ((v.sub ⟨r.pos * (4096 + g), 4096⟩).mul ⟨2, 1⟩).rneInt
  ⟨g, o, some v, decide (0 < m.n) && inTrim g && inTrim o⟩

/-- The ring fit of a dynamic ring (R338): the two-point line through `v = ±96`. -/
def dynRingFit (x : Eng) (raw : Nat) (w : Est3) : RingFit :=
  let e1 := tblGet x.dyn.tblF 224
  let e0 := tblGet x.dyn.tblF 32
  let dc : Int := (tCode e1 : Int) - tCode e0
  let g := sext 6 raw
  let o := sext 8 (raw / 256)
  let u (c : Nat) : Fr := (⟨(c : Int) * (500 + g), 500⟩ : Fr).add ⟨o, 8⟩
  if dc ≤ 0 ∨ tWreal e1 = tWreal e0 then .none else
  let slope : Fr := ⟨tWreal e1 - tWreal e0, dc.toNat⟩
  let u1 := (u (tCode e1)).add (((Fr.ofInt (tWreal e1)).sub w.2.1).div slope)
  let u0 := (u (tCode e0)).add (((Fr.ofInt (tWreal e0)).sub w.2.2).div slope)
  let g' := ((((u1.sub u0).div (Fr.ofInt dc)).sub ⟨1, 1⟩).mul ⟨500, 1⟩).rneInt
  let mid : Fr := ⟨((tCode e1 + tCode e0 : Nat) : Int) * (500 + g'), 1000⟩
  let o' := (((half2 u1 u0).sub mid).mul ⟨8, 1⟩).rneInt
  ⟨g', o', some (half2 u1 u0), w.2.2.lt w.2.1 && decide (-32 ≤ g' ∧ g' ≤ 31) && decide (-128 ≤ o' ∧ o' ≤ 127)⟩

/-- The trims of a fit as the raw word of `TRM_RDATA`, clamped to their range (R332). -/
def trimRaw (e : Nat) (f : RingFit) : Nat :=
  if e < 64 then unsx 10 (clampI (-512) 511 f.g) + unsx 10 (clampI (-512) 511 f.o) * 65536
  else unsx 6 (clampI (-32) 31 f.g) + unsx 8 (clampI (-128) 127 f.o) * 256

/-- The median of a list of values; of an even number of values the mean of the middle two (assumption 26). -/
def median (xs : List Fr) : Option Fr :=
  let ins (x : Fr) (l : List Fr) : List Fr := l.takeWhile (fun y => y.le x) ++ [x] ++ l.dropWhile fun y => y.le x
  let l := xs.foldl (fun l x => ins x l) []
  let n := l.length
  if n = 0 then none
  else if n % 2 = 1 then l[n / 2]?
  else match l[n / 2 - 1]?, l[n / 2]? with | some x, some y => some (half2 x y) | _, _ => none

/-- One ring or parked input with its estimates: row, input, ring (none when parked), and the estimates of run A, of run
B and averaged. -/
structure Meas where
  row : Nat
  input : Nat
  ring : Option Nat
  ea : Est3
  eb : Est3
  em : Est3

/-- `w_t` of a ring of a resident engine, with its code; a dynamic ring is judged at `v = 0`. -/
def Eng.ringWt (x : Eng) (e ring : Nat) : Option (Nat × Int) :=
  if 64 ≤ e then some (0, 0) else
  (x.code ring).map fun c => (c, sext 16 (x.fg.cb.get (fun _ => 0) c))

/-- The estimates of an engine's rings and parked inputs in the rows probed (R327, R330): inputs of disabled sections give
none. -/
def Block.measOf (b : Block) (c : Cal) (fits : List RowFit) : List Meas :=
  let e := c.eng
  let x := b.eng e
  let sh := b.rdF (if e < 64 then ENG_OSCALE e else DEN_OSCALE e) 8 5
  fits.flatMap fun f => (List.range (probeN e)).filterMap fun i =>
    let g := i / 64
    let sc := if e < 64 then x.fg.scale f.row g else if x.offF.contains (sectKey f.row g) then 0 else 1
    if sc = 0 then none else
    let ring := match activeFor e x.mapF f.row g (i % 64) with
      | k :: _ => some (ringIx e f.row g k)
      | [] => none
    if ring.isNone && !x.parkF.contains (512 * f.row + i) then none else
    let est (run : Nat) : Int × Int × Int :=
      let a := c.acc.get (fun _ => {}) (512 * run + f.row)
      (a.ec.getD i 0, a.ep.getD i 0, a.en.getD i 0)
    let ea := estOf sh sc i f.cA f.a (est 0)
    let eb := estOf sh sc i f.cB f.a (est 1)
    some ⟨f.row, i, ring, ea, eb, est2 ea eb⟩

/-- The medians of engine scope by input (R330). -/
def medians (x : Eng) (e : Nat) (ms : List Meas) : List (Nat × Fr) :=
  (List.range 512).filterMap fun i =>
    let rs := ms.filterMap fun m =>
      if m.input ≠ i then none else
      match m.ring.bind fun k => x.ringWt e k with
      | some (_, w) => if 4096 ≤ w.natAbs then some (m.em.1.div (Fr.ofInt w)) else none
      | none => none
    (median rs).bind fun v => if v.n ≤ 0 then none else some (i, v)

/-! ## Acceptance (R331, R332, R334, R335) -/

/-- Everything the fit of a calibration yields. -/
structure CalFit where
  rows : List RowFit
  rings : List (Nat × Meas × RingFit × RingFit × RingFit)
  parks : List (Nat × Int)
  mods : List (Nat × Int)
  /-- ΔP of each held region (R335). -/
  dp : List Fr

/-- The rows that both runs have probed. -/
def Cal.probed (c : Cal) : List Nat :=
  (c.acc.filter fun a => decide (a.1 < 512) && (c.acc.find (512 + a.1)).isSome).map (·.1)

def Block.calFit (b : Block) (c : Cal) : CalFit :=
  let e := c.eng
  let x := b.eng e
  let s := stackOf e
  let acc (k : Nat) : ProbeAcc := c.acc.get (fun _ => {}) k
  let fits := c.probed.map fun r => rowFit r (acc r) (acc (512 + r))
  let all := b.measOf c fits
  let med := if c.scope = 2 ∧ e < 64 then medians x e all else []
  let mods := med.map fun (i, v) =>
    let line := x.lineF.get (fun _ => 0) i
    let k := (computeLines.findIdx? (· == line)).getD 0
    let m := i / 64 * 68 + k
    let old := sext 8 (b.rdF (TRM_MOD e (m / 2)) (16 * (m % 2)) 8)
    (m, clampI (-128) 127 (((Fr.ofInt (512 + old)).div v).sub (Fr.ofInt 512)).rneInt)
  let held := all.filter fun m => c.regions.contains (regionAt e m.row (m.input / 64))
  let held := held.map fun m => match med.find? fun y => y.1 == m.input with
    | some (_, v) => { m with ea := estDiv m.ea v, eb := estDiv m.eb v, em := estDiv m.em v }
    | none => m
  let curve := b.curveOf (PLT_CURVE s)
  let fit (k : Nat) (w : Est3) : RingFit :=
    let raw := x.trims.get (fun _ => 0) k
    if 64 ≤ e then dynRingFit x raw w else
    match x.ringWt e k with
    | some (code, wt) =>
      ringFit { wt := wt, pos := x.fg.pos.get (fun _ => 0) code, v := x.fg.plate.get (fun _ => 0) k, rg := rgain raw,
                curve := curve, delta := b.rdF (ASY_CFG s) 16 8 } w
    | none => .none
  let rings := held.filterMap fun m => m.ring.map fun k => (k, m, fit k m.ea, fit k m.eb, fit k m.em)
  let parks := held.filterMap fun m =>
    if m.ring.isSome then none else
    let key := 512 * m.row + m.input
    some (key, clampI (-32768) 32767 ((Fr.ofInt (x.wparks.get wparkDef key)).add m.em.1).rneInt)
  let w0 (m : Meas) : Fr := if e < 64 then m.em.1 else half2 m.em.2.1 m.em.2.2
  let dp := c.regions.map fun q =>
    let here := held.filter fun m => m.ring.isSome && regionAt e m.row (m.input / 64) == q
    let num := here.foldl (fun a m => a.add ((Fr.ofInt ((m.ring.bind (x.ringWt e)).getD (0, 0)).2).sub (w0 m))) (⟨0, 1⟩ : Fr)
    let den := here.foldl (fun a m => a.add ((w0 m).add (Fr.ofInt 16384))) (⟨0, 1⟩ : Fr)
    if den.n ≤ 0 then ⟨0, 1⟩ else num.abs.div den
  { rows := fits, rings := rings, parks := parks, mods := mods, dp := dp }

/-- The differences of a row's runs in the units of `ASY_TOL`: 0.01 % and 1/16 LSB (R331, R345). -/
def rowDiff (f : RowFit) : Fr × Fr :=
  ((((f.aA.sub f.aB).abs.div f.a).abs).mul ⟨10000, 1⟩, ((f.cA.sub f.cB).abs).mul ⟨1, 16⟩)

/-- Does a run pair agree (R331)? A ring of which one run gives no word disagrees; one of which neither does fails (R332). -/
def Block.pairAgrees (b : Block) (c : Cal) (f : CalFit) : Bool :=
  let tol := b.rd (ASY_TOL (stackOf c.eng))
  (f.rows.filter fun r => c.rows.contains r.row).all (fun r =>
      let (g, o) := rowDiff r
      g.le (Fr.ofInt (fld tol 0 8)) && o.le (Fr.ofInt (fld tol 8 8)))
    && f.rings.all fun (_, _, fa, fb, _) =>
      match fa.v, fb.v with
      | some u, some v => (u.sub v).abs.le (Fr.ofInt (fld tol 16 8))
      | none, none => true
      | _, _ => false

/-- A pair that disagrees: a retry, or abandonment after the last (R331). -/
def Block.calDisagree (b : Block) (s : Nat) (c : Cal) (f : CalFit) : Block :=
  let retries := b.rdF (ASY_TOL s) 24 4
  if retries < c.attempt then b.calStop s 1 1 else
  let tol := b.rd (ASY_TOL s)
  let score (r : RowFit) : Fr :=
    let (g, o) := rowDiff r
    (g.div (Fr.ofInt (max (fld tol 0 8) 1))).max (o.div (Fr.ofInt (max (fld tol 8 8) 1)))
  let worst := (f.rows.filter fun r => c.rows.contains r.row).foldl (fun (best : Option RowFit) r =>
    match best with | none => some r | some w => if (score w).lt (score r) then some r else some w) none
  let b := match worst with
    | some r => let (g, o) := rowDiff r
      b.ev 0x4702 s [(2, r.row), (2, min g.rneInt.toNat 65535), (1, min o.rneInt.toNat 255)]
    | none => b.ev 0x4702 s
  b.updStk s fun k => { k with cal := some { c with attempt := c.attempt + 1, fitting := false, retry := true, acc := [] } }

/-- The raw trims of a ring after part `i` of `n` equal parts of its correction, rounded half to even (R335). -/
def partRaw (e old new i n : Nat) : Nat :=
  let f (a z : Int) : Int := (⟨a * n + i * (z - a), n⟩ : Fr).rneInt
  if e < 64 then unsx 10 (f (rgain old) (rgain new)) + unsx 10 (f (rofs old) (rofs new)) * 65536
  else unsx 6 (f (sext 6 old) (sext 6 new)) + unsx 8 (f (sext 8 (old / 256)) (sext 8 (new / 256))) * 256

/-- A calibration's ring trims queued as far as the queue has room (R73, R334). The answer is what is left, which comes into
force with them all the same (DESIGN CHOICE, assumption 90). -/
def Block.queueCal (b : Block) (e : Nat) (ws : List (Nat × Nat)) : Block × List (Nat × Nat) :=
  if e < 64 ∧ b.trimsNow e then
    (b.updEng e fun x => { x with trims := putTrims x.trims ws }, [])
  else
    let n := queueLen e - (b.eng e).trimQ.length
    ((b.updEng e fun x => { x with trimQ := x.trimQ ++ (ws.take n).map fun w => ⟨w.1, w.2, true⟩ }).showQueue e, ws.drop n)

/-- The next part of a calibration's ring trims queued, and the rebuild that brings it into force (R334, R335); where no
ring trim or park weight changes the row and modulator trims are armed at once. `replaced` says that a ring was
replaced. -/
def Block.calPart (b : Block) (e : Nat) (res : CalRes) (replaced : Bool) : Block :=
  let (b, more) := b.queueCal e (res.rings.map fun w => (w.1, partRaw e w.2.1 w.2.2 (res.done + 1) (max res.parts 1)))
  let optics := e < 64 && b.rdB (ENG_STATE e) 2 && (replaced || !res.rings.isEmpty || !res.parks.isEmpty)
  let res := { res with more := more, swap := optics, next := false }
  let b := b.updStk (stackOf e) fun k => { k with calDone := k.calDone.map fun c =>
    if c.eng = e then { c with armed := false, res := some res } else c }
  if optics then b.autoRebuild e else b.calArm e

/-- A ring that failed (R332): its event, and its replacement when `AUTOREP` is set. The answer says whether the pending
map changed. -/
def Block.ringFailed (b : Block) (s e k : Nat) (f : RingFit) : Block × Bool :=
  let b := b.ev 0x4704 0 [(3, k), (2, unsx 16 (clampI (-32768) 32767 f.g)), (2, unsx 16 (clampI (-32768) 32767 f.o))]
  if !b.rdB (ASY_CTRL s) 2 then (b.raise (P_ASY s) 2, false) else
  let r := k / ringsPerRow e
  let g := k % ringsPerRow e / 68
  let b := b.wr (ASG_TARGET e) (wd (r + g * 2 ^ 9 + k % 68 * 2 ^ 12))
  if b.asgRefused e none then (b.setB (ASG_STAT e) 4, false) else (b.replaceAt e r g (k % ringsPerRow e % 68), true)

/-- A pair that agrees is accepted (R329 to R335). -/
def Block.calAccept (b : Block) (s : Nat) (c : Cal) (f : CalFit) : Block :=
  let e := c.eng
  let app := f.rows.filter fun r => c.rows.contains r.row
  let spread := app.foldl (fun (acc : Fr × Fr) r => let (g, o) := rowDiff r; (acc.1.max g, acc.2.max o)) (⟨0, 1⟩, ⟨0, 1⟩)
  let b := b.updStk s fun k => { k with cal := none, decoding := false }
  let b := b.each c.regions fun b q => b.updRegion e q fun r =>
    { r with due := r.dueNew, dueNew := none, backoff := false, acc := min (r.acc + 1) 65535 }
  -- row trims
  let (b, rows) := app.foldl (fun (acc : Block × List (Nat × Int × Int)) r =>
    let (b, l) := acc
    let w := b.rd (TRM_ROW e r.row)
    let (g, o) := rowTrims (sext 8 (fld w 16 8)) (sext 8 (fld w 24 8)) r
    let g' := clampI (-128) 127 g
    let o' := clampI (-128) 127 o
    let lim := g != g' || o != o'
    let b := b.when lim fun b => (b.raise (P_ASY s) 3).ev 0x4705 0
      [(1, e), (2, r.row), (2, unsx 16 (clampI (-32768) 32767 g)), (2, unsx 16 (clampI (-32768) 32767 o))]
    let b := b.updStk s fun k => { k with pub := k.pub.upd (fun _ => {}) (asyKey e r.row) fun p =>
      { p with rowlim := lim, cal := wd (pubRms r.msA + pubMean r.meanA * 65536) } }
    (b, l ++ [(r.row, g', o')])) (b, [])
  -- rings
  let bad := f.rings.filter fun (_, _, fa, fb, _) => !fa.ok && !fb.ok
  let good := f.rings.filter fun (_, _, fa, fb, fm) => (fa.ok || fb.ok) && fm.v.isSome
  let (b, rep) := bad.foldl (fun (acc : Block × Bool) (k, _, _, _, fm) =>
    let (b, r) := acc.1.ringFailed s e k fm
    (b, acc.2 || r)) (b, false)
  let dp := f.dp.foldl Fr.max ⟨0, 1⟩
  let tol := max (b.rdF (ASY_STEPTOL s) 0 8) 1
  let n := ((dp.mul ⟨1000, tol⟩).ceil).toNat
  let grad := decide (tol < (dp.mul ⟨1000, 1⟩).ceil.toNat) || b.rdB (ASY_CTRL s) 3
  let noiseDiv : Nat := if e < 64 then 7168 else 7936
  let res : CalRes :=
    { rows := rows, mods := f.mods,
      rings := (good.map fun (k, _, _, _, fm) => (k, (b.eng e).trims.get (fun _ => 0) k, trimRaw e fm)).filter
        fun w => w.2.1 != w.2.2,
      parks := f.parks.filter fun w => (b.eng e).wparks.get wparkDef w.1 != w.2,
      parts := if grad then max n 1 else 1, gradual := grad,
      noise := f.rows.map fun r => (r.row, r.d),
      syst := f.rows.map fun r => (r.row, (r.resA.sub ⟨r.d, noiseDiv⟩).max ⟨0, 1⟩) }
  let b := b.updStk s fun k => { k with calDone := k.calDone ++ [{ c with fitting := false, acc := [], res := some res }] }
  let b := b.wr (ASY_LAST s) (wd (slotOf e * 2 ^ 2 + c.first * 2 ^ 7 + c.scope * 2 ^ 13 + min c.attempt 7 * 2 ^ 16))
  let b := (b.bump (ASY_CALCNT s)).raise (P_ASY s) 0
  let b := b.ev 0x4701 s [(1, slotOf e), (1, c.scope), (1, c.first), (2, min spread.1.rneInt.toNat 65535),
    (1, min spread.2.rneInt.toNat 255)]
  let b := b.when grad fun b =>
    b.ev 0x4706 0 [(1, e), (2, min (dp.mul ⟨1000, 1⟩).rneInt.toNat 65535), (4, res.parts)]
  b.calPart e res rep

/-- CAL_FIT_COMPLETE (R329 to R335). -/
def fitComplete (s : Nat) (b : Block) : Block :=
  match (b.stk s).cal with
  | none => b
  | some c =>
    if !c.fitting || !b.mionusRuns then b else
    let f := b.calFit c
    if b.pairAgrees c f then b.calAccept s c f else b.calDisagree s c f

/-- CAL_RETRY (R331): a retry begins with a new hold, once the engine is in Run. -/
def calRetry (s : Nat) (b : Block) : Block :=
  match (b.stk s).cal with
  | none => b
  | some c =>
    if !c.retry then b else
    let b := b.updStk s fun k => { k with cal := some { c with retry := false } }
    let b := (b.updEng c.eng fun x => { x with calRun := true }).wakeRun c.eng
    b.calHoldBegin s

/-- CAL_BACKOFF_EXPIRY (R331). -/
def backoffExpiry (e q : Nat) (b : Block) : Block := b.updRegion e q fun r => { r with backoff := false }

/-! ## Into force (R334, R350, R351, R358) -/

/-- The mean of a list of values. -/
def meanFr (xs : List Fr) : Fr :=
  if xs.isEmpty then ⟨0, 1⟩ else (xs.foldl Fr.add (⟨0, 1⟩ : Fr)).mul ⟨1, xs.length⟩

/-- The error-budget register refreshed from an accepted calibration (R350, R351, R358). -/
def Block.ebudRefresh (b : Block) (e : Nat) (res : CalRes) : Block :=
  let b := b.updEng e fun x =>
    { x with noiseR := res.noise.foldl (fun m (r, d) => m.put r d) x.noiseR,
             systR := res.syst.foldl (fun m (r, v) => m.put r v) x.systR, ebAt := some b.time }
  let x := b.eng e
  let noiseDiv : Nat := if e < 64 then 7168 else 7936
  let noise := pubRms (meanFr (x.noiseR.map fun y => (⟨y.2, noiseDiv⟩ : Fr)))
  let syst := pubRms (meanFr (x.systR.map (·.2)))
  let b := b.wr (ebud e 0) (wd (noise + syst * 65536))
  let old (j : Nat) (p : RowPub) : RowPub := if j / 512 = slotOf e then { p with sinceCal := false } else p
  let b := b.updStk (stackOf e) fun k => { k with pub := k.pub.mapVals (fun _ => {}) old }
  ((b.wrF (ebud e 1) 16 16 0).setB (ebud e 3) 24).showBeyond e

/-- The entry of engine `e` among the results that wait, changed by `f`. -/
def Block.updRes (b : Block) (e : Nat) (f : CalRes → CalRes) : Block :=
  b.updStk (stackOf e) fun k => { k with calDone := k.calDone.map fun d =>
    if d.eng = e then { d with res := d.res.map f } else d }

/-- Every part of the results of `c` is in force (R334): `T_last` of its regions and the error-budget register. -/
def Block.calInForce (b : Block) (c : Cal) (res : CalRes) : Block :=
  let b := b.each c.regions fun b q => b.updRegion c.eng q fun r =>
    { r with tlast := some (sext 16 (b.rdF (LCK_R_RTEMP c.eng q) 0 16)), calAt := some b.time }
  b.ebudRefresh c.eng res

/-- Accepted calibrations of stack `s` at a boundary, before the halves swap (R39, R334 to R336): armed results come into
force, those that need a swap with a rebuilt half that swaps now. The engine's results then no longer carry STALE for
want of a calibration (R20). -/
def Block.calBoundary (b : Block) (s : Nat) : Block :=
  b.each (b.stk s).calDone fun b c =>
    match c.res with
    | none => b
    | some res =>
      let e := c.eng
      let swaps := b.rdB (ENG_STATE e) 3 && !b.rdB (ENG_STATE e) 4 && (b.eng e).built.any (·.cal)
      if !c.armed || res.slew || res.next || res.swap && !swaps then b else
      let b := b.updEng e fun x =>
        { x with uncal := false,
                 trims := if res.swap then x.trims else putTrims x.trims res.more,
                 wparks := putParks x.wparks res.parks }
      let n := res.done + 1
      if n < res.parts then b.updRes e fun r => { r with done := n, next := true }
      else
        let b := b.updRes e fun r => { r with done := n, slew := true }
        if res.gradual then b else b.calInForce c res

/-- The next part of gradual applications (R335), once the halves have swapped. -/
def Block.calNext (b : Block) (s : Nat) : Block :=
  b.each (b.stk s).calDone fun b c => match c.res with
    | some res => if res.next then b.calPart c.eng res false else b
    | none => b

/-- Once the row trims of results in force have come into force too, the calibration is over (R334, R335): `SLEW` returns to
what it was, and the staging copy takes the trims (R469). -/
def Block.calTrimEnd (b : Block) (s : Nat) : Block :=
  b.each (b.stk s).calDone fun b c => match c.res with
    | some res =>
      if !res.slew || b.rdB (TRM_CTRL c.eng) 0 then b else
      let b := b.updStk s fun k => { k with calDone := k.calDone.filter fun d => d.eng != c.eng }
      let b := b.when res.gradual fun b => b.calInForce c res
      let b := match res.saved with | some y => b.wrB (TRM_CTRL c.eng) 2 (y.ctl.testBit 2) | none => b
      b.stageTrims c.eng
    | none => b

/-- Stow or an `LSAFE_N` trip (R337): a calibration is aborted with cause 5, and results not yet in force are
discarded with the trims they queued and armed. -/
def Block.calDiscard (b : Block) (s : Nat) : Block :=
  let b := b.each (List.range 16) fun b k => b.abortBuild (16 * s + k)
  (b.calStop s 2 5).calDrop s fun _ => true

/-- A reset of Mionus (R337): aborted with cause 6; results already armed come into force normally. -/
def Block.calMionusReset (b : Block) (s : Nat) : Block := (b.calStop s 2 6).calDrop s fun c => !c.armed

/-! ## The tuning curve (R339) -/

/-- The first bad index of a curve for a stack (R339). -/
def Block.curveBad (b : Block) (s : Nat) (c : List Int) : Option Nat :=
  let wl := (List.range 16).map fun k => ((b.rd (ENG_WLIM (16 * s + k))).toNat : Int)
  (List.range 256).find? fun i =>
    let v := c.getD i 0
    decide (16384 < v.natAbs) || (i != 0 && decide (v ≤ c.getD (i - 1) 0))
      || (i == 0 && wl.any fun w => decide (-w < v)) || (i == 255 && wl.any fun w => decide (v ≤ w))

/-- A write of `PLT_CURVE_CTRL` with `ARM` (R339). -/
def curveArm (s : Nat) (b : Block) : Block × Bool :=
  if b.rdB (PLT_CURVE_CTRL s) 0 then (b, true) else
  match b.curveBad s (b.curveOf (PLT_CURVE_P s)) with
  | some i =>
    let b := (b.setB (PLT_CURVE_STAT s) 2).wrF (PLT_CURVE_STAT s) 8 8 i
    ((b.raise (P_PLT s) 1).ev 0x4803 0 [(1, i)], true)
  | none =>
    let b := (b.setB (PLT_CURVE_CTRL s) 0).setB (PLT_CURVE_STAT s) 0
    (b.each (List.range 16) fun b k => b.autoRebuild (16 * s + k), true)

/-- A write of a word of `PLT_CURVE_P`: refused while armed (R339). -/
def curveWrite (s k : Nat) (v : Word) (b : Block) : Block × Bool :=
  if b.rdB (PLT_CURVE_CTRL s) 0 then (b.setB (PLT_CURVE_STAT s) 3, false) else (b.wr (PLT_CURVE_P s k) v, true)

/-- The armed curve at a boundary (R339): in force once every engine that holds a model has swapped a half built with
it; `frame` is the boundary's frame ID. -/
def Block.curveBoundary (b : Block) (s : Nat) (frame : Word) : Block :=
  let es := (List.range 16).map (16 * s + ·)
  if !b.rdB (PLT_CURVE_CTRL s) 0 ∨ es.any (fun e => b.rdB (ENG_STATE e) 2 && !(b.eng e).fg.curve) then b else
  let old := slopeOf (b.curveOf (PLT_CURVE s))
  let b := b.updStk s fun k => if k.slope.isEmpty then { k with slope := old } else k
  let b := b.each (List.range 128) fun b k => b.wr (PLT_CURVE s k) (b.rd (PLT_CURVE_P s k))
  let b := ((b.clrB (PLT_CURVE_CTRL s) 0).clrB (PLT_CURVE_STAT s) 0).setB (PLT_CURVE_STAT s) 1
  let b := b.each es fun b e => b.updEng e fun x =>
    { x with fg := { x.fg with curve := false }, bg := { x.bg with curve := false },
             build := x.build.map fun d => { d with half := { d.half with curve := false } } }
  (b.raise (P_PLT s) 0).evF 0x4804 0 [] frame

/-! ## Meanings -/

/-- ASY_REQ (R323). -/
def execAsyReq (m : Master) (st : Fin 4) (v : Word) (s : State) : Res :=
  s.done fun b => b.gate m (ASY_REQ st) (asyReq st (v ||| 0x80000000))
/-- CAL_TEMP_CHECK (R322). -/
def execCalTempCheck (st : Fin 4) (s : State) : Res := s.done (tempCheck st)
/-- CALIBRATION_START (R324). -/
def execCalibrationStart (st : Fin 4) (s : State) : Res := s.done (calStart st)
/-- CAL_DECODE_COMPLETE (R328). -/
def execCalDecodeComplete (st : Fin 4) (s : State) : Res := s.done (calDecoded st)
/-- PROBE_POINT_COMPLETE (R325). -/
def execProbePointComplete (st : Fin 4) (adc : List (List (BitVec 8))) (s : State) : Res := s.done (probePoint st adc)
/-- PROBE_POINT_RESTART (R328). -/
def execProbePointRestart (st : Fin 4) (s : State) : Res := s.done (probeRestart st)
/-- CAL_HOLD_LIMIT (R328). -/
def execCalHoldLimit (st : Fin 4) (s : State) : Res := s.done (calHoldLimit st)
/-- CAL_FIT_COMPLETE (R331). -/
def execCalFitComplete (st : Fin 4) (s : State) : Res := s.done (fitComplete st)
/-- CAL_RETRY (R331). -/
def execCalRetry (st : Fin 4) (s : State) : Res := s.done (calRetry st)
/-- CAL_BACKOFF_EXPIRY (R331). -/
def execCalBackoffExpiry (e : Fin 72) (q : Fin 64) (s : State) : Res := s.done (backoffExpiry e q)
/-- PLT_CURVE_ARM (R339). -/
def execPltCurveArm (m : Master) (st : Fin 4) (s : State) : Res :=
  s.done fun b => b.gate m (PLT_CURVE_CTRL st) (curveArm st)

end Sys2Proof.Machine
end

