-- ==== Sys2Proof/Machine/Laser.lean ====
section
/-! DEFINITION. Laser control (R502 to R508, R511, R515, R516): the sixteen `LCO` outputs with their set values, ramps,
sines, faults and tie tests, and the laser enables. -/

namespace Sys2Proof.Machine

def Block.pin (b : Block) (n : Nat) : Pin := b.pins.get (fun _ => {}) n
def Block.updPin (b : Block) (n : Nat) (f : Pin → Pin) : Block := { b with pins := b.pins.upd (fun _ => {}) n f }

/-- Is the output stage of pin `n` on: outputs and pin enabled, not latched off, and the island neither in a save nor in
a thermal shutdown (R470, R491)? -/
def Block.pinOn (b : Block) (n : Nat) : Bool :=
  let up : Bool := match b.pw.phase with | .island | .released | .up => true | _ => false
  up && b.rdB LCO_CTRL 0 && b.rdB (LCO_CFG n) 0 && !b.rdB (LCO_PSTAT n) 1

/-- `LCO_PSTAT.ON` of every pin and `LCO_STAT` (R515, R516). -/
def Block.showPins (b : Block) : Block :=
  let b := b.each (List.range 16) fun b n => b.wrB (LCO_PSTAT n) 0 (b.pinOn n)
  let sum (i : Nat) : Nat := (List.range 16).foldl (fun a n => if b.rdB (LCO_PSTAT n) i then a + 2 ^ n else a) 0
  b.wr LCO_STAT (wd (sum 0 + sum 1 * 2 ^ 16))

/-- Is the light coming on or on, so that the pins hold their set values (R503, R509)? -/
def Block.pinsLit (b : Block) : Bool := b.modState != stStow || b.pw.startup.isSome

/-- The code that pin `n` ramps to: its set value in force, or its Stow level (R503). -/
def Block.pinTarget (b : Block) (n : Nat) : Nat :=
  if b.pinsLit then b.rdF (LCO_SET n) 0 12 else b.rdF (LCO_STOWV n) 0 12

/-- The code of the output DAC of pin `n` and whether it was clamped (R504). A ramp between two codes is rounded down:
DESIGN CHOICE (assumption 33). -/
def Block.dacCode (b : Block) (n : Nat) : Nat × Bool :=
  let p := b.pin n
  let base := p.lvl / 125
  let i := (p.ph.toNat / 2 ^ 22 + b.rdF (LCO_SINA n) 16 10) % 1024
  let s : Int := if b.rdB (LCO_CFG n) 2 then (⟨(b.rdF (LCO_SINA n) 0 8 : Int) * sineAt 0 i, 32767⟩ : Fr).rneInt else 0
  let c := clampI 0 4095 (base + s)
  (c.toNat, c != base + s)

/-- One DAC update of every pin that is on (R503, R504), every 64 ns. -/
def Block.pinsUpdate (b : Block) : Block :=
  b.each (List.range 16) fun b n =>
    if !b.pinOn n then b else
    let goal : Int := 125 * b.pinTarget n
    let slew : Int := 8 * b.rdF (LCO_CFG n) 8 8
    let old := (b.dacCode n).1
    let b := b.updPin n fun p =>
      { p with lvl := if slew = 0 then goal else clampI (p.lvl - slew) (p.lvl + slew) goal,
               ph := if b.rdB (LCO_CFG n) 2 then p.ph + b.rd (LCO_SINF n) else p.ph }
    let (new, clamped) := b.dacCode n
    let b := b.when (decide (old + 16 < new ∨ new + 16 < old)) fun b => b.updPin n fun p => { p with moved := some b.time }
    if clamped then b.setB (LCO_PSTAT n) 6 else b

/-- A pin's output stage goes off: its ramp starts from 0 when it comes back (R506). -/
def Block.pinOff (b : Block) (n : Nat) : Block := b.updPin n fun p => { p with lvl := 0, rb := 0, win := 0 }

/-- Was a sample of pin `n` taken within 2 µs of a change of its code by more than 16 (R505)? -/
def Block.pinMoved (b : Block) (n : Nat) : Bool :=
  match (b.pin n).moved with | some t => decide ((b.time - t).toNat < 500) | none => false

/-- Does a sample of the checked quantity differ from the DAC code `dac` by more than 3 % of full scale (R505, cause 2)? In
voltage mode 75 mV between `code` × 16 V / 4,096 and `dac` × 2.5 V / 4,096; in current mode 0.6 mA between `code` × 32 mA /
2,048, signed, and `dac` × 20 mA / 4,096. -/
def rbkOff (current : Bool) (dac code : Nat) : Bool :=
  let x : Int := if current then 80 * sext 12 code else 160 * (code : Int)
  decide (3072 < (x - 25 * (dac : Int)).natAbs)

/-- Does a sample of the other quantity lie outside `LCO_WIN` (R505, cause 3; R515)? In voltage mode the current, from `ILO`
to `IHI` in 0.25 mA; in current mode the voltage, from `VLO` to `VHI` in 0.05 V. -/
def winOff (current : Bool) (win : Word) (code : Nat) : Bool :=
  if current then decide (20 * code < 256 * fld win 16 8 ∨ 256 * fld win 24 8 < 20 * code)
  else
    let c := sext 12 code
    decide (c < 16 * sext 8 (fld win 0 8) ∨ 16 * (fld win 8 8 : Int) < c)

/-- A sample of pin `n` by HKA (`x` false) or HKB: the read-back of its checked quantity, or its other quantity, counted
while it fails (R505). Nothing is compared while the pin is off or the cross-check fails (R500). -/
def Block.pinSample (b : Block) (x : Bool) (n code : Nat) : Block :=
  let current := b.rdB (LCO_CFG n) 1
  let b := b.when (current == x) fun b => b.wrF (LCO_PSTAT n) 20 12 code
  if !b.pinOn n || b.rdB HK_STAT 2 then b
  else if current == x then
    if b.pinMoved n then b else
    let bad := rbkOff current (b.dacCode n).1 code
    b.updPin n fun p => { p with rb := if bad then p.rb + 1 else 0 }
  else
    let bad := winOff current (b.rd (LCO_WIN n)) code
    b.updPin n fun p => { p with win := if bad then p.win + 1 else 0 }

/-- Pin `n` latched off with `cause` (R506). The first condition met is kept (R505). -/
def Block.pinFault (b : Block) (n cause : Nat) : Block :=
  if b.rdB (LCO_PSTAT n) 1 then b else
  let b := ((b.setB (LCO_PSTAT n) 1).wrF (LCO_PSTAT n) 2 3 cause).pinOff n
  ((b.bump LCO_FLTCNT).raise P_LCO 3).ev 0x8201 0 [(1, n), (1, cause), (2, b.rdF (LCO_PSTAT n) 20 12)]

/-- Has pin `n` met the condition of a cause (R505)? The current limit is a comparator's word; causes 2 and 3 need three
consecutive samples, and are suspended while the cross-check fails (R500). -/
def Block.pinFails (b : Block) (n cause : Nat) : Bool :=
  b.pinOn n && (cause == 1 || (!b.rdB HK_STAT 2 &&
    (cause == 2 && decide (3 ≤ (b.pin n).rb) || cause == 3 && decide (3 ≤ (b.pin n).win))))

/-- LCO_PIN_FAULT (R505): the first condition met latches the pin off. -/
def pinFaultSeen (n cause : Nat) (b : Block) : Block :=
  if b.pinFails n cause then (b.pinFault n cause).showPins else b

/-- A write of `LCO_CMD` (R506). -/
def lcoCmdWrite (n : Nat) (v : Word) (b : Block) : Block × Bool :=
  if !bit v 0 then (b, false)
  else if !b.rdB (LCO_PSTAT n) 1 then (b, true)
  else if b.rdF (LCO_PSTAT n) 2 3 = 4 ∧ b.rdB LCO_TIESTAT (16 + n) then (b.setB (LCO_PSTAT n) 7, false)
  else ((((b.clrB (LCO_PSTAT n) 1).wrF (LCO_PSTAT n) 2 3 0).pinOff n).showPins, true)

/-- A write of `LCO_CFG` (R503). -/
def lcoCfgWrite (n : Nat) (v : Word) (b : Block) : Block × Bool :=
  if b.rdB (LCO_CFG n) 0 && b.rdB (LCO_CFG n) 1 != bit v 1 then (b.setB (LCO_PSTAT n) 7, false) else
  let was := b.pinOn n
  let b := (b.wr (LCO_CFG n) (v &&& 0xFF0F)).showPins
  (b.when (was && !b.pinOn n) fun b => b.pinOff n, true)

/-- A write of `LCO_SET` (R503): the shadow, and with `IMM` the value in force. -/
def lcoSetWrite (n : Nat) (v : Word) (b : Block) : Block × Bool :=
  let x : Word := v &&& 0xFFF
  let b := (b.updPin n fun p => { p with set := x }).setB (PG_COMMIT P_LCO) 1
  (b.when (b.rdB (LCO_CFG n) 3) fun b => b.wr (LCO_SET n) x, true)

/-- `PG_COMMIT.GO` of the `LCO` page (R435, R503). -/
def Block.lcoCommit (b : Block) : Block :=
  (b.each (List.range 16) fun b n => b.wr (LCO_SET n) (b.pin n).set).clrB (PG_COMMIT P_LCO) 1

/-- A write of `LCO_CTRL` (R515). -/
def lcoCtrlWrite (v : Word) (b : Block) : Block × Bool :=
  let was := (List.range 16).filter b.pinOn
  let b := (b.wr LCO_CTRL (v &&& 3)).showPins
  (b.each (was.filter fun n => !b.pinOn n) Block.pinOff, true)

/-- `LCO_LENMASK` is writable in Stow alone (R508). -/
def lenMaskWrite (v : Word) (b : Block) : Block × Bool :=
  if b.modState = stStow then (b.wr LCO_LENMASK (v &&& 0xF), true) else (b, false)

/-! ## Tie tests (R507) -/

/-- A tie test begins, only while every `LEN` is low and may not rise. -/
def Block.tieBegin (b : Block) : Block :=
  if b.rdF LCO_LSTAT 0 4 ≠ 0 ∨ b.rdB LCO_LSTAT 6 ∨ b.rdB LCO_TIESTAT 0 then b else b.setB LCO_TIESTAT 0

/-- A write of `LCO_TIECMD` (R507, R511). -/
def tieCmdWrite (v : Word) (b : Block) : Block × Bool :=
  if !bit v 0 then (b, false)
  else if b.rdF LCO_LSTAT 0 4 ≠ 0 ∨ b.rdB LCO_LSTAT 6 then (b.setB LCO_TIESTAT 2, false)
  else (b.tieBegin, true)

/-- A read-back of a tie test: the pin driven, another pin, and the code of HKA at that one. -/
abbrev TieRead := Fin 16 × Fin 16 × BitVec 12

/-- Does a read-back exceed 0.25 V (16 V in 4,096 steps), the pins two enabled ones (R507)? -/
def Block.tied (b : Block) (p : TieRead) : Bool :=
  let en (n : Nat) : Bool := b.rdB LCO_CTRL 0 && b.rdB (LCO_CFG n) 0
  p.1 != p.2.1 && en p.1 && en p.2.1 && decide (64 < p.2.2.toNat)

/-- TIE_TEST_COMPLETE (R507): both pins of every pair fail in which one's read-back rose while the other was driven. -/
def tieDone (reads : List TieRead) (b : Block) : Block :=
  if !b.rdB LCO_TIESTAT 0 then b else
  let bad := (List.range 16).filter fun n => reads.any fun p => b.tied p && (p.1.val == n || p.2.1.val == n)
  let mask := bad.foldl (fun a n => a + 2 ^ n) 0
  let b := ((b.clrB LCO_TIESTAT 0).wrB LCO_TIESTAT 1 bad.isEmpty).wrF LCO_TIESTAT 16 16 mask
  if bad.isEmpty then b else
  let b := (b.each bad fun b n => b.pinFault n 4).showPins
  (b.raise P_LCO 4).ev 0x8205 0 [(2, mask)]

/-! ## Laser enables (R508, R510, R511) -/

/-- `LEN[3:0]` driven low; a running tie test needs nothing more. -/
def Block.lenLow (b : Block) : Block := b.wrF LCO_LSTAT 0 4 0

/-- A write of `LCO_LCMD` by master `m` (R511). -/
def clrTripWrite (m : Master) (v : Word) (b : Block) : Block × Bool :=
  if !bit v 0 then (b, false)
  else if b.rdB LCO_LSTAT 5 then (((b.setB LCO_LSTAT 7).raise P_LCO 1).ev 0x8203 0 [(1, m.id)], false)
  else (b.clrB LCO_LSTAT 4, true)

/-! ## Meanings -/

/-- LCO_PIN_FAULT (R505). -/
def execLcoPinFault (n : Fin 16) (cause : Fin 4) (s : State) : Res := s.done (pinFaultSeen n cause)
/-- LCO_CLR (R506). -/
def execLcoClr (m : Master) (n : Fin 16) (v : Word) (s : State) : Res :=
  s.done fun b => b.gate m (LCO_CMD n) (lcoCmdWrite n (v ||| 1))
/-- LCO_CFG_WRITE (R503). -/
def execLcoCfgWrite (m : Master) (n : Fin 16) (v : Word) (s : State) : Res :=
  s.done fun b => b.gate m (LCO_CFG n) (lcoCfgWrite n v)
/-- LCO_SET_WRITE (R503). -/
def execLcoSetWrite (m : Master) (n : Fin 16) (v : Word) (s : State) : Res :=
  s.done fun b => b.gate m (LCO_SET n) (lcoSetWrite n v)
/-- TIE_TEST (R507). -/
def execTieTest (m : Master) (v : Word) (s : State) : Res := s.done fun b => b.gate m LCO_TIECMD (tieCmdWrite (v ||| 1))
/-- TIE_TEST_COMPLETE (R507). -/
def execTieTestComplete (reads : List (Fin 16 × Fin 16 × BitVec 12)) (s : State) : Res := s.done (tieDone reads)
/-- CLRTRIP (R511). -/
def execClrtrip (m : Master) (v : Word) (s : State) : Res := s.done fun b => b.gate m LCO_LCMD (clrTripWrite m (v ||| 1))

end Sys2Proof.Machine
end

