-- ==== Sys2Proof/Machine/Links.lean ====
section
/-! DEFINITION. Ethernet ports, lane faults, port degrade and lane steering (R366 to R377, R405 to R407). -/

namespace Sys2Proof.Machine

/-! ## Ports and lanes -/

def Block.port (b : Block) (p : Nat) : Port := b.vyv.ports.get (fun _ => {}) p
def Block.updPort (b : Block) (p : Nat) (f : Port → Port) : Block :=
  { b with vyv := { b.vyv with ports := b.vyv.ports.set (fun _ => {}) p (f (b.port p)) } }
/-- The configuration applied to port `p` (R367). -/
def Block.portCfg (b : Block) (p : Nat) : Word := b.vyv.cfg.get (fun p => regDefault (LNK_P_CFG p)) p
def cfgWidth (c : Word) : Nat := fld c 0 2
def cfgEn (c : Word) : Bool := bit c 2
/-- Lanes of port `p` under configuration `c`: its block (R367). -/
def cfgLanes (p : Nat) (c : Word) : List Nat := (List.range (2 ^ cfgWidth c)).map (p + ·)
def Block.portUp (b : Block) (p : Nat) : Bool := b.rdB LNK_CTRL 0 && b.domUp .link && b.rdB (LNK_P_STAT p) 0
/-- The port whose block holds lane `l`. -/
def Block.laneOwner (b : Block) (l : Nat) : Option Nat :=
  (List.range 32).find? fun p => cfgEn (b.portCfg p) && (cfgLanes p (b.portCfg p)).contains l
/-- Lane `l` is neither faulted nor being steered (R370, R376). -/
def Block.laneGood (b : Block) (l : Nat) : Bool := !b.rdB (LNK_L_STAT l) 3 && !b.rdB (LNK_L_STAT l) 7
/-- The good lanes of port `p`'s block, by position in it. -/
def Block.goodLanes (b : Block) (p : Nat) : List Nat :=
  (List.range (2 ^ cfgWidth (b.portCfg p))).filter fun i => b.laneGood (p + i)
/-- The form of `LNK_P_STAT` lane masks: bit `i` for lane `p + i`. -/
def laneMask (is : List Nat) : Nat := is.foldl (fun a i => a + 2 ^ i) 0
/-- `FMASK` of the port that holds lane `l` as its lanes stand. -/
def Block.showFaults (b : Block) (l : Nat) : Block :=
  match b.laneOwner l with
  | none => b
  | some p => b.wrF (LNK_P_STAT p) 16 8
      (laneMask ((List.range (2 ^ cfgWidth (b.portCfg p))).filter fun i => b.rdB (LNK_L_STAT (p + i)) 3))
/-- Lanes in use by port `p`, by position. -/
def Block.usedLanes (b : Block) (p : Nat) : List Nat :=
  (List.range 8).filter fun i => (b.rdF (LNK_P_STAT p) 8 8).testBit i
/-- Has port `p` a lane in use that carries no traffic any more? -/
def Block.laneLost (b : Block) (p : Nat) : Bool := (b.usedLanes p).any fun i => !b.laneGood (p + i)

/-- Port `p` stops; `form` is what it restarts with. -/
def Block.portStop (b : Block) (p : Nat) (form : Option (Nat × Nat)) (narrower : Bool) : Block :=
  let old := b.rdF (LNK_P_STAT p) 1 2
  let b := b.updPort p fun x => { x with form := form, old := old, narrower := narrower, hello := false }
  let b := b.wr (LNK_P_STAT p) (b.rd (LNK_P_STAT p) &&& 0x00FF0060#32)
  b.wrF LNK_UP p 1 0

/-- The widest form of port `p` that its good lanes allow, no wider than log2 `top` (R371). -/
def Block.bestForm (b : Block) (p top : Nat) : Option (Nat × Nat) :=
  let good := b.goodLanes p
  match ((List.range (top + 1)).reverse.find? fun k => decide (2 ^ k ≤ good.length)) with
  | some k => some (k, laneMask (good.take (2 ^ k)))
  | none => none

/-- The faults of the lanes of port `p` cleared: it restarts (R370). -/
def Block.clearLanes (b : Block) (p : Nat) : Block :=
  let b := b.each (cfgLanes p (b.portCfg p)) fun b l =>
    if b.rdB (LNK_L_STAT l) 7 then b else b.wrF (LNK_L_STAT l) 3 4 0
  b.showFaults p

/-! ## Faults (R370 to R373) -/

/-- Does lane `l` serve a port that is up? -/
def Block.laneInUse (b : Block) (l : Nat) : Bool :=
  match b.laneOwner l with
  | some p => b.portUp p && (b.usedLanes p).contains (l - p)
  | none => false

/-- Lane `l` is faulted for `cause`: its transmitter is off. A lane already faulted keeps its cause; alignment can be lost
only while the lane's port is up (cause 3). -/
def laneFault (l cause : Nat) (b : Block) : Block :=
  if b.rdB (LNK_L_STAT l) 3 || !b.domUp .link || (cause == 3 && !b.laneInUse l) then b else
  let b := (b.setB (LNK_L_STAT l) 3).wrF (LNK_L_STAT l) 4 3 cause
  let b := b.when (cause = 1) fun b => (b.clrB (LNK_L_STAT l) 0).clrB (LNK_L_STAT l) 1
  let b := b.when (cause = 2) fun b => b.clrB (LNK_L_STAT l) 1
  let b := b.clrB (LNK_L_STAT l) 2
  let b := (b.showFaults l).raise P_LNK 0
  b.ev 0x5001 ((b.laneOwner l).getD l) [(1, l), (1, cause)]

/-- PORT_REFORM (R371). -/
def portReform (p : Nat) (b : Block) : Block :=
  if !(b.rdB (LNK_P_STAT p) 0 && b.laneLost p && b.rdB (LNK_P_STAT p) 3 && b.rdB LNK_CTRL 1) then b else
  match b.bestForm p (cfgWidth (b.portCfg p) - 1) with
  | some f => if cfgWidth (b.portCfg p) = 0 then ((b.portStop p none false).raise P_LNK 2).ev 0x5003 0 [(1, p), (1, 0)]
      else b.portStop p (some f) true
  | none => ((b.portStop p none false).raise P_LNK 2).ev 0x5003 0 [(1, p), (1, 0)]

/-- PORT_DOWN (R372). -/
def portDown (p : Nat) (b : Block) : Block :=
  if !(b.rdB (LNK_P_STAT p) 0 && b.laneLost p) || b.rdB (LNK_P_STAT p) 3 && b.rdB LNK_CTRL 1 then b else
  (((b.portStop p none false).setB (LNK_P_STAT p) 5).raise P_LNK 2).ev 0x5003 0 [(1, p), (1, 1)]

/-- The module's serial number (R373, R398). -/
def Block.serial (b : Block) : BitVec 64 := (b.rd ID_SERIAL_HI) ++ (b.rd ID_SERIAL_LO)

/-- The payload of a HELLO from port `p` (R390): serial, configured width as `LNK_P_CFG.WIDTH` codes it, lane mask in
force, `PEER`. -/
def Block.helloPayload (b : Block) (p : Nat) : List Byte :=
  let c := b.portCfg p
  bytesBE 8 b.serial.toNat ++ [BitVec.ofNat 8 (cfgWidth c), BitVec.ofNat 8 (b.rdF (LNK_P_STAT p) 8 8),
    BitVec.ofNat 8 (fld c 3 1)] ++ List.replicate 5 0

/-- PORT_UP (R371, R373): the PCS of port `p` comes up in its form. -/
def portUpEff (p : Nat) (b : Block) : Block :=
  let x := b.port p
  match x.form with
  | none => b
  | some (k, mask) =>
    let c := b.portCfg p
    let lanes := (List.range 8).filter fun i => mask.testBit i
    if !(b.rdB LNK_CTRL 0 && b.domUp .link && cfgEn c && lanes.all fun i => b.laneGood (p + i)) then b else
    let b := b.each lanes fun b i =>
      let l := p + i
      (b.wrF (LNK_L_STAT l) 0 3 7).setB (LNK_F (b.rdF (LNK_L_FMAP l) 0 6)) 8
    let peer := bit c 3
    let b := b.updPort p fun x => { x with form := none, hello := peer }
    let deg := decide (k < cfgWidth c)
    let b := b.wr (LNK_P_STAT p) ((b.rd (LNK_P_STAT p) &&& 0x00FF0000#32)
      ||| wd (1 + 2 * k + 16 * b2n deg + 256 * mask))
    let b := b.wrF LNK_UP p 1 1
    let b := b.when x.narrower fun b =>
      ((b.bump LNK_DEGCNT).raise P_LNK 1).ev 0x5002 0 [(1, p), (1, x.old), (1, k), (1, mask)]
    b.when peer fun b => b.send (.hello p (b.helloPayload p))

/-- HELLO_TIMEOUT (R373). -/
def helloTimeout (p : Nat) (b : Block) : Block :=
  if !(b.port p).hello then b else
  (b.updPort p fun x => { x with hello := false }).ev 0x5006 0 [(1, p)]

/-! ## Host commands (R367, R374, R376, R377, R407) -/

/-- `LNK_P_CMD.WIDEN` (R374): a degraded port re-forms with its good lanes, at its configured width if they suffice. -/
def Block.widen (b : Block) (p : Nat) : Block :=
  if !(b.rdB (LNK_P_STAT p) 0 && b.rdB (LNK_P_STAT p) 4) then b else
  b.portStop p (b.bestForm p (cfgWidth (b.portCfg p))) false

/-- Port `p` starts at its configured width, its lanes' faults cleared; disabled, it goes down. -/
def Block.portStart (b : Block) (p : Nat) : Block :=
  let c := b.portCfg p
  if !cfgEn c then (b.portStop p none false).wr (LNK_P_STAT p) 0 else
  let b := (b.clearLanes p).clrB (LNK_P_STAT p) 5
  b.portStop p (some (cfgWidth c, 2 ^ (2 ^ cfgWidth c) - 1)) false

/-- A write of `LNK_P_CMD[p]`. -/
def portCmdWrite (p : Nat) (v : Word) (b : Block) : Block × Bool :=
  let b := b.when (bit v 0) fun b => b.widen p
  (b.when (bit v 1) fun b => b.portStart p, bit v 0 || bit v 1)

/-- Ports at fault in a configuration of all ports: enabled, and misaligned or overlapping another (R367). -/
def cfgBad (cfg : Nat → Word) (p : Nat) : Bool :=
  cfgEn (cfg p) &&
    (p % 2 ^ cfgWidth (cfg p) != 0 || decide (32 < p + 2 ^ cfgWidth (cfg p)) ||
      (List.range 32).any fun q => q != p && cfgEn (cfg q)
        && decide (q < p + 2 ^ cfgWidth (cfg p) ∧ p < q + 2 ^ cfgWidth (cfg q)))

/-- A write of `LNK_P_CFG[p]` (R367): with an error on any port the configuration is stored and not applied; otherwise
every port whose configuration has changed restarts. -/
def portCfgWrite (p : Nat) (v : Word) (b : Block) : Block × Bool :=
  let b := b.wr (LNK_P_CFG p) (v &&& 0xFFF7001F#32)
  let cfg (q : Nat) : Word := b.rd (LNK_P_CFG q)
  let bad := (List.range 32).filter (cfgBad cfg)
  if bad.isEmpty then
    let ch := (List.range 32).filter fun q => b.portCfg q != cfg q
    let b := b.each (List.range 32) fun b q => b.clrB (LNK_P_STAT q) 6
    let b := b.each ch fun b q =>
      { b with vyv := { b.vyv with cfg := b.vyv.cfg.set (fun p => regDefault (LNK_P_CFG p)) q (cfg q) } }
    (b.each ch Block.portStart, true)
  else (b.each (List.range 32) fun b q => b.wrB (LNK_P_STAT q) 6 (bad.contains q), true)

/-- A write of `LNK_CTRL` (R406). Clearing `EN` takes every port down, and setting it starts every enabled port (DESIGN
CHOICE, assumption 102). -/
def lnkCtrlWrite (v : Word) (b : Block) : Block × Bool :=
  let was := b.rdB LNK_CTRL 0
  let b := b.wr LNK_CTRL (v &&& 3#32)
  let ps := (List.range 32).filter fun p => cfgEn (b.portCfg p)
  if was == bit v 0 then (b, true)
  else if bit v 0 then (b.each ps Block.portStart, true)
  else (b.each ps fun b p => b.portStop p none false, true)

/-- Is fibre pair `f` in use by a lane (R375)? -/
def Block.fibreUser (b : Block) (f : Nat) : Option Nat :=
  (List.range 32).find? fun l => b.rdF (LNK_L_FMAP l) 0 6 == f

/-- `LNK_F[f]` (R406). -/
def Block.lnkF (b : Block) (f : Nat) : Word :=
  match b.fibreUser f with
  | some l => wd (1 + 2 * l + 256 * b.rdF (LNK_F f) 8 1)
  | none => wd (256 * b.rdF (LNK_F f) 8 1)

/-- A write of `LNK_STEER` (R376, R377). -/
def steerWrite (v : Word) (b : Block) : Block × Bool :=
  if !bit v 31 then (b, false) else
  let l := fld v 0 5
  let f := fld v 8 6
  if b.vyv.steer.isSome || decide (40 ≤ f) || (b.fibreUser f).isSome then (b.setB LNK_STEER_STAT 3, false) else
  let old := b.rdF (LNK_L_FMAP l) 0 6
  let b := { b with vyv := { b.vyv with steer := some (l, old, f) } }
  let b := (b.setB LNK_STEER_STAT 0).wrF LNK_STEER_STAT 8 5 l
  let b := b.wrF (LNK_L_STAT l) 0 3 0
  let b := (b.setB (LNK_L_STAT l) 7).wrB (LNK_L_STAT l) 8 (!b.rdB (LNK_F f) 8)
  (b.wr (LNK_L_FMAP l) (wd f), true)

/-- STEER_DONE (R376): the receiver has locked after `lock` microseconds. -/
def steerDone (lock : Nat) (b : Block) : Block :=
  match b.vyv.steer with
  | none => b
  | some (l, old, f) =>
    let b := { b with vyv := { b.vyv with steer := none } }
    let b := (b.clrB LNK_STEER_STAT 0).setB LNK_STEER_STAT 1
    let b := (b.wr (LNK_L_STAT l) 3).setB (LNK_F f) 8
    (((b.showFaults l).bump LNK_STEERCNT).raise P_LNK 3).ev 0x5004 0 [(1, l), (1, old), (1, f), (4, lock)]

/-- STEER_TIMEOUT (R376): no lock; the lane stays faulted on the new pair (cause 2: the CDR is out of lock). -/
def steerTimeout (b : Block) : Block :=
  match b.vyv.steer with
  | none => b
  | some (l, _, f) =>
    let b := { b with vyv := { b.vyv with steer := none } }
    let b := (b.clrB LNK_STEER_STAT 0).setB LNK_STEER_STAT 2
    let b := ((b.clrB (LNK_L_STAT l) 7).setB (LNK_L_STAT l) 3).wrF (LNK_L_STAT l) 4 3 2
    ((b.showFaults l).raise P_LNK 4).ev 0x5005 0 [(1, l), (1, f)]

/-! ## Received traffic that is not Vyivim (R366, R368) -/

def Block.rxDiscard (b : Block) (p : Nat) : Block := b.when (b.portUp p) fun b => b.bump (LNK_P_RXDISC p)

/-- A request is answered when it is for the port's own address and the second's 1,000 answers are not used up. Kinds: 0
ARP, 1 neighbour solicitation, 2 ICMP echo, 3 ICMPv6 echo. -/
def ethAnswer (p kind : Nat) (mine : Bool) (b : Block) : Block :=
  if !b.portUp p then b else
  let x := b.port p
  let n := (b.time - x.stamp).toNat * 1000 / tickHz
  let x' : Port := if 1000 ≤ x.tokens + n then { x with tokens := 1000, stamp := b.time }
    else { x with tokens := x.tokens + n, stamp := x.stamp + BitVec.ofNat 64 (n * 250000) }
  if mine && decide (0 < x'.tokens) then
    (b.updPort p fun _ => { x' with tokens := x'.tokens - 1 }).send (.ethReply p kind)
  else b.rxDiscard p

/-- Is `a` (most significant word first) the IPv6 address of port `p`? -/
def Block.isV6 (b : Block) (p : Nat) (a : List Word) : Bool :=
  a == [b.rd (LNK_P_IPV6_0 p), b.rd (LNK_P_IPV6_1 p), b.rd (LNK_P_IPV6_2 p), b.rd (LNK_P_IPV6_3 p)]

/-! ## Meanings -/

/-- LANE_FAULT (R370). -/
def execLaneFault (l : Fin 32) (cause : Fin 4) (s : State) : Res := s.done (laneFault l (cause + 1))
/-- PORT_REFORM (R371). -/
def execPortReform (p : Fin 32) (s : State) : Res := s.done (portReform p)
/-- PORT_DOWN (R372). -/
def execPortDown (p : Fin 32) (s : State) : Res := s.done (portDown p)
/-- PORT_UP (R371). -/
def execPortUp (p : Fin 32) (s : State) : Res := s.done (portUpEff p)
/-- HELLO_TIMEOUT (R373). -/
def execHelloTimeout (p : Fin 32) (s : State) : Res := s.done (helloTimeout p)
/-- WIDEN (R374). -/
def execWiden (m : Master) (p : Fin 32) (v : Word) (s : State) : Res :=
  s.done fun b => b.gate m (LNK_P_CMD p) (portCmdWrite p (v ||| 1))
/-- PORT_RESTART (R407). -/
def execPortRestart (m : Master) (p : Fin 32) (v : Word) (s : State) : Res :=
  s.done fun b => b.gate m (LNK_P_CMD p) (portCmdWrite p (v ||| 2))
/-- LNK_P_CFG_WRITE (R367). -/
def execLnkPCfgWrite (m : Master) (p : Fin 32) (v : Word) (s : State) : Res :=
  s.done fun b => b.gate m (LNK_P_CFG p) (portCfgWrite p v)
/-- LNK_STEER (R376). -/
def execLnkSteer (m : Master) (v : Word) (s : State) : Res :=
  s.done fun b => b.gate m LNK_STEER (steerWrite (v ||| 0x80000000))
/-- STEER_DONE (R376). -/
def execSteerDone (lock : BitVec 32) (s : State) : Res := s.done (steerDone lock.toNat)
/-- STEER_TIMEOUT (R376). -/
def execSteerTimeout (s : State) : Res := s.done steerTimeout
/-- ARP_REQUEST (R368). -/
def execArpRequest (p : Fin 32) (ip : Word) (s : State) : Res := s.done fun b => ethAnswer p 0 (ip == b.rd (LNK_P_IPV4 p)) b
/-- NEIGHBOUR_SOLICITATION (R368). -/
def execNeighbourSolicitation (p : Fin 32) (ip : List Word) (s : State) : Res :=
  s.done fun b => ethAnswer p 1 (b.isV6 p ip) b
/-- ECHO_REQUEST (R368): over IPv6 or IPv4. -/
def execEchoRequest (p : Fin 32) (v6 : Bool) (ip : List Word) (s : State) : Res :=
  s.done fun b => ethAnswer p (if v6 then 3 else 2) (if v6 then b.isV6 p ip else ip == [b.rd (LNK_P_IPV4 p)]) b
/-- FRAME_DISCARD (R368). -/
def execFrameDiscard (p : Fin 32) (s : State) : Res := s.done fun b => b.rxDiscard p

end Sys2Proof.Machine
end

