-- ==== Sys2Proof/Machine/Flows.lean ====
section
/-! DEFINITION. Vyivim (R378 to R397): messages and their sending, flow contexts, tensor data in and out, control sequences,
pacing and FAULT. Receiving a message is in Receive.lean. -/

namespace Sys2Proof.Machine

/-! ## Unit paths and epochs (R25, R26, R383) -/

def pDepth (p : BitVec 64) : Nat := bits p.toNat 61 3
def pScope (p : BitVec 64) : Nat := bits p.toNat 58 3
/-- `IXk`. -/
def pIx (p : BitVec 64) (k : Nat) : Nat := bits p.toNat (16 + 8 * k) 8
def pStack (p : BitVec 64) : Nat := bits p.toNat 14 2
def pDyn (p : BitVec 64) : Nat := bits p.toNat 13 1
def pEngine (p : BitVec 64) : Nat := bits p.toNat 7 6

/-- Are the reserved fields of a unit path 0 (R10, R25)? -/
def pathReservedOk (p : BitVec 64) : Bool := bits p.toNat 48 10 == 0 && bits p.toNat 0 7 == 0

/-- Is a unit path well formed (R26)? -/
def pathOk (p : BitVec 64) : Bool :=
  pathReservedOk p && decide (pDepth p ≤ 4) && pScope p != 7
  && (List.range 4).all (fun k => decide (k < pDepth p) || pIx p k == 0)
  && (decide (pScope p < 3) || decide (pScope p - 2 ≤ pDepth p))
  && (List.range 4).all (fun k => decide (pScope p < 3 + k) || pIx p k == 0)
  && (decide (pScope p < 2) || pStack p == 0)
  && (pScope p == 0 || (pDyn p == 0 && pEngine p == 0))
  && (pScope p != 0 || (if pDyn p = 0 then pEngine p / 16 == pStack p else pEngine p / 2 == pStack p))

/-- The module's unit path. -/
def Block.path (b : Block) : BitVec 64 := (b.rd ROL_PATH_HI) ++ (b.rd ROL_PATH_LO)

/-- Do two paths lie in the same roll of level `l`? -/
def sameRoll (l : Nat) (p q : BitVec 64) : Bool :=
  pDepth p == pDepth q && decide (l ≤ pDepth p) && (List.range 4).all fun k => decide (k < l) || pIx p k == pIx q k

/-- `ROL_L_EPOCH` of level `l`. -/
def Block.epochAt (b : Block) (l : Nat) : BitVec 32 := b.rd (ROL_L_EPOCH (l - 1))

/-- The epoch a message between this module and `p` carries (R383). -/
def Block.epochFor (b : Block) (p : BitVec 64) : BitVec 32 :=
  if 3 ≤ pScope p then
    if sameRoll (pScope p - 2) b.path p then b.epochAt (pScope p - 2) else 0
  else match [1, 2, 3, 4].find? fun l => sameRoll l b.path p with
    | some l => b.epochAt l
    | none => 0

/-- Is `p` this module, a unit in it, or a roll that contains it (R381)? -/
def Block.namesMe (b : Block) (p : BitVec 64) : Bool :=
  if 3 ≤ pScope p then sameRoll (pScope p - 2) b.path p
  else pDepth p == pDepth b.path && (List.range 4).all fun k => pIx p k == pIx b.path k

/-! ## Messages (R379, R380) -/

/-- Bytes 0 to 35 of a header. -/
def msgHead (m : Msg) : List Byte :=
  [BitVec.ofNat 8 (m.ver % 16 * 16 + m.cls % 16), BitVec.ofNat 8 m.type] ++ bytesBE 2 m.flags ++ bytesBE 8 m.dpath.toNat
    ++ bytesBE 8 m.spath.toNat ++ bytesBE 4 m.frame.toNat ++ bytesBE 4 m.seq.toNat ++ bytesBE 2 m.dflow
    ++ bytesBE 2 m.plen ++ bytesBE 4 m.epoch.toNat

/-- The header CRC and the trailer CRC that a message should carry. -/
def msgHcrc (m : Msg) : BitVec 32 := crc32c (msgHead m)
def msgTrailer (m : Msg) : BitVec 32 := crc32c (msgHead m ++ bytesBE 4 m.hcrc.toNat ++ m.payload)

/-- A message with its CRCs; tensor messages carry no trailer. -/
def msgSeal (m : Msg) : Msg :=
  let m := { m with hcrc := msgHcrc m }
  { m with trailer := if m.cls = 1 then 0 else msgTrailer m }

def tWRITE : Nat := 0x01
def tTALLY : Nat := 0x02
def tACK : Nat := 0x10
def tERROR : Nat := 0x11
def tFAULT : Nat := 0x12
def tOPEN : Nat := 0x13
def tOPENOK : Nat := 0x14
def tNOCTX : Nat := 0x15
def tCLOSE : Nat := 0x16
def tCLOSEOK : Nat := 0x17
def tSTART : Nat := 0x18
def tREGWR : Nat := 0x19
def tREGRD : Nat := 0x1A
def tREGRSP : Nat := 0x1B
def tVIEW : Nat := 0x20
def tJOIN : Nat := 0x21
def tHELLO : Nat := 0x22
def tHB : Nat := 0x30

def fgLAST : Nat := 1
def fgECE : Nat := 2
def fgRETX : Nat := 4
def fgRELAY : Nat := 8

/-- A message from this module; epoch and CRCs are filled in as it leaves. -/
def Block.newMsg (b : Block) (cls type flags : Nat) (dpath : BitVec 64) (frame seq : BitVec 32) (dflow : Nat)
    (payload : List Byte) : Msg :=
  { ver := 1, cls := cls, type := type, flags := flags, dpath := dpath, spath := b.path, frame := frame, seq := seq,
    dflow := dflow, plen := payload.length, epoch := 0, hcrc := 0, payload := payload, trailer := 0 }

/-- A counter of a flow record, saturating, advanced by `n` (R392). -/
def Flow.bumpW (x : Flow) (i n : Nat) : Flow := x.setW i (wd (min ((x.w i).toNat + n) (2 ^ 32 - 1)))

/-! ## Sending (R378, R389, R394, R395, R405) -/

def Flow.kind (x : Flow) : Nat := fld (x.w 0) 3 2
def Flow.port (x : Flow) : Nat := fld (x.w 0) 8 5
def Flow.peerFlow (x : Flow) : Nat := fld (x.w 1) 0 12
def Flow.peer (x : Flow) : BitVec 64 := x.w 3 ++ x.w 2

/-- May Vyivim send and receive: enabled, not silenced by a module reset, its dies up (R405, R408)? -/
def Block.vyvOn (b : Block) : Bool := b.rdB VYV_CTRL 0 && !b.pw.drain && !b.pw.inMr && b.domUp .control && b.domUp .link

/-- A datagram leaves on a port that is up. -/
def Block.emit (b : Block) (d : Dgram) : Block :=
  if b.vyvOn && b.portUp d.port then
    let c := b.portCfg d.port
    b.send (.vyv { d with tag := if bit c 4 then some (fld c 16 3, fld c 20 12) else none,
                          dscp := b.rdF VYV_CTRL 8 6, ect := b.rdB VYV_CTRL 1,
                          dport := if d.dport = 0 then b.rdF VYV_UDP 0 16 else d.dport,
                          msg := msgSeal { d.msg with epoch := b.epochFor d.msg.dpath } })
  else b

/-- A message leaves on flow `f`, with `ECE` when a CE mark is still to be reported (R395). -/
def Block.emitOn (b : Block) (f : Nat) (m : Msg) : Block :=
  let x := b.flow f
  let m := { m with flags := if x.ce then m.flags ||| fgECE else m.flags }
  let mac : BitVec 48 := (x.w 5).setWidth 16 ++ x.w 4
  (b.when (b.vyvOn && b.portUp x.port) fun b => b.updFlow f fun x => { x with ce := false }).emit
    { port := x.port, mac := mac, tag := none, v6 := bit (x.w 0) 5, ip := (List.range 4).map fun i => x.w (8 + i),
      dscp := 0, ect := false, sport := fld (x.w 6) 0 16, dport := fld (x.w 6) 16 16, msg := m }

/-- Members of a multicast context: the valid halfwords of its list, in order (R394). -/
def Flow.members (x : Flow) : List Nat :=
  (List.range 16).filterMap fun i =>
    let h := fld (x.w (2 + i / 2)) (16 * (i % 2)) 16
    if h.testBit 15 then some (h % 4096) else none

/-- Is context `f` an open unicast one, as the members of a multicast context are (R394)? -/
def Block.openUnicast (b : Block) (f : Nat) : Bool := b.flowState f == 2 && (b.flow f).kind != 1

/-- The flows a send on context `f` leaves on: itself, or the open members of a multicast context; a member that is not
OPEN counts in `LOST` (R394). -/
def Block.targets (b : Block) (f : Nat) : Block × List Nat :=
  let x := b.flow f
  if x.kind ≠ 1 then (b, [f]) else
  let (up, down) := x.members.partition b.openUnicast
  (b.updFlow f fun x => x.bumpW 14 down.length, up)

/-- The path of stack `s` of the module that a path names or lies in (R25). -/
def stackPath (p : BitVec 64) (s : Nat) : BitVec 64 :=
  BitVec.ofNat 64 (p.toNat / 2 ^ 61 * 2 ^ 61 + 2 ^ 58 + bits p.toNat 16 32 * 2 ^ 16 + s % 4 * 2 ^ 14)

/-- A tensor message on a unicast flow (R384, R397), for its peer or for stack `to_` of it (R382). -/
def Block.tensorOne (b : Block) (f type flags : Nat) (frame : BitVec 32) (payload : List Byte)
    (to_ : Option Nat := none) : Block :=
  let x := b.flow f
  let b := b.updFlow f fun x => { x with txSeq := x.txSeq + 1 }.bumpW 12 1
  let b := { b with vyv := { b.vyv with txLog := ((f, x.txSeq, frame) :: b.vyv.txLog).take 65536 } }
  b.emitOn f (b.newMsg 1 type flags (to_.elim x.peer (stackPath x.peer)) frame x.txSeq x.peerFlow payload)

/-- A tensor message on a context. -/
def Block.tensor (b : Block) (f type flags : Nat) (frame : BitVec 32) (payload : List Byte)
    (to_ : Option Nat := none) : Block :=
  let (b, fs) := b.targets f
  b.each fs fun b k => b.tensorOne k type flags frame payload to_

/-- A control message is sent, for the first time or again. -/
def Block.ctlTransmit (b : Block) (f : Nat) (c : Ctl) : Block :=
  b.emitOn f { c.msg with flags := if c.tries = 0 then c.msg.flags else c.msg.flags ||| fgRETX }

/-- The messages waiting for the window of flow `f` leave while fewer than 64 are outstanding (R389). -/
def Block.ctlFill (b : Block) (f : Nat) : Block :=
  let x := b.flow f
  let n := 64 - x.out.length
  let go := x.waitQ.take n
  let b := b.updFlow f fun x => { x with out := x.out ++ go.map (fun c => { c with tries := 1 }), waitQ := x.waitQ.drop n }
  b.each go fun b c => b.ctlTransmit f c

/-- A control message of type `type` on unicast flow `f`, numbered on its control sequence (R389, R393). -/
def Block.ctlSend (b : Block) (f type flags : Nat) (dpath : BitVec 64) (frame : BitVec 32) (payload : List Byte) : Block :=
  let x := b.flow f
  let seq := x.ctlTx + 1
  let m := b.newMsg 2 type flags dpath frame seq x.peerFlow payload
  (b.updFlow f fun x => { x with ctlTx := seq, waitQ := x.waitQ ++ [⟨seq, m, 0⟩] }).ctlFill f

/-- A control message that is not sequenced: ACK, ERROR, OPEN_OK, NO_CONTEXT. -/
def Block.ctlPlain (b : Block) (f type : Nat) (payload : List Byte) : Block :=
  let x := b.flow f
  b.emitOn f (b.newMsg 2 type 0 x.peer 0 0 x.peerFlow payload)

/-- ACK of flow `f` (R389, R390). -/
def Block.ack (b : Block) (f : Nat) : Block :=
  b.ctlPlain f tACK (bytesBE 4 (b.flow f).ctlRx.toNat ++ List.replicate 4 0)

/-- The pacing rate of a port in Gb/s (R395). -/
def Block.portRate (b : Block) (p : Nat) : Nat := 200 * 2 ^ b.rdF (LNK_P_STAT p) 1 2

/-! ## Contexts (R392, R393, R394) -/

/-- Contexts that are OPEN. -/
def Block.openCount (b : Block) : Nat := (b.vyv.flows.filter fun q => q.2.state == 2).length

/-- `VYV_FSTAT` (R408). -/
def Block.fstat (b : Block) : Word := setFld (b.rd VYV_FSTAT) 16 12 b.openCount

/-- Word `i` of the selected record, with the outstanding control messages in word 15. -/
def Block.frec (b : Block) (i : Nat) : Word :=
  let x := b.flow (b.rdF VYV_FSEL 0 12)
  if i = 15 then setFld (x.w 15) 16 8 x.out.length else x.w i

def Block.fErr (b : Block) (reason : Nat) : Block := ((b.setB VYV_FSTAT 2).wrF VYV_FSTAT 4 4 reason)
def Block.fDone (b : Block) : Block := ((b.clrB VYV_FSTAT 0).setB VYV_FSTAT 1).raise P_VYV 0

/-- A context returns to FREE: what it held and had still to report is dropped. -/
def Block.freeFlow (b : Block) (f : Nat) : Block :=
  let b := b.updFlow f fun x => { x.setState 0 with out := [], waitQ := [], early := [], ce := false, bye := false, eceAt := none }
  { b with vyv := { b.vyv with held := b.vyv.held.filter fun h => h.flow != f,
                               faults := b.vyv.faults.filter fun x => x.flow != f } }

/-- The sequences of a context that is being opened, in state `k`. -/
def Block.startFlow (b : Block) (f k : Nat) : Block :=
  let b := b.updFlow f fun x =>
    { (x.setState k) with txSeq := Config.firstSeq, rxSeq := Config.firstSeq, ctlTx := 0, ctlRx := 0,
                          out := [], waitQ := [], early := [], ce := false, bye := false, eceAt := none }
  b.updFlow f fun x => x.setW 15 (wd (b.portRate x.port))

/-- `VYV_FCMD.OPEN` (R393, R394). -/
def Block.flowOpen (b : Block) (f : Nat) : Block :=
  let x := b.flow f
  if x.state ≠ 0 then b.fErr 1
  else if x.kind = 1 then
    if x.members.any b.openUnicast then (b.updFlow f fun x => x.setState 2).fDone
    else (b.fErr 5).raise P_VYV 1
  else
    let b := (b.startFlow f 1).setB VYV_FSTAT 0
    let x := b.flow f
    let m := b.newMsg 2 tOPEN 0 x.peer 0 0 0xFFFF (bytesBE 2 f ++ List.replicate 6 0)
    (b.updFlow f fun x => { x with waitQ := [⟨0, m, 0⟩] }).ctlFill f

/-- `VYV_FCMD.CLOSE` (R393, R394): an OPENING or FAILED context is freed at once. -/
def Block.flowClose (b : Block) (f : Nat) : Block :=
  let x := b.flow f
  if x.state = 0 ∨ x.state = 3 then b
  else if x.kind = 1 ∨ x.state ≠ 2 then (b.freeFlow f).fDone
  else
    ((b.updFlow f fun x => x.setState 3).setB VYV_FSTAT 0).ctlSend f tCLOSE 0 x.peer 0
      (bytesBE 2 f ++ bytesBE 2 x.peerFlow ++ List.replicate 4 0)

/-- `VYV_FCMD.ABORT` (R393). -/
def Block.flowAbort (b : Block) (f : Nat) : Block :=
  let x := b.flow f
  let b := if x.state = 0 then b else b.freeFlow f
  b.when (x.state == 1 || x.state == 3 && !x.bye) fun b => b.clrB VYV_FSTAT 0

/-- A write of `VYV_FCMD`, on the selected context: ABORT, then CLOSE, then OPEN. -/
def fcmdWrite (v : Word) (b : Block) : Block × Bool :=
  let f := b.rdF VYV_FSEL 0 12
  let b := b.when (bit v 2) fun b => b.flowAbort f
  let b := b.when (bit v 1) fun b => b.flowClose f
  (b.when (bit v 0) fun b => b.flowOpen f, bit v 0 || bit v 1 || bit v 2)

/-- Host-writable bits of word `i` of a record of kind `k` (R392, R394). -/
def frecMask (k i : Nat) : Word :=
  if k = 1 ∧ 2 ≤ i ∧ i ≤ 9 then 0x8FFF8FFF
  else match i with
    | 0 => 0x1F38 | 1 => 0xFFFF0000 | 5 => 0xFFFF
    | 2 | 3 | 4 | 6 | 7 | 8 | 9 | 10 | 11 => 0xFFFFFFFF
    | _ => 0

/-- A write of word `i` of the selected record (R392): only while FREE, but for `PORT`. A reserved `KIND` is not stored. -/
def frecWrite (i : Nat) (v : Word) (b : Block) : Block × Bool :=
  let f := b.rdF VYV_FSEL 0 12
  let x := b.flow f
  let mk := frecMask x.kind i
  if mk = 0 then (b, false)
  else if x.state = 0 then
    let v := if i = 0 ∧ 2 ≤ fld v 3 2 then setFld v 3 2 x.kind else v
    (b.updFlow f fun x => x.setW i ((x.w i &&& ~~~mk) ||| (v &&& mk)), true)
  else if i = 0 then
    let same := (v &&& 0x38#32) == (x.w 0 &&& 0x38#32)
    let b := b.updFlow f fun x => x.setW 0 (setFld (x.w 0) 8 5 (fld v 8 5))
    (b.when (!same) fun b => b.fErr 4, true)
  else (b.fErr 4, false)

/-- Flows named in the roll's member table (R393). -/
def Block.rollFlow (b : Block) (f : Nat) : Bool := b.rdB ROL_CTRL 0 && b.rol.mrec.any fun q => q.2.2 == f

/-- FLOW_IDLE_TIMEOUT (R393). -/
def flowIdle (f : Nat) (b : Block) : Block :=
  let x := b.flow f
  if x.state = 0 ∨ x.kind = 1 ∨ fld (x.w 7) 16 16 = 0 ∨ b.rollFlow f = true then b else
  (b.freeFlow f).when (x.state == 1 || x.state == 3 && !x.bye) fun b => b.clrB VYV_FSTAT 0

/-- CONTROL_RETRANSMIT (R389): the message `seq` of flow `f` is sent again. -/
def ctlRetransmit (f : Nat) (seq : BitVec 32) (b : Block) : Block :=
  match (b.flow f).out.find? fun c => c.seq == seq with
  | none => b
  | some c =>
    if b.rdF VYV_RTO 16 4 ≤ c.tries ∨ b.vyvOn = false then b else
    let b := b.updFlow f fun x =>
      { x with out := x.out.map fun d => if d.seq = seq then { d with tries := d.tries + 1 } else d }
    (b.bump VYV_RETXCNT).ctlTransmit f c

/-- FLOW_FAILED (R389, R393): a message of flow `f` has been sent `TRIES` times. -/
def flowFailed (f : Nat) (b : Block) : Block :=
  let x := b.flow f
  if !(x.out.any fun c => decide (b.rdF VYV_RTO 16 4 ≤ c.tries)) then b else
  let b := b.updFlow f fun x => { x.setState 4 with out := [], waitQ := [] }
  let b := b.when (x.state == 1 || x.state == 3 && !x.bye) fun b => (b.clrB VYV_FSTAT 0).fErr 3
  (b.raise P_VYV 1).ev 0x5103 0 [(2, f), (8, x.peer.toNat)]

/-- ECE_ACK_TIMEOUT (R395). -/
def eceAck (f : Nat) (b : Block) : Block := if (b.flow f).ce && b.flowState f == 2 then b.ack f else b

/-- Did `ECE` halve the rate of flow `x` in the last 10 µs (R395)? -/
def Block.eceRecent (b : Block) (x : Flow) : Bool :=
  match x.eceAt with | some t => decide ((b.time - t).toNat < 2500) | none => false

/-- RATE_INCREASE (R395): 10 µs without `ECE`. -/
def rateIncrease (f : Nat) (b : Block) : Block :=
  let x := b.flow f
  if x.state ≠ 2 ∨ x.kind = 1 ∨ b.eceRecent x then b else
  b.updFlow f fun x => x.setW 15 (wd (min (fld (x.w 15) 0 16 + b.rdF VYV_ECNAI 0 8) (max (b.portRate x.port) (fld (x.w 15) 0 16))))

/-! ## FAULT (R396) -/

/-- FAULT_SEND (R396): the oldest failure noted for flow `f` is reported to its sender. -/
def faultSend (f : Nat) (b : Block) : Block :=
  match b.vyv.faults.find? fun x => x.flow == f with
  | none => b
  | some x =>
    let b := { b with vyv := { b.vyv with faults := b.vyv.faults.erase x } }
    if b.flowState f ≠ 2 then b else
    let p := [BitVec.ofNat 8 x.reason, BitVec.ofNat 8 x.sub, BitVec.ofNat 8 x.otype, 0] ++ bytesBE 4 x.iseq.toNat
      ++ bytesBE 4 x.nseq ++ bytesBE 4 x.frame.toNat ++ bytesBE 2 x.tag ++ [0, 0]
    let b := (b.bump VYV_FAULTTX).evF 0x5105 0 [(2, f), (1, x.reason), (4, x.iseq.toNat), (4, x.nseq)] x.frame
    b.ctlSend f tFAULT 0 (b.flow f).peer x.frame p

/-! ## Sending tensors (R384, R197, R292, R294) -/

/-- The data of a `VSEND` cut into WRITEs: offset and bytes of each. -/
def chunks (n : Nat) : List (Nat × Nat) :=
  (List.range ((n + 8191) / 8192)).map fun i => (8192 * i, min 8192 (n - 8192 * i))

/-- VSEND (R294): WRITEs, or one START with `STREC`. -/
def vsendEff (idx : Nat) (d : Desc) (x : Ecc) (b : Block) : Block :=
  b.descr idx d 0x38 false [0x10FFF, mLo, mHi, 0x1FFFFFF, mLo, 0xFFFF] fun b =>
    let f := dF d 1 0 12
    let src := dAddr d 2
    let n := dF d 4 0 25
    let roff := dF d 5 0 32
    let rtag := dF d 6 0 16
    let strec := dB d 1 16
    if b.flowState f ≠ 2 then b.reject idx 4 11
    else if strec && n != 32 then b.reject idx 4 3 else
    match opSpan b.grade src n with
    | some .reserved => b.reject idx 4 4
    | some (.beyond a) => (b.accessFault a 8).reject idx 4 4
    | none =>
      let b := (b.eccSeen x 3).hbmTouch src n
      let b := b.when (!x.ue.isEmpty) fun b => b.flag fTAINTED
      let data := poisonBytes x.ue src (b.rdBytes src n)
      let b := if strec then
          let (b, fs) := b.targets f
          b.each fs fun b k => b.ctlSend k tSTART 0 (b.flow k).peer 0 data
        else b.each (chunks n) fun b (o, k) =>
          b.tensor f tWRITE (if o + k = n then fgLAST else 0) b.frameId
            (bytesBE 2 rtag ++ [0, 0] ++ bytesBE 4 (roff + o) ++ bytesBE 4 n ++ [0, 0, 0, 0] ++ (data.drop o).take k)
      b.reached idx

/-- The messages of a tile forwarded on flow `f` to stack `dstk` of its peer (R196, R197): whole columns, as many as fit in
8,192 bytes. -/
def Block.tallySend (b : Block) (f dstk dslot dtag link : Nat) (tr : List Word) (bytes : List Byte) (flags : Nat) : Block :=
  let rows := stRows tr
  let cols := stCols tr
  let eb := tEB tr
  let per := max 1 (8192 / (rows * eb))
  let col (c : Nat) : List Byte := (List.range rows).flatMap fun r => (bytes.drop ((r * cols + c) * eb)).take eb
  b.each (List.range ((cols + per - 1) / per)) fun b i =>
    let n := min per (cols - per * i)
    let data := (List.range n).flatMap fun k => col (per * i + k)
    let ext := bytesBE 2 dslot ++ bytesBE 2 dtag ++ [BitVec.ofNat 8 (tOp tr * 32 + tFmt tr * 8),
      BitVec.ofNat 8 (if tFmt tr = 0 then tSid tr else 0)] ++ bytesBE 2 flags ++ bytesBE 2 rows ++ bytesBE 2 (per * i)
      ++ bytesBE 2 n ++ [BitVec.ofNat 8 link, 0] ++ bytesBE 2 data.length ++ [0, 0]
    b.tensor f tTALLY 0 b.frameId (ext ++ data) (some dstk)

/-- TALLY_HOP_FORWARD (R195): a hop whose tile has closed leaves, as a stack hop or as tally messages. -/
def tallyHopForward (s idx : Nat) (b : Block) : Block :=
  match (b.stk s).hopQ.find? fun h => h.idx == idx with
  | none => b
  | some h =>
    match h.ready with
    | none => b
    | some (tr, bytes, flags) =>
      let b := b.updStk s fun k => { k with hopQ := k.hopQ.filter fun g => g.idx != idx }
      let b := b.bump (TLY_HOPTX s)
      if h.remote then (b.tallySend h.flow h.dstk h.dslot h.dtag h.link tr bytes flags).reached idx
      else b.updStk s fun k => { k with fly := k.fly ++ [⟨idx, h.dstk, h.dslot, h.dtag, tr, bytes, flags, h.link⟩] }

/-! ## Receiving tensors (R385, R387, R294) -/

/-- Does a span overlap one already received? -/
def Vrecv.overlaps (v : Vrecv) (o n : Nat) : Bool := v.spans.any fun (a, k) => decide (a < o + n ∧ o < a + k)

/-- The VRECV of the frame for a flow and tag: one still waiting, else one that has ended its wait. -/
def Block.vrecvFor (b : Block) (f rtag : Nat) : Option Vrecv :=
  match b.frm with
  | none => none
  | some fr =>
    let vs := fr.vrecvs.filter fun v => v.flow == f && v.rtag == rtag
    (vs.find? fun v => !v.done).orElse fun _ => vs.head?

/-- A failure of a WRITE noted for its sender. -/
def Block.writeFault (b : Block) (f : Nat) (frame seq : BitVec 32) (reason rtag : Nat) : Block :=
  b.noteFault ⟨f, frame, reason, 0, tWRITE, seq, 1, rtag⟩

/-- Data placed in the buffer of a VRECV, which completes with its last byte (R385, R387). -/
def Block.placeWrite (b : Block) (v : Vrecv) (frame seq : BitVec 32) (roff : Nat) (data : List Byte) : Block :=
  if v.done then b.writeFault v.flow frame seq 6 v.rtag
  else if decide (v.len < roff + data.length) || v.overlaps roff data.length then b.writeFault v.flow frame seq 5 v.rtag
  else
    let b := (b.wrBytes (v.dst + roff) data).hbmTouch (v.dst + roff) data.length
    let spans := v.spans ++ [(roff, data.length)]
    let full := decide (v.len ≤ (spans.map (·.2)).foldl (· + ·) 0)
    let b := b.updFrm fun fr => { fr with vrecvs := fr.vrecvs.map fun w =>
      if w.idx = v.idx then { w with spans := spans, done := full } else w }
    (b.when full fun b => b.reached v.idx).pump

/-- VRECV (R294): messages already held for it are moved to its buffer. -/
def vrecvEff (idx : Nat) (d : Desc) (b : Block) : Block :=
  b.descr idx d 0x39 false [0xFFF, mLo, mHi, 0x1FFFFFF, mLo] fun b =>
    let f := dF d 1 0 12
    let v : Vrecv := { idx := idx, flow := f, rtag := dF d 5 0 16, dst := dAddr d 2, len := dF d 4 0 25, spans := [],
                       done := false }
    if b.flowState f ≠ 2 then b.reject idx 4 11
    else if (b.flow f).kind = 1 then b.reject idx 4 3 else
    match opSpan b.grade v.dst v.len with
    | some .reserved => b.reject idx 4 4
    | some (.beyond a) => (b.accessFault a 8).reject idx 4 4
    | none =>
      let v := { v with done := v.len == 0 }
      let b := b.updFrm fun fr => { fr with vrecvs := fr.vrecvs ++ [v] }
      let b := b.when v.done fun b => b.reached idx
      let mine (h : HeldMsg) : Bool := h.flow == f && h.frame == b.frameId &&
        match h.write with | some (t, _, _) => t == v.rtag | none => false
      let ms := b.vyv.held.filter mine
      let b := { b with vyv := { b.vyv with held := b.vyv.held.filter fun h => !mine h } }
      let b := b.each ms fun b h => match h.write, b.vrecvFor f v.rtag with
        | some (_, o, data), some w => b.placeWrite w h.frame h.seq o data
        | _, _ => b
      (b.when b.pw.drain Block.vrecvEndAll).pump

/-- VRECV_WAIT_EXPIRY (R294, R387). -/
def vrecvExpiry (idx : Nat) (b : Block) : Block :=
  match b.frm with
  | none => b
  | some f => match f.vrecvs.find? fun v => v.idx == idx && !v.done with
    | some v => (b.vrecvEnd v).pump
    | none => b

/-- A message taken into its flow's receive space (R385, R420), or discarded when the flow's limit or the pool is
exceeded, or the pool lies beyond the installed capacity. -/
def Block.hold (b : Block) (h : HeldMsg) (rtag otype : Nat) : Block :=
  let base := (b.rd VYV_RXBASE_LO).toNat + b.rdF VYV_RXBASE_HI 0 5 * 2 ^ 32
  let size := b.rdF VYV_RXSIZE 0 11 * 2 ^ 20
  let used (hs : List HeldMsg) : Nat := (hs.map (·.size)).foldl (· + ·) 0
  let mine := used (b.vyv.held.filter fun g => g.flow == h.flow) + h.size
  let lim := fld ((b.flow h.flow).w 7) 0 16 * 1024
  if lim < mine ∨ size < used b.vyv.held + h.size ∨ b.grade.bytes < base + size then
    (b.bump VYV_NOSPACE).noteFault ⟨h.flow, h.frame, 3, 0, otype, h.seq, 1, rtag⟩
  else { b with vyv := { b.vyv with held := b.vyv.held ++ [h] } }

/-! ## The frame's messages (R38, R385) -/

/-- A held message discarded for a reason of R396. -/
def Block.heldLost (b : Block) (h : HeldMsg) (reason : Nat) : Block :=
  match h.write, h.tally with
  | some (t, _, _), _ => b.noteFault ⟨h.flow, h.frame, reason, 0, tWRITE, h.seq, 1, t⟩
  | _, some (_, m) => b.noteFault ⟨h.flow, h.frame, reason, 0, tTALLY, h.seq, 1, m.dslot⟩
  | _, _ => b

/-- A frame begins (R38): messages held for earlier frames are discarded as late, tally messages of this frame go to
their stacks. -/
def Block.releaseHeld (b : Block) (frame : BitVec 32) : Block :=
  let hs := b.vyv.held
  let old := hs.filter fun h => seqGT frame h.frame
  let now := hs.filter fun h => h.frame == frame && h.tally.isSome
  let b := { b with vyv := { b.vyv with
    cur := some frame, held := hs.filter fun h => !(seqGT frame h.frame) && !(h.frame == frame && h.tally.isSome) } }
  let b := b.each old fun b h => (b.bump VYV_STALEFR).heldLost h 2
  b.each now fun b h => match h.tally with | some (s, m) => b.tallyArrive s m | none => b

/-- The boundary of a frame (R385): its WRITEs still held are discarded. -/
def Block.dropHeld (b : Block) (frame : BitVec 32) : Block :=
  let gone := b.vyv.held.filter fun h => h.frame == frame
  let b := { b with vyv := { b.vyv with held := b.vyv.held.filter fun h => h.frame != frame } }
  b.each gone fun b h => b.heldLost h 4

/-! ## Meanings -/

/-- FLOW_OPEN (R393). -/
def execFlowOpen (m : Master) (v : Word) (s : State) : Res := s.done fun b => b.gate m VYV_FCMD (fcmdWrite (v ||| 1))
/-- FLOW_CLOSE (R393). -/
def execFlowClose (m : Master) (v : Word) (s : State) : Res := s.done fun b => b.gate m VYV_FCMD (fcmdWrite (v ||| 2))
/-- FLOW_ABORT (R393). -/
def execFlowAbort (m : Master) (v : Word) (s : State) : Res := s.done fun b => b.gate m VYV_FCMD (fcmdWrite (v ||| 4))
/-- VYV_FREC_WRITE (R392). -/
def execVyvFrecWrite (m : Master) (i : Fin 16) (v : Word) (s : State) : Res :=
  s.done fun b => b.gate m (VYV_FREC i) (frecWrite i v)
/-- FLOW_IDLE_TIMEOUT (R393). -/
def execFlowIdleTimeout (f : Fin 4096) (s : State) : Res := s.done (flowIdle f)
/-- CONTROL_RETRANSMIT (R389). -/
def execControlRetransmit (f : Fin 4096) (seq : BitVec 32) (s : State) : Res := s.done (ctlRetransmit f seq)
/-- FLOW_FAILED (R389). -/
def execFlowFailed (f : Fin 4096) (s : State) : Res := s.done (flowFailed f)
/-- ECE_ACK_TIMEOUT (R395). -/
def execEceAckTimeout (f : Fin 4096) (s : State) : Res := s.done (eceAck f)
/-- RATE_INCREASE (R395). -/
def execRateIncrease (f : Fin 4096) (s : State) : Res := s.done (rateIncrease f)
/-- FAULT_SEND (R396). -/
def execFaultSend (f : Fin 4096) (s : State) : Res := s.done (faultSend f)
/-- VSEND (R294). -/
def execDVsend (idx : Nat) (d : Desc) (ecc : Ecc) (s : State) : Res := s.done (vsendEff idx d ecc)
/-- VSEND with STREC (R384). -/
def execDVsendStartRecord (idx : Nat) (d : Desc) (ecc : Ecc) (s : State) : Res := s.done (vsendEff idx d ecc)
/-- VRECV (R294). -/
def execDVrecv (idx : Nat) (d : Desc) (s : State) : Res := s.done (vrecvEff idx d)
/-- VRECV_WAIT_EXPIRY (R294). -/
def execVrecvWaitExpiry (idx : Nat) (s : State) : Res := s.done (vrecvExpiry idx)
/-- TALLY_HOP_FORWARD (R195). -/
def execTallyHopForward (st : Fin 4) (hop : Nat) (s : State) : Res := s.done (tallyHopForward st hop)

end Sys2Proof.Machine
end

