-- ==== Sys2Proof/Machine/Rolls.lean ====
section
/-! DEFINITION. Rolls (R398 to R405, R409): views, heartbeats, the decision of a half, Held and rejoining. -/

namespace Sys2Proof.Machine

/-! ## Views (R398) -/

/-- The levels of the system the module is configured for, while the roll runs. -/
def Block.rollLevels (b : Block) : List Nat :=
  if b.rdB ROL_CTRL 0 then (List.range (pDepth b.path)).map (· + 1) else []
def Block.ownIx (b : Block) (l : Nat) : Nat := b.rdF (ROL_L_INFO (l - 1)) 16 8
/-- Members configured at a level (R409). -/
def Block.configured (b : Block) (l : Nat) : Nat := min 256 (b.rdF (ROL_L_INFO (l - 1)) 0 9)
def Block.inView (b : Block) (l j : Nat) : Bool := b.rdB (ROL_L_VIEW0 (l - 1) + 4 * (j / 32)) (j % 32)
def Block.view (b : Block) (l : Nat) : List Nat := (List.range 256).filter (b.inView l)
def memberKey (l j : Nat) : Nat := 256 * (l - 1) + j
/-- Serial and flow of a member's record. -/
def Block.mrec (b : Block) (l j : Nat) : BitVec 64 × Nat := b.rol.mrec.get (fun _ => (0, 0)) (memberKey l j)
def Block.heard (b : Block) (l j : Nat) : Heard := b.rol.heard.get (fun _ => {}) (memberKey l j)
def Block.updHeard (b : Block) (l j : Nat) (f : Heard → Heard) : Block :=
  { b with rol := { b.rol with heard := b.rol.heard.set (fun _ => {}) (memberKey l j) (f (b.heard l j)) } }
/-- The serial of member `j`: the module's own, the one it last gave, or the one of its record. -/
def Block.serialOf (b : Block) (l j : Nat) : Nat :=
  if j = b.ownIx l then b.serial.toNat else ((b.heard l j).serial.getD (b.mrec l j).1).toNat
/-- The member of a list with the lowest serial (R398). -/
def Block.lowest (b : Block) (l : Nat) (js : List Nat) : Nat :=
  js.foldl (fun m j => if b.serialOf l j < b.serialOf l m then j else m) (js.headD 0)
def Block.isFace (b : Block) (l : Nat) : Bool := b.rdB (ROL_L_INFO (l - 1)) 9
def Block.heldAt (b : Block) (l : Nat) : Bool := b.rdB (ROL_L_INFO (l - 1)) 10
/-- Does the module take part at a level: the face of its rolls at every level below (R398)? -/
def Block.partakes (b : Block) (l : Nat) : Bool :=
  b.rollLevels.contains l && (List.range l).all fun k => k == 0 || b.isFace k
/-- The bitmap of members of `REACH` and `MEMBERS` (R399, R401). -/
def memberBytes (p : Nat → Bool) : List Byte :=
  (List.range 32).map fun i => BitVec.ofNat 8 (((List.range 8).filter fun k => p (8 * i + k)).foldl (fun a k => a + 2 ^ k) 0)

/-- A view put into force at a level, with its face. -/
def Block.setView (b : Block) (l : Nat) (js : List Nat) : Block :=
  let b := b.each (List.range 8) fun b w => b.wr (ROL_L_VIEW0 (l - 1) + 4 * w)
    (wd ((js.filter fun j => j / 32 == w).foldl (fun a j => a ||| 2 ^ (j % 32)) 0))
  let f := b.lowest l js
  let s := b.serialOf l f
  let b := (b.wrF (ROL_L_INFO (l - 1)) 24 8 f).wrB (ROL_L_INFO (l - 1)) 9 (f == b.ownIx l)
  (b.wr (ROL_L_FSER_LO (l - 1)) (wd s)).wr (ROL_L_FSER_HI (l - 1)) (wd (s / 2 ^ 32))

/-- A VIEW sent to every other member it lists (R401). -/
def Block.sendView (b : Block) (l : Nat) (epoch : BitVec 32) (fser : BitVec 64) (js : List Nat) (pheld : Nat) : Block :=
  let p := [BitVec.ofNat 8 l, BitVec.ofNat 8 pheld] ++ bytesBE 2 js.length ++ bytesBE 4 epoch.toNat
    ++ bytesBE 8 fser.toNat ++ memberBytes fun j => js.contains j
  b.each (js.filter fun j => j != b.ownIx l) fun b j =>
    let f := (b.mrec l j).2
    if b.flowState f = 2 then b.ctlSend f tVIEW 0 (b.flow f).peer 0 p else b

/-! ## Held (R402) -/

/-- `ROL_STAT.HELD` and its level as the levels stand. -/
def Block.showHeld (b : Block) : Block :=
  match [1, 2, 3, 4].find? fun l => b.heldAt l with
  | some l => b.wrF ROL_STAT 0 4 (1 + 2 * l)
  | none => b.wrF ROL_STAT 0 4 0

/-- The module enters Held at level `l`, its half being of `half` members: start records are discarded (R304). -/
def Block.holdAt (b : Block) (l half : Nat) : Block :=
  if b.heldAt l then b else
  let b := (b.setB (ROL_L_INFO (l - 1)) 10).showHeld
  let b := { b with rol := { b.rol with decide := b.rol.decide.filter (· != l), wait := b.rol.wait.filter (· != l) } }
  let b := ((b.bump ROL_HELDCNT).raise P_ROL 2).ev 0x5203 0 [(1, l), (4, (b.epochAt l).toNat), (4, half)]
  (b.wrB ROL_STAT 4 (!b.rol.wait.isEmpty)).recheck

/-- The views by which a module that is Held at level `l` puts the members of its lower rolls in Held: one at each level
below at which it is the face, with `PHELD`, under its epoch + 1 (R402). -/
def Block.spreadHeld (b : Block) (l : Nat) : Block :=
  b.each ((List.range l).reverse.filter fun k => k != 0 && b.isFace k && b.partakes k) fun b k =>
    let e := b.epochAt k + 1
    let js := b.view k
    let b := { (b.wr (ROL_L_EPOCH (k - 1)) e) with
      rol := { b.rol with prop := b.rol.prop.set (fun _ => 0) k b.serial } }
    let b := ((b.bump ROL_VIEWCNT).raise P_ROL 1).ev 0x5202 0
      [(1, k), (4, e.toNat), (32, 0), (8, b.serial.toNat)]
    b.sendView k e b.serial js l

/-- Held at level `l`, with the views of R402. -/
def Block.enterHeld (b : Block) (l half : Nat) : Block :=
  if b.heldAt l then b else (b.holdAt l half).spreadHeld l

/-! ## Adoption (R401, R403) -/

/-- A view adopted at level `l`: its epoch is in force, every member counts as heard, and unless its roll is Held at a
higher level it ends Held. -/
def Block.adopt (b : Block) (l : Nat) (epoch : BitVec 32) (fser : BitVec 64) (js : List Nat) (pheld : Nat) (forced : Bool) :
    Block :=
  let was := b.rdB ROL_STAT 0
  let b := (b.wr (ROL_L_EPOCH (l - 1)) epoch).setView l js
  let b := { b with rol := { b.rol with
    prop := b.rol.prop.set (fun _ => 0) l fser, decide := b.rol.decide.filter (· != l), wait := b.rol.wait.filter (· != l) } }
  let b := b.wrB ROL_STAT 4 (!b.rol.wait.isEmpty)
  let b := b.each js fun b j => b.updHeard l j fun h => { h with alive := true, run := 0 }
  let face := b.serialOf l (b.lowest l js)
  let b := ((b.bump ROL_VIEWCNT).raise P_ROL 1).ev 0x5202 0 [(1, l), (4, epoch.toNat), (32, 0), (8, face)]
  if pheld ≠ 0 then b.enterHeld pheld js.length
  else if was then
    let b := (b.each [1, 2, 3, 4] fun b k => b.clrB (ROL_L_INFO (k - 1)) 10).showHeld
    (b.raise P_ROL 3).ev 0x5204 0 [(1, l), (4, epoch.toNat), (1, b2n forced)]
  else b

/-- A higher level at which the module is Held, 0 for none (`PHELD`, R401). -/
def Block.heldAbove (b : Block) (l : Nat) : Nat := ([1, 2, 3, 4].find? fun k => decide (l < k) && b.heldAt k).getD 0

/-- The module proposes a view at level `l` under its epoch + 1 and adopts it (R400, R401). -/
def Block.propose (b : Block) (l : Nat) (js : List Nat) (forced : Bool) : Block :=
  let e := b.epochAt l + 1
  let ph := b.heldAbove l
  (b.adopt l e b.serial js ph forced).sendView l e b.serial js ph

/-- The module's own half: itself and the members of the view that it hears and that hear it (R400). -/
def Block.half (b : Block) (l : Nat) : List Nat :=
  let me := b.ownIx l
  (b.view l).filter fun j => j == me || ((b.heard l j).alive && (b.heard l j).reach.getLsbD me)

/-- The decision of R400. -/
def Block.decideHalf (b : Block) (l : Nat) : Block :=
  let n := b.view l
  let half := b.half l
  let low := b.lowest l n
  if n.length < 2 * half.length || (n.length == 2 * half.length && half.contains low) then
    if b.lowest l half = b.ownIx l then b.propose l half false
    else { b with rol := { b.rol with wait := l :: b.rol.wait.filter (· != l) } }.setB ROL_STAT 4
  else b.enterHeld l half.length

/-! ## Commands -/

/-- HEARTBEAT_SEND (R399, R402): a heartbeat at each level the module takes part in to every other member of its (last)
view; the period ends for members not heard in it. -/
def heartbeat (b : Block) : Block :=
  let levels := b.rollLevels.filter b.partakes
  if levels.isEmpty || !b.vyvOn then b else
  let b := { b with vyv := { b.vyv with hb := b.vyv.hb + 1 } }
  let n := b.vyv.hb
  let state := b2n (b.rdB ROL_STAT 0) + 2 * b2n (b.modState == stStow)
  let b := b.each levels fun b l =>
    let p := bytesBE 8 b.serial.toNat ++ [BitVec.ofNat 8 l, BitVec.ofNat 8 (b.ownIx l), BitVec.ofNat 8 state, 0]
      ++ bytesBE 4 b.frameId.toNat ++ memberBytes fun j => (b.heard l j).alive && b.inView l j && j != b.ownIx l
    b.each ((b.view l).filter fun j => j != b.ownIx l) fun b j =>
      let f := (b.mrec l j).2
      if b.flowState f = 2 then
        let x := b.flow f
        b.emitOn f (b.newMsg 3 tHB 0 x.peer 0 n x.peerFlow p)
      else b
  { b with rol := { b.rol with heard := b.rol.heard.mapVals (fun _ => {}) fun _ h =>
      { h with fresh := false, run := if h.fresh then h.run else 0 } } }

/-- MEMBER_MISSED (R400). -/
def memberMissed (l j : Nat) (b : Block) : Block :=
  if !(b.partakes l && b.inView l j && j != b.ownIx l && (b.heard l j).alive && !b.heldAt l) then b else
  let b := b.updHeard l j fun h => { h with alive := false, run := 0 }
  let b := (b.bump (ROL_L_MISSCNT (l - 1))).raise P_ROL 0
  { b with rol := { b.rol with decide := l :: b.rol.decide.filter (· != l) } }.ev 0x5201 l [(1, j)]

/-- ROLL_DECIDE (R400). -/
def rollDecide (l : Nat) (b : Block) : Block :=
  if !(b.partakes l && b.rol.decide.contains l && !b.heldAt l) then b else
  { b with rol := { b.rol with decide := b.rol.decide.filter (· != l) } }.decideHalf l

/-- VIEW_WAIT_EXPIRY (R400). -/
def viewWaitExpiry (l : Nat) (b : Block) : Block :=
  if !(b.partakes l && b.rol.wait.contains l && !b.heldAt l) then b else
  { b with rol := { b.rol with wait := b.rol.wait.filter (· != l) } }.decideHalf l

/-- AUTOJOIN (R403). -/
def autojoin (l : Nat) (b : Block) : Block :=
  let js := (List.range (b.configured l)).filter fun j => !b.inView l j && decide (10 ≤ (b.heard l j).run)
  if !(b.rdB ROL_CTRL 1 && b.partakes l && b.isFace l && !b.heldAt l) || js.isEmpty then b else
  b.propose l ((List.range 256).filter fun j => b.inView l j || js.contains j) false

/-- The path of this module's roll of level `l`. -/
def Block.rollPath (b : Block) (l : Nat) : BitVec 64 :=
  let p := b.path.toNat
  BitVec.ofNat 64 (pDepth b.path * 2 ^ 61 + (l + 2) * 2 ^ 58 + bits p (16 + 8 * l) (32 - 8 * l) * 2 ^ (16 + 8 * l))

/-- `ROL_CMD.JOIN` at level `l` (R403): a Held module sends JOIN to its roll's path, to the face of its last view, or,
being that itself, to the first other member. -/
def Block.sendJoin (b : Block) (l : Nat) : Block :=
  if !b.heldAt l then b else
  let face := b.lowest l (b.view l)
  let others := (b.view l).filter fun j => j != b.ownIx l
  match (if face = b.ownIx l then others.head? else some face) with
  | none => b
  | some j =>
    let f := (b.mrec l j).2
    if b.flowState f ≠ 2 then b else
    b.ctlSend f tJOIN 0 (b.rollPath l) 0
      (bytesBE 8 b.serial.toNat ++ [BitVec.ofNat 8 l, BitVec.ofNat 8 (b.ownIx l), 0, 0] ++ bytesBE 4 (b.epochAt l).toNat)

/-- A write of `ROL_CMD` (R403). -/
def rolCmdWrite (v : Word) (b : Block) : Block × Bool :=
  let l := fld v 4 3
  let ok := b.rollLevels.contains l
  let b := b.when (bit v 0 && ok) fun b => b.sendJoin l
  let b := b.when (bit v 1 && ok && b.heldAt l) fun b => b.propose l (b.half l) true
  (b, bit v 0 || bit v 1)

/-- The roll starts with every configured member in the view (R398). -/
def Block.rollStart (b : Block) : Block :=
  let b := { b with rol := { b.rol with heard := [], decide := [], wait := [], prop := [] } }
  let b := b.wr ROL_STAT (wd (pDepth b.path * 32))
  let b := b.each [1, 2, 3, 4] fun b l => b.clrB (ROL_L_INFO (l - 1)) 10
  b.each b.rollLevels fun b l =>
    let js := List.range (b.configured l)
    (b.each js fun b j => b.updHeard l j fun h => { h with alive := true }).setView l js

/-- A write of `ROL_CTRL` (R409): setting `EN` is refused for a malformed unit path, or one that is not a module's. Like
the other RW fields of the page, `AUTOJOIN` is written only while `EN` = 0. -/
def rolCtrlWrite (v : Word) (b : Block) : Block × Bool :=
  if b.rdB ROL_CTRL 0 then (b.wrB ROL_CTRL 0 (bit v 0), true)
  else if !bit v 0 then (b.wrF ROL_CTRL 0 2 (fld v 0 2), true)
  else if !pathOk b.path || pScope b.path != 2 then (b.raise P_ROL 4, false)
  else ((b.wrF ROL_CTRL 0 2 (fld v 0 2)).rollStart, true)

/-- `ROL_MREC_*` (R409): word 0 and 1 of the selected member's serial, and its flow. -/
def Block.mselKey (b : Block) : Nat := 256 * b.rdF ROL_MSEL 0 2 + b.rdF ROL_MSEL 2 8
def Block.mrecWord (b : Block) (i : Nat) : Word :=
  let r := b.rol.mrec.get (fun _ => (0, 0)) b.mselKey
  if i = 0 then wd r.1.toNat else if i = 1 then wd (r.1.toNat / 2 ^ 32) else wd r.2
def mrecWrite (i : Nat) (v : Word) (b : Block) : Block × Bool :=
  let k := b.mselKey
  let r := b.rol.mrec.get (fun _ => (0, 0)) k
  let r' : BitVec 64 × Nat := if i = 0 then (r.1.extractLsb' 32 32 ++ v, r.2)
    else if i = 1 then (v ++ r.1.extractLsb' 0 32, r.2) else (r.1, fld v 0 12)
  ({ b with rol := { b.rol with mrec := b.rol.mrec.set (fun _ => (0, 0)) k r' } }, true)

/-! ## Meanings -/

/-- HEARTBEAT_SEND (R399). -/
def execHeartbeatSend (s : State) : Res := s.done heartbeat
/-- MEMBER_MISSED (R400). -/
def execMemberMissed (l : Fin 4) (j : Fin 256) (s : State) : Res := s.done (memberMissed (l + 1) j)
/-- ROLL_DECIDE (R400). -/
def execRollDecide (l : Fin 4) (s : State) : Res := s.done (rollDecide (l + 1))
/-- VIEW_WAIT_EXPIRY (R400). -/
def execViewWaitExpiry (l : Fin 4) (s : State) : Res := s.done (viewWaitExpiry (l + 1))
/-- AUTOJOIN (R403). -/
def execAutojoin (l : Fin 4) (s : State) : Res := s.done (autojoin (l + 1))
/-- ROL_JOIN (R403). -/
def execRolJoin (m : Master) (v : Word) (s : State) : Res := s.done fun b => b.gate m ROL_CMD (rolCmdWrite (v ||| 1))
/-- ROL_FORCE (R403). -/
def execRolForce (m : Master) (v : Word) (s : State) : Res := s.done fun b => b.gate m ROL_CMD (rolCmdWrite (v ||| 2))
/-- ROL_CTRL_WRITE (R409). -/
def execRolCtrlWrite (m : Master) (v : Word) (s : State) : Res := s.done fun b => b.gate m ROL_CTRL (rolCtrlWrite v)

end Sys2Proof.Machine
end

