-- ==== Sys2Proof/Machine/Modes.lean ====
section
/-! DEFINITION. Module states (R34 to R36, R100, R462, R477, R478, R509): requests, the start-up from Stow to Hold, Hold
to Active, the entry to Hold and to Stow. -/

namespace Sys2Proof.Machine

/-- `PWR_STATE` (R477): `TRANS` and `TARGET` while a transition is pending or under way. -/
def Block.showPwr (b : Block) : Block :=
  let t := match b.pw.now with | some t => some t | none => b.pw.wait
  (b.wrB PWR_STATE 2 t.isSome).wrF PWR_STATE 4 2 (t.getD 0)

/-- A request refused (R478). -/
def Block.refuseReq (b : Block) : Block := (b.setB PWR_STAT 0).raise P_PWR 1

/-- May light come on: no trip or thermal shutdown latched, `LSAFE_N` deasserted (R509), a Vault slot valid (R523), every rail good
(R453)? -/
def Block.mayLight (b : Block) : Bool :=
  !b.rdB LCO_LSTAT 4 && !b.rdB LCO_LSTAT 9 && !b.rdB LCO_LSTAT 5 && !b.rdB VLT_STAT 5 && b.rdF PWR_RAIL 0 11 == 2 ^ 11 - 1

/-- A request for state `t` judged against the state reached (R35, R36): begun, made to wait for a frame boundary, or
refused. -/
def Block.judge (b : Block) (t : Nat) : Block :=
  let st := b.modState
  let b := { b with pw := { b.pw with forced := false } }
  if st = stStow ∧ t = stHold ∧ b.mayLight then
    ({ b with pw := { b.pw with now := some stHold, startup := some .dead, deadAt := b.time, dark := [] } }.setB LCO_LSTAT 6).showPwr
  else if st = stHold ∧ (t = stActive ∨ t = stStow) then
    ({ b with pw := { b.pw with now := some t } }.recheck).showPwr
  else if st = stActive ∧ (t = stHold ∨ t = stStow) then { b with pw := { b.pw with wait := some t } }.showPwr
  else b.refuseReq

/-- Can a request not be executed yet: power-up has not reached Stow, or a reset of the module or of Mionus runs (R461,
R465)? -/
def Block.reqHeld (b : Block) : Bool := b.pw.phase != .up || b.pw.drain || b.pw.inMr || !b.pw.mionus

/-- Has the transition under way not yet begun to change light or clocks (R36): a start-up in its laser dead time, or a
requested Stow whose steps have not begun? The clocks of Hold to Active change at once. -/
def Block.replaceable (b : Block) : Bool :=
  b.pw.now.isNone || (b.pw.now == some stHold && b.pw.startup == some .dead)
    || (b.pw.now == some stStow && !b.pw.forced)

/-- The first of two requests, which the second replaces, taken back (R36). -/
def Block.takeBack (b : Block) : Block :=
  let b := b.when (b.pw.startup == some .dead) fun b => b.clrB LCO_LSTAT 6
  { b with pw := { b.pw with wait := none, now := none, startup := none } }.showPwr

/-- A request executed: it replaces one that has not begun, or waits behind one that has (R36). -/
def Block.request (b : Block) (t : Nat) : Block :=
  if b.reqHeld || !b.replaceable then { b with pw := { b.pw with behind := some t } }
  else ({ b with pw := { b.pw with behind := none } }.takeBack).judge t

/-- The request that waited, executed once nothing holds it. -/
def Block.nextReq (b : Block) : Block :=
  match b.pw.behind with
  | some t => b.request t
  | none => b

/-- A write of `PWR_REQ` (R35, R36, R477); during a save it is ignored (R473). -/
def pwrReqWrite (v : Word) (b : Block) : Block × Bool :=
  if !bit v 31 || b.pw.phase == .saving then (b, false) else (b.request (fld v 0 2), true)

/-- A transition completes in state `st` (R478): `DONE`, then the request behind it. -/
def Block.finish (b : Block) (st : Nat) : Block :=
  let b := { b with pw := { b.pw with now := none, startup := none, forced := false } }.wrF PWR_STATE 0 2 st
  (((b.showPwr).raise P_PWR 0).recheck).nextReq

/-! ## The start-up (R100, R509) -/

/-- LASER_DEAD_TIME_END (R509). -/
def deadEnd (b : Block) : Block :=
  if b.pw.startup ≠ some .dead then b else
  { (b.clrB LCO_LSTAT 6).wrF LCO_LSTAT 0 4 (b.rdF LCO_LENMASK 0 4) with pw := { b.pw with startup := some .light } }

/-- LIGHT_CHECK_COMPLETE (R100): fibres whose laser is lit and that show no pilot light are reported; the engines of
those fibres, and of the fibres whose laser is not used, are skipped. -/
def lightChecked (dark : List Nat) (b : Block) : Block :=
  if b.pw.startup ≠ some .light then b else
  let used (f : Nat) : Bool := b.rdB LCO_LSTAT (f / 4)
  let b := b.each ((List.range 16).filter fun f => used f && dark.contains f) fun b f => (b.each (fibreEngs f) fun b e => b.raise (P_LCK e) 3).ev 0x3A05 f
  { b with pw := { b.pw with
      startup := some .warm, dark := (List.range 16).filter fun f => !used f || dark.contains f } }

/-- Is a region within 0.5 K of its 60 °C setpoint by `LCK_R_RTEMP`, in Q8.8 (R100)? -/
def Block.atSetpoint (b : Block) (e q : Nat) : Bool :=
  decide ((sext 16 (b.rdF (LCK_R_RTEMP e q) 0 16) - 60 * 256).natAbs ≤ 128)

/-- The engines that a start-up does not skip (R100). -/
def Block.startEngs (b : Block) : List Nat := allEngs.filter fun e => !b.pw.dark.contains (fibreOf e)

/-- HEATER_WARM_UP_COMPLETE (R100), once every region in use is at its setpoint: the enabled regions of the engines not
skipped enter Acquire, and their searches wait for them. -/
def warmedUp (b : Block) : Block :=
  if b.pw.startup ≠ some .warm ∨ b.startEngs.any fun e => (regionsOf e).any fun q => b.loopEn e q && !b.atSetpoint e q then b else
  let b := { b with pw := { b.pw with startup := some .acquire } }
  b.each b.startEngs fun b e =>
    let b := b.each (regionsOf e) fun b q => if b.loopEn e q && b.lockSt e q == 0 then b.setLock e q 1 else b
    b.newSearch e 0 0 0 true true

/-- MAP_COMMIT (R100): once no search of the start-up is left, the code of every Locked region is checked, the maps are
committed and the module is in Hold. -/
def commitMaps (b : Block) : Block :=
  if b.pw.startup ≠ some .acquire ∨ (allEngs.any fun e => match (b.eng e).search with
      | some q => q.startup | none => false) then b else
  (mapCommit (b.each allEngs fun b e => b.each (regionsOf e) fun b q => corrCheck e q b)).finish stHold

/-- Every engine in Nap that no calibration holds in Run (R34, R324). -/
def Block.napAll (b : Block) : Block :=
  b.each allEngs fun b e => if (b.eng e).calRun then b else
    (b.setPs e .nap).updEng e fun x => { x with hold := 0 }

/-- HOLD_TO_ACTIVE_COMPLETE (R35): frames are accepted, the engines begin in Nap. -/
def activeReached (b : Block) : Block := if b.pw.now ≠ some stActive then b else b.napAll.finish stActive

/-! ## Entry to Hold and to Stow -/

/-- The module enters Hold from Active (R34, R35). -/
def Block.enterHold (b : Block) : Block := b.napAll.finish stHold

/-- What Stow takes from engine `e` (R73, R268, R358, R462, R66): build, search, plates, row sums, park tables, maps, the
model, a scan under way, error-budget fields; the failed-ring marks come back from the staging copy (R469); queued ring
trims take effect; the engine goes to Nap. -/
def Block.engineStow (b : Block) (e : Nat) : Block :=
  let b := if e < 64 then b.abortBuild e else b.dynStow e
  let b := b.abortSearch e
  let marks := b.pw.stage.marks.filter fun w => w.1 == e
  let b := (b.setPs e .nap).updEng e fun x =>
    { x with hold := 0, fg := .empty, bg := .empty, build := none, built := none, delta := 0, firstLoad := true, cbP := [],
             scaleP := [], uncal := false, oldRows := [], scanNext := 512,
             mapF := [], mapP := marks.foldl (fun m w => mapSet m w.2.1 w.2.2) [], lineF := [], lineP := [], spareF := [], spareP := [],
             parkF := [], parkP := [], offF := [], offP := [], passes := [], ueRings := [], heldOne := false, symCnt := 0,
             samples := [], ovr := false }
  let b := b.when (e < 64) fun b =>
    (((b.wrF (ENG_STATE e) 2 5 0).wrF (ENG_STATE e) 8 4 0).wrF (ENG_SCAN e) 9 2 0).wr (ENG_MODEL_TAG e) 0
  let b := b.takeTrims e (b.eng e).trimQ.length
  let b := ((b.clrB (ASG_STAT e) 2).showComplete e).showPark e [] []
  let b := (b.ebudInvalid e true).updEng e fun x => { x with noiseR := [], systR := [], ebAt := none }
  b.each (List.range 4) fun b k => b.wr (ebud e k) 0

/-- ENTER_STOW (R462): the steps of the entry to Stow, once they are called for and no frame runs; `LEN` falls last. -/
def enterStow (b : Block) : Block :=
  if b.pw.now ≠ some stStow ∨ b.inFrame then b else
  let b := b.dropStarts
  let b := b.each (List.range 4) Block.calDiscard
  let b := b.each allEngs Block.engineStow
  let b := b.each (List.range 4) fun b s => b.updStk s fun k =>
    { k.emptySlots with store := [], cons := [], rdbkQ := [], hopQ := [], fly := [], trecQ := [], builder := [], asyQ := [], win := [],
                        dark := [], decoding := false }
  let b := b.each allEngs fun b e => b.each (regionsOf e) fun b q => b.setLock e q 0
  let b := ({ b with tail := false, wakes := [] }.lenLow).finish stStow
  b.when (b.rdB LCO_CTRL 1) Block.tieBegin

/-- The steps of the entry to Stow begin at once, and every request is discarded (R36, R453, R510, R511). While a reset of
the module or of Mionus runs, Stow follows its completion. -/
def Block.callStow (b : Block) : Block :=
  let b := { b with pw := { b.pw with wait := none, behind := none, startup := none } }.clrB LCO_LSTAT 6
  if b.pw.drain || b.pw.inMr || !b.pw.mionus then
    { b with pw := { b.pw with now := none, stowDue := true } }.showPwr
  else ({ b with pw := { b.pw with now := some stStow, forced := true } }.dropStarts).showPwr

/-- A Stow that waited for the end of a reset (R511), then the request that waited (R465). -/
def Block.afterReset (b : Block) : Block :=
  if b.pw.stowDue && !b.pw.drain && !b.pw.inMr && b.pw.mionus then
    { b with pw := { b.pw with stowDue := false } }.callStow
  else b.nextReq

/-- The transition that waited for a frame boundary begins (R35). -/
def Block.boundaryReq (b : Block) : Block :=
  match b.pw.wait with
  | none => b
  | some t =>
    let b := { b with pw := { b.pw with wait := none } }
    if t = stHold then b.enterHold
    else if t = stStow then ({ b with pw := { b.pw with now := some stStow, forced := false } }.dropStarts).showPwr
    else b

/-! ## Meanings -/

/-- PWR_REQ (R35). -/
def execPwrReq (m : Master) (v : Word) (s : State) : Res :=
  s.done fun b => b.gate m PWR_REQ (pwrReqWrite (v ||| 0x80000000))
/-- LASER_DEAD_TIME_END (R509). -/
def execLaserDeadTimeEnd (s : State) : Res := s.done deadEnd
/-- LIGHT_CHECK_COMPLETE (R100). -/
def execLightCheckComplete (dark : List (Fin 16)) (s : State) : Res := s.done (lightChecked (dark.map (·.val)))
/-- HEATER_WARM_UP_COMPLETE (R100). -/
def execHeaterWarmUpComplete (s : State) : Res := s.done warmedUp
/-- MAP_COMMIT (R100). -/
def execMapCommit (s : State) : Res := s.done commitMaps
/-- HOLD_TO_ACTIVE_COMPLETE (R35). -/
def execHoldToActiveComplete (s : State) : Res := s.done activeReached
/-- ENTER_STOW (R462). -/
def execEnterStow (s : State) : Res := s.done enterStow

end Sys2Proof.Machine
end

