-- ==== Sys2Proof/Machine/Frame.lean ====
section
/-! DEFINITION. Frames (R37 to R40, R280, R299 to R305, R489): how a frame begins, the boundary and the empty boundary,
bank swaps, abandonment, and TAINTED set on a closed frame. -/

namespace Sys2Proof.Machine

/-! ## Begin (R280) -/

/-- FRAME_BEGIN (R37, R280, R489): the start record at the head of the queue, once the previous boundary is complete, the
module accepts frames, no transition is pending and the gap of R489 is over. -/
def frameBegin (b : Block) : Block :=
  match b.startQ with
  | [] => b
  | r :: rest =>
    if b.inFrame || b.tail || b.refuses || b.pw.wait.isSome || b.pw.now.isSome || decide (b.time.toNat < b.gap) then b else
    let f : Frame :=
      { sr := r, begun := b.time, ended := false, irq := false, saddr := none, stopped := false, tlimit := false,
        abandon := false, byEnd := false, flags := 0, rej := false, nrej := 0, ridx := 0, rreason := 0, nlate := 0, nheld := 0,
        pc := 0, queue := [], infl := [], fences := [], lastIdx := 0, mint := none, mq := [], vops := [], vrecvs := [], engines := [], mOrd := 0, mConv := 0,
        mClip := 0, mNsat := 0, mWorst := 0, mWorstOrd := 0 }
    let b := { b with frm := some f, startQ := rest }.wr MSQ_FRAME r.frame
    let b := b.each (List.range 4) fun b s =>
      ((b.wr (SEQ_FRAME s) r.frame).wr (SEQ_SEED_LO s) (r.seed.setWidth 32)).wr (SEQ_SEED_HI s) ((r.seed >>> 32).setWidth 32)
    let b := b.each (List.range 16) fun b k => b.wr (MSQ_CTR k) 0
    let b := b.each allEngs fun b e => b.updEng e fun x => { x with ovr := false, dyn := { x.dyn with plan := [] } }
    (b.releaseHeld r.frame).fetch

/-! ## The status word (R300, R302) -/

/-- Ticks since the frame began. -/
def Frame.age (f : Frame) (t : BitVec 64) : Nat := (t - f.begun).toNat

/-- The eight words of the frame status word. -/
def Frame.statusWords (f : Frame) (dur : Nat) : List Word :=
  let w1 := f.flags % 128 + b2n f.byEnd * 2 ^ 8 + b2n f.tlimit * 2 ^ 9 + b2n f.abandon * 2 ^ 10 + b2n f.rej * 2 ^ 11
    + min f.nrej 255 * 2 ^ 16
  [f.sr.frame, wd w1, wd (f.ridx % 2 ^ 17 + f.rreason % 256 * 2 ^ 24), wd (min dur (2 ^ 32 - 1)), f.begun.setWidth 32,
   (f.begun >>> 32).setWidth 32, wd (min f.nlate 65535 + min f.nheld 65535 * 2 ^ 16), f.sr.seed.setWidth 32]

/-- The status word of a frame written to its address and to the history (R299, R302). -/
def Block.statusOut (b : Block) (f : Frame) : Block :=
  let ws := f.statusWords (f.age b.time)
  let b := b.each (ws.zip (List.range 8)) fun b (w, i) => b.wr (MSQ_FSW (8 * (f.sr.frame.toNat % 64) + i)) w
  let b := match f.saddr with
    | some a => (b.hbmTouch a 32).wrBytes a (ws.flatMap fun (w : Word) => bytesLE 4 w.toNat)
    | none => b
  b.when f.irq fun b => b.raise P_MSQ 0

/-- TAINTED set on a closed frame (R302, R396). -/
def Block.lateFault (b : Block) (frame : BitVec 32) : Block :=
  let k := 8 * (frame.toNat % 64)
  let held := b.rd (MSQ_FSW k) == frame && b.rd (MSQ_FSW (k + 1)) != 0
  let b := b.when held fun b => ((b.setB (MSQ_FSW (k + 1)) 1).setB (MSQ_FSW (k + 1)) 12).raise P_MSQ 4
  b.evF 0x4506 0 [(1, b2n held)] frame

/-! ## The boundary (R39, R40, R299) -/

/-- Pending items brought into force, up to the arming of the bank swaps (R39, R299): calibration results with ring
tables and dynamic maps, plate halves, the tuning curve, then the groups that swap their banks. -/
def Block.bringIn (b : Block) : Block :=
  let frame := b.frameId
  let b := b.each (List.range' 64 8) fun b e => (b.tblBoundary e frame).dynMapBoundary e
  let b := b.each (List.range 4) Block.calBoundary
  let b := b.each (List.range 64) fun b e => b.swapHalves e frame
  let b := b.each (List.range 4) fun b s => (b.calNext s).curveBoundary s frame
  let b := b.each (List.range 4) Block.bankBoundary
  { b with tail := true }

/-- The end of a boundary (R299): scale tables, trims and ranges, then a transition that waited (R35) and the holds of
calibrations that waited for invalid rows (R338). -/
def Block.tailEnd (b : Block) : Block :=
  if !b.tail || (List.range 4).any (fun s => !(b.stk s).swapping.isEmpty) then b else
  let b := b.each (List.range 4) Block.scaleCopy
  let b := b.each allEngs Block.trimBoundary
  let b := (b.each (List.range 4) Block.calTrimEnd).each allEngs Block.rangeBoundary
  let b := b.each (List.range 4) fun b s => (b.calHoldBegin s).pumpAll s
  { b with tail := false }.boundaryReq

/-- `MSQ_CTRL.EN` cleared at the boundary after a critical margin (R457) or a reset of Mionus in the frame (R305), which
empties the start queue. -/
def Block.criticalStop (b : Block) : Block :=
  if b.pw.critical || b.pw.mioFrame then
    ({ b with pw := { b.pw with critical := false, mioFrame := false } }.clrB MSQ_CTRL 0).recheck
  else b

/-- The boundary of the running frame (R299): tiles closed, status word out, pending items in force unless the frame is
abandoned (R303). -/
def Block.boundary (b : Block) (f : Frame) : Block :=
  let b := b.each (List.range 4) fun b s => b.ledgerBoundary s f.sr.frame
  let b := (b.dropHeld f.sr.frame).mintBoundary f
  let f := match b.frm with | some g => g | none => f
  let b := b.statusOut f
  let lv := b.rdF THM_STAT 0 3
  let d := if lv = 2 then b.rdF THM_THROT 0 8 else b.rdF THM_THROT 8 8
  let dur := f.age b.time
  let gap := if lv = 2 ∨ lv = 3 then f.begun.toNat + (dur * 256 + d - 1) / d else 0
  let b := { b with frm := none, bnds := b.bnds + 1, gap := gap }
  let b := (b.each (List.range' 64 8) Block.dynBoundary).criticalStop
  if f.abandon then b else b.bringIn.tailEnd

/-- FRAME_BOUNDARY (R283, R299): the frame has ended and every descriptor is issued and complete, or its limit has
passed. -/
def frameBoundary (b : Block) : Block :=
  match b.frm with
  | none => b
  | some f => if f.tlimit ∨ f.ended ∧ f.queue.isEmpty ∧ f.infl.isEmpty then b.boundary f else b

/-- EMPTY_BOUNDARY (R40): with no frame running. -/
def emptyBoundary (b : Block) : Block := if b.inFrame || b.tail then b else b.criticalStop.bringIn.tailEnd

/-- BANK_SWAP (R153): a group swaps at its grid point; the last one ends the boundary. -/
def bankSwapEff (s g : Nat) (b : Block) : Block := (bankSwap s g b).tailEnd

/-- The running frame abandoned (R303), with the cause of event 0x4503: 0 `LSAFE_N` trip, 1 rail fault, 2 thermal
shutdown. -/
def Block.abandonFrame (b : Block) (cause : Nat) : Block :=
  match b.frm with
  | none => b
  | some f =>
    let b := b.haltFrame.updFrm fun f => { f with abandon := true, byEnd := false }
    let b := (b.raise P_MSQ 5).evF 0x4503 0 [(1, cause)] f.sr.frame
    match b.frm with | some f => b.boundary f | none => b

/-! ## Meanings -/

/-- FRAME_BEGIN (R280). -/
def execFrameBegin (s : State) : Res := s.done frameBegin
/-- FRAME_BOUNDARY (R299). -/
def execFrameBoundary (s : State) : Res := s.done frameBoundary
/-- EMPTY_BOUNDARY (R40). -/
def execEmptyBoundary (s : State) : Res := s.done emptyBoundary
/-- BANK_SWAP (R153). -/
def execBankSwap (st : Fin 4) (g : Fin 18) (s : State) : Res := s.done (bankSwapEff st g)

end Sys2Proof.Machine
end

