-- ==== Sys2Proof/Machine/Hk.lean ====
section
/-! DEFINITION. The housekeeping converters HKA (`false`) and HKB (`true`) (R494 to R501, R514). -/

namespace Sys2Proof.Machine

def Block.conv (b : Block) (x : Bool) : Conv := if x then b.hk.b else b.hk.a
def Block.setConv (b : Block) (x : Bool) (c : Conv) : Block :=
  { b with hk := if x then { b.hk with b := c } else { b.hk with a := c } }

def hkTmr (x : Bool) : Nat := if x then HK_TMR_B else HK_TMR_A
def hkScanLo (x : Bool) : Nat := if x then HK_SCAN_B_LO else HK_SCAN_A_LO
def hkScanHi (x : Bool) : Nat := if x then HK_SCAN_B_HI else HK_SCAN_A_HI
def hkEvt (x : Bool) : Nat := if x then HK_EVT_B else HK_EVT_A
def hkCfg (x : Bool) (c : Nat) : Nat := if x then HK_CFG_B c else HK_CFG_A c
def hkRes (x : Bool) (c : Nat) : Nat := if x then HK_RES_B c else HK_RES_A c
def hkLim (x : Bool) (c : Nat) : Nat := if x then HK_LIM_B c else HK_LIM_A c
def hkLimst (x : Bool) (c : Nat) : Nat :=
  if x then (if c < 32 then HK_LIMST_B_LO else HK_LIMST_B_HI) else if c < 32 then HK_LIMST_A_LO else HK_LIMST_A_HI

/-- Is a converter enabled (R514)? -/
def Block.hkOn (b : Block) (x : Bool) : Bool := b.pw.phase.islandUp && b.rdB HK_CTRL (b2n x)

/-- Is a channel converted differentially (R497)? -/
def Block.hkDiff (b : Block) (x : Bool) (c : Nat) : Bool :=
  if x then decide (c < 16) else (c == 16 || c == 18 || c == 20 || c == 22) && b.rdB (HK_CFG_A c) 1

/-- Is a channel reserved, so that it converts to 0 (R495, R496)? -/
def hkReserved (x : Bool) (c : Nat) : Bool := decide (48 ≤ c) || (decide (c ≠ 47) && decide ((if x then 32 else 37) ≤ c))

/-- The result word of a 12-bit code (R497). -/
def Block.hkFormat (b : Block) (x : Bool) (c code : Nat) : Nat :=
  if b.rdB (hkCfg x c) 0 then code * 16 else if b.hkDiff x c then unsx 16 (sext 12 code) else code

/-- A quantity in whole units of which `k` converter steps make `n`: where it falls between two of them the value is free
(assumption 35). -/
def Block.hkUnits (b : Block) (code k n : Nat) : Nat × Block :=
  let v := code * k
  if v % n = 0 then (v / n, b) else let (i, b) := b.freeUpTo 1; (v / n + i, b)

/-- `CAPLOW` (R468), once the capacitance is known: below 1,500 µF, or less than 60 mJ above 7.0 V. Capacitance in µF, node
voltage in 10 mV. -/
def Block.capJudge (b : Block) : Block :=
  let c := b.rdF PWR_HU 0 16
  let v := b.rdF PWR_HU 16 16
  let low := decide (c < 1500) || decide ((c : Int) * ((v : Int) * v - 490000) < 1200000000)
  let was := b.rdB PWR_STAT 5
  let b := b.wrB PWR_STAT 5 low
  if low && !was then (b.raise P_PWR 5).ev 0x7302 0 [(2, c), (2, v)] else b

/-- What a result feeds beside its register (R457, R468, R477, R505): VCORE, with the end of `VLOW`, and the hold-up node, the module's input power
(a free value: the spec gives no formula), and the checks of a pin. -/
def Block.hkFeeds (b : Block) (x : Bool) (c code : Nat) : Block :=
  let b := b.when (decide (c < 16)) fun b => b.pinSample x c code
  if !x ∧ c = 25 then
    let (mv, b) := b.hkUnits code 1250 4096
    let mv := min mv 1023
    let b := b.wrF PWR_VMEAS 0 10 mv
    let b := if b.rdF PWR_VREQ 0 10 ≤ mv + 20 then b.clrB PWR_STAT 3 else b
    if b.hk.vclear ∨ mv < b.rdF PWR_VMEAS 16 10 then
      { b.wrF PWR_VMEAS 16 10 mv with hk := { b.hk with vclear := false } } else b
  else if !x ∧ c = 35 then
    let (v, b) := b.hkUnits code 1600 4096
    let b := b.wrF PWR_HU 16 16 v
    if b.rdF PWR_HU 0 16 = 0 then b else b.capJudge
  else if x ∧ 25 ≤ c ∧ c ≤ 30 then
    let (w, b) := b.freeWord
    b.wr PWR_POWER (wd (fld w 0 16))
  else b

/-- A result (R497, R501): the channel's register with its count, what it feeds, and the limits. -/
def Block.hkResult (b : Block) (x : Bool) (c code : Nat) : Block :=
  if 48 ≤ c then b else
  let code := if hkReserved x c then 0 else code
  let r := hkRes x c
  let b := (b.wrF r 0 16 (b.hkFormat x c code)).wrF r 24 8 (b.rdF r 24 8 + 1)
  let b := b.hkFeeds x c code
  let d := b.hkDiff x c
  let val (n : Nat) : Int := if d then sext 12 n else n
  let lo := val (b.rdF (hkLim x c) 0 12)
  let hi := val (b.rdF (hkLim x c) 16 12)
  if b.rdB (hkCfg x c) 2 ∧ (val code < lo ∨ hi < val code) then
    ((b.setB (hkLimst x c) (c % 32)).raise P_HK 1).ev 0x8102 0 [(1, b2n x), (1, c), (2, b.hkFormat x c code)]
  else b

/-- The next urgent conversion of a converter, an event's before the host's (R499); one that begins while the scan
converts aborts that conversion, which is counted and restarts. -/
def Block.hkServe (b : Block) (x : Bool) (fresh : Bool) : Block :=
  let c := b.conv x
  if c.run.isSome then b else
  let go (c : Conv) : Block := (b.setConv x c).when (fresh && !c.scan.isEmpty) fun b => b.bump HK_ABORTCNT
  match c.event, c.host with
  | some ch, _ => go { c with event := none, run := some (false, ch) }
  | none, some ch => go { c with host := none, run := some (true, ch) }
  | none, none => b

/-- HK_SCAN_TICK (R498, R500). -/
def hkTick (x : Bool) (b : Block) : Block :=
  if !b.hkOn x ∨ b.rdF (hkTmr x) 0 16 = 0 then b else
  let c := b.conv x
  let b := if x then b else { b with hk := { b.hk with check := true } }
  if !c.scan.isEmpty then b.bump HK_TOVR else
  let m := (b.rd (hkScanLo x)).toNat + (b.rd (hkScanHi x)).toNat * 2 ^ 32
  b.setConv x { c with scan := (List.range 48).filter m.testBit }

/-- HK_EVENT_EDGE (R498): the delay of the selected event begins, or the edge is lost. STEADY must have locked (R494). -/
def hkEdge (x : Bool) (b : Block) : Block :=
  let src := b.rdF (hkEvt x) 0 2
  if !b.hkOn x ∨ src = 0 ∨ src = 3 ∨ !b.rdB CLK_STAT 3 then b else
  let c := b.conv x
  if c.delay then ((b.bump HK_EVLOST).raise P_HK 2).ev 0x8103 0 [(1, b2n x), (1, src)]
  else b.setConv x { c with delay := true }

/-- HK_EVENT_CONVERSION (R498, R499): the delay has run out. -/
def hkEvent (x : Bool) (b : Block) : Block :=
  let c := b.conv x
  if !c.delay then b else
  (b.setConv x { c with delay := false, event := some (b.rdF (hkEvt x) 8 6) }).hkServe x true

/-- A write of `HK_URG` (R499). -/
def hkUrgWrite (v : Word) (b : Block) : Block × Bool :=
  if !bit v 31 then (b, false)
  else if b.rdB HK_URGRES 17 then (b.raise P_HK 4, false)
  else
    let x := bit v 8
    let b := b.setB HK_URGRES 17
    let b := b.setConv x { b.conv x with host := some (fld v 0 6) }
    (if b.hkOn x then b.hkServe x true else b, true)

/-- HK_CONVERSION_COMPLETE (R499): the conversion that runs on a converter ends with a code. -/
def hkDone (x : Bool) (code : Nat) (b : Block) : Block :=
  if !b.hkOn x then b else
  let c := b.conv x
  match c.run with
  | some (host, ch) =>
    let b := (b.setConv x { c with run := none }).hkResult x ch code
    let b := b.when host fun b =>
      let r := if hkReserved x ch then 0 else b.hkFormat x ch code
      (((b.wrF HK_URGRES 0 16 r).setB HK_URGRES 16).clrB HK_URGRES 17).raise P_HK 3
    b.hkServe x false
  | none =>
    match c.scan with
    | ch :: rest => (b.setConv x { c with scan := rest }).hkResult x ch code
    | [] => b.hkServe x false

/-- HK_CROSS_CHECK (R500): both converters convert channel 47 at the same time. -/
def hkCheck (ca cb : Nat) (b : Block) : Block :=
  if !b.hk.check ∨ b.hk.a.run.isSome ∨ b.hk.b.run.isSome ∨ !b.hkOn false ∨ !b.hkOn true then b else
  let b := { b with hk := { b.hk with check := false } }
  let b := ((b.hkResult false 47 ca).hkResult true 47 cb).wr HK_XRES (wd (ca + cb * 2 ^ 16))
  if !b.rdB HK_CTRL 2 then b else
  let n := max 1 (b.rdF HK_XTOL 8 4)
  let diff := max ca cb - min ca cb
  if b.rdF HK_XTOL 0 8 < diff then
    let b := { b with hk := { b.hk with bad := b.hk.bad + 1, good := 0 } }
    if n ≤ b.hk.bad ∧ !b.rdB HK_STAT 2 then
      (((b.setB HK_STAT 2).bump HK_XFCNT).raise P_HK 0).ev 0x8101 0 [(2, ca), (2, cb)]
    else b
  else
    let b := { b with hk := { b.hk with bad := 0, good := b.hk.good + 1 } }
    if n ≤ b.hk.good then b.clrB HK_STAT 2 else b

/-- `HK_STAT` (R514). -/
def Block.hkStat (b : Block) : Word :=
  let busy (c : Conv) : Bool := c.run.isSome || !c.scan.isEmpty
  let ch (c : Conv) : Nat := match c.run with | some (_, k) => k | none => c.scan.headD 0
  wd (b2n (busy b.hk.a) + 2 * b2n (busy b.hk.b) + 4 * b2n (b.rdB HK_STAT 2) + ch b.hk.a * 2 ^ 8 + ch b.hk.b * 2 ^ 16)

/-- A write of `HK_CFG` (R497): `DIFF` where it is writable, and 1 where it is fixed. -/
def hkCfgWrite (x : Bool) (c : Nat) (v : Word) (b : Block) : Block × Bool :=
  let diff := if x then decide (c < 16) else (c == 16 || c == 18 || c == 20 || c == 22) && bit v 1
  (b.wr (hkCfg x c) (wd (b2n (bit v 0) + 2 * b2n diff + 4 * b2n (bit v 2))), true)

/-! ## Meanings -/

/-- HK_SCAN_TICK (R498). -/
def execHkScanTick (x : Bool) (s : State) : Res := s.done (hkTick x)
/-- HK_CROSS_CHECK (R500). -/
def execHkCrossCheck (ca cb : BitVec 12) (s : State) : Res := s.done (hkCheck ca.toNat cb.toNat)
/-- HK_EVENT_EDGE (R498). -/
def execHkEventEdge (x : Bool) (s : State) : Res := s.done (hkEdge x)
/-- HK_EVENT_CONVERSION (R498). -/
def execHkEventConversion (x : Bool) (s : State) : Res := s.done (hkEvent x)
/-- HK_URG (R499). -/
def execHkUrg (m : Master) (v : Word) (s : State) : Res := s.done fun b => b.gate m HK_URG (hkUrgWrite (v ||| 0x80000000))
/-- HK_CONVERSION_COMPLETE (R499). -/
def execHkConversionComplete (x : Bool) (code : BitVec 12) (s : State) : Res := s.done (hkDone x code.toNat)

end Sys2Proof.Machine
end

