-- ==== Sys2Proof/Machine/Thermal.lean ====
section
/-! DEFINITION. Thermal management (R482 to R487, R512, R513): samples, dwells, faulted sensors and the module level.
Temperatures are in 1/256 K. The shutdown of R491 stands in `Machine/Power.lean`. -/

namespace Sys2Proof.Machine

def Block.sensor (b : Block) (i : Nat) : Sensor := b.thm.sens.get (fun _ => {}) i
def Block.updSensor (b : Block) (i : Nat) (f : Sensor → Sensor) : Block :=
  { b with thm := { b.thm with sens := b.thm.sens.upd (fun _ => {}) i f } }

/-- The die of a sensor (R482): 0 control, 1 to 4 readout of a stack, 5 to 8 photonic of a stack, 9 link. -/
def dieOf (i : Nat) : Nat :=
  if i < 24 then 0 else if i < 72 then 1 + (i - 24) / 12 else if i < 88 then 5 + (i - 72) / 4 else 9

/-- Threshold `k` (1 WARN to 4 SHUTDOWN) in 1/256 K (R485). -/
def Block.limit (b : Block) (k : Nat) : Int := 256 * (b.rdF THM_LIM (8 * (k - 1)) 8 : Int)

/-- The reading of sensor `i` (R513). -/
def Block.temp (b : Block) (i : Nat) : Int := sext 16 (b.rdF (THM_T i) 0 16)

/-- One sample on one threshold (R486): at or above it, below it minus 2 K, or between; `count` false counts it as below,
as for a masked sensor (R487). -/
def Dwell.sample (d : Dwell) (t lim : Int) (count : Bool) : Dwell :=
  let up := if count ∧ lim ≤ t then d.up + 1 else 0
  let dn := if !count ∨ t < lim - 512 then d.dn + 1 else 0
  { up := up, dn := dn, on := if 10 ≤ up then true else if 10 ≤ dn then false else d.on }

/-- The level of a sensor as reported: the highest threshold reached and not left (R486). -/
def Sensor.level (x : Sensor) : Nat :=
  if x.shut.on then 4 else if x.crit.on then 3 else if x.thr.on then 2 else if x.warn.on then 1 else 0

/-- The level with which a sensor counts towards the module level (R487). -/
def Sensor.counted (x : Sensor) : Nat :=
  if x.shut.on then 4 else if x.crit.on then 3 else if x.mThr.on then 2 else if x.mWarn.on then 1 else 0

def Block.tFault (b : Block) (i : Nat) : Bool := b.rdB (THM_T i) 16

/-- The level of a sensor shown in `THM_T`. -/
def Block.showSensor (b : Block) (i : Nat) : Block := b.wrF (THM_T i) 18 3 (b.sensor i).level

/-- `HOT` and `TMAX` (R513): the hottest sensor not faulted, the lowest of several. -/
def Block.showHot (b : Block) : Block :=
  match ((List.range 96).filter fun i => !b.tFault i).foldl (fun best i => match best with
      | none => some i
      | some j => if b.temp j < b.temp i then some i else some j) none with
  | some i => (b.wrF THM_STAT 8 7 i).wrF THM_STAT 16 16 (b.rdF (THM_T i) 0 16)
  | none => b

/-- THERMAL_SAMPLE (R483, R486, R487): the readings of all 96 sensors, signed Q8.8; ten samples at THROTTLE or CRIT count
one millisecond. -/
def thermalSample (ts : List (BitVec 16)) (b : Block) : Block :=
  if b.pw.phase = .dark ∨ b.pw.phase = .saved then b else
  let b := b.each ((List.range 96).zip ts) fun b ((i, w) : Nat × BitVec 16) =>
    let t : Int := w.toInt
    let out := t < -40 * 256 ∨ 150 * 256 < t
    let flt := b.tFault i
    let m := b.rdB (THM_MASK (i / 32)) (i % 32)
    let b := b.wrF (THM_T i) 0 16 w.toNat
    let b := b.updSensor i fun x =>
      let x := { x with out := if out then x.out + 1 else 0, good := if out then 0 else x.good + 1 }
      if flt then x else
      { x with warn := x.warn.sample t (b.limit 1) true, thr := x.thr.sample t (b.limit 2) true,
               crit := x.crit.sample t (b.limit 3) true, shut := x.shut.sample t (b.limit 4) true,
               mWarn := x.mWarn.sample t (b.limit 1) (!m), mThr := x.mThr.sample t (b.limit 2) (!m) }
    b.showSensor i
  let b := b.showHot
  let lv := b.rdF THM_STAT 0 3
  if lv ≠ 2 ∧ lv ≠ 3 then b
  else if b.thm.tenths + 1 < 10 then { b with thm := { b.thm with tenths := b.thm.tenths + 1 } }
  else { b with thm := { b.thm with tenths := 0 } }.bump THM_TTIME

/-- SENSOR_FAULT (R484): after three consecutive samples out of range. -/
def sensorFault (i : Nat) (b : Block) : Block :=
  if b.tFault i ∨ (b.sensor i).out < 3 then b else
  let b := (b.setB (THM_T i) 16).setB (THM_FAULT (i / 32)) (i % 32)
  let b := b.updSensor i fun x => { ({} : Sensor) with out := x.out, good := x.good }
  ((b.showSensor i).showHot.raise P_THM 1).ev 0x8006 0 [(1, i), (2, b.rdF (THM_T i) 0 16)]

/-- SENSOR_FAULT_CLEAR (R484): after a hundred consecutive samples in range. -/
def sensorClear (i : Nat) (b : Block) : Block :=
  if !b.tFault i ∨ (b.sensor i).good < 100 then b else
  ((b.clrB (THM_T i) 16).clrB (THM_FAULT (i / 32)) (i % 32)).showHot

/-- The module level as the sensors give it, and the sensor that gives it: a die whose sensors are all faulted counts as
at CRIT (R484, R486). Of several sensors the hottest, then the lowest. -/
def Block.level (b : Block) : Nat × Nat :=
  let ok := (List.range 96).filter fun i => !b.tFault i
  let best := ok.foldl (fun (a : Nat × Nat) i =>
    let l := (b.sensor i).counted
    if a.1 < l ∨ a.1 = l ∧ l ≠ 0 ∧ b.temp a.2 < b.temp i then (l, i) else a) (0, b.rdF THM_STAT 8 7)
  match (List.range 10).find? fun d => (List.range 96).all fun i => dieOf i != d || b.tFault i with
  | some d => if best.1 < 3 then (3, ((List.range 96).find? fun i => dieOf i == d).getD 0) else best
  | none => best

/-- LEVEL_CHANGE (R486): the module level follows the sensors below SHUTDOWN. -/
def levelChange (b : Block) : Block :=
  let old := b.rdF THM_STAT 0 3
  let (new, i) := b.level
  if old = new ∨ old = 4 ∨ new = 4 then b else
  let b := (b.wrF THM_STAT 0 3 new).raise P_THM 0
  let rd := b.rdF (THM_T i) 0 16
  if new < old then b.ev 0x8005 0 [(1, old), (1, new)]
  else if new = 1 then b.ev 0x8001 0 [(1, i), (2, rd)]
  else if new = 2 then (b.bumpF THM_TCNT 0 16).ev 0x8002 0 [(1, i), (2, rd), (1, b.rdF THM_THROT 0 8)]
  else (b.bumpF THM_TCNT 16 16).ev 0x8003 0 [(1, i), (2, rd), (1, b.rdF THM_THROT 8 8)]

/-- HBM_TEMPERATURE_READ (R483). -/
def hbmTemps (ts : List (BitVec 8)) (b : Block) : Block :=
  b.each ((List.range 4).zip ts) fun b ((k, t) : Nat × BitVec 8) =>
    let b := b.wrF THM_HBM (8 * k) 8 t.toNat
    if 95 ≤ t.toNat then (b.raise P_THM 2).ev 0x8007 0 [(1, k), (1, t.toNat)] else b

/-- Are thresholds legal (R485)? -/
def limitsOk (w t c s : Nat) : Bool :=
  decide (60 ≤ w) && decide (w ≤ 105) && decide (70 ≤ t) && decide (t ≤ 108) && decide (80 ≤ c) && decide (c ≤ 110)
    && decide (w + 3 ≤ t) && decide (t + 3 ≤ c) && decide (c + 3 ≤ s)

/-- A write of `THM_LIM` (R485, R493): the dwells start anew under the new thresholds. -/
def thmLimWrite (v : Word) (b : Block) : Block × Bool :=
  if b.rdB (PG_LOCK P_THM) 0 then (b, false)
  else if !limitsOk (fld v 0 8) (fld v 8 8) (fld v 16 8) (b.rdF THM_LIM 24 8) then (b.setB THM_STAT 3, false)
  else
    let b := b.wrF THM_LIM 0 24 (fld v 0 24)
    let z (d : Dwell) : Dwell := { d with up := 0, dn := 0 }
    (b.each (List.range 96) fun b i => b.updSensor i fun x =>
      { x with warn := z x.warn, thr := z x.thr, crit := z x.crit, mWarn := z x.mWarn, mThr := z x.mThr }, true)

/-- A write of `THM_MASK` (R487). -/
def thmMaskWrite (k : Nat) (v : Word) (b : Block) : Block × Bool :=
  let b := b.wr (THM_MASK k) v
  (b.each (List.range 32) fun b j => b.wrB (THM_T (32 * k + j)) 17 (bit v j), true)

/-! ## Meanings -/

/-- THERMAL_SAMPLE (R483). -/
def execThermalSample (ts : List (BitVec 16)) (s : State) : Res := s.done (thermalSample ts)
/-- LEVEL_CHANGE (R486). -/
def execLevelChange (s : State) : Res := s.done levelChange
/-- SENSOR_FAULT (R484). -/
def execSensorFault (i : Fin 96) (s : State) : Res := s.done (sensorFault i)
/-- SENSOR_FAULT_CLEAR (R484). -/
def execSensorFaultClear (i : Fin 96) (s : State) : Res := s.done (sensorClear i)
/-- HBM_TEMPERATURE_READ (R483). -/
def execHbmTemperatureRead (ts : List (BitVec 8)) (s : State) : Res := s.done (hbmTemps ts)
/-- THM_LIM_WRITE (R485). -/
def execThmLimWrite (m : Master) (v : Word) (s : State) : Res := s.done fun b => b.gate m THM_LIM (thmLimWrite v)

end Sys2Proof.Machine
end

