-- ==== Sys2Proof/Machine/Vault.lean ====
section
/-! DEFINITION. The Vault (R519 to R533) and the mailbox bindings it holds (R442): the choice of a slot at boot, updates,
host register sets. Where the sections of a slot lie in its image area is not modelled: a slot holds them by type
(assumption 34). -/

namespace Sys2Proof.Machine

/-- Does a section pass its CRC? -/
def Sect.ok (x : Sect) : Bool := crc32c x.bytes == x.crc

/-- Is a slot valid (R523)? -/
def VSlot.ok (x : VSlot) : Bool := x.hdr && x.fw.ok

def Vault.setSlot (v : Vault) (k : Nat) (x : VSlot) : Vault := if k = 0 then { v with a := x } else { v with b := x }
def Vault.area (v : Vault) (k : Nat) : VSet := if k = 0 then v.sa else v.sb
def Vault.setArea (v : Vault) (k : Nat) (x : VSet) : Vault := if k = 0 then { v with sa := x } else { v with sb := x }

/-- Of two items of a pair, each valid or not, the newer valid one by the wrap rule (R279, R523): slot or area number. -/
def newerOf (a b : Bool) (sa sb : Word) : Option Nat :=
  if a && b then some (if seqGT sb sa then 1 else 0) else if a then some 0 else if b then some 1 else none

/-- The host set in force for `SETAPPLY` (R530). -/
def Vault.newerSet (v : Vault) : Option VSet := (newerOf v.sa.ok v.sb.ok v.sa.seq v.sb.seq).map v.area

/-- `VLT_STAT`, the sequence numbers and the host set in force as the flash stands (R532, R533). -/
def Block.showVault (b : Block) : Block :=
  let v := b.vlt
  let b := ((b.wrB VLT_STAT 1 v.a.ok).wrB VLT_STAT 2 v.b.ok).wrB VLT_STAT 6 v.job.isSome
  let b := (b.wrB VLT_STAT 8 v.sa.ok).wrB VLT_STAT 9 v.sb.ok
  let b := (b.wr VLT_SEQ_A (if v.a.ok then v.a.seq else 0)).wr VLT_SEQ_B (if v.b.ok then v.b.seq else 0)
  b.wr VLT_SET_SEQ (match v.newerSet with | some x => x.seq | none => 0)

/-! ## Boot (R442, R523, R524) -/

/-- The 32 mailbox bindings written from the binding record of the slot in force, and the page locked (R442). The layout
of the record is not given: each binding is a free word of the configuration section, none where it is empty. -/
def Block.bindMbx (b : Block) : Block :=
  let cfg := match b.inForce with | some x => x.cfg.bytes | none => []
  let b := b.each (List.range 32) fun b c =>
    b.wr (MBX_BIND c) (if cfg.isEmpty then 0 else Config.vaultWord cfg (MBX_BIND c) &&& 0x1FF)
  let b := b.setB (PG_LOCK P_MBX) 0
  let bad := (List.range 32).filter fun c => b.rdB (MBX_BIND c) 8 && !(b.bind c).2.2
  let b := b.wr MBX_BINDERR (wd (bad.foldl (fun a c => a + 2 ^ c) 0))
  b.when (!bad.isEmpty) fun b => b.raise P_MBX 2

/-- The boot code's choice among the slots that are valid and not marked bad, with the event of R523: the slot, and the
cause of 0x9003 (0 equal `SEQ`, 1 one valid slot). -/
def Block.chooseSlot (b : Block) : Option (Nat × Option Nat) :=
  let v := b.vlt
  let a := v.a.ok && !b.rdB VLT_STAT 3
  let c := v.b.ok && !b.rdB VLT_STAT 4
  (newerOf a c v.a.seq v.b.seq).map fun k =>
    (k, if a && c then (if v.a.seq = v.b.seq then some 0 else none) else some 1)

/-- One pass of the boot code (R523). -/
def Block.bootOnce (b : Block) : Block :=
  match b.chooseSlot with
  | some (k, cause) =>
    let b := ((b.wrF VLT_STAT 0 1 k).clrB VLT_STAT 5).wr ID_FWVER (b.vlt.slot k).fwver
    match cause with | some c => b.ev 0x9003 0 [(1, c)] | none => b
  | none => (b.setB VLT_STAT 5).ev 0x9006 0 [(1, b2n b.vlt.a.hdr), (1, b2n b.vlt.b.hdr)]

/-- The check of configuration and production sections before the HW loads (R524): a slot that fails is marked bad, and
Mionus boots again. -/
def Block.checkSections (b : Block) : Block :=
  match b.inForce with
  | none => b
  | some x =>
    if x.cfg.ok && x.prod.ok then b else
    let k := b.rdF VLT_STAT 0 1
    let b := (b.setB VLT_STAT (3 + k)).ev 0x9002 0 [(1, k), (4, if x.cfg.ok then 3 else 2)]
    b.bootOnce

/-- MIONUS_BOOT (R523, R524): at power-on and after every reset of Mionus. -/
def mionusBoot (b : Block) : Block :=
  if b.pw.mionus || !b.pw.phase.islandUp then b else
  let b := b.bootOnce
  let b := if b.pw.phase = .island then b.checkSections.checkSections else b
  let b := { b.showVault with pw := { b.pw with mionus := true } }
  let b := b.when (b.rdB RST_STAT 2) fun b => (b.clrB RST_STAT 2).raise P_RST 1
  let mine := (List.range 32).filter fun c => (b.bind c).2.1 == 3
  let mbx := mine.foldl (fun m c => m.upd (fun _ => Chan.reset) c fun q => { q with queue := [] }) b.host.mbx
  let b := { b with host := { b.host with mbx := mbx } }
  (b.when (!b.rdB (PG_LOCK P_MBX) 0 && !b.pw.inMr) Block.bindMbx).afterReset

/-! ## Commands (R525 to R531) -/

/-- A refusal or failure of operation `op` (R528): `STATUS`, `FAIL`, and event 0x9005 with the master. -/
def Block.vltFail (b : Block) (op status m : Nat) : Block :=
  let b := (b.wrF VLT_RESULT 0 4 op).wrF VLT_RESULT 4 4 status
  (b.raise P_VLT 1).ev 0x9005 0 [(1, op), (1, status), (1, m)]

/-- An operation aborted (R528): `STATUS` 7 and event 0x9004; what it was writing stays invalid. -/
def Block.vltAbort (b : Block) : Block :=
  match b.vlt.job with
  | none => b
  | some j =>
    let b := { b with vlt := { b.vlt with job := none } }.showVault
    let b := (b.wrF VLT_RESULT 4 4 7).raise P_VLT 1
    b.ev 0x9004 0 [(1, j.slot), (1, 7), (2, b.rdF VLT_RESULT 8 16)]

/-- An operation begins. -/
def Block.vltBegin (b : Block) (j : VJob) : Block :=
  ({ b with vlt := { b.vlt with job := some j } }.wr VLT_RESULT (wd j.op)).showVault

def Block.vltAddr (b : Block) : Nat := (b.rd VLT_SRC_LO).toNat + b.rdF VLT_SRC_HI 0 8 * 2 ^ 32

/-- Is the staging area within installed HBM and aligned (R528)? -/
def Block.stageOk (b : Block) (n : Nat) : Bool :=
  b.vltAddr % 64 == 0 && decide (b.vltAddr + n ≤ b.grade.bytes)

/-- The sections of a staged header as (type, offset, length, CRC), when the header is valid (R522, R525). -/
def Block.stagedHeader (b : Block) (a len : Nat) : Option (List (Nat × Nat × Nat × Word)) :=
  let n := b.rdLE (a + 0xC) 4
  let secs := (List.range (min n 8)).map fun k =>
    (b.rdLE (a + 0x10 + 16 * k) 4, b.rdLE (a + 0x14 + 16 * k) 4, b.rdLE (a + 0x18 + 16 * k) 4, b.rd32 (a + 0x1C + 16 * k))
  let fits := secs.all fun (x : Nat × Nat × Nat × Word) =>
    x.2.1 % 65536 == 0 && decide (x.2.1 + x.2.2.1 ≤ len) && (x.1 != 1 || decide (x.2.2.1 ≤ 4 * 2 ^ 20))
  if b.rdLE a 4 = 0x56414C54 ∧ b.rd32 (a + 0xFC) = crc32c (b.rdBytes a 0xFC) ∧ n = 2 ∧ fits
      ∧ (secs.any (·.1 == 1)) ∧ (secs.any (·.1 == 2)) then some secs else none

/-- A section of the staged image. -/
def Block.stagedSect (b : Block) (a : Nat) (secs : List (Nat × Nat × Nat × Word)) (t : Nat) : Sect :=
  match secs.find? fun (x : Nat × Nat × Nat × Word) => x.1 == t with
  | some (_, off, n, crc) => ⟨b.rdBytes (a + off) n, crc⟩
  | none => ⟨[], 0⟩

/-- `SEQ` one later than the newer of two sequence numbers, of which only valid ones count. -/
def nextSeq (a b : Bool) (sa sb : Word) : Word :=
  match newerOf a b sa sb with | some 0 => sa + 1 | some _ => sb + 1 | none => 1

/-- `UPDATE` by master `m` (R525, R528). -/
def Block.vltUpdate (b : Block) (m : Nat) : Block :=
  let len := (b.rd VLT_LEN).toNat
  let a := b.vltAddr
  if len < 4096 ∨ 31 * 2 ^ 20 < len ∨ !b.stageOk len then b.vltFail 1 3 m else
  match b.stagedHeader a len with
  | none => b.vltFail 1 4 m
  | some secs =>
    if !(b.stagedSect a secs 1).ok || !(b.stagedSect a secs 2).ok then b.vltFail 1 5 m else
    let v := b.vlt
    let slot := if b.rdB VLT_STAT 5 then 0 else 1 - b.rdF VLT_STAT 0 1
    let j : VJob := ⟨1, slot, a, secs, nextSeq v.a.ok v.b.ok v.a.seq v.b.seq, b.rd32 (a + 8), 0⟩
    { b with vlt := v.setSlot slot { v.slot slot with hdr := false } }.vltBegin j

/-- `SETWRITE` by master `m` (R528, R530, R531). -/
def Block.vltSetWrite (b : Block) (m : Nat) : Block :=
  let len := (b.rd VLT_LEN).toNat
  let a := b.vltAddr
  if len < 72 ∨ 2 ^ 20 < len ∨ !b.stageOk len ∨ len ≠ 64 + 8 * b.rdLE (a + 8) 4 then b.vltFail 2 3 m
  else if b.rdLE a 4 ≠ 0x56415354 then b.vltFail 2 4 m
  else if b.rd32 (a + 60) ≠ crc32c (b.rdBytes a 60 ++ b.rdBytes (a + 64) (len - 64)) then b.vltFail 2 5 m
  else
    let v := b.vlt
    let area := match newerOf v.sa.ok v.sb.ok v.sa.seq v.sb.seq with | some k => 1 - k | none => 0
    let j : VJob := ⟨2, area, a, [], nextSeq v.sa.ok v.sb.ok v.sa.seq v.sb.seq, 0, b.rdLE (a + 8) 4⟩
    { b with vlt := v.setArea area { v.area area with ok := false } }.vltBegin j

/-- A write of `VLT_CMD` by master `m`, but for `SETAPPLY`, whose acceptance is answered with `true` in the second place
(R528). -/
def vltCmd (m : Master) (v : Word) (b : Block) : Block × Bool × Bool :=
  let op := if bit v 0 then 1 else if bit v 2 then 2 else if bit v 3 then 3 else 0
  if op = 0 ∧ !bit v 1 then (b, false, false)
  else if m ≠ .pf0 ∧ m ≠ .mionus ∨ fld v 16 16 ≠ 0x5AA5 then (b.vltFail op 2 m.id, false, false)
  else if bit v 1 then (b.vltAbort, false, true)
  else if b.vlt.job.isSome then (b.vltFail op 1 m.id, false, false)
  else if op = 1 then (b.vltUpdate m.id, false, true)
  else if op = 2 then (b.vltSetWrite m.id, false, true)
  else match b.vlt.newerSet with
    | none => (b.vltFail 3 9 m.id, false, false)
    | some x => (((b.vltBegin ⟨3, 0, 0, [], x.seq, 0, x.ents.length⟩).wr VLT_APPLY 0).wr VLT_APPLYERR 0, true, true)

/-- `VLT_CMD` written for anything but `SETAPPLY`. -/
def vltCmdWrite (m : Master) (v : Word) (b : Block) : Block × Bool :=
  let r := vltCmd m v b
  (r.1, r.2.2)

/-- An operation that has begun fails at its end. -/
def Block.vltEndFail (b : Block) (op status : Nat) : Block :=
  ({ b with vlt := { b.vlt with job := none } }.showVault).vltFail op status 3

/-- An operation is done. -/
def Block.vltDone (b : Block) : Block := ({ b with vlt := { b.vlt with job := none } }.showVault).raise P_VLT 0

/-- VAULT_UPDATE_COMPLETE (R525): what the flash reported (0 nothing, 1 a read-back difference, 2 an erase or program
error); the sections are written from staging as they stand, and the production section is copied. -/
def vaultUpdateDone (flash : Nat) (b : Block) : Block :=
  match b.vlt.job with
  | some j =>
    if j.op ≠ 1 then b else
    let fw := b.stagedSect j.addr j.secs 1
    let cfg := b.stagedSect j.addr j.secs 2
    let v := b.vlt
    let prod : Option Sect := match b.inForce with
      | some x => if x.prod.ok then some x.prod else none
      | none => if v.a.prod.ok then some v.a.prod else if v.b.prod.ok then some v.b.prod else none
    if flash = 2 then b.vltEndFail 1 10 else
    match prod with
    | none => b.vltEndFail 1 11
    | some p =>
      if flash = 1 || !fw.ok || !cfg.ok then b.vltEndFail 1 6 else
      let n := (fw.bytes.length + cfg.bytes.length + p.bytes.length + 65535) / 65536
      let b := { b with vlt := v.setSlot j.slot ⟨true, j.seq, j.fwver, fw, cfg, p⟩ }.vltDone
      (b.wrF VLT_RESULT 8 16 n).ev 0x9001 0 [(1, j.slot), (4, j.seq.toNat), (4, j.fwver.toNat)]
  | none => b

/-- SETWRITE_COMPLETE (R531). -/
def setWriteDone (flash : Nat) (b : Block) : Block :=
  match b.vlt.job with
  | some j =>
    if j.op ≠ 2 then b else
    if flash ≠ 0 then b.vltEndFail 2 (if flash = 1 then 6 else 10) else
    let ents := (List.range j.count).map fun k => (b.rd32 (j.addr + 64 + 8 * k), b.rd32 (j.addr + 68 + 8 * k))
    { b with vlt := b.vlt.setArea j.slot ⟨true, j.seq, ents⟩ }.vltDone.ev 0x9007 0 [(4, j.seq.toNat), (4, j.count)]
  | none => b

/-! ## Meanings -/

/-- MIONUS_BOOT (R523). -/
def execMionusBoot (s : State) : Res := s.done mionusBoot
/-- VAULT_UPDATE (R525). -/
def execVaultUpdate (m : Master) (v : Word) (s : State) : Res :=
  s.done fun b => b.gate m VLT_CMD (vltCmdWrite m ((v &&& 0xFFFFFFF0) ||| 1))
/-- VAULT_UPDATE_COMPLETE (R525). -/
def execVaultUpdateComplete (flash : Fin 3) (s : State) : Res := s.done (vaultUpdateDone flash)
/-- VAULT_ABORT (R528). -/
def execVaultAbort (m : Master) (v : Word) (s : State) : Res :=
  s.done fun b => b.gate m VLT_CMD (vltCmdWrite m ((v &&& 0xFFFFFFF0) ||| 2))
/-- SETWRITE (R531). -/
def execSetwrite (m : Master) (v : Word) (s : State) : Res :=
  s.done fun b => b.gate m VLT_CMD (vltCmdWrite m ((v &&& 0xFFFFFFF0) ||| 4))
/-- SETWRITE_COMPLETE (R531). -/
def execSetwriteComplete (flash : Fin 3) (s : State) : Res := s.done (setWriteDone flash)
end Sys2Proof.Machine
end

