-- ==== Sys2Proof/Machine/Power.lean ====
section
/-! DEFINITION. Supplies, trips, clocks, resets, the save and power-up (R452 to R481, R491, R492, R510, R511). -/

namespace Sys2Proof.Machine

/-! ## Trips and faults (R453, R455 to R457, R510, R511) -/

/-- Is light on, or has a start-up got past its dead time? -/
def Block.lightOn (b : Block) : Bool :=
  b.modState != stStow || match b.pw.startup with | some .dead | none => false | _ => true

/-- The latch, count and event of an interlock trip (R510); `LEN` falls in every state. -/
def Block.tripLatch (b : Block) : Block :=
  let b := (((b.setB LCO_LSTAT 5).lenLow).setB LCO_LSTAT 4).bump LCO_TRIPCNT
  (b.raise P_LCO 0).evF 0x8202 0 [(1, b.modState)] b.frameId

/-- What an interlock trip with light on does at once (R123, R254, R337): calibrations are aborted, every region enters Off
as `LEN` falls, and no row of a dynamic engine is valid. -/
def Block.lightLost (b : Block) : Block :=
  let b := b.each (List.range 4) Block.calDiscard
  let b := b.each allEngs fun b e => b.each (regionsOf e) fun b q => b.setLock e q 0
  b.each (List.range' 64 8) Block.dynStow

/-- LSAFE_N_TRIP (R510, R511): not during a save (R473). -/
def lsafeTrip (b : Block) : Block :=
  match b.pw.phase with
  | .dark | .saving | .saved => b
  | .shut => b.tripLatch
  | _ =>
    let dead := b.pw.startup == some .dead
    let lit := b.lightOn
    let b := b.tripLatch
    if dead then
      let us := (b.time - b.pw.deadAt).toNat / 250
      let b := (({ b with pw := { b.pw with startup := none, now := none, behind := none } }.clrB LCO_LSTAT 6).setB LCO_LSTAT 8).raise P_LCO 2
      (b.showPwr).ev 0x8204 0 [(4, us)]
    else if lit then (b.abandonFrame 0).lightLost.callStow
    else { b with pw := { b.pw with behind := none } }

/-- LSAFE_N_RELEASE (R510): relights nothing. -/
def lsafeRelease (b : Block) : Block := b.clrB LCO_LSTAT 5

/-- RAIL_FAULT (R453): a rail other than VIN12 that was good. What HBM holds after a fault of its rail is undefined: DESIGN
CHOICE (assumption 36). -/
def railFault (rail mv : Nat) (b : Block) : Block :=
  if rail = 0 ∨ !b.rdB PWR_RAIL rail ∨ !b.pw.phase.diesUp then b else
  let b := (b.clrB PWR_RAIL rail).setB PWR_RAIL (16 + rail)
  let b := ((b.setB PWR_STAT 1).raise P_PWR 2).ev 0x7001 0 [(1, rail), (2, mv)]
  let b := if rail = 8 then
      { b with hbmGen := b.hbmGen + 1, mem := b.mem.keep fun a => decide (b.grade.bytes ≤ a) } else b
  if b.lightOn || b.pw.startup.isSome then (b.abandonFrame 1).callStow
  else { b with pw := { b.pw with behind := none } }

/-- SEQUENCE_ERROR (R455): the rails that came up ahead of their group, by bit number in `PWR_RAIL`. -/
def sequenceError (rails : Nat) (b : Block) : Block :=
  if b.pw.phase ≠ .island then b else (b.setB PWR_STAT 2).ev 0x7002 0 [(2, rails)]

/-- `PWR_MARGIN` as the monitors report it. -/
def Block.marginSeen (b : Block) (monitor margin : Nat) : Block := b.wr PWR_MARGIN (wd (margin % 256 + monitor % 32 * 256))

/-- VREQ_RAISE (R456): at most once per 10 s, never above 820 mV. -/
def vreqRaise (monitor margin : Nat) (b : Block) : Block :=
  let b := b.marginSeen monitor margin
  let old := b.rdF PWR_VREQ 0 10
  let early : Bool := match b.pw.vreqAt with
    | some t => decide ((b.up - t).toNat < 10 * tickHz)
    | none => false
  if early || !b.pw.mionus || decide (8 ≤ margin) || decide (820 ≤ old) then b else
  let new := min 820 (old + 5)
  let b := { b.wrF PWR_VREQ 0 10 new with pw := { b.pw with vreqAt := some b.up } }
  (b.raise P_PWR 6).ev 0x7003 0 [(2, old), (2, new), (1, monitor)]

/-- VCORE_LOW (R457): `PWR_VMEAS` more than 20 mV below `PWR_VREQ` for 100 ms. -/
def vcoreLow (b : Block) : Block :=
  if b.rdF PWR_VREQ 0 10 ≤ b.rdF PWR_VMEAS 0 10 + 20 then b else
  ((b.setB PWR_STAT 3).raise P_PWR 3).ev 0x7004 0 [(2, b.rdF PWR_VMEAS 0 10), (2, b.rdF PWR_VREQ 0 10)]

/-- CRITICAL_MARGIN (R457): a margin below 3 %; `MSQ_CTRL.EN` is cleared at the next boundary. -/
def criticalMargin (monitor margin : Nat) (b : Block) : Block :=
  let b := b.marginSeen monitor margin
  if 3 ≤ margin then b else
  let b := ((b.setB PWR_STAT 4).raise P_PWR 4).ev 0x7005 0 [(1, monitor), (1, margin), (2, b.rdF PWR_VMEAS 0 10)]
  { b with pw := { b.pw with critical := true } }

/-! ## Clocks (R459, R460, R479) -/

/-- REFCLK156_LOSS (R460): holdover, and every lane faults; of the causes of R370 the one of a receiver out of lock is
taken (assumption 37). -/
def refclk156Loss (b : Block) : Block :=
  if !b.rdB CLK_STAT 1 then b else
  let b := (((b.clrB CLK_STAT 1).setB CLK_STAT 4).bumpF CLK_LOSSCNT 0 8).raise P_CLK 0
  (((b.raise P_CLK 1).ev 0x7101).each (List.range 32) fun b l => laneFault l 2 b)

/-- REFCLK156_RETURN (R460): STEADY relocks and the links restart. -/
def refclk156Return (b : Block) : Block :=
  if b.rdB CLK_STAT 1 then b else
  (((b.setB CLK_STAT 1).clrB CLK_STAT 4).each (List.range 32) fun b p => if cfgEn (b.portCfg p) then b.portStart p else b)

/-- REFCLK100_LOSS (R460): the PCIe link goes down. -/
def refclk100Loss (b : Block) : Block :=
  if !b.rdB CLK_STAT 2 then b else
  let b := { b.clrB CLK_STAT 2 with host := { b.host with linkDown := true } }
  (b.bumpF CLK_LOSSCNT 8 8 |>.raise P_CLK 0).ev 0x7102

/-- REFCLK100_RETURN (R460). -/
def refclk100Return (b : Block) : Block := { b.setB CLK_STAT 2 with host := { b.host with linkDown := false } }

/-- CRYSTAL_LOSS (R460): AON time runs on the RC. -/
def crystalLoss (b : Block) : Block :=
  if !b.rdB CLK_STAT 0 then b else ((b.clrB CLK_STAT 0).bumpF CLK_LOSSCNT 16 8 |>.raise P_CLK 3).ev 0x7103

/-- CRYSTAL_START (R459). -/
def crystalStart (b : Block) : Block := b.setB CLK_STAT 0

/-- Is a PLL locked (R29, R459): a stack's symbol PLL (0 to 3) while an engine of the stack has it running, the core PLL
(4) in Active? -/
def Block.pllLocked (b : Block) (p : Nat) : Bool :=
  !b.pw.pllLost.contains p && b.pw.phase.diesUp &&
    if p < 4 then allEngs.any fun e => stackOf e == p && match (b.eng e).ps with
      | .run | .doze | .toDoze | .toNap | .waking | .redoze => true
      | _ => false
    else b.modState == stActive

/-- `CLK_STAT` (R479). -/
def Block.clkStat (b : Block) : Word :=
  let sym := ((List.range 4).filter b.pllLocked).foldl (fun a p => a + 2 ^ (8 + p)) 0
  wd (b.rdF CLK_STAT 0 5 + b2n (b.pllLocked 4) * 2 ^ 5 + sym)

/-- PLL_UNLOCK (R460): the frame in progress is ended under R297. -/
def pllUnlock (p : Nat) (b : Block) : Block :=
  if !b.pllLocked p then b else
  let b := { b with pw := { b.pw with pllLost := b.pw.pllLost ++ [p] } }
  frameLimit (((b.bumpF CLK_LOSSCNT 24 8).raise P_CLK 2).evF 0x7104 0 [(1, p)] b.frameId)

/-- PLL_RELOCK (R460). -/
def pllRelock (p : Nat) (b : Block) : Block := { b with pw := { b.pw with pllLost := b.pw.pllLost.filter (· != p) } }

/-! ## Module and Mionus resets (R463 to R466, R480) -/

/-- A module reset begins with its drain (R464), triggered by the pin (0) or `RST_CMD` (1). -/
def Block.mrBegin (b : Block) (trigger : Nat) (m : Nat) : Block :=
  if b.pw.drain || b.pw.inMr then b else
  let b := (b.bump RST_MRCNT).setB RST_STAT 0
  let b := (b.setB RST_CAUSE (1 + trigger)).ev 0x7201 0 [(1, trigger), (1, m)]
  ({ b with pw := { b.pw with drain := true } }.recheck).vrecvEndAll

/-- MODULE_RESET (R464): `MRST_N` falls. Before power-on has reached Stow the dies return to reset. -/
def moduleReset (b : Block) : Block :=
  match b.pw.phase with
  | .up => b.mrBegin 0 0
  | .released => { b with pw := { b.pw with phase := .island } }
  | _ => b

/-- A reset of Mionus (R463, R465, R305, R337, R358, R529): trigger 0 `RST_CMD`, 1 watchdog. The registers stand but for
`MSQ_CTRL.EN`, which a reset during a frame clears at the boundary. -/
def Block.mionusReset (b : Block) (trigger : Nat) : Block :=
  let b := (b.bump RST_MIOCNT).setB RST_STAT 2
  let b := (b.setB RST_CAUSE (3 + trigger)).ev 0x7202 0 [(1, trigger)]
  let b := b.each (List.range 4) Block.calMionusReset
  let b := b.each allEngs fun b e => b.updEng e fun x => { x with lkN := 0, lkSum := 0 }
  let b := b.vltAbort
  { b with pw := { b.pw with mionus := false, mioFrame := b.pw.mioFrame || b.inFrame } }

/-- A write of `RST_CMD` (R463, R464, R473, R480). `MR` is ignored, and counts in no register, before power-on has reached
Stow (R464). -/
def rstCmdWrite (m : Master) (v : Word) (b : Block) : Block × Bool :=
  let mr := bit v 0 && b.pw.phase == .up
  if m ≠ .pf0 ∧ m ≠ .mionus ∨ b.pw.phase = .saving then (b, false)
  else if fld v 16 16 ≠ 0xA55A then ((b.setB RST_STAT 4).raise P_RST 2, false)
  else if !mr && !bit v 1 then (b, false)
  else
    let b := b.wrF RST_CAUSE 8 4 m.id
    let b := if mr then b.mrBegin 1 m.id else b
    let b := if bit v 1 && b.pw.mionus then b.mionusReset 0 else b
    (b, true)

/-- WATCHDOG_EXPIRY (R466). -/
def watchdog (b : Block) : Block :=
  if !b.rdB RST_WDT 31 || !b.pw.mionus then b else
  ((b.bump RST_WDTCNT).ev 0x7203 0 [(2, b.rdF RST_WDT 0 16)]).mionusReset 1

/-- Every register field with an MR entry takes it (R14, R463). -/
def Block.mrFields (b : Block) : Block :=
  b.each b.regs fun b (o, _) => match rowAt o with
    | some r => b.wr o ((b.rd o &&& ~~~(wd r.mr)) ||| (regDefault o &&& wd r.mr))
    | none => b

/-- MR_RESET_PHASE (R463 to R465): after the drained frame's boundary; `MBOOT` and `PERST` go on showing what they show; calibrations and plate builds are aborted, mailbox
bindings and queues cleared, vectors armed. -/
def mrPhase (b : Block) : Block :=
  if !b.pw.drain || b.inFrame || b.tail then b else
  let b := b.each (List.range 64) Block.abortBuild
  let b := b.each (List.range 4) Block.calMionusReset
  let b := b.each allEngs fun b e => b.updEng e fun x => { x with lkN := 0, lkSum := 0 }
  let live := b.rdF RST_STAT 2 2
  let b := (b.mrFields.testsOver b.testLoops).wrF RST_STAT 2 2 live
  let b := { b with
    startQ := [], pw := { b.pw with drain := false, inMr := true },
    host := { b.host with mbx := [], dma := [], pf1 := [], armed := BitVec.allOnes 64 },
    hk := { b.hk with a := { b.hk.a with host := none }, b := { b.hk.b with host := none } } }
  b.setB RST_STAT 1

/-- MR_COMPLETE (R442, R464): Mionus rebinds and locks the mailboxes, Vyivim resumes. -/
def mrComplete (b : Block) : Block :=
  if !b.pw.inMr then b else
  let b := ({ b with pw := { b.pw with inMr := false } }.clrB RST_STAT 1).raise P_RST 0
  (b.when b.pw.mionus Block.bindMbx).afterReset

/-! ## The save (R469 to R475) and the thermal shutdown (R491, R492) -/

/-- The save set as the staging copy holds it when a save begins (R469, R471), the Daybook tail left out. What of it the
island's own registers hold is read from them: the views in force, the Vault's sequence state, the temperatures of the
last calibrations. -/
def Block.stagingCopy (b : Block) : SaveSet :=
  { seq := 0, dur := 0, ents := [],
    vaultSeq := (if b.vlt.a.ok then b.vlt.a.seq else 0, if b.vlt.b.ok then b.vlt.b.seq else 0),
    vjob := match b.vlt.job with
      | some j => if j.op = 3 then none else some (j.slot, b.rdF VLT_RESULT 8 16)
      | none => none,
    rolls := (List.range 4).map fun l => (l, b.rd (ROL_L_EPOCH l) :: b.rd (ROL_L_INFO l) ::
      (List.range 8).map fun i => b.rd (ROL_L_VIEW0 l + 4 * i)),
    marks := b.pw.stage.marks.take 8192, trims := b.pw.stage.trims, parks := b.pw.stage.parks,
    tlast := allEngs.flatMap fun e => (regionsOf e).filterMap fun q => (b.region e q).tlast.map fun t => (e, q, t) }

/-- What a save or a thermal shutdown sheds (R470, R491): `LEN` low, `LCO` outputs off, dies without supply or in reset, a
running Vault operation stopped. -/
def Block.shed (b : Block) : Block :=
  let set := b.stagingCopy
  let b := b.lenLow.clrB LCO_LSTAT 6
  let b := { b with
    frm := none, startQ := [], tail := false, vlt := { b.vlt with job := none },
    pw := { b.pw with phase := .saving, wait := none, now := none, behind := none, startup := none, stowDue := false,
                      latch := true, saving := some set, saveAt := b.up } }
  (b.each (List.range 16) Block.pinOff).showPins

/-- The 4,096 newest entries frozen for the save (R543). -/
def Block.freezeTail (b : Block) (d : Daybook) : Block :=
  { b with pw := { b.pw with saving := b.pw.saving.map fun s => { s with ents := d.ents.drop (d.ents.length - 4096) } } }

/-- SAVE_TRIGGER (R470): VIN12 below 10.0 V (0) or `PFAIL_N` low (1). A save runs once (R473). -/
def saveTrigger (trigger : Nat) (s : State) : State :=
  match s.b.pw.phase with
  | .island | .released | .up =>
    let t := s.run fun b =>
      let b := b.shed
      ({ b with pw := { b.pw with bySave := true } }).ev 0x7301 0 [(1, trigger), (2, b.rdF PWR_HU 16 16 * 10)]
    { t with b := t.b.freezeTail t.log }
  | _ => s.run id

/-- THERMAL_SHUTDOWN (R491 to R493): a sensor has reached SHUTDOWN. During a save the save continues. -/
def thermalShutdown (s : State) : State :=
  let (lv, i) := s.b.level
  if lv ≠ 4 ∨ s.b.rdB LCO_LSTAT 9 then s.run id else
  let trip (b : Block) : Block := ((b.wrF THM_STAT 0 3 4).setB LCO_LSTAT 9).raise P_THM 0
  match s.b.pw.phase with
  | .island | .released | .up =>
    let t := s.run fun b =>
      let b := (trip b).abandonFrame 2
      let b := b.each allEngs fun b e => b.each (regionsOf e) fun b q =>
        (b.updRegion e q fun r => { r with duty := 0 }).wrF (LCK_R_HEAT e q) 0 16 0
      let b := b.shed
      { b with pw := { b.pw with bySave := false } }.ev 0x8004 0 [(1, i), (2, b.rdF (THM_T i) 0 16)]
    { t with b := t.b.freezeTail t.log }
  | .saving => s.run trip
  | _ => s.run id

/-- SAVE_COMPLETE (R472, R474): the set written to the invalid or older area, one sequence number later than the other
area's; where neither was valid the number is free. The module holds itself in reset. -/
def saveComplete (b : Block) : Block :=
  match b.pw.phase, b.pw.saving with
  | .saving, some set =>
    let dur := (b.up - b.pw.saveAt).toNat / 2500
    let sq (x : Option SaveSet) : Word := match x with | some y => y.seq | none => 0
    let (seq, b) := match newerOf b.pw.areaA.isSome b.pw.areaB.isSome (sq b.pw.areaA) (sq b.pw.areaB) with
      | some 0 => (sq b.pw.areaA + 1, b)
      | some _ => (sq b.pw.areaB + 1, b)
      | none => b.freeWord
    let toB := newerOf b.pw.areaA.isSome b.pw.areaB.isSome (sq b.pw.areaA) (sq b.pw.areaB) == some 0
    let set := { set with seq := seq, dur := dur }
    let pw := { b.pw with saving := none,
                          phase := if b.pw.latchArmed then .dark else if b.pw.bySave then .saved else .shut }
    { b with pw := if toB then { pw with areaB := some set } else { pw with areaA := some set } }
  | _, _ => b

/-- HOLD_UP_NODE_COLLAPSE (R475): the island stops; a save still running leaves its area invalid (R472). -/
def nodeCollapse (b : Block) : Block :=
  if b.pw.phase = .dark then b else
  let sq (x : Option SaveSet) : Word := match x with | some y => y.seq | none => 0
  let toB := newerOf b.pw.areaA.isSome b.pw.areaB.isSome (sq b.pw.areaA) (sq b.pw.areaB) == some 0
  let pw := { b.pw with phase := .dark, mionus := false }
  if b.pw.phase = .saving then
    { b with pw := { pw with saving := none, areaA := if toB then pw.areaA else none, areaB := if toB then none else pw.areaB } }
  else { b with pw := pw }

/-- PWRGD_AON_DEASSERT (R474): the island is put in reset once a running save has ended, the latch is armed for release. -/
def pwrgdLow (b : Block) : Block :=
  let pw := { b.pw with latchArmed := true }
  if b.pw.phase = .saving then { b with pw := pw }
  else { b with pw := { pw with phase := .dark, mionus := false }, frm := none }

/-! ## Power-up (R454, R461, R468, R476) -/

/-- The newer valid save area (R476): its number and set. -/
def Power.newerArea (p : Power) : Option (Nat × SaveSet) :=
  let sq (x : Option SaveSet) : Word := match x with | some y => y.seq | none => 0
  match newerOf p.areaA.isSome p.areaB.isSome (sq p.areaA) (sq p.areaB) with
  | some 0 => p.areaA.map fun s => (0, s)
  | some _ => p.areaB.map fun s => (1, s)
  | none => none

/-- The Daybook after power-on (R543): the restored entries, of which an area holds 4,096, with `GEN` one higher, or
empty. -/
def restoredLog (set : Option SaveSet) : Daybook :=
  match set with
  | some s => ⟨(s.ents.drop (s.ents.length - 4096)).map fun e => { e with gen := min (e.gen + 1) 15, sev := e.sev % 8 },
      match s.ents.getLast? with | some e => e.seq + 1 | none => 0, []⟩
  | none => ⟨[], 0, []⟩

/-- POWER_ON_RESET (R461, R463, R474, R543): every field takes its PO entry; the MRAM areas and the Vault stand, what HBM
holds is undefined. Not while a save runs, nor after one or a thermal shutdown before `PWRGD_AON` has fallen. -/
def powerOn (s : State) : State :=
  match s.b.pw.phase with
  | .saving | .saved | .shut => s.run id
  | _ =>
    let p := s.b.pw
    let set : Option (Nat × SaveSet) := p.newerArea
    let log := restoredLog (set.map fun x => x.2)
    State.run { s with log := log } fun b =>
      let n : Block := { Block.reset with
        hbmGen := b.hbmGen + 1, free := b.free, grade := b.grade, vlt := { b.vlt with job := none },
        pw := { Power.reset with areaA := p.areaA, areaB := p.areaB, restore := set.map fun x => x.2 } }
      let n := n.wrB RST_CAUSE 6 (p.latch && p.bySave)
      match set with
      | some (_, x) => n.ev 0x9101 0 [(4, x.ents.length), (4, match x.ents.getLast? with | some e => e.seq.toNat | none => 0)]
      | none => n

/-- HOLD_UP_MEASURE (R468): capacitance in µF and node voltage in 10 mV as measured. -/
def holdUp (cap v : Nat) (b : Block) : Block :=
  if b.pw.phase.islandUp then (b.wr PWR_HU (wd (cap + v * 2 ^ 16))).capJudge else b

/-- DIE_RELEASE (R454, R461): every rail good for 1 ms with `MRST_N` high. Once the dies are released, it says that a
faulted rail is good again (R453). -/
def dieRelease (b : Block) : Block :=
  let up (b : Block) : Block := b.wrF PWR_RAIL 0 11 (2 ^ 11 - 1)
  match b.pw.phase with
  | .island =>
    let b := up { b with pw := { b.pw with phase := .released } }
    ((b.setB CLK_STAT 1).setB CLK_STAT 2).setB CLK_STAT 3
  | .released | .up => up b
  | _ => b

/-- The registers that the configuration section loads (R522): `LCO` settings, `LCO_LENMASK`, the SMBus address. -/
def cfgRegs : List Nat :=
  [LCO_CTRL, LCO_LENMASK, SMB_CFG] ++ (List.range 16).flatMap fun n => [LCO_CFG n, LCO_SET n, LCO_STOWV n, LCO_SINF n, LCO_SINA n]

/-- Key of item `i` of a production table that lies behind an address register, `t` the table: 0 + *s* the control engine's
table memory of stack *s*, 8 + *e* the ring trims of engine *e*, 128 + *e* the ring table of a dynamic engine. -/
def prodKey (t i : Nat) : Nat := 2 ^ 32 + t * 2 ^ 24 + i

/-- Table memory that production writes: the loop records and group tables of both banks, and the Sillage tables
(R149, R150, R158, R159), as word numbers. -/
def prodTab : List Nat :=
  ([0, 0x40000].flatMap fun a => (List.range (1032 * 32)).map (a / 4 + ·) ++ (List.range 18).map ((a + 0x21000) / 4 + ·)) ++
    (List.range (16 * 1032)).map (0x80000 / 4 + ·) ++ (List.range 1032).map (0x92000 / 4 + ·)

/-- The production values of engine `e` loaded, `w` giving the word of each: pilot, sentinel word, `DPHASE` and `LCK_KBIAS`
of its regions (R106, R108), its row, modulator and ring trims (R88, R271), and the ring table of a dynamic engine (R243). -/
def Block.prodEngine (b : Block) (w : Nat → Word) (e : Nat) : Block :=
  let dyn := decide (64 ≤ e)
  let b := b.each (regionsOf e) fun b q =>
    let b := b.wrF (LCK_R_CFG e q) 1 2 (fld (w (LCK_R_CFG e q)) 1 2)
    (b.wr (LCK_R_SWORD e q) (w (LCK_R_SWORD e q) &&& 0x03FF0FFF)).wrF (LCK_KBIAS e q) 0 16 (fld (w (LCK_KBIAS e q)) 0 16)
  let b := b.each (List.range (if dyn then 68 else 272)) fun b k => b.wr (TRM_MOD e k) (w (TRM_MOD e k))
  let b := b.each (List.range (rowsOfEng e)) fun b r => b.wr (TRM_ROW e r) (wd (fld (w (TRM_ROW e r)) 0 16 * 65537))
  let rings := (List.range (ringsOf e)).foldl
    (fun m i => m.set (fun _ => 0) i (w (prodKey (8 + e) i) &&& trimMask e).toNat) (b.eng e).trims
  let tbl (m : SMap Word) : SMap Word :=
    (List.range 256).foldl (fun m i => m.set tblDefault i (w (prodKey (128 + e) i) &&& 0xFFFF00FF)) m
  b.updEng e fun x => { x with
    trims := rings, dyn := if dyn then { x.dyn with tblF := tbl x.dyn.tblF, tblP := tbl x.dyn.tblP } else x.dyn }

/-- The production section loaded (R522, R523), `w` giving the word of each item: tuning curves, Sillage tables and
coefficient banks, the values of the engines, and `ID_PRODSEQ`. Heater thermal gains and realised-weight tables are held in
the section alone. -/
def Block.prodLoad (b : Block) (w : Nat → Word) : Block :=
  let b := b.wr ID_PRODSEQ (w ID_PRODSEQ)
  let b := b.each (List.range 4) fun b s =>
    (b.each (List.range 128) fun b k => (b.wr (PLT_CURVE s k) (w (PLT_CURVE s k))).wr (PLT_CURVE_P s k) (w (PLT_CURVE s k))).updStk s
      fun k => { k with ceTab := prodTab.foldl (fun m i => m.set tabDefault i (w (prodKey s i))) k.ceTab }
  b.each allEngs fun b e => b.prodEngine w e

/-- A MAC base in the configuration section (R519), held there as `ID_MAC_LO` and `ID_MAC_HI` show one, bit 16 of `hi` saying
that there is one: it replaces the derived base where it is a local unicast address whose low 5 bits are 0. -/
def Block.macOverride (b : Block) (lo hi : Word) : Block :=
  if !bit hi 16 then b
  else if bit hi 9 && !bit hi 8 && fld lo 0 5 == 0 then (b.wr ID_MAC_LO lo).wr ID_MAC_HI (hi &&& 0x1FFFF)
  else b.ev 0x9003 0 [(1, 3)]

/-- The HW fields loaded from the slot in force (R461, R522, R523): the configuration and production sections, whose layout
is not given and which load nothing where they are empty (assumption 34), or under NOSLOT zeros for the production values. -/
def Block.hwLoad (b : Block) : Block :=
  match b.inForce with
  | some x =>
    let b := if x.prod.bytes.isEmpty then b else b.prodLoad fun o => Config.vaultWord x.prod.bytes o
    let cfg := x.cfg.bytes
    if cfg.isEmpty then b else
    let w (o : Nat) : Word := Config.vaultWord cfg o
    let b := b.each cfgRegs fun b o => match rowAt o with | some r => b.wr o (w o &&& wd r.rw) | none => b
    let b := b.each (List.range 16) fun b n => b.updPin n fun p => { p with set := b.rd (LCO_SET n) }
    let b := b.wrF HBM_CFG 0 2 (fld (w HBM_CFG) 0 2 % 3)
    let t := w THM_LIM
    let b := if limitsOk (fld t 0 8) (fld t 8 8) (fld t 16 8) 115 then b.wrF THM_LIM 0 24 (fld t 0 24) else b
    let b := b.macOverride (w ID_MAC_LO) (w ID_MAC_HI)
    (b.each (List.range 32) fun b p => (portCfgWrite p (w (LNK_P_CFG p)) b).1).showPins
  | none => b.prodLoad fun _ => 0

/-- The save set restored (R476), or its absence. -/
def Block.restoreSet (b : Block) : Block :=
  match b.pw.restore, b.pw.newerArea with
  | some s, some (k, _) =>
    let b := { b with pw := { b.pw with restore := none, stage := ⟨s.marks, s.trims, s.parks⟩ } }
    let b := ((b.setB PWR_STAT 6).wr PWR_SAVE (wd (k + 2 + min s.dur 65535 * 2 ^ 16))).wr PWR_SAVESEQ s.seq
    let now := (if b.vlt.a.ok then b.vlt.a.seq else 0, if b.vlt.b.ok then b.vlt.b.seq else 0)
    let b := match s.vjob with
      | some (slot, prog) =>
        (((b.setB VLT_STAT 7).wr VLT_RESULT (wd (8 * 16 + prog * 2 ^ 8))).raise P_VLT 1).ev 0x9004 0 [(1, slot), (1, 8), (2, prog)]
      | none => b
    let b := if s.vaultSeq = now then b else b.ev 0x9003 0 [(1, 2)]
    let b := b.each s.rolls fun b (l, ws) => b.wr (ROL_L_EPOCH l) (ws.getD 0 0)
    let b := b.each s.marks fun b (e, r, w) => b.updEng e fun x => { x with mapP := mapSet x.mapP r w }
    let b := b.each s.trims fun b (o, v) => b.wr o v
    let b := b.each s.parks fun b (e, m) => b.updEng e fun x => { x with wparks := m }
    b.each s.tlast fun b (e, q, t) => b.updRegion e q fun r => { r with tlast := some t }
  | _, _ => ((b.setB PWR_STAT 7).ev 0x7303 0 [(1, 0), (1, 0)])

/-- STOW_REACHED (R461, R476, R507): HBM trained, HW fields loaded, the save set restored; the module is in Stow and runs a
tie test. -/
def stowReached (b : Block) : Block :=
  if b.pw.phase ≠ .released then b else
  let b := (b.hwLoad.setB HBM_STAT 0).restoreSet
  let b := ({ b with pw := { b.pw with phase := .up } }).wrF PWR_STATE 0 2 stStow
  let b := ((b.raise P_PWR 0).ev 0x7006 0 [(4, b.up.toNat / 250)]).showPins
  (b.tieBegin).nextReq

/-! ## Meanings -/

/-- POWER_ON_RESET (R461). -/
def execPowerOnReset (s : State) : Res := .next (powerOn s)
/-- HOLD_UP_MEASURE (R468). -/
def execHoldUpMeasure (cap v : BitVec 16) (s : State) : Res := s.done (holdUp cap.toNat v.toNat)
/-- SEQUENCE_ERROR (R455). -/
def execSequenceError (rails : BitVec 11) (s : State) : Res := s.done (sequenceError rails.toNat)
/-- DIE_RELEASE (R454). -/
def execDieRelease (s : State) : Res := s.done dieRelease
/-- STOW_REACHED (R461). -/
def execStowReached (s : State) : Res := s.done stowReached
/-- LSAFE_N_TRIP (R510). -/
def execLsafeNTrip (s : State) : Res := s.done lsafeTrip
/-- LSAFE_N_RELEASE (R510). -/
def execLsafeNRelease (s : State) : Res := s.done lsafeRelease
/-- RAIL_FAULT (R453). -/
def execRailFault (rail : Fin 11) (mv : BitVec 16) (s : State) : Res := s.done (railFault rail mv.toNat)
/-- SAVE_TRIGGER (R470). -/
def execSaveTrigger (trigger : Fin 2) (s : State) : Res := .next (saveTrigger trigger s)
/-- SAVE_COMPLETE (R474). -/
def execSaveComplete (s : State) : Res := s.done saveComplete
/-- HOLD_UP_NODE_COLLAPSE (R475). -/
def execHoldUpNodeCollapse (s : State) : Res := s.done nodeCollapse
/-- PWRGD_AON_DEASSERT (R474). -/
def execPwrgdAonDeassert (s : State) : Res := s.done pwrgdLow
/-- VREQ_RAISE (R456). -/
def execVreqRaise (monitor : Fin 32) (margin : BitVec 8) (s : State) : Res := s.done (vreqRaise monitor margin.toNat)
/-- VCORE_LOW (R457). -/
def execVcoreLow (s : State) : Res := s.done vcoreLow
/-- CRITICAL_MARGIN (R457). -/
def execCriticalMargin (monitor : Fin 32) (margin : BitVec 8) (s : State) : Res :=
  s.done (criticalMargin monitor margin.toNat)
/-- REFCLK156_LOSS (R460). -/
def execRefclk156Loss (s : State) : Res := s.done refclk156Loss
/-- REFCLK156_RETURN (R460). -/
def execRefclk156Return (s : State) : Res := s.done refclk156Return
/-- REFCLK100_LOSS (R460). -/
def execRefclk100Loss (s : State) : Res := s.done refclk100Loss
/-- REFCLK100_RETURN (R460). -/
def execRefclk100Return (s : State) : Res := s.done refclk100Return
/-- CRYSTAL_LOSS (R460). -/
def execCrystalLoss (s : State) : Res := s.done crystalLoss
/-- CRYSTAL_START (R459). -/
def execCrystalStart (s : State) : Res := s.done crystalStart
/-- PLL_UNLOCK (R460). -/
def execPllUnlock (p : Fin 5) (s : State) : Res := s.done (pllUnlock p)
/-- PLL_RELOCK (R460). -/
def execPllRelock (p : Fin 5) (s : State) : Res := s.done (pllRelock p)
/-- MODULE_RESET (R464). -/
def execModuleReset (s : State) : Res := s.done moduleReset
/-- RST_CMD_MR (R463). -/
def execRstCmdMr (m : Master) (v : Word) (s : State) : Res :=
  s.done fun b => b.gate m RST_CMD (rstCmdWrite m ((v &&& 0xFFFFFFFC) ||| 1))
/-- RST_CMD_MIONUS (R463). -/
def execRstCmdMionus (m : Master) (v : Word) (s : State) : Res :=
  s.done fun b => b.gate m RST_CMD (rstCmdWrite m ((v &&& 0xFFFFFFFC) ||| 2))
/-- MR_RESET_PHASE (R464). -/
def execMrResetPhase (s : State) : Res := s.done mrPhase
/-- MR_COMPLETE (R464). -/
def execMrComplete (s : State) : Res := s.done mrComplete
/-- WATCHDOG_EXPIRY (R466). -/
def execWatchdogExpiry (s : State) : Res := s.done watchdog
/-- THERMAL_SHUTDOWN (R491). -/
def execThermalShutdown (s : State) : Res := .next (thermalShutdown s)

end Sys2Proof.Machine
end

