-- ==== Sys2Proof/Machine/Host.lean ====
section
/-! DEFINITION. The PCIe functions (R427, R463), the interrupt vectors (R429), the common page header (R434 to R437) and
the mailboxes (R441 to R446). -/

namespace Sys2Proof.Machine

/-! ## PCIe identity (R3, R424) -/

/-- What a function presents in configuration space: its IDs and class code, and the size of each BAR it has, by the number
of its first register, 64-bit all. -/
structure PciId where
  vendor : BitVec 16
  device : BitVec 16
  cls : BitVec 24
  subVendor : BitVec 16
  subsystem : BitVec 16
  /-- (register, bytes, prefetchable) -/
  bars : List (Nat × Nat × Bool)
  deriving DecidableEq, Repr

/-- The identity of PF0 (false) and PF1 (true) of a module (R424): the subsystem ID names the grade (R3). -/
def pciId (g : Config.Grade) (pf1 : Bool) : PciId where
  vendor := 0x1FB6
  device := if pf1 then 0x6409 else 0x6408
  cls := if pf1 then 0x088000 else 0x120000
  subVendor := 0x1FB6
  subsystem := match g with | .s96 => 0x0096 | .s48 => 0x0048
  bars := if pf1 then [(0, 64 * 2 ^ 10, false)] else [(0, 64 * 2 ^ 20, false), (2, 128 * 2 ^ 30, true)]

/-- What a function of this module presents. -/
def Block.pciId (b : Block) (pf1 : Bool) : PciId := Machine.pciId b.grade pf1

/-! ## Reads -/

/-- How a register read is answered: its word, the error response of a domain that is down, or not at all (a function in
D3hot or cut off). -/
inductive RdAns where
  | word (w : Word)
  | down
  | lost
  deriving DecidableEq, Repr

/-- The path of every register read: `PERST_N` and D3hot (R427), reach (R438), domain (R440), then the register's own
effect. Outside its mirror PF1 reads 0 (R426). -/
def Block.readAt (b : Block) (m : Master) (off : Nat) (eff : Block → Block × RdAns) : Block × RdAns :=
  if b.cutOff m then (b, .lost)
  else if b.asleep m then (b.send (.unsupported m), .lost)
  else if m = .pf1 ∧ !b.reaches m off then (b, .word 0)
  else match b.reach m off with
    | .unmapped => (b.unmapped m off false, .word 0)
    | .down => (b.domainDown m off false, .down)
    | .ok => eff b

/-- A read whose answer goes back to the master that made it. -/
def Block.readReply (b : Block) (m : Master) (off : Nat) (eff : Block → Block × RdAns) : Block :=
  match b.readAt m off eff with
  | (b, .word w) => b.send (.data m [w])
  | (b, _) => b

/-! ## PCIe functions (R421, R427, R463) -/

/-- The MSI-X table at its defaults, every vector armed, nothing pending. -/
def Block.msixDefault (b : Block) : Block :=
  let b := b.each (List.range 64) fun b v =>
    (((b.wr (GLB_MSIX_ADDR_LO v) 0).wr (GLB_MSIX_ADDR_HI v) 0).wr (GLB_MSIX_DATA v) 0).wr (GLB_MSIX_CTL v) 1
  { b with host := { b.host with armed := BitVec.allOnes 64, pend := 0 } }

/-- PF1's private selectors at 0 (R427). -/
def Block.pf1Default (b : Block) : Block :=
  { b with host := { b.host with pf1 := [], dbkRd := b.host.dbkRd.drop Master.pf1.id } }

/-- PERST: the pin falls, which resets the PCIe interface and both functions and loses BAR2 accesses and DMA in flight, or
it rises. -/
def perst (asserted : Bool) (b : Block) : Block :=
  if !asserted then b.clrB RST_STAT 3
  else if b.rdB RST_STAT 3 then b
  else
    let b := ((b.setB RST_CAUSE 5).setB RST_STAT 3).msixDefault.pf1Default
    let b := b.each (List.range 4) fun b c => b.clrB (GLB_DMA_STAT c) 0
    { b with host := { b.host with pf0D3 := false, pf1D3 := false, bar2Q := [], dma := [] } }

/-- FUNCTION_LEVEL_RESET (R427) of PF1 (`pf1`) or PF0. -/
def functionReset (pf1 : Bool) (b : Block) : Block :=
  if b.cutOff .pf0 then b else
  let b := if pf1 then { b.pf1Default with host := { b.pf1Default.host with pf1D3 := false } }
    else
      let b := b.msixDefault.each (List.range 4) Block.dmaAbort
      { b with host := { b.host with pf0D3 := false, bar2Q := [] } }
  b.ev 0x6105 0 [(1, b2n pf1)]

/-- D3HOT (`d3` true) and D0_RETURN of a function (R427). -/
def setD3 (pf1 d3 : Bool) (b : Block) : Block :=
  if b.cutOff .pf0 then b
  else if pf1 then { b with host := { b.host with pf1D3 := d3 } } else { b with host := { b.host with pf0D3 := d3 } }

/-! ## Interrupt vectors (R429) -/

/-- A vector's mask bit written: one that is unmasked with its pending bit set sends the pending message. -/
def msixCtlWrite (vec : Nat) (v : Word) (b : Block) : Block × Bool :=
  let b := b.wr (GLB_MSIX_CTL vec) (v &&& 1)
  if !bit v 0 && b.host.pend.getLsbD vec then
    let b := { b with host := { b.host with pend := b.host.pend &&& ~~~(1#64 <<< vec) } }
    (b.send (.msix vec ((b.rd (GLB_MSIX_ADDR_HI vec)).toNat * 2 ^ 32 + (b.rd (GLB_MSIX_ADDR_LO vec)).toNat)
      (b.rd (GLB_MSIX_DATA vec)).toNat), true)
  else (b, true)

/-- A write of `GLB_IACK_LO` or `GLB_IACK_HI` re-arms vectors; those whose condition is still true signal again as the
command ends. -/
def iackWrite (hi : Bool) (v : Word) (b : Block) : Block × Bool :=
  let x : BitVec 64 := v.setWidth 64 <<< (if hi then 32 else 0)
  ({ b with host := { b.host with armed := b.host.armed ||| x } }, v != 0)

/-! ## The page header (R434 to R437) -/

/-- A page reset of the page at `p`: every field with a PR entry takes it; the trace buffers of `CE` go to Idle (R161), the
read selections of `DBK` clear (R543), as PF1's copies of the selections of an `ASY` page do (R426), a heater test override of `HTR` ends (R117), and the DMA channels of `GLB` are idle. -/
def Block.pageReset (b : Block) (p : Nat) : Block :=
  let was := b.testLoops
  let b := b.each b.regs fun b (o, _) =>
    if o / 0x1000 * 0x1000 ≠ p then b else
    match rowAt o with
    | some r => b.wr o ((b.rd o &&& ~~~(wd r.pr)) ||| (regDefault o &&& wd r.pr))
    | none => b
  match pageAt p with
  | some (.ce, s) => b.updStk s fun k => { k with trc := k.trc.mapVals (fun _ => {}) fun _ t => { t with skip := 0, left := 0 } }
  | some (.dbk, _) => { b with host := { b.host with dbkRd := [] } }
  | some (.asy, s) => { b with host := { b.host with pf1 := (b.host.pf1.drop (ASY_SEL s)).drop (ASY_RG_SEL s) } }
  | some (.htr, _) => b.testsOver was
  | some (.glb, _) => { b with host := { b.host with dma := [] } }
  | _ => b

/-- A write of `PG_CTRL`: `EN`, and `PRST` (the write counter is among what the page reset clears). -/
def pgCtrlWrite (p : Nat) (v : Word) (b : Block) : Block × Bool :=
  let b := b.wrB (PG_CTRL p) 0 (bit v 0)
  if bit v 1 then (b.pageReset p, false) else (b, true)

/-- A write of `PG_ISET`: the bits named are raised as hardware events would raise them (R12, R435). -/
def pgIsetWrite (p : Nat) (v : Word) (b : Block) : Block × Bool :=
  let def_ : Nat := match pageAt p with | some (k, _) => k.istat | none => 0
  let x : Word := v &&& wd def_
  (b.wr (PG_ISTAT p) (b.rd (PG_ISTAT p) ||| x), x != 0)

/-- A write of `PG_LOCK` (R437). -/
def pgLockWrite (p : Nat) (v : Word) (b : Block) : Block × Bool :=
  (b.when (bit v 0) fun b => b.setB (PG_LOCK p) 0, true)

/-- A write of `PG_COMMIT`: only the `LCO` page has shadow registers (R435, R503). -/
def pgCommitWrite (p : Nat) (v : Word) (b : Block) : Block × Bool :=
  if p = P_LCO ∧ bit v 0 then (b.lcoCommit, true) else (b, false)

/-- A write of a header register of the page at `p`, at offset `o`. -/
def Block.pageGate (b : Block) (m : Master) (p o : Nat) (eff : Block → Block × Bool) : Block :=
  b.gate m o fun b => if (pageAt p).isSome then eff b else (b, false)

/-! ## Mailboxes (R441 to R446) -/

def Block.chan (b : Block) (c : Nat) : Chan := b.host.mbx.get (fun _ => Chan.reset) c
def Block.setChan (b : Block) (c : Nat) (x : Chan) : Block :=
  { b with host := { b.host with mbx := b.host.mbx.set (fun _ => Chan.reset) c x } }

/-- Is master `m` the bound sender of channel `c`, or its bound receiver? A channel whose `EN` is 0 has neither. -/
def Block.isSender (b : Block) (m : Master) (c : Nat) : Bool := b.rdB (MBX_BIND c) 8 && (b.bind c).1 == m.id
def Block.isReceiver (b : Block) (m : Master) (c : Nat) : Bool := b.rdB (MBX_BIND c) 8 && (b.bind c).2.1 == m.id

/-- The power domain of a master identity: the island serves the host functions, SMBus and Mionus. -/
def masterDom (id : Nat) : Dom :=
  if id < 4 then .island else if id < 8 then .stack (id - 4) else .control

/-- The message staged for channel `c`. -/
def Block.staged (b : Block) (c : Nat) : List Word := (List.range 8).map fun i => b.rd (MBX_TXD c + 4 * i)

/-- A read of `MBX_POST[c]` by master `m` (R443, R446): the word returned, or the error response. -/
def Block.post (m : Master) (c : Nat) (b : Block) : Block × RdAns :=
  let notsnd := !b.isSender m c && b.rdB (MBX_BIND c) 8
  let disabled := !(b.bind c).2.2
  let q := b.chan c
  let rcv := (b.bind c).2.1
  if notsnd || disabled then
    let st := 4 * b2n notsnd + 8 * b2n disabled
    let b := ((b.bump MBX_REFCNT).raise P_MBX 0).ev 0x6201 0 [(1, c), (1, m.id), (1, st)]
    (b, .word (wd (st + (4 - q.queue.length) * 16)))
  else if !b.domUp (masterDom rcv) then
    ((((b.bump MBX_DOWNCNT).raise P_MBX 1).ev 0x6202 0 [(1, c), (1, rcv)]).send (.errResp m false), .down)
  else if 4 ≤ q.queue.length then (b, .word 2)
  else
    let b := b.setChan c { queue := q.queue ++ [(q.next, b.staged c)], next := (q.next + 1) % 256, last := q.next }
    (b, .word (wd (1 + (3 - q.queue.length) * 16 + q.next * 256)))

/-- A write of `MBX_RXCTL[c]` (R444, R446). -/
def popWrite (m : Master) (c : Nat) (v : Word) (b : Block) : Block × Bool :=
  if !bit v 0 || !b.isReceiver m c then (b, false)
  else
    let q := b.chan c
    if q.queue.isEmpty then (b, false) else (b.setChan c { q with queue := q.queue.tail }, true)

/-- A write of `MBX_DBMASK` (R441): the bits of the writer's own channels. -/
def dbmaskWrite (m : Master) (v : Word) (b : Block) : Block × Bool :=
  let own : Word := wd (((List.range 32).filter (b.isReceiver m)).foldl (fun a c => a + 2 ^ c) 0)
  (b.wr MBX_DBMASK ((b.rd MBX_DBMASK &&& ~~~own) ||| (v &&& own)), own != 0)

/-- A staging write (R443). -/
def txdWrite (m : Master) (c i : Nat) (v : Word) (b : Block) : Block × Bool :=
  if b.isSender m c then (b.wr (MBX_TXD c + 4 * i) v, true) else (b, false)

/-- A read of a staged word, of the head message, of `MBX_RXCTL` and of `MBX_TXSTAT` (R443, R444). -/
def Block.txdRead (b : Block) (m : Master) (c i : Nat) : Word :=
  if b.isSender m c then b.rd (MBX_TXD c + 4 * i) else 0
def Block.rxdRead (b : Block) (m : Master) (c i : Nat) : Word :=
  match b.isReceiver m c, (b.chan c).queue with
  | true, (_, ws) :: _ => ws.getD i 0
  | _, _ => 0
def Block.rxctlRead (b : Block) (c : Nat) : Word :=
  let q := (b.chan c).queue
  wd (q.length + (match q with | (n, _) :: _ => n | [] => 0) * 256)
def Block.txstatRead (b : Block) (c : Nat) : Word := wd ((b.chan c).queue.length + (b.chan c).last * 256)

/-- `MBX_MYRX` (`rx`) and `MBX_MYTX` as master `m` reads them (R445). -/
def Block.myChans (b : Block) (m : Master) (rx : Bool) : Word :=
  wd (((List.range 32).filter fun c => if rx then b.isReceiver m c else b.isSender m c).foldl (fun a c => a + 2 ^ c) 0)

/-- DOMAIN_UP (R444): the queues of the receivers in a domain that has come up are emptied. -/
def domainUp (d : Dom) (b : Block) : Block :=
  if !b.domUp d then b else
  b.each (List.range 32) fun b c =>
    if b.rdB (MBX_BIND c) 8 && masterDom (b.bind c).2.1 == d then b.setChan c { b.chan c with queue := [] } else b

/-! ## Meanings -/

/-- PERST (R463). -/
def execPerst (asserted : Bool) (s : State) : Res := s.done (perst asserted)
/-- FUNCTION_LEVEL_RESET (R427). -/
def execFunctionLevelReset (pf1 : Bool) (s : State) : Res := s.done (functionReset pf1)
/-- D3HOT (R427). -/
def execD3hot (pf1 : Bool) (s : State) : Res := s.done (setD3 pf1 true)
/-- D0_RETURN (R427). -/
def execD0Return (pf1 : Bool) (s : State) : Res := s.done (setD3 pf1 false)
/-- MSIX_UNMASK (R429). -/
def execMsixUnmask (vec : Fin 64) (s : State) : Res := s.done fun b => b.gate .pf0 (GLB_MSIX_CTL vec) (msixCtlWrite vec 0)
/-- GLB_IACK (R429). -/
def execGlbIack (m : Master) (hi : Bool) (v : Word) (s : State) : Res :=
  s.done fun b => b.gate m (if hi then GLB_IACK_HI else GLB_IACK_LO) (iackWrite hi v)
/-- PAGE_RESET (R437). -/
def execPageReset (m : Master) (off : BitVec 26) (v : Word) (s : State) : Res :=
  let p := off.toNat / 0x1000 * 0x1000
  s.done fun b => b.pageGate m p (PG_CTRL p) (pgCtrlWrite p (v ||| 2))
/-- PG_ISET (R435). -/
def execPgIset (m : Master) (off : BitVec 26) (v : Word) (s : State) : Res :=
  let p := off.toNat / 0x1000 * 0x1000
  s.done fun b => b.pageGate m p (PG_ISET p) (pgIsetWrite p v)
/-- PG_LOCK (R437). -/
def execPgLock (m : Master) (off : BitVec 26) (v : Word) (s : State) : Res :=
  let p := off.toNat / 0x1000 * 0x1000
  s.done fun b => b.pageGate m p (PG_LOCK p) (pgLockWrite p (v ||| 1))
/-- PG_COMMIT_GO (R435). -/
def execPgCommitGo (m : Master) (off : BitVec 26) (v : Word) (s : State) : Res :=
  let p := off.toNat / 0x1000 * 0x1000
  s.done fun b => b.pageGate m p (PG_COMMIT p) (pgCommitWrite p (v ||| 1))
/-- MBX_POST (R443). -/
def execMbxPost (m : Master) (c : Fin 32) (s : State) : Res := s.done fun b => b.readReply m (MBX_POST c) (Block.post m c)
/-- MBX_POP (R444). -/
def execMbxPop (m : Master) (c : Fin 32) (v : Word) (s : State) : Res :=
  s.done fun b => b.gate m (MBX_RXCTL c) (popWrite m c (v ||| 1))
/-- DOMAIN_UP (R444). -/
def execDomainUp (d : Dom) (s : State) : Res := s.done (domainUp d)

end Sys2Proof.Machine
end

