-- ==== Sys2Proof/Machine/CntClr.lean ====
section
/-! DEFINITION. The `CNTCLR` registers: which counters each bit clears, page by page. -/

namespace Sys2Proof.Machine

/-- `cnt` registers from page offset `o`, `stride` bytes apart. -/
def offs (o cnt stride : Nat) : List Nat := (List.range cnt).map fun k => o + stride * k

/-- The page offset of a page's `CNTCLR` register and, by bit, the page offsets of the counters it clears. -/
def cntTable : PageKind → Option (Nat × List (Nat × List Nat))
  | .eng => some (0x088, [(0, [0x080]), (1, [0x084])])
  | .htr => some (0x05C, [(0, [0x04C]), (1, [0x050])])
  | .ce => some (0x074, [(0, [0x060]), (1, [0x068]), (2, [0x06C]), (3, [0x070]), (4, [])])
  | .ldg => some (0x084, [(0, [0x070]), (1, [0x074]), (2, [0x078]), (3, [0x07C]), (4, [0x080])])
  | .tly => some (0x074, [(0, [0x050, 0x054]), (1, [0x058]), (2, [0x05C, 0x060]), (3, [0x064]), (4, [0x068])])
  | .mnt => some (0x048, [(0, [0x04C]), (1, [0x050]), (2, offs 0x090 4 4)])
  | .den => some (0x078, [(0, [0x068]), (1, [0x06C]), (2, [0x070]), (3, [0x074])])
  | .seq => some (0x064, [(0, [0x050]), (1, [0x054]), (2, [0x058]), (3, [0x05C])])
  | .msq => some (0x090, [(0, [0x074]), (1, [0x078]), (2, [0x07C]), (3, [0x084])])
  | .vec => some (0x058, [(0, [0x044]), (1, [0x048]), (2, [0x04C])])
  | .asy => some (0x07C, [(0, [0x068]), (1, [0x06C]), (2, [0x070]), (3, [0x074]), (4, [0x078]), (5, [])])
  | .plt => some (0x058, [(0, [0x04C]), (1, [0x050])])
  | .lnk => some (0x05C, [(0, [0x054]), (1, [0x058]),
      (2, offs 0x10C 32 64 ++ offs 0x110 32 64 ++ offs 0x114 32 64), (3, offs 0x908 32 16 ++ offs 0x90C 32 16)])
  | .vyv => some (0x09C, [(0, offs 0x06C 9 4)])
  | .rol => some (0x064, [(0, offs 0x058 3 4)])
  | .hbm => some (0x084, [(0, [0x064]), (1, [0x068]), (2, [0x06C]), (3, [0x078]), (4, offs 0x100 64 4)])
  | .mbx => some (0x05C, [(0, [0x054]), (1, [0x058])])
  | .smb => some (0x054, [(0, [0x048]), (1, [0x04C]), (2, [0x050])])
  | .glb => some (0x070, [(0, [0x06C])])
  | .pwr => some (0x06C, [(0, [])])
  | .clk => some (0x058, [(0, [0x054])])
  | .rst => some (0x05C, [(0, [0x050]), (1, [0x054]), (2, [0x058])])
  | .thm => some (0x070, [(0, [0x064]), (1, [0x068])])
  | .hk => some (0x090, [(0, offs 0x080 4 4)])
  | .lco => some (0x064, [(0, [0x05C]), (1, [0x060])])
  | .dbk => some (0x070, [(0, offs 0x04C 4 4)])
  | _ => none

/-- The per-loop counts of a stack's control engine cleared (`CE_CNTCLR` [4]); a trace buffer that watches one goes on
from the cleared count. -/
def Block.loopCntClr (b : Block) (s : Nat) : Block :=
  let was (t : Nat) : Bool := b.traceCount s t != (b.trace s t).seen
  let moved := (List.range 4).map was
  let b := b.each (allEngs.filter fun e => stackOf e == s) fun b e => b.each (regionsOf e) fun b q =>
    b.updRegion e q fun r => { r with ovr := 0, clamps := 0 }
  b.each ((List.range 4).zip moved) fun b ((t, c) : Nat × Bool) =>
    let n := b.traceCount s t
    b.updTrace s t fun x => { x with seen := if c then n + 1 else n }

/-- What a `CNTCLR` write clears beside registers: per-loop counts, all live windows (R343), the minimum of `PWR_VMEAS`
(R477). -/
def Block.cntExtra (b : Block) (k : PageKind) (i : Nat) (v : Word) : Block :=
  match k with
  | .ce => b.when (bit v 4) fun b => b.loopCntClr i
  | .asy => b.when (bit v 5) fun b => b.updStk i fun x => { x with win := [] }
  | .pwr => b.when (bit v 0) fun b => { b.wrF PWR_VMEAS 16 10 0 with hk := { b.hk with vclear := true } }
  | _ => b

/-- A write of the `CNTCLR` register of page kind `k`, instance `i`, the page at `p`. -/
def cntClrWrite (k : PageKind) (i p : Nat) (v : Word) (b : Block) : Block × Bool :=
  match cntTable k with
  | none => (b, false)
  | some (_, sel) =>
    let (b, a) := b.clearSel v (sel.map fun x => (x.1, x.2.map (p + ·)))
    (b.cntExtra k i v, a)

/-- A `CNTCLR` write by master `m`. -/
def Block.cntClr (b : Block) (m : Master) (k : PageKind) (i p : Nat) (v : Word) : Block :=
  match cntTable k with
  | none => b
  | some (o, _) => b.gate m (p + o) (cntClrWrite k i p v)

/-! ## Meanings -/

/-- ENG_CNTCLR (R81). -/
def execEngCntclr (m : Master) (e : Fin 64) (v : Word) (s : State) : Res :=
  s.done fun b => b.cntClr m .eng e (P_ENG e) v
/-- HTR_CNTCLR (R129). -/
def execHtrCntclr (m : Master) (st : Fin 4) (v : Word) (s : State) : Res :=
  s.done fun b => b.cntClr m .htr st (P_HTR st) v
/-- CE_CNTCLR (R159). -/
def execCeCntclr (m : Master) (st : Fin 4) (v : Word) (s : State) : Res :=
  s.done fun b => b.cntClr m .ce st (P_CE st) v
/-- LDG_CNTCLR (R202). -/
def execLdgCntclr (m : Master) (st : Fin 4) (v : Word) (s : State) : Res :=
  s.done fun b => b.cntClr m .ldg st (P_LDG st) v
/-- TLY_CNTCLR (R204). -/
def execTlyCntclr (m : Master) (st : Fin 4) (v : Word) (s : State) : Res :=
  s.done fun b => b.cntClr m .tly st (P_TLY st) v
/-- MNT_CNTCLR (R238). -/
def execMntCntclr (m : Master) (v : Word) (s : State) : Res :=
  s.done fun b => b.cntClr m .mnt 0 P_MNT v
/-- DEN_CNTCLR (R269). -/
def execDenCntclr (m : Master) (n : Fin 8) (v : Word) (s : State) : Res :=
  s.done fun b => b.cntClr m .den (64 + n) (P_DEN (64 + n)) v
/-- SEQ_CNTCLR (R310). -/
def execSeqCntclr (m : Master) (st : Fin 4) (v : Word) (s : State) : Res :=
  s.done fun b => b.cntClr m .seq st (P_SEQ st) v
/-- MSQ_CNTCLR (R311). -/
def execMsqCntclr (m : Master) (v : Word) (s : State) : Res :=
  s.done fun b => b.cntClr m .msq 0 P_MSQ v
/-- VEC_CNTCLR (R312). -/
def execVecCntclr (m : Master) (v : Word) (s : State) : Res :=
  s.done fun b => b.cntClr m .vec 0 P_VEC v
/-- ASY_CNTCLR (R343). -/
def execAsyCntclr (m : Master) (st : Fin 4) (v : Word) (s : State) : Res :=
  s.done fun b => b.cntClr m .asy st (P_ASY st) v
/-- PLT_CNTCLR (R344). -/
def execPltCntclr (m : Master) (st : Fin 4) (v : Word) (s : State) : Res :=
  s.done fun b => b.cntClr m .plt st (P_PLT st) v
/-- LNK_CNTCLR (R406). -/
def execLnkCntclr (m : Master) (v : Word) (s : State) : Res :=
  s.done fun b => b.cntClr m .lnk 0 P_LNK v
/-- VYV_CNTCLR (R408). -/
def execVyvCntclr (m : Master) (v : Word) (s : State) : Res :=
  s.done fun b => b.cntClr m .vyv 0 P_VYV v
/-- ROL_CNTCLR (R409). -/
def execRolCntclr (m : Master) (v : Word) (s : State) : Res :=
  s.done fun b => b.cntClr m .rol 0 P_ROL v
/-- HBM_CNTCLR (R422). -/
def execHbmCntclr (m : Master) (v : Word) (s : State) : Res :=
  s.done fun b => b.cntClr m .hbm 0 P_HBM v
/-- MBX_CNTCLR (R445). -/
def execMbxCntclr (m : Master) (v : Word) (s : State) : Res :=
  s.done fun b => b.cntClr m .mbx 0 P_MBX v
/-- SMB_CNTCLR (R449). -/
def execSmbCntclr (m : Master) (v : Word) (s : State) : Res :=
  s.done fun b => b.cntClr m .smb 0 P_SMB v
/-- GLB_CNTCLR (R450). -/
def execGlbCntclr (m : Master) (v : Word) (s : State) : Res :=
  s.done fun b => b.cntClr m .glb 0 P_GLB v
/-- PWR_CNTCLR (R477). -/
def execPwrCntclr (m : Master) (v : Word) (s : State) : Res :=
  s.done fun b => b.cntClr m .pwr 0 P_PWR v
/-- CLK_CNTCLR (R479). -/
def execClkCntclr (m : Master) (v : Word) (s : State) : Res :=
  s.done fun b => b.cntClr m .clk 0 P_CLK v
/-- RST_CNTCLR (R480). -/
def execRstCntclr (m : Master) (v : Word) (s : State) : Res :=
  s.done fun b => b.cntClr m .rst 0 P_RST v
/-- THM_CNTCLR (R512). -/
def execThmCntclr (m : Master) (v : Word) (s : State) : Res :=
  s.done fun b => b.cntClr m .thm 0 P_THM v
/-- HK_CNTCLR (R514). -/
def execHkCntclr (m : Master) (v : Word) (s : State) : Res :=
  s.done fun b => b.cntClr m .hk 0 P_HK v
/-- LCO_CNTCLR (R515). -/
def execLcoCntclr (m : Master) (v : Word) (s : State) : Res :=
  s.done fun b => b.cntClr m .lco 0 P_LCO v
/-- DBK_CNTCLR (R544). -/
def execDbkCntclr (m : Master) (v : Word) (s : State) : Res :=
  s.done fun b => b.cntClr m .dbk 0 P_DBK v

end Sys2Proof.Machine
end

