-- ==== Sys2Proof/Machine/Daybook.lean ====
section
/-! DEFINITION. Reading the Daybook, host entries and the flush of suppressed occurrences (R537 to R544). -/

namespace Sys2Proof.Machine

/-- The eight words of an entry (R534). -/
def LogEnt.words (e : LogEnt) : List Word :=
  let sevgen := e.sev % 8 + b2n e.flush * 8 + e.gen % 16 * 16
  [e.seq, wd (e.code.toNat + sevgen * 2 ^ 16 + e.inst % 256 * 2 ^ 24), e.time.setWidth 32,
   wd (e.time.toNat / 2 ^ 32 + e.supp % 65536 * 2 ^ 16), e.frame] ++ wordsLE 3 e.data

/-- A master's private copy of the read registers (R539). -/
def Block.dbk (b : Block) (m : Master) : DbkRead := b.host.dbkRd.get (fun _ => DbkRead.reset) m.id
def Block.setDbk (b : Block) (m : Master) (x : DbkRead) : Block :=
  { b with host := { b.host with dbkRd := b.host.dbkRd.set (fun _ => DbkRead.reset) m.id x } }

/-- The held entry with the lowest `SEQ` at or after `q` (R539, with the wrap rule of R279). -/
def Daybook.atOrAfter (d : Daybook) (q : BitVec 32) : Option LogEnt :=
  (d.ents.filter fun e => seqGE e.seq q).foldl (fun best e => match best with
    | none => some e
    | some f => if (e.seq - q).toNat < (f.seq - q).toNat then some e else best) none

/-- `DBK_RSEL` written with `q`: what is latched into a master's copy (R539). -/
def DbkRead.select (x : DbkRead) (d : Daybook) (q : Word) : DbkRead :=
  match d.atOrAfter q with
  | some e => { x with rsel := q, found := true, gap := e.seq != q, skip := min (e.seq - q).toNat 65535, rent := e.words }
  | none => { x with rsel := q, found := false, gap := false, skip := 0, rent := [] }

/-- A write of `DBK_RSEL` by master `m`. -/
def rselWrite (m : Master) (d : Daybook) (v : Word) (b : Block) : Block × Bool :=
  (b.setDbk m ((b.dbk m).select d v), true)

/-- A read of `DBK_RENT[7]` moves the selection on with `AINC` while an entry is found. -/
def Block.rentRead (b : Block) (m : Master) (d : Daybook) : Block :=
  let x := b.dbk m
  if bit x.rctl 0 && x.found then b.setDbk m (x.select d (x.rent.getD 0 0 + 1)) else b

/-- `DBK_RSTAT` of a copy. -/
def DbkRead.stat (x : DbkRead) : Word := wd (b2n x.found + 2 * b2n x.gap + x.skip * 2 ^ 16)

/-- A write of `DBK_HCODE` by master `m` (R542). -/
def hcodeWrite (m : Master) (v : Word) (b : Block) : Block × Bool :=
  let code := fld v 0 16
  if m ≠ .pf0 ∧ m ≠ .mionus ∨ code < 0xF000 then (b.raise P_DBK 2, false) else
  let data := (b.dbk m).hdata.map fun w => (4, w.toNat)
  ({ b with evs := b.evs ++ [{ code := code, data := data, sev := some (fld v 16 3) }] }, true)

/-- `DBK_HEAD`, `DBK_TAIL` and `DBK_COUNT` (R544). -/
def Daybook.head (d : Daybook) : Word := match d.ents.getLast? with | some e => e.seq | none => 0
def Daybook.tail (d : Daybook) : Word := match d.ents.head? with | some e => e.seq | none => 0
def Daybook.count (d : Daybook) : Word := wd d.ents.length

/-- The flush of a bucket (R537): an entry of its code with `FLUSH`, `SUPP` and the data of the last suppressed occurrence,
which takes no token. -/
def flushBucket (code inst : Nat) (d : Daybook) (b : Block) : Daybook × Block :=
  let k := (if 0xF000 ≤ code then 0xF000 else code) * 256 + inst
  match d.bks.find? (·.1 == k) with
  | none => (d, b)
  | some (_, x) =>
    if x.supp = 0 then (d, b) else
    let data := if sinceLast code then packData (x.first ++ [(4, x.supp)]) else x.last
    enter (d.setBucket k { x with supp := 0 }) b fun q =>
      ⟨q, BitVec.ofNat 16 code, (evInfo code).1, true, 0, inst, b.aon, min x.supp 65535, x.lastFrame, data⟩

/-! ## Meanings -/

/-- DBK_RSEL (R539). -/
def execDbkRsel (m : Master) (v : Word) (s : State) : Res := s.done fun b => b.gate m DBK_RSEL (rselWrite m s.log v)
/-- DBK_HCODE (R542). -/
def execDbkHcode (m : Master) (v : Word) (s : State) : Res := s.done fun b => b.gate m DBK_HCODE (hcodeWrite m v)
/-- SUPPRESSED_FLUSH (R537). -/
def execSuppressedFlush (code : BitVec 16) (inst : BitVec 8) (s : State) : Res :=
  let (d, b) := flushBucket code.toNat inst.toNat s.log s.b.fresh
  .next { s with log := d, b := b.signalAll }

end Sys2Proof.Machine
end

