-- ==== Sys2Proof/Machine/BusRead.lean ====
section
/-! DEFINITION. What a read of each register returns and does: registers that hold a value return it, the others are the
views of the machine that their register maps lay down. -/

namespace Sys2Proof.Machine

/-- Index of register offset `o` in an array of `cnt` registers from `base`, `stride` apart. -/
def arr (o base cnt stride : Nat) : Option Nat :=
  if base ≤ o ∧ (o - base) % stride = 0 ∧ (o - base) / stride < cnt then some ((o - base) / stride) else none

/-! ## GLB (R429, R450) -/

/-- A 64-bit mask of listed bits. -/
def mask64 (l : List Nat) : BitVec 64 := l.foldl (fun a i => a ||| (1#64 <<< i)) 0

/-- The conditions of the vectors as `GLB_IPEND` shows them. -/
def Block.ipend (b : Block) : BitVec 64 := mask64 b.conditions

/-- Engines one of whose pages asserts its output, as `GLB_ESUM` and `GLB_DSUM` show them. -/
def Block.esum (b : Block) : List Nat :=
  allEngs.filter fun e => (List.range 4).any fun k => b.live (engBase e + 0x1000 * k) != 0

/-! ## Assay and error budget (R343, R358) -/

/-- `ASY_SEL` (`rg` false) or `ASY_RG_SEL` as master `m` has it (R426). -/
def Block.asySel (b : Block) (m : Master) (s : Nat) (rg : Bool) : Word :=
  let off := if rg then ASY_RG_SEL s else ASY_SEL s
  if m = .pf1 then b.host.pf1.get (fun _ => 0) off else b.rd off

/-- `ASY_SEL` or `ASY_RG_SEL` of master `m` set. -/
def Block.setAsySel (b : Block) (m : Master) (s : Nat) (rg : Bool) (v : Word) : Block :=
  let off := if rg then ASY_RG_SEL s else ASY_SEL s
  if m = .pf1 then { b with host := { b.host with pf1 := b.host.pf1.set (fun _ => 0) off v } } else b.wr off v

/-- `ASY_STAT`: the calibration in progress, regions due, and whether a gradual application runs. -/
def Block.asyStat (b : Block) (s : Nat) : Word :=
  let k := b.stk s
  let due := (List.range 18).foldl (fun n j =>
    n + ((regionsOf (engAt s j)).filter fun q => (b.region (engAt s j) q).due.isSome).length) 0
  let grad := k.calDone.any fun c => match c.res with | some r => r.gradual | none => false
  let run := match k.cal with
    | some c => 1 + slotOf c.eng * 2 + c.first * 2 ^ 6 + c.attempt % 8 * 2 ^ 12 + b2n c.hold * 2 ^ 15
    | none => 0
  wd (run + due % 2048 * 2 ^ 16 + b2n grad * 2 ^ 27)

/-- `ASY_R_N` to `ASY_R_SUM[9]` of the row selected (R343), at page offset `o`. -/
def Block.asyRow (b : Block) (s slot row o : Nat) : Word :=
  if 17 < slot then 0 else
  let key := 512 * slot + row
  let w := (b.stk s).win.get (fun _ => ({} : Sums)) key
  let p := (b.stk s).pub.get (fun _ => ({} : RowPub)) key
  match o with
  | 0x084 => wd (min w.n 65535 + min w.nsat 65535 * 2 ^ 16)
  | 0x088 => p.live
  | 0x08C => p.cal
  | 0x090 => p.fit
  | 0x094 => wd (b2n p.rowlim + b2n p.sumsat * 2 + b2n (b.eng (engAt s slot)).uncal * 4)
  | _ =>
    let j := (o - 0x098) / 4
    let v := [w.sx, w.se, w.sxx, w.see, w.smx].getD (j / 2) 0
    wd (unsx 64 v / 2 ^ (32 * (j % 2)))

/-- A read of `ASY_R_SUM[9]`: with `AINC` the row selected moves on. -/
def asySumRead (m : Master) (s : Nat) (b : Block) : Block × RdAns :=
  let sel := b.asySel m s false
  let w := b.asyRow s (fld sel 0 5) (fld sel 16 9) 0x0BC
  (b.when (bit sel 31) fun b => b.setAsySel m s false (setFld sel 16 9 (fld sel 16 9 + 1)), .word w)

/-- `ASY_RG_STAT` (`cnt` false) and `ASY_RG_CNT` of the region selected. -/
def Block.asyRegion (b : Block) (m : Master) (s : Nat) (cnt : Bool) : Word :=
  let sel := b.asySel m s true
  let e := engAt s (fld sel 0 5)
  let q := fld sel 5 6
  if 17 < fld sel 0 5 ∨ !(regionsOf e).contains q then 0 else
  let r := b.region e q
  if cnt then wd (min r.acc 65535 + min r.aban 65535 * 2 ^ 16)
  else
    let age := match r.calAt with | some t => min ((b.time - t).toNat / tickHz) 255 | none => 255
    wd (unsx 16 (r.tlast.getD 0) + age * 2 ^ 16 + b2n r.due.isSome * 2 ^ 24 + b2n r.backoff * 2 ^ 25)

/-- `PLT_STAT` (R344). -/
def Block.pltStat (b : Block) (s : Nat) : Word :=
  let k := b.stk s
  let busy := match k.builder with | e :: _ => 1 + slotOf e * 2 | [] => 0
  wd (busy + b2n k.decoding * 2 ^ 5 + (k.builder.length - 1) % 64 * 2 ^ 8)

/-- The word of the error-budget register `i` of engine `e` now; `AGE`, the seconds since its last refresh, saturates
(R355 to R358). -/
def Block.ebudNow (b : Block) (e i : Nat) : Word :=
  let w := b.rd (ebud e i)
  if i ≠ 3 then w else
  match (b.eng e).ebAt with
  | some t => setFld w 16 8 (min ((b.time - t).toNat / tickHz) 255)
  | none => w

/-- A read of `EBUD0` latches the three words behind it (R358). -/
def ebud0Read (e : Nat) (b : Block) : Block × RdAns :=
  let latch := [1, 2, 3].foldl (fun m i => SMap.put m (ebud e i) (b.ebudNow e i)) b.host.ebud
  ({ b with host := { b.host with ebud := latch } }, .word (b.ebudNow e 0))

/-- `EBUD1` to `EBUD3` as latched; before the first read of `EBUD0`, as they stand. -/
def Block.ebudLatched (b : Block) (e i : Nat) : Word := (b.host.ebud.find (ebud e i)).getD (b.ebudNow e i)

/-! ## Windows onto tables (R88, R127, R158, R269) -/

/-- A read of `TRM_RDATA` (R88). -/
def trmRdataRead (e : Nat) (b : Block) : Block × RdAns :=
  (b.trimNext e, .word (b.trimWord e (b.rdF (TRM_RADDR e) 0 19)))

/-- A read of `ASG_DATA` (R127). -/
def asgDataRead (e : Nat) (b : Block) : Block × RdAns := (b.asgNext e, .word (b.asgWord e))

/-- A read of `DEN_TBL_DATA` (R269). -/
def denTblRead (e : Nat) (b : Block) : Block × RdAns := (b.tblNext e, .word (b.tblWord e))

/-- A read of `CE_TDATA` (R158). -/
def ceTdataAns (s : Nat) (b : Block) : Block × RdAns := let (b, w) := ceTdataRead s b; (b, .word w)

/-- `ID_GRADE` (R3, R520): installed GiB, grade code, 64 resident and 8 dynamic engines. -/
def gradeWord (g : Config.Grade) : Word :=
  wd (g.gib + (match g with | .s96 => 1 | .s48 => 2) * 2 ^ 8 + 64 * 2 ^ 16 + 8 * 2 ^ 24)

/-! ## Times (R311, R479) -/

/-- A read of `MSQ_TIME_LO` latches the high word. -/
def msqTimeRead (b : Block) : Block × RdAns :=
  ({ b with host := { b.host with timeHi := b.time.extractLsb' 32 32 } }, .word (b.time.setWidth 32))

/-- A read of `CLK_AONTIME_LO` latches the high word. -/
def aonTimeRead (b : Block) : Block × RdAns :=
  ({ b with host := { b.host with aonHi := (b.aon.extractLsb' 32 16).setWidth 32 } }, .word (b.aon.setWidth 32))

/-! ## The Daybook's private registers (R539, R544) -/

/-- A read of `DBK_RENT[k]` by master `m`; the last word moves the selection on. -/
def rentWord (m : Master) (d : Daybook) (k : Nat) (b : Block) : Block × RdAns :=
  let w := (b.dbk m).rent.getD k 0
  (b.when (k == 7) fun b => b.rentRead m d, .word w)

/-! ## Tally and Ledger views (R202, R204) -/

/-- `TLY_BUSY`: leaves whose groups run, and how many groups run: those of which a member's pass has started (R180). -/
def Block.tlyBusy (b : Block) (s : Nat) : Word :=
  let run := (b.stk s).cons.filter fun c => c.dyn.isNone && decide (c.res.length < c.ncol) && c.mem.any (·.sid.isSome)
  wd (run.foldl (fun a c => a ||| c.mask % 65536) 0 + min run.length 7 * 2 ^ 16)

/-! ## All registers -/

/-- A read of the register at offset `o` of the page of kind `k`, instance `i`, at `p`, by master `m`. -/
def regRead (m : Master) (d : Daybook) (k : PageKind) (i p o : Nat) (b : Block) : Block × RdAns :=
  let v (w : Word) : Block × RdAns := (b, .word w)
  let plain := v (b.rd (p + o))
  if o = 0x0C then v (wd (b2n (b.rdB (PG_LOCK p) 0) * 2 + b2n (b.live p != 0) * 4)) else
  match k with
  | .glb =>
    if o = 0x050 then v (b.ipend.setWidth 32) else if o = 0x054 then v (b.ipend.extractLsb' 32 32)
    else if o = 0x060 then v (wd ((b.esum.filter (· < 32)).foldl (fun a e => a + 2 ^ e) 0))
    else if o = 0x064 then v (wd ((b.esum.filter fun e => decide (32 ≤ e ∧ e < 64)).foldl (fun a e => a + 2 ^ (e - 32)) 0))
    else if o = 0x068 then v (wd ((b.esum.filter (64 ≤ ·)).foldl (fun a e => a + 2 ^ (e - 64)) 0))
    else if o = 0xC00 then v (b.host.pend.setWidth 32) else if o = 0xC04 then v (b.host.pend.extractLsb' 32 32)
    else plain
  | .clk =>
    if o = 0x040 then v b.clkStat else if o = 0x04C then aonTimeRead b else if o = 0x050 then v b.host.aonHi else plain
  | .hk => if o = 0x044 then v b.hkStat else plain
  | .dbk =>
    let x := b.dbk m
    if o = 0x040 then v d.head else if o = 0x044 then v d.tail else if o = 0x048 then v d.count
    else if o = 0x080 then v x.rsel else if o = 0x084 then v x.rctl else if o = 0x088 then v x.stat
    else match arr o 0x060 3 4, arr o 0x0A0 8 4 with
      | some j, _ => v (x.hdata.getD j 0)
      | _, some j => rentWord m d j b
      | _, _ => plain
  | .mbx =>
    if o = 0x040 then v (wd b.doorbells) else if o = 0x048 then v (b.myChans m true)
    else if o = 0x04C then v (b.myChans m false)
    else if 0x400 ≤ o ∧ o < 0xC00 then
      let c := (o - 0x400) / 64
      if o % 64 < 32 then v (b.txdRead m c (o % 64 / 4))
      else if o % 64 = 32 then b.post m c
      else if o % 64 = 36 then v (b.txstatRead c) else v 0
    else if 0xC00 ≤ o then v (b.rxdRead m ((o - 0xC00) / 32) (o % 32 / 4))
    else match arr o 0x200 32 4 with
      | some c => v (b.rxctlRead c)
      | none => plain
  | .seq => if o = 0x040 then v (b.seqStat i) else plain
  | .ldg =>
    if o = 0x044 then v (b.ldgStat i) else if o = 0x04C then v (b.tstat i)
    else match arr o 0x050 8 4 with
      | some j => v (tW (b.tile i (b.rdF (LDG_TSEL i) 0 10)).trec j)
      | none => plain
  | .tly => if o = 0x04C then v (b.tlyBusy i) else if o = 0x06C then v (wd (b.stk i).storeBytes) else plain
  | .ce => if o = 0x040 then v b.ceGrid else if o = 0x05C then ceTdataAns i b else plain
  | .asy =>
    if o = 0x060 then v (b.asyStat i) else if o = 0x080 then v (b.asySel m i false)
    else if o = 0x0C0 then v (b.asySel m i true) else if o = 0x0C4 then v (b.asyRegion m i false)
    else if o = 0x0C8 then v (b.asyRegion m i true) else if o = 0x0BC then asySumRead m i b
    else if 0x084 ≤ o ∧ o < 0x0BC then
      let sel := b.asySel m i false
      v (b.asyRow i (fld sel 0 5) (fld sel 16 9) o)
    else plain
  | .plt => if o = 0x040 then v (b.pltStat i) else plain
  | .eng | .den =>
    if o = 0x090 then ebud0Read i b
    else match arr o 0x094 3 4 with
      | some j => v (b.ebudLatched i (j + 1))
      | none => if k = .den ∧ o = 0x084 then denTblRead i b else plain
  | .trm | .trmd => if o = 0x04C then trmRdataRead i b else plain
  | .asg =>
    if o = 0x050 then asgDataRead i b else if o = 0x054 then v (b.asgCount i)
    else match arr o 0x100 128 4, arr o 0x300 8 4 with
      | some j, _ => v (b.asgTable i j false)
      | _, some j => v (b.asgTable i j true)
      | _, _ => plain
  | .mnt => if o = 0x040 then v b.mntStat else plain
  | .vec => if o = 0x040 then v b.vecBusy else plain
  | .hbm => if o = 0x050 then v b.hbmStat else if o = 0x044 then v (wd b.grade.gib) else plain
  | .msq =>
    if o = 0x044 then v b.msqStat else if o = 0x088 then msqTimeRead b else if o = 0x08C then v b.host.timeHi else plain
  | .lnk => match arr o 0xB00 40 4 with | some f => v (b.lnkF f) | none => plain
  | .vyv =>
    if o = 0x060 then v b.fstat
    else match arr o 0x100 16 4 with | some j => v (b.frec j) | none => plain
  | .rol => match arr o 0x204 3 4 with | some j => v (b.mrecWord j) | none => plain
  | .id_ => if o = 0x04C then v (gradeWord b.grade) else plain
  | .pwr | .rst | .thm | .lco | .vlt | .smb | .htr | .lck | .lckd => plain

/-- Entry `n` of the park table of a dynamic engine (R87, R432), its low or high word. -/
def Block.dynPark (b : Block) (e n : Nat) (high : Bool) : Word :=
  match (b.eng e).parkF[n]? with
  | some k =>
    if high then wd (unsx 16 ((b.eng e).wparks.get wparkDef k) + 2 ^ 31)
    else wd (k / 512 + k % 512 / 64 * 2 ^ 9 + k % 64 * 2 ^ 12)
  | none => 0

/-- A read of BAR0 at the aligned offset `off` by master `m`, `off` in PF0's map; `x` is what ECC observes in the Ledger. -/
def busRead (m : Master) (d : Daybook) (x : Ecc) (off : Nat) (b : Block) : Block × RdAns :=
  b.readAt m off fun b =>
    let v (w : Word) : Block × RdAns := (b, .word w)
    match b.target off with
    | .page k i =>
      match rowAt off with
      | some _ => regRead m d k i (off / 0x1000 * 0x1000) (off % 0x1000) b
      | none => v 0
    | .trim e a => v (b.trimWord e (a / 4))
    | .park e a => v (b.dynPark e (a / 8) (a % 8 == 4))
    | .fp a => v (b.rd32 (fpBase + a))
    | .plate e a => v (wd (b.imageByte e a + b.imageByte e (a + 1) * 2 ^ 8 + b.imageByte e (a + 2) * 2 ^ 16
        + b.imageByte e (a + 3) * 2 ^ 24))
    | .ledger s a =>
      let b := b.windowEcc s a 4 x
      (b, .word (wd (ofBytesLE (b.rdLed s a 4))))
    | .unmapped => v 0

/-! ## Meanings -/

/-- DEN_TBL_DATA_READ (R269). -/
def execDenTblDataRead (m : Master) (n : Fin 8) (s : State) : Res :=
  s.done fun b => b.readReply m (DEN_TBL_DATA (64 + n)) (denTblRead (64 + n))
/-- TRM_RDATA_READ (R88). -/
def execTrmRdataRead (m : Master) (e : Fin 72) (s : State) : Res :=
  s.done fun b => b.readReply m (TRM_RDATA e) (trmRdataRead e)
/-- ASG_DATA_READ (R127). -/
def execAsgDataRead (m : Master) (e : Fin 72) (s : State) : Res :=
  s.done fun b => b.readReply m (ASG_DATA e) (asgDataRead e)
/-- CE_TDATA_READ (R158). -/
def execCeTdataRead (m : Master) (st : Fin 4) (s : State) : Res :=
  s.done fun b => b.readReply m (CE_TDATA st) (ceTdataAns st)
/-- ASY_R_SUM_READ (R343). -/
def execAsyRSumRead (m : Master) (st : Fin 4) (s : State) : Res :=
  s.done fun b => b.readReply m (ASY_R_SUM st 9) (asySumRead m st)
/-- EBUD0_READ (R358). -/
def execEbud0Read (m : Master) (e : Fin 72) (s : State) : Res :=
  s.done fun b => b.readReply m (ebud e 0) (ebud0Read e)
/-- MSQ_TIME_LO_READ (R311). -/
def execMsqTimeLoRead (m : Master) (s : State) : Res := s.done fun b => b.readReply m MSQ_TIME_LO msqTimeRead
/-- CLK_AONTIME_LO_READ (R479). -/
def execClkAontimeLoRead (m : Master) (s : State) : Res := s.done fun b => b.readReply m CLK_AONTIME_LO aonTimeRead
/-- DBK_RENT_READ (R539). -/
def execDbkRentRead (m : Master) (s : State) : Res :=
  s.done fun b => b.readReply m (DBK_RENT 7) (rentWord m s.log 7)

end Sys2Proof.Machine
end

