-- ==== Sys2Proof/Machine/BusWrite.lean ====
section
/-! DEFINITION. What a write of each register does: by its access codes (R11), or as the rules of its block say. -/

namespace Sys2Proof.Machine

/-- A write by access codes, RWL bits held while the page is locked (R437). -/
def plainReg (off : Nat) (v : Word) (b : Block) : Block × Bool :=
  match rowAt off with
  | none => (b, false)
  | some r =>
    let (n, a) := plainWrite r (b.rdB (PG_LOCK (off / 0x1000 * 0x1000)) 0) (b.rd off) v
    (b.wr off n, a)

/-- A write value brought to the nearest legal value where the register's map says so (R66, R127, R204, R238, R297, R422,
R480, R512). -/
def nearestLegal (k : PageKind) (o : Nat) (v : Word) : Word :=
  let c (lo hi : Nat) : Word := wd (clampN lo hi v.toNat)
  match k, o with
  | .eng, 0x058 => c 520 4000
  | .asg, 0x058 => c 64 255
  | .tly, 0x048 => c 1 1000
  | .msq, 0x04C => c 100 10000
  | .hbm, 0x058 => c 1 100
  | .mnt, 0x080 | .mnt, 0x084 | .mnt, 0x088 | .mnt, 0x08C => wd (min (fld v 0 17) 65536)
  | .rst, 0x04C => setFld v 0 16 (clampN 10 10000 (fld v 0 16))
  | .thm, 0x048 => wd (clampN 16 255 (fld v 0 8) + clampN 16 255 (fld v 8 8) * 256)
  | _, _ => v

/-- A write of the register at offset `o` of the page of kind `k`, instance `i`, at `p`, by master `m`; `x` is what ECC
observes where the write starts a load or reaches the Ledger. -/
def regWrite (m : Master) (d : Daybook) (x : Ecc) (k : PageKind) (i p o : Nat) (v : Word) (b : Block) : Block × Bool :=
  let plain := plainReg (p + o) (nearestLegal k o v) b
  if o = 0x08 then pgCtrlWrite p v b else if o = 0x18 then pgIsetWrite p v b
  else if o = 0x1C then pgLockWrite p v b else if o = 0x24 then pgCommitWrite p v b
  else if o < 0x40 then plain
  else if (cntTable k).any fun t => t.1 == o then cntClrWrite k i p v b
  else match k with
  | .glb =>
    if o = 0x058 then iackWrite false v b else if o = 0x05C then iackWrite true v b
    else match arr o 0x114 4 32, arr o 0x80C 64 16 with
      | some c, _ => dmaCtrlWrite c v b
      | _, some n => msixCtlWrite n v b
      | _, _ => plain
  | .pwr => if o = 0x044 then pwrReqWrite v b else plain
  | .rst => if o = 0x040 then rstCmdWrite m v b else plain
  | .thm =>
    if o = 0x044 then thmLimWrite v b
    else match arr o 0x04C 3 4 with | some j => thmMaskWrite j v b | none => plain
  | .hk =>
    if o = 0x070 then hkUrgWrite v b
    else match arr o 0x100 48 4, arr o 0x1C0 48 4 with
      | some c, _ => hkCfgWrite false c v b
      | _, some c => hkCfgWrite true c v b
      | _, _ => plain
  | .lco =>
    if o = 0x040 then lcoCtrlWrite v b else if o = 0x04C then clrTripWrite m v b
    else if o = 0x050 then lenMaskWrite v b else if o = 0x054 then tieCmdWrite v b
    else match arr o 0x100 16 32, arr o 0x104 16 32, arr o 0x11C 16 32 with
      | some n, _, _ => lcoCfgWrite n v b
      | _, some n, _ => lcoSetWrite n v b
      | _, _, some n => lcoCmdWrite n v b
      | _, _, _ => plain
  | .vlt => if o = 0x058 then vltCmdWrite m v b else plain
  | .dbk =>
    if o = 0x06C then hcodeWrite m v b else if o = 0x080 then rselWrite m d v b
    else if o = 0x084 then (b.setDbk m { b.dbk m with rctl := v &&& 1 }, true)
    else match arr o 0x060 3 4 with
      | some j => (b.setDbk m { b.dbk m with hdata := (b.dbk m).hdata.set j v }, true)
      | none => plain
  | .mbx =>
    if o = 0x044 then dbmaskWrite m v b
    else if 0x400 ≤ o ∧ o < 0xC00 ∧ o % 64 < 32 then txdWrite m ((o - 0x400) / 64) (o % 64 / 4) v b
    else match arr o 0x200 32 4 with | some c => popWrite m c v b | none => plain
  | .ldg =>
    if o = 0x048 then ldgTselWrite i v b
    else match arr o 0x050 8 4 with | some j => ldgTrecWrite i j v b | none => plain
  | .tly =>
    if o = 0x040 then scArmWrite i v b
    else match arr o 0x400 256 4 with | some j => scaleWrite i j v b | none => plain
  | .ce =>
    if o = 0x048 then bankArmWrite i v b else if o = 0x04C then bankDisarmWrite i v b
    else if o = 0x05C then ceTdataWrite i v b
    else match arr o 0x100 4 32 with | some t => trcCtrlWrite i t v b | none => plain
  | .asy =>
    if o = 0x044 then asyCfgWrite i v b else if o = 0x05C then asyReq i v b
    else if o = 0x080 then (b.setAsySel m i false (v &&& 0x81FF001F), true)
    else if o = 0x0C0 then (b.setAsySel m i true (v &&& 0x7FF), true)
    else plain
  | .plt =>
    if o = 0x044 then (if bit v 0 then curveArm i b else (b, true))
    else match arr o 0x400 128 4 with | some j => curveWrite i j v b | none => plain
  | .htr => if o = 0x058 then htrTestWrite i v b else plain
  | .eng =>
    if o = 0x050 then wakeWrite i v b else if o = 0x054 then oscaleWrite i v b
    else if o = 0x06C then loadCtrlWrite i v x b else plain
  | .den =>
    if o = 0x050 then wakeWrite i v b else if o = 0x054 then oscaleWrite i v b
    else if o = 0x084 then denTblWrite i v b
    else if o = 0x088 then (if bit v 0 then denTblArm i b else (b, true))
    else plain
  | .lck | .lckd =>
    if o = 0x040 then lckCtrlWrite i v b else if o = 0x044 then lckCmdWrite i v b
    else match arr o 0x800 64 32, arr o 0x804 64 32, arr o 0x808 64 32 with
      | some q, _, _ => rcfgWrite i q v b
      | _, some q, _ => dfreqWrite i q v b
      | _, _, some q => rswordWrite i q v b
      | _, _, _ => plain
  | .trm | .trmd =>
    if o = 0x040 then trmCtrlWrite i v b else if o = 0x04C then trmRdataWrite i v b
    else if 0x800 ≤ o then trmRowWrite i ((o - 0x800) / 4) v b
    else if 0x100 ≤ o then trmModWrite i ((o - 0x100) / 4) v b
    else plain
  | .asg =>
    if o = 0x040 then asgCtrlWrite i v b else if o = 0x050 then asgDataWrite i v b
    else match arr o 0x100 128 4, arr o 0x300 8 4 with
      | some j, _ => asgTableWrite i j false v b
      | _, some j => asgTableWrite i j true v b
      | _, _ => plain
  | .mnt =>
    match arr o 0x100 16 8, arr o 0x104 16 8 with
      | some j, _ => profWrite j false v b
      | _, some j => profWrite j true v b
      | _, _ => plain
  | .hbm =>
    if o = 0x04C then hbmCmdWrite v b
    else if o = 0x048 ∧ fld v 0 2 = 3 then (b, false) else plain
  | .msq => if o = 0x040 then msqCtrlWrite v b else if o = 0x070 then spushWrite v b else plain
  | .lnk =>
    if o = 0x040 then lnkCtrlWrite v b else if o = 0x04C then steerWrite v b
    else match arr o 0x100 32 64, arr o 0x108 32 64 with
      | some q, _ => portCfgWrite q v b
      | _, some q => portCmdWrite q v b
      | _, _ => plain
  | .vyv =>
    if o = 0x05C then fcmdWrite v b
    else match arr o 0x100 16 4 with | some j => frecWrite j v b | none => plain
  | .rol =>
    if o = 0x040 then rolCtrlWrite v b else if o = 0x054 then rolCmdWrite v b
    else match arr o 0x204 3 4 with
      | some j => mrecWrite j v b
      | none => if o < 0x200 ∧ b.rdB ROL_CTRL 0 then (b, false) else plain
  | .id_ | .clk | .smb | .seq | .vec => plain

/-! ## Windows (R86, R193, R425, R432, R433) -/

/-- A 32-bit write of the trim window: as a `TRM_RDATA` write for the ring it addresses (R432). -/
def trimWindow (m : Master) (off : Nat) (v : Word) (b : Block) : Block × Bool :=
  match b.target off with
  | .trim e a => ringTrimWrite e (a / 4) v b
  | .park _ _ => (b.unmapped m off true, false)
  | _ => (b, false)

/-- A write through the plate window: bytes in RO areas are ignored and recorded (R86, R433). The offsets 0x6_8600 to
0x6_87FF, which the layout does not list, read 0 and count as an RO area (DESIGN CHOICE, assumption 80). -/
def plateWindow (m : Master) (off : Nat) (bs : List (Option Byte)) (b : Block) : Block × Bool :=
  match b.target off with
  | .plate e a =>
    let en := ((List.range bs.length).zip bs).filterMap fun (q : Nat × Option Byte) => q.2.map fun v => (a + q.1, v)
    let rw := en.filter fun q => imageRW q.1
    let ro := en.any fun q => !imageRW q.1 && decide (q.1 < 0x69800)
    let b := if rw.isEmpty then b else if b.rdB (ENG_STATE e) 4 then b.loadErr e 6
      else b.each rw fun b q => plateWrite e q.1 [q.2] b
    (b.when ro fun b => b.unmapped m off true, !rw.isEmpty)
  | _ => (b, false)

/-- A write through a Ledger window: stored, or ignored while a frame runs (R193). -/
def ledgerWindow (s a : Nat) (bs : List (Option Byte)) (x : Ecc) (b : Block) : Block × Bool :=
  if b.inFrame then (b, false) else
  let b := b.windowEcc s a bs.length x
  (b.each ((List.range bs.length).zip bs) fun b (q : Nat × Option Byte) => match q.2 with
    | some v => if a + q.1 < 0x800000 then b.wrLed s (a + q.1) [v] else b
    | none => b, true)

/-! ## All of BAR0 -/

/-- A write with partial byte enables to a register or the trim window (R425, R450): ignored and recorded. -/
def partialWrite (m : Master) (off : Nat) (b : Block) : Block × Bool :=
  ((b.recErr 2 m.id off true).ev 0x6103 0 [(1, m.id), (4, off)], false)

/-- A 32-bit write of BAR0 at the aligned offset `off`, in PF0's map, with byte enables `be`. -/
def busWrite (m : Master) (d : Daybook) (x : Ecc) (off : Nat) (v : Word) (be : BitVec 4) (b : Block) : Block × WrAns :=
  let bs : List (Option Byte) := (List.range 4).map fun k =>
    if be.getLsbD k then some (BitVec.ofNat 8 (v.toNat / 2 ^ (8 * k))) else none
  b.writeAt m off fun b =>
    match b.target off with
    | .page k i =>
      if be ≠ 15 then partialWrite m off b
      else match rowAt off with
        | some _ => regWrite m d x k i (off / 0x1000 * 0x1000) (off % 0x1000) v b
        | none => (b, false)
    | .trim _ _ | .park _ _ => if be ≠ 15 then partialWrite m off b else trimWindow m off v b
    | .fp a => (fpWrite a bs b, !b.hitsProgram (fpBase + a) 4)
    | .plate _ _ => plateWindow m off bs b
    | .ledger s a => ledgerWindow s a bs x b
    | .unmapped => (b, false)

/-- The entries of the host set in force written in order as master identity 3 (R531): the results counted, the first
failed offset kept. -/
def Block.applySet (b : Block) (d : Daybook) (x : Ecc) (ents : List (Word × Word)) : Block :=
  b.each ents fun b (q : Word × Word) =>
    let (b, r) := busWrite .mionus d x (q.1.toNat / 4 * 4) q.2 15 b
    match r with
    | .done true => b.wrF VLT_APPLY 0 16 (min (b.rdF VLT_APPLY 0 16 + 1) 65535)
    | _ =>
      let first := b.rdF VLT_APPLY 16 16 == 0
      let b := b.wrF VLT_APPLY 16 16 (min (b.rdF VLT_APPLY 16 16 + 1) 65535)
      b.when first fun b => b.wr VLT_APPLYERR q.1

/-- A write of `VLT_CMD` with `SETAPPLY` among the rest (R528, R531). -/
def vltCmdApply (m : Master) (d : Daybook) (x : Ecc) (v : Word) (b : Block) : Block × Bool :=
  let (b, apply, acted) := vltCmd m v b
  match apply, b.vlt.newerSet with
  | true, some s => (b.applySet d x s.ents, acted)
  | _, _ => (b, acted)

/-- A write of BAR0 where `VLT_CMD.SETAPPLY` may be among the commands. -/
def busWriteAll (m : Master) (d : Daybook) (x : Ecc) (off : Nat) (v : Word) (be : BitVec 4) (b : Block) : Block × WrAns :=
  if off = VLT_CMD ∧ be = 15 then b.writeAt m off (vltCmdApply m d x v) else busWrite m d x off v be b

/-- The BAR0 offset in PF0's map that master `m` means by `off`: PF1 sees its mirror (R426). -/
def mapped (m : Master) (off : Nat) : Option Nat := if m = .pf1 then pf1Map off else some off

/-! ## Meanings -/

/-- REGISTER_WRITE (R11): `off` is a byte offset in the BAR0 of the function, `be` the byte enables. -/
def execRegisterWrite (m : Master) (off : BitVec 26) (v : Word) (be : BitVec 4) (ecc : Ecc) (s : State) : Res :=
  s.done fun b => match mapped m (off.toNat / 4 * 4) with
    | some o => (busWriteAll m s.log ecc o v be b).1
    | none => b
/-- TRIM_WINDOW_WRITE (R432). -/
def execTrimWindowWrite (m : Master) (a : Fin 524288) (v : Word) (s : State) : Res :=
  s.done fun b => b.gate m (0x1000000 + 4 * a) (trimWindow m (0x1000000 + 4 * a) v)
/-- PLATE_WINDOW_WRITE (R86). -/
def execPlateWindowWrite (m : Master) (a : Fin 8388608) (bytes : List (Option Byte)) (s : State) : Res :=
  s.done fun b => b.gate m (0x1800000 + a) (plateWindow m (0x1800000 + a) bytes)
/-- LEDGER_WINDOW_WRITE (R193). -/
def execLedgerWindowWrite (m : Master) (st : Fin 4) (a : Fin 8388608) (bytes : List (Option Byte)) (ecc : Ecc)
    (s : State) : Res :=
  s.done fun b => b.gate m (0x2000000 + 0x800000 * st + a) (ledgerWindow st a bytes ecc)
/-- SETAPPLY (R531): what else the word asks of `VLT_CMD` is not this command's. -/
def execSetapply (m : Master) (v : Word) (ecc : Ecc) (s : State) : Res :=
  s.done fun b => b.gate m VLT_CMD (vltCmdApply m s.log ecc ((v &&& 0xFFFFFFF0) ||| 8))
/-- SETAPPLY_COMPLETE (R531). -/
def setApplyDone (b : Block) : Block :=
  match b.vlt.job with
  | some j =>
    if j.op ≠ 3 then b else
    b.vltDone.ev 0x9008 0 [(2, b.rdF VLT_APPLY 0 16), (2, b.rdF VLT_APPLY 16 16), (4, (b.rd VLT_APPLYERR).toNat)]
  | none => b
/-- SETAPPLY_COMPLETE (R531). -/
def execSetapplyComplete (s : State) : Res := s.done setApplyDone

end Sys2Proof.Machine
end

