-- ==== Sys2Proof/Machine/Receive.lean ====
section
/-! DEFINITION. Received Vyivim messages (R381 to R405): the checks, congestion marks, tensor placement, control delivery,
flow handshakes, register requests, views, heartbeats and relaying. -/

namespace Sys2Proof.Machine

/-! ## Fields of a payload (R390) -/

/-- `n` bytes of a payload from `o`, in network byte order. -/
def be (p : List Byte) (o n : Nat) : Nat := ofBytesLE ((p.drop o).take n).reverse
/-- Bytes `o` to `o + n - 1` of a payload are 0, as far as it has them. -/
def zeroAt (p : List Byte) (o n : Nat) : Bool := ((p.drop o).take n).all (· == 0)

/-! ## The checks of R381 -/

/-- The least and greatest `PLEN` of a type (R380), none for a reserved pair of class and type. -/
def plenRange (cls type : Nat) : Option (Nat × Nat) :=
  match cls, type with
  | 1, 0x01 => some (17, 8208)
  | 1, 0x02 => some (21, 8212)
  | 2, 0x10 | 2, 0x11 | 2, 0x13 | 2, 0x14 | 2, 0x15 | 2, 0x16 | 2, 0x17 | 2, 0x1A => some (8, 8)
  | 2, 0x12 => some (20, 20)
  | 2, 0x18 => some (32, 32)
  | 2, 0x19 => some (12, 520)
  | 2, 0x1B => some (12, 524)
  | 2, 0x20 | 3, 0x30 => some (48, 48)
  | 2, 0x21 | 2, 0x22 => some (16, 16)
  | _, _ => none

/-- Are the reserved fields of a payload 0 (R384, R196, R390, R391, R396, R399)? Those of a start record are judged by
R279. -/
def payloadReservedOk (type : Nat) (p : List Byte) : Bool :=
  match type with
  | 0x01 => zeroAt p 2 2 && zeroAt p 12 4
  | 0x02 => decide (be p 0 2 < 2 ^ 10) && decide (be p 2 2 < 2 ^ 14) && be p 4 1 % 8 == 0 && decide (be p 6 2 < 2 ^ 7)
      && decide (be p 8 2 < 2 ^ 10) && decide (be p 10 2 < 2 ^ 12) && decide (be p 12 2 < 2 ^ 13) && zeroAt p 15 1
      && zeroAt p 18 2
  | 0x10 => zeroAt p 4 4
  | 0x11 => zeroAt p 6 2
  | 0x12 => zeroAt p 3 1 && zeroAt p 18 2
  | 0x13 => zeroAt p 2 6
  | 0x14 | 0x16 | 0x17 => zeroAt p 4 4
  | 0x15 => zeroAt p 2 6
  | 0x19 | 0x1A => zeroAt p 6 2
  | 0x1B => zeroAt p 1 3 && zeroAt p 10 2
  | 0x21 => zeroAt p 10 2
  | 0x22 => zeroAt p 11 5
  | 0x30 => decide (be p 10 1 < 4) && zeroAt p 11 1
  | _ => true

/-- The flow context of a message: an OPEN one whose peer is its `SPATH`, CLOSING counting as OPEN so that a close can
finish, or with `opening` an OPENING one (R381 reason 9). -/
def Block.flowOf (b : Block) (m : Msg) (opening : Bool) : Option Nat :=
  let x := b.flow m.dflow
  if m.dflow < 4096 ∧ x.kind = 0 ∧ x.peer = m.spath ∧
      (x.state = 2 ∨ x.state = 3 ∨ opening = true ∧ x.state = 1) then some m.dflow else none

/-- Types whose `EPOCH` is not compared (R383). -/
def epochExempt (type : Nat) : Bool := [tHB, tVIEW, tJOIN, tACK, tERROR, tFAULT, tHELLO].contains type

/-- Does the `EPOCH` of a message agree (R383)? -/
def Block.epochOk (b : Block) (m : Msg) : Bool :=
  epochExempt m.type || (if 3 ≤ pScope m.dpath then m.epoch == 0 || m.epoch == b.epochFor m.dpath
    else m.epoch == b.epochFor m.spath)

/-- Reasons 1 to 3 of R381. -/
def msgFault1 (m : Msg) : Option Nat :=
  if m.hcrc ≠ msgHcrc m then some 1
  else if m.ver ≠ 1 ∨ m.cls = 0 ∨ 3 < m.cls then some 2
  else if m.cls ≠ 1 ∧ m.trailer ≠ msgTrailer m then some 3
  else none

/-- Reasons 5 to 10 of R381, in order. A TALLY message whose `DPATH` names the module and no stack (R382) fails reason 7
(DESIGN CHOICE, assumption 97). -/
def Block.msgFault2 (b : Block) (a : Arrival) (m : Msg) : Option Nat :=
  let len := plenRange m.cls m.type
  let scope := pScope m.dpath
  let opening := m.type == tOPENOK || m.type == tNOCTX
  let linkLocal := m.type == tHELLO || m.type == tOPEN || (m.type == tERROR && [tHELLO, tOPEN, tERROR].contains (be m.payload 4 1))
  if 16 ≤ m.flags ∨ (m.dflow ≠ 0xFFFF ∧ 4096 ≤ m.dflow) ∨ pathReservedOk m.dpath = false ∨ pathReservedOk m.spath = false
      ∨ payloadReservedOk m.type m.payload = false then some 5
  else if pathOk m.dpath = false ∨ pathOk m.spath = false ∨ 3 ≤ pScope m.spath
      ∨ (3 ≤ scope ∧ m.type ≠ tSTART ∧ m.type ≠ tJOIN) then some 6
  else if b.namesMe m.dpath = false ∨ (m.cls = 1 ∧ m.type = tTALLY ∧ pScope m.dpath = 2) then some 7
  else if m.payload.length ≠ m.plen ∨ a.ulen ≠ 40 + m.plen + (if m.cls = 1 then 0 else 4)
      ∨ m.plen < (len.getD (0, 0)).1 ∨ (len.getD (0, 0)).2 < m.plen then some 8
  else if m.dflow = 0xFFFF then (if linkLocal then (if b.epochOk m then none else some 10) else some 9)
  else if (b.flowOf m opening).isNone then some 9
  else if b.epochOk m then none else some 10

/-- A message from this module to the sender of a received one, with no context of its own. -/
def Block.emitBack (b : Block) (a : Arrival) (dst : BitVec 64) (dflow type : Nat) (payload : List Byte) : Block :=
  b.emit { port := a.port, mac := a.mac, tag := none, v6 := a.v6, ip := a.ip, dscp := 0, ect := false,
           sport := a.sport.toNat, dport := 0, msg := b.newMsg 2 type 0 dst 0 0 dflow payload }

/-- A message discarded under R381; for reasons from 4 on a control message is answered with an ERROR. -/
def Block.malformed (b : Block) (a : Arrival) (m : Msg) (reason : Nat) : Block :=
  let b := ((b.bump VYV_MALCNT).wr VYV_LASTMAL (wd (reason + a.port * 2 ^ 8 + m.dflow * 2 ^ 16))).raise P_VYV 4
  let b := b.ev 0x5106 a.port [(1, reason), (1, a.port), (2, m.dflow)]
  if m.cls = 2 ∧ 4 ≤ reason then
    let p := bytesBE 4 m.seq.toNat ++ [BitVec.ofNat 8 m.type, BitVec.ofNat 8 reason, 0, 0]
    match b.flowOf m false with
    | some f => b.ctlPlain f tERROR p
    | none => b.emitBack a m.spath 0xFFFF tERROR p
  else b

/-! ## The path of every message -/

/-- Types on which a Held module acts (R402). -/
def heldActs (type : Nat) : Bool := [tHB, tVIEW, tJOIN, tACK, tERROR, tHELLO].contains type

/-- `ECE` halves the rate of the flow, at most once in 10 µs and not below 1 Gb/s (R395). -/
def Block.eceIn (b : Block) (f : Nat) : Block :=
  if b.eceRecent (b.flow f) then b else
  b.updFlow f fun x => { x.setW 15 (setFld (x.w 15) 0 16 (max 1 (fld (x.w 15) 0 16 / 2))) with eceAt := some b.time }

/-- A datagram of a port, read as a message of class `cls` and type `type`: the checks of R381, what a Held module discards
(R402), congestion feedback (R395), then `act` with its flow context. A message that proves to be of another class or type
is not this command's. -/
def Block.receive (b : Block) (a : Arrival) (m : Msg) (cls type : Nat) (act : Nat → Block → Block) : Block :=
  if !b.vyvOn || !b.portUp a.port then b else
  let b := b.when a.ce fun b => b.bump VYV_CECNT
  match msgFault1 m with
  | some r => b.malformed a m r
  | none =>
    if b.rdB ROL_STAT 0 && !heldActs m.type then b.bump ROL_HELDDISC
    else if (plenRange m.cls m.type).isNone then b.malformed a m 4
    else if m.cls ≠ cls ∨ m.type ≠ type then b
    else match b.msgFault2 a m with
      | some r => b.malformed a m r
      | none =>
        let b := if m.dflow < 4096 then
            let b := b.when a.ce fun b => b.updFlow m.dflow fun x => { x with ce := true }
            b.when (m.flags.testBit 1) fun b => b.eceIn m.dflow
          else b
        act m.dflow b

/-! ## Tensor messages (R38, R385, R388) -/

/-- What a tensor message carries, and its tag. -/
inductive Tensor where
  | write (rtag roff : Nat) (data : List Byte)
  | tally (stack : Nat) (t : TMsg)
  deriving DecidableEq, Repr

def Tensor.tag : Tensor → Nat
  | .write t _ _ => t
  | .tally _ t => t.dslot
def Tensor.otype : Tensor → Nat
  | .write _ _ _ => tWRITE
  | .tally _ _ => tTALLY

/-- A message's frame against the current one: 0 earlier, 1 current, 2 later (R38). A frame that has ended counts as
earlier. -/
def Block.frameRel (b : Block) (frame : BitVec 32) : Nat :=
  match b.vyv.cur with
  | none => 2
  | some c => if frame = c then (if b.inFrame then 1 else 0) else if seqGT frame c then 2 else 0

/-- A tensor message in its receive space. -/
def Block.keep (b : Block) (f : Nat) (m : Msg) (t : Tensor) : Block :=
  let h : HeldMsg := match t with
    | .write rtag roff data => ⟨f, m.frame, m.seq, m.payload.length, some (rtag, roff, data), none⟩
    | .tally s x => ⟨f, m.frame, m.seq, m.payload.length, none, some (s, x)⟩
  b.hold h t.tag t.otype

/-- A tensor message placed (R38, R385). -/
def Block.placeTensor (b : Block) (f : Nat) (m : Msg) (t : Tensor) : Block :=
  match b.frameRel m.frame, t with
  | 0, t => (b.bump VYV_STALEFR).noteFault ⟨f, m.frame, 2, 0, t.otype, m.seq, 1, t.tag⟩
  | 1, .tally s x => b.tallyArrive s x
  | 1, .write rtag roff data => match b.vrecvFor f rtag with
    | some v => b.placeWrite v m.frame m.seq roff data
    | none => b.keep f m t
  | _, t => b.keep f m t

/-- A tensor message in the sequence of its flow (R388): a later `SEQ` reveals a gap, an earlier one is discarded. -/
def Block.tensorIn (b : Block) (f : Nat) (m : Msg) (t : Tensor) : Block :=
  let want := (b.flow f).rxSeq
  let b := b.updFlow f fun x => x.bumpW 13 1
  let gap := (m.seq - want).toNat
  if 2 ^ 31 ≤ gap then (b.bump VYV_LOSTCNT).updFlow f fun x => x.bumpW 14 1
  else
    let b := b.when (decide (gap ≠ 0)) fun b =>
      ((b.bump VYV_LOSTCNT gap).updFlow f fun x => x.bumpW 14 gap).noteFault ⟨f, m.frame, 1, 0, t.otype, want, gap, t.tag⟩
    (b.updFlow f fun x => { x with rxSeq := m.seq + 1 }).placeTensor f m t

/-- The payload of a WRITE (R384). -/
def writeOf (p : List Byte) : Tensor := .write (be p 0 2) (be p 4 4) (p.drop 16)

/-- The payload of a TALLY message (R196), for the stack its `DPATH` names or lies in. -/
def tallyOf (m : Msg) : Tensor :=
  let p := m.payload
  .tally (pStack m.dpath)
    { dslot := be p 0 2, dtag := be p 2 2, op := be p 4 1 / 32, fmt := be p 4 1 / 8 % 4, sid := be p 5 1, flags := be p 6 2,
      rows := be p 8 2, col0 := be p 10 2, cols := be p 12 2, link := be p 14 1, elen := be p 16 2,
      resv := !payloadReservedOk tTALLY p, data := p.drop 20, flow := m.dflow, seq := m.seq, net := true }

/-! ## FAULT (R397) -/

/-- TAINTED set on a frame whose data was lost: the frame in progress, or a closed one (R302). -/
def Block.taintFrame (b : Block) (frame : BitVec 32) : Block :=
  match b.frm with
  | some f => if f.sr.frame = frame then b.flag fTAINTED else b.lateFault frame
  | none => b.lateFault frame

/-- The frames of the messages `iseq` to `iseq + nseq - 1` of flow `f` by the log of messages sent, each once, oldest
message first; `frame` for those the log no longer holds. -/
def Block.sentFrames (b : Block) (f : Nat) (iseq : BitVec 32) (nseq : Nat) (frame : BitVec 32) : List (BitVec 32) :=
  let hits := b.vyv.txLog.foldl (fun (acc : List (BitVec 32 × BitVec 32)) (e : Nat × BitVec 32 × BitVec 32) =>
    if e.1 = f ∧ (e.2.1 - iseq).toNat < nseq ∧ acc.all (fun (a : BitVec 32 × BitVec 32) => a.1 != e.2.1) = true
    then (e.2.1, e.2.2) :: acc else acc) []
  ((if hits.length < nseq then [frame] else []) ++ hits.map (·.2)).eraseDups

/-- A FAULT received on flow `f` (R397). -/
def Block.faultIn (b : Block) (f : Nat) (p : List Byte) : Block :=
  let b := (b.bump VYV_FAULTRX).raise P_VYV 3
  b.each (b.sentFrames f (BitVec.ofNat 32 (be p 4 4)) (be p 8 4) (BitVec.ofNat 32 (be p 12 4))) fun b fr =>
    (b.taintFrame fr).evF 0x5104 0 [(2, f), (1, be p 0 1), (1, be p 1 1)] fr

/-! ## Register requests (R391) -/

/-- Words of a request as master 9: the status, the words done and the bytes read. A word outside `VYV_RACC` or the map, or
of a domain that is down, ends it. -/
def regWords (d : Daybook) (x : Ecc) : Option (List Word) → Nat → Nat → Nat → List Byte → Block → Block × Nat × Nat × List Byte
  | _, 0, _, done, acc, b => (b, 0, done, acc)
  | ws, n + 1, a, done, acc, b =>
    if 0x4000000 ≤ a then (b, 3, done, acc)
    else if !b.raccOpen a then (b, 1, done, acc)
    else match ws with
      | some ws => match busWriteAll .vyv d x a (ws.headD 0) 15 b with
        | (b, .down) => (b, 2, done, acc)
        | (b, .lost) => (b, 2, done, acc)
        | (b, _) => regWords d x (some ws.tail) n (a + 4) (done + 1) acc b
      | none => match busRead .vyv d x a b with
        | (b, .word w) => regWords d x none n (a + 4) (done + 1) (acc ++ bytesLE 4 w.toNat) b
        | (b, _) => (b, 2, done, acc)

/-- REG_WR (`wr`) or REG_RD on flow `f`, answered by REG_RSP. -/
def Block.regRequest (b : Block) (d : Daybook) (x : Ecc) (wr : Bool) (f : Nat) (p : List Byte) : Block :=
  let a := be p 0 4
  let n := be p 4 2
  let bad := decide (a % 4 ≠ 0 ∨ n = 0 ∨ 128 < n) || (wr && p.length != 8 + 4 * n)
  let (b, st, done, data) := if bad then (b, 3, 0, [])
    else regWords d x (if wr then some (wordsLE n (p.drop 8)) else none) n a 0 [] b
  b.ctlSend f tREGRSP 0 (b.flow f).peer 0
    ([BitVec.ofNat 8 st, 0, 0, 0] ++ bytesBE 4 a ++ bytesBE 2 done ++ [0, 0] ++ data)

/-! ## Rolls (R401 to R404) -/

/-- The level of the roll that a path names, 0 for a unit. -/
def rollLevel (p : BitVec 64) : Nat := pScope p - 2

/-- A VIEW received (R401, R402). -/
def Block.viewIn (b : Block) (p : List Byte) : Block :=
  let l := be p 0 1
  let epoch : BitVec 32 := BitVec.ofNat 32 (be p 4 4)
  let fser : BitVec 64 := BitVec.ofNat 64 (be p 8 8)
  let ms := ofBytesLE ((p.drop 16).take 32)
  let js := (List.range 256).filter fun j => ms.testBit j
  if !b.rollLevels.contains l then b
  else if seqGT epoch (b.epochAt l) || (epoch == b.epochAt l && decide (fser.toNat < (b.rol.prop.get (fun _ => 0) l).toNat)) then
    if js.contains (b.ownIx l) then b.adopt l epoch fser js (be p 1 1) false
    else b.enterHeld l (b.half l).length
  else b

/-- The lowest level up to `r` at which the module is not the face of its roll, none when it is the face of all (R404). -/
def Block.notFaceAt (b : Block) (r : Nat) : Option Nat := (List.range' 1 r).find? fun k => !b.isFace k

/-- A roll-addressed message relayed once to the face (R404). -/
def Block.relay (b : Block) (l : Nat) (m : Msg) : Block :=
  let f := (b.mrec l (b.rdF (ROL_L_INFO (l - 1)) 24 8)).2
  if m.flags.testBit 3 ∨ b.flowState f ≠ 2 then b else b.ctlSend f m.type fgRELAY m.dpath 0 m.payload

/-- A JOIN received (R403, R404): the face proposes a view that includes the member. -/
def Block.joinIn (b : Block) (m : Msg) : Block :=
  let l := be m.payload 8 1
  let j := be m.payload 9 1
  if !b.rollLevels.contains l || (rollLevel m.dpath != 0 && rollLevel m.dpath != l) then b else
  match b.notFaceAt l with
  | some k => if rollLevel m.dpath = 0 then b else b.relay k m
  | none => b.propose l ((List.range 256).filter fun i => b.inView l i || i == j) false

/-- The path of the roll of level `l - 1` that is member `j` of this module's roll of level `l`. -/
def Block.memberRollPath (b : Block) (l j : Nat) : BitVec 64 :=
  let p := b.path.toNat
  BitVec.ofNat 64 (pDepth b.path * 2 ^ 61 + (l + 1) * 2 ^ 58 + bits p (16 + 8 * l) (32 - 8 * l) * 2 ^ (16 + 8 * l)
    + j * 2 ^ (8 + 8 * l))

/-- The face of the rolls up to level `r` delivers a start record (R404): to the other members of each of those rolls, and
to itself. -/
def Block.startDown (b : Block) (m : Msg) : Nat → Block
  | 0 => b.pushStart (wordsLE 8 m.payload)
  | l + 1 =>
    let b := b.each ((b.view (l + 1)).filter fun j => j != b.ownIx (l + 1)) fun b j =>
      let f := (b.mrec (l + 1) j).2
      if b.flowState f = 2 then
        b.ctlSend f tSTART 0 (if l = 0 then (b.flow f).peer else b.memberRollPath (l + 1) j) 0 m.payload
      else b
    b.startDown m l

/-- A START received (R390, R404). -/
def Block.startIn (b : Block) (m : Msg) : Block :=
  let r := rollLevel m.dpath
  if r = 0 then b.pushStart (wordsLE 8 m.payload)
  else if !b.rollLevels.contains r then b
  else match b.notFaceAt r with
    | some k => b.relay k m
    | none => b.startDown m r

/-- A heartbeat received (R399, R402, R403). -/
def Block.heartbeatIn (b : Block) (m : Msg) : Block :=
  let p := m.payload
  let l := be p 8 1
  let j := be p 9 1
  if !b.rollLevels.contains l || j == b.ownIx l then b else
  let held := (be p 10 1).testBit 0
  let b := b.updHeard l j fun h =>
    { alive := true, reach := BitVec.ofNat 256 (ofBytesLE ((p.drop 16).take 32)), serial := some (BitVec.ofNat 64 (be p 0 8)),
      fresh := true, run := if held then (if h.fresh then h.run else h.run + 1) else 0 }
  if seqGT m.epoch (b.epochAt l) then b.enterHeld l (b.half l).length else b

/-! ## Control messages (R389, R393) -/

/-- A CLOSE received (R393): the context is freed when its CLOSE_OK has been acknowledged, or by the peer's CLOSE_OK where
this side is closing it too. -/
def Block.closeIn (b : Block) (f : Nat) : Block :=
  let b := b.updFlow f fun x => { x.setState 3 with bye := x.bye || x.state == 2 }
  b.ctlSend f tCLOSEOK 0 (b.flow f).peer 0 (bytesBE 2 f ++ bytesBE 2 (b.flow f).peerFlow ++ List.replicate 4 0)

/-- A CLOSE_OK received (R393): acknowledged, then the context this side was closing is freed. -/
def Block.closeOkIn (b : Block) (f : Nat) : Block :=
  let x := b.flow f
  if x.state = 3 ∧ x.bye = false then ((b.ack f).freeFlow f).fDone else b

/-- A sequenced control message delivered. -/
def Block.hand (b : Block) (d : Daybook) (f : Nat) (m : Msg) (x : Ecc) : Block :=
  let b := b.updFlow f fun x => { x with ctlRx := m.seq }
  if m.type = tFAULT then b.faultIn f m.payload
  else if m.type = tCLOSE then b.closeIn f
  else if m.type = tCLOSEOK then b.closeOkIn f
  else if m.type = tSTART then b.startIn m
  else if m.type = tREGWR then b.regRequest d x true f m.payload
  else if m.type = tREGRD then b.regRequest d x false f m.payload
  else if m.type = tVIEW then b.viewIn m.payload
  else if m.type = tJOIN then b.joinIn m
  else b

/-- The early messages whose turn has come, at most `n`. -/
def Block.handEarly (d : Daybook) (f : Nat) : Nat → Block → Block
  | 0, b => b
  | n + 1, b =>
    let x := b.flow f
    if x.state = 0 then b else
    match x.early.find? fun (e : Msg × Ecc) => e.1.seq == x.ctlRx + 1 with
    | none => b
    | some e =>
      let b := b.updFlow f fun x => { x with early := x.early.filter fun (g : Msg × Ecc) => g.1.seq != e.1.seq }
      Block.handEarly d f n (b.hand d f e.1 e.2)

/-- A sequenced control message on flow `f` (R389): delivered in order, held within the window of 64, acknowledged. Beyond
the window it is discarded. -/
def Block.ctlIn (b : Block) (d : Daybook) (f : Nat) (m : Msg) (x : Ecc) : Block :=
  let k := (m.seq - (b.flow f).ctlRx).toNat
  if 64 < k ∧ k < 2 ^ 31 then b else
  let b := if k = 1 then Block.handEarly d f 64 (b.hand d f m x)
    else if 2 ≤ k ∧ k ≤ 64 then b.updFlow f fun y =>
      if y.early.any fun (e : Msg × Ecc) => e.1.seq == m.seq then y else { y with early := y.early ++ [(m, x)] }
    else b
  if b.flowState f = 0 then b else b.ack f

/-- A cumulative ACK received (R389): the messages it covers are released, and waiting ones leave. -/
def Block.ackIn (b : Block) (f : Nat) (aseq : BitVec 32) : Block :=
  let b := b.updFlow f fun x => { x with out := x.out.filter fun c => c.seq == 0 || seqGT c.seq aseq }
  let x := b.flow f
  if x.bye && x.out.isEmpty && x.waitQ.isEmpty then b.freeFlow f else b.ctlFill f

/-- An OPENING context is answered: it is OPEN with the peer's index (R393). -/
def Block.opened (b : Block) (f peer : Nat) : Block :=
  (b.updFlow f fun x => { (x.setW 1 (setFld (x.w 1) 0 12 peer)).setState 2 with out := [], waitQ := [] }).fDone

/-- A record filled for a peer's OPEN (R393): what the rule does not name takes its reset value. -/
def peerRecord (a : Arrival) (m : Msg) (fdef : Word) : Vector Word 16 :=
  #v[wd (2 + b2n a.v6 * 2 ^ 5 + a.port * 2 ^ 8), wd (0x140000 + be m.payload 0 2 % 4096), m.spath.setWidth 32,
   (m.spath >>> 32).setWidth 32, a.mac.setWidth 32, (a.mac >>> 32).setWidth 32, wd a.sport.toNat, fdef,
   a.ip.getD 0 0, a.ip.getD 1 0, a.ip.getD 2 0, a.ip.getD 3 0, 0, 0, 0, 0]

/-- OPEN_OK from context `f` to the initiator's context `peer`. -/
def Block.openOk (b : Block) (f peer : Nat) : Block :=
  b.ctlPlain f tOPENOK (bytesBE 2 f ++ bytesBE 2 peer ++ List.replicate 4 0)

/-- An OPEN received (R393): the OPENING context of the same peer and port, on a retransmission the context already open
for it, else the lowest FREE one, else none. -/
def Block.openIn (b : Block) (a : Arrival) (m : Msg) : Block :=
  let peer := be m.payload 0 2 % 4096
  let same (k f : Nat) : Bool :=
    let x := b.flow f
    x.state == k && x.kind == 0 && x.peer == m.spath && fld (x.w 6) 0 16 == a.sport.toNat
  match (List.range 4096).find? (same 1) with
  | some f => (b.opened f peer).openOk f peer
  | none =>
    match (if m.flags.testBit 2 then (List.range 4096).find? fun f => same 2 f && (b.flow f).peerFlow == peer else none) with
    | some f => b.openOk f peer
    | none =>
      match (List.range 4096).find? fun f => b.flowState f == 0 with
      | some f => ((b.updFlow f fun x => { x with words := peerRecord a m (b.rd VYV_FDEF) }).startFlow f 2).openOk f peer
      | none =>
        let b := ((b.bump VYV_NOCTX).raise P_VYV 2).ev 0x5102 0 [(8, m.spath.toNat)]
        b.emitBack a m.spath peer tNOCTX (bytesBE 2 peer ++ List.replicate 6 0)

/-- A NO_CONTEXT received for an OPENING context (R393). -/
def Block.noContextIn (b : Block) (f : Nat) : Block :=
  if b.flowState f ≠ 1 then b else
  ((b.updFlow f fun x => { x.setState 4 with out := [], waitQ := [] }).clrB VYV_FSTAT 0).fErr 2 |>.raise P_VYV 1

/-! ## HELLO (R370, R373) -/

/-- A HELLO received on port `p`: within its time it confirms the peer; where its lane mask differs from the module's own,
the lanes that differ are faulted for cause 5. -/
def helloIn (p : Nat) (q : List Byte) (b : Block) : Block :=
  if !bit (b.portCfg p) 3 then b else
  let own := b.rdF (LNK_P_STAT p) 8 8
  let b := b.when (b.port p).hello fun b => (b.setB (LNK_P_STAT p) 3).updPort p fun x => { x with hello := false }
  let theirs := be q 9 1
  b.each ((List.range (2 ^ cfgWidth (b.portCfg p))).filter fun i => own.testBit i != theirs.testBit i) fun b i =>
    laneFault (p + i) 5 b

/-! ## Meanings -/

/-- WRITE (R385). -/
def execRxWrite (a : Arrival) (m : Msg) (s : State) : Res :=
  s.done fun b => b.receive a m 1 tWRITE fun f b => b.tensorIn f m (writeOf m.payload)
/-- TALLY (R198). -/
def execRxTally (a : Arrival) (m : Msg) (s : State) : Res :=
  s.done fun b => b.receive a m 1 tTALLY fun f b => b.tensorIn f m (tallyOf m)
/-- ACK (R389). -/
def execRxAck (a : Arrival) (m : Msg) (s : State) : Res :=
  s.done fun b => b.receive a m 2 tACK fun f b => b.ackIn f (BitVec.ofNat 32 (be m.payload 0 4))
/-- ERROR (R381): it reports, and changes nothing: a message it names is retransmitted or fails under R389. -/
def execRxError (a : Arrival) (m : Msg) (s : State) : Res := s.done fun b => b.receive a m 2 tERROR fun _ b => b
/-- FAULT (R397). -/
def execRxFault (a : Arrival) (m : Msg) (s : State) : Res :=
  s.done fun b => b.receive a m 2 tFAULT fun f b => b.ctlIn s.log f m ⟨[], []⟩
/-- OPEN (R393). -/
def execRxOpen (a : Arrival) (m : Msg) (s : State) : Res :=
  s.done fun b => b.receive a m 2 tOPEN fun _ b => b.openIn a m
/-- OPEN_OK (R393): it acts on an OPENING context. -/
def execRxOpenOk (a : Arrival) (m : Msg) (s : State) : Res :=
  s.done fun b => b.receive a m 2 tOPENOK fun f b => if b.flowState f = 1 then b.opened f (be m.payload 0 2 % 4096) else b
/-- NO_CONTEXT (R393). -/
def execRxNoContext (a : Arrival) (m : Msg) (s : State) : Res :=
  s.done fun b => b.receive a m 2 tNOCTX fun f b => b.noContextIn f
/-- CLOSE (R393). -/
def execRxClose (a : Arrival) (m : Msg) (s : State) : Res :=
  s.done fun b => b.receive a m 2 tCLOSE fun f b => b.ctlIn s.log f m ⟨[], []⟩
/-- CLOSE_OK (R393). -/
def execRxCloseOk (a : Arrival) (m : Msg) (s : State) : Res :=
  s.done fun b => b.receive a m 2 tCLOSEOK fun f b => b.ctlIn s.log f m ⟨[], []⟩
/-- START (R404). -/
def execRxStart (a : Arrival) (m : Msg) (s : State) : Res :=
  s.done fun b => b.receive a m 2 tSTART fun f b => b.ctlIn s.log f m ⟨[], []⟩
/-- REG_WR (R391); `ecc` is what the ECC of HBM reports of what its writes read there. -/
def execRxRegWr (a : Arrival) (m : Msg) (ecc : Ecc) (s : State) : Res :=
  s.done fun b => b.receive a m 2 tREGWR fun f b => b.ctlIn s.log f m ecc
/-- REG_RD (R391); `ecc` is what the ECC of a Ledger reports of its reads through the window. -/
def execRxRegRd (a : Arrival) (m : Msg) (ecc : Ecc) (s : State) : Res :=
  s.done fun b => b.receive a m 2 tREGRD fun f b => b.ctlIn s.log f m ecc
/-- REG_RSP (R391): acknowledged in its sequence. -/
def execRxRegRsp (a : Arrival) (m : Msg) (s : State) : Res :=
  s.done fun b => b.receive a m 2 tREGRSP fun f b => b.ctlIn s.log f m ⟨[], []⟩
/-- VIEW (R401). -/
def execRxView (a : Arrival) (m : Msg) (s : State) : Res :=
  s.done fun b => b.receive a m 2 tVIEW fun f b => b.ctlIn s.log f m ⟨[], []⟩
/-- JOIN (R403). -/
def execRxJoin (a : Arrival) (m : Msg) (s : State) : Res :=
  s.done fun b => b.receive a m 2 tJOIN fun f b => b.ctlIn s.log f m ⟨[], []⟩
/-- HELLO (R373). -/
def execRxHello (a : Arrival) (m : Msg) (s : State) : Res :=
  s.done fun b => b.receive a m 2 tHELLO fun _ b => helloIn a.port m.payload b
/-- HB (R399). -/
def execRxHb (a : Arrival) (m : Msg) (s : State) : Res :=
  s.done fun b => b.receive a m 3 tHB fun _ b => b.heartbeatIn m

end Sys2Proof.Machine
end

