-- ==== Sys2Proof/Machine/Smb.lean ====
section
/-! DEFINITION. The SMBus target (R447 to R449). `SMB_STAT` holds the pointer and the status of the last transaction. -/

namespace Sys2Proof.Machine

/-- The register pointer. -/
def Block.smbPtr (b : Block) : Nat := b.rdF SMB_STAT 16 16
def Block.setPtr (b : Block) (p : Nat) : Block := b.wrF SMB_STAT 16 16 p
/-- The status a transaction ends with. -/
def Block.smbEnd (b : Block) (st : Nat) : Block := b.wrF SMB_STAT 0 8 st

/-- The BAR0 offset a pointer leads to, none outside the page set (R447). -/
def smbOff (p : Nat) : Option Nat := (smbPage (p / 0x1000)).map fun base => base + p % 0x1000 / 4 * 4

/-- A transaction addressed to the target. -/
def Block.smbBegin (b : Block) : Block := b.bump SMB_TXCNT

/-- Does a write whose PEC byte is `pec` (none, right or wrong) fail its check (R447)? -/
def Block.pecBad (b : Block) (pec : Option Bool) : Bool := b.rdB SMB_CFG 8 && pec != some true

/-- A write discarded for its PEC. -/
def Block.pecError (b : Block) (code : Nat) : Block :=
  ((((b.bump SMB_PECERR).raise P_SMB 0).ev 0x6301 0 [(1, code)]).smbEnd 1).send (.smbus false [])

/-- SMB_WRITE_WORD (R448): sets the pointer, whose low bits must be 0. -/
def smbWriteWord (p : Nat) (pec : Option Bool) (b : Block) : Block :=
  if !b.domUp .island then b else
  let b := b.smbBegin
  if b.pecBad pec then b.pecError 0x01
  else if p % 4 ≠ 0 then (b.smbEnd 2).send (.smbus false [])
  else ((b.setPtr p).smbEnd 0).send (.smbus true [])

/-- SMB_READ_WORD (R448). -/
def smbReadWord (b : Block) : Block :=
  if !b.domUp .island then b else
  let p := b.smbPtr
  (b.smbBegin.smbEnd 0).send (.smbus true (bytesLE 2 p))

/-- SMB_READ_BYTE (R448): the status of the transaction before. -/
def smbReadByte (b : Block) : Block :=
  if !b.domUp .island then b else
  let st := b.rdF SMB_STAT 0 8
  b.smbBegin.send (.smbus true (bytesLE 1 st))

/-- Up to `n` words read from the pointer on (R448): the bytes, and the status of the word that failed. -/
def smbWords (d : Daybook) : Nat → List Byte → Block → Block × List Byte × Nat
  | 0, acc, b => (b, acc, 0)
  | n + 1, acc, b =>
    match smbOff b.smbPtr with
    | none => (b, acc, 2)
    | some off =>
      match busRead .smbus d ⟨[], []⟩ off b with
      | (b, .word w) => smbWords d n (acc ++ bytesLE 4 w.toNat) (b.setPtr (b.smbPtr + 4))
      | (b, _) => (b, acc, 4)

/-- SMB_BLOCK_READ (R448, R440): the byte count and `RLEN` words; bytes of words that failed read `0xFF`. -/
def smbBlockRead (d : Daybook) (b : Block) : Block :=
  if !b.domUp .island then b else
  let n := clampN 1 8 (b.rdF SMB_CFG 16 4)
  let (b, bs, st) := smbWords d n [] b.smbBegin
  (b.smbEnd st).send (.smbus true (bytesLE 1 (4 * n) ++ bs ++ List.replicate (4 * n - bs.length) 255))

/-- Words written from the pointer on (R448): the status of the word that failed. -/
def smbWrites (d : Daybook) : List Word → Block → Block × Nat
  | [], b => (b, 0)
  | w :: ws, b =>
    match smbOff b.smbPtr with
    | none => (b, 2)
    | some off =>
      match busWrite .smbus d ⟨[], []⟩ off w 15 b with
      | (b, .done _) => smbWrites d ws (b.setPtr (b.smbPtr + 4))
      | (b, .barred) => (b, 3)
      | (b, .unmapped) => (b, 2)
      | (b, _) => (b, 4)

/-- SMB_BLOCK_WRITE (R448). -/
def smbBlockWrite (d : Daybook) (bytes : List Byte) (pec : Option Bool) (b : Block) : Block :=
  if !b.domUp .island then b else
  let b := b.smbBegin
  let n := bytes.length
  if b.pecBad pec then b.pecError 0x11
  else if n % 4 ≠ 0 ∨ n = 0 ∨ 32 < n then (b.smbEnd 5).send (.smbus false [])
  else
    let (b, st) := smbWrites d (wordsLE (n / 4) bytes) b
    (b.smbEnd st).send (.smbus true [])

/-- SMB_TIMEOUT (R447). -/
def smbTimeout (b : Block) : Block :=
  if !b.domUp .island then b else ((b.bump SMB_TOCNT).raise P_SMB 1).ev 0x6302

/-! ## Meanings -/

/-- SMB_WRITE_WORD (R448). -/
def execSmbWriteWord (p : BitVec 16) (pec : Option Bool) (s : State) : Res := s.done (smbWriteWord p.toNat pec)
/-- SMB_READ_WORD (R448). -/
def execSmbReadWord (s : State) : Res := s.done smbReadWord
/-- SMB_BLOCK_READ (R448). -/
def execSmbBlockRead (s : State) : Res := s.done (smbBlockRead s.log)
/-- SMB_BLOCK_WRITE (R448). -/
def execSmbBlockWrite (bytes : List Byte) (pec : Option Bool) (s : State) : Res := s.done (smbBlockWrite s.log bytes pec)
/-- SMB_READ_BYTE (R448). -/
def execSmbReadByte (s : State) : Res := s.done smbReadByte
/-- SMB_TIMEOUT (R447). -/
def execSmbTimeout (s : State) : Res := s.done smbTimeout

end Sys2Proof.Machine
end

