-- ==== Sys2Proof/Machine/Dispatch.lean ====
section
/-! DEFINITION. The meaning of every command, by constructor. -/

namespace Sys2Proof.Machine

def exec (i : Instr) (s : State) : Host.Outcome State Fault Refusal :=
  match i with
  | .powerOnReset => Sys2Proof.Machine.execPowerOnReset s
  | .holdUpMeasure cap v => Sys2Proof.Machine.execHoldUpMeasure cap v s
  | .sequenceError rails => Sys2Proof.Machine.execSequenceError rails s
  | .dieRelease => Sys2Proof.Machine.execDieRelease s
  | .stowReached => Sys2Proof.Machine.execStowReached s
  | .mionusBoot => Sys2Proof.Machine.execMionusBoot s
  | .pwrReq m v => Sys2Proof.Machine.execPwrReq m v s
  | .laserDeadTimeEnd => Sys2Proof.Machine.execLaserDeadTimeEnd s
  | .lightCheckComplete dark => Sys2Proof.Machine.execLightCheckComplete dark s
  | .heaterWarmUpComplete => Sys2Proof.Machine.execHeaterWarmUpComplete s
  | .mapCommit => Sys2Proof.Machine.execMapCommit s
  | .holdToActiveComplete => Sys2Proof.Machine.execHoldToActiveComplete s
  | .enterStow => Sys2Proof.Machine.execEnterStow s
  | .lsafeNTrip => Sys2Proof.Machine.execLsafeNTrip s
  | .railFault rail mv => Sys2Proof.Machine.execRailFault rail mv s
  | .saveTrigger trigger => Sys2Proof.Machine.execSaveTrigger trigger s
  | .saveComplete => Sys2Proof.Machine.execSaveComplete s
  | .holdUpNodeCollapse => Sys2Proof.Machine.execHoldUpNodeCollapse s
  | .vreqRaise monitor margin => Sys2Proof.Machine.execVreqRaise monitor margin s
  | .vcoreLow => Sys2Proof.Machine.execVcoreLow s
  | .criticalMargin monitor margin => Sys2Proof.Machine.execCriticalMargin monitor margin s
  | .refclk156Loss => Sys2Proof.Machine.execRefclk156Loss s
  | .refclk156Return => Sys2Proof.Machine.execRefclk156Return s
  | .refclk100Loss => Sys2Proof.Machine.execRefclk100Loss s
  | .crystalLoss => Sys2Proof.Machine.execCrystalLoss s
  | .pllUnlock p => Sys2Proof.Machine.execPllUnlock p s
  | .moduleReset => Sys2Proof.Machine.execModuleReset s
  | .rstCmdMr m v => Sys2Proof.Machine.execRstCmdMr m v s
  | .rstCmdMionus m v => Sys2Proof.Machine.execRstCmdMionus m v s
  | .mrResetPhase => Sys2Proof.Machine.execMrResetPhase s
  | .mrComplete => Sys2Proof.Machine.execMrComplete s
  | .watchdogExpiry => Sys2Proof.Machine.execWatchdogExpiry s
  | .perst asserted => Sys2Proof.Machine.execPerst asserted s
  | .functionLevelReset pf1 => Sys2Proof.Machine.execFunctionLevelReset pf1 s
  | .d3hot pf1 => Sys2Proof.Machine.execD3hot pf1 s
  | .msixUnmask vec => Sys2Proof.Machine.execMsixUnmask vec s
  | .glbIack m hi v => Sys2Proof.Machine.execGlbIack m hi v s
  | .frameBegin => Sys2Proof.Machine.execFrameBegin s
  | .msqSpush m v => Sys2Proof.Machine.execMsqSpush m v s
  | .msqCtrlWrite m v => Sys2Proof.Machine.execMsqCtrlWrite m v s
  | .dEnd idx d => Sys2Proof.Machine.execDEnd idx d s
  | .frameBoundary => Sys2Proof.Machine.execFrameBoundary s
  | .emptyBoundary => Sys2Proof.Machine.execEmptyBoundary s
  | .frameLimitExpiry => Sys2Proof.Machine.execFrameLimitExpiry s
  | .dFence idx d => Sys2Proof.Machine.execDFence idx d s
  | .fenceRelease tgt => Sys2Proof.Machine.execFenceRelease tgt s
  | .descriptorComplete idx => Sys2Proof.Machine.execDescriptorComplete idx s
  | .dWake idx d => Sys2Proof.Machine.execDWake idx d s
  | .wakeHintDelayExpiry hint => Sys2Proof.Machine.execWakeHintDelayExpiry hint s
  | .wakeHoldExpiry e => Sys2Proof.Machine.execWakeHoldExpiry e s
  | .engWakeRun m e v => Sys2Proof.Machine.execEngWakeRun m e v s
  | .engWakeDoze m e v => Sys2Proof.Machine.execEngWakeDoze m e v s
  | .denWakeRun m n v => Sys2Proof.Machine.execDenWakeRun m n v s
  | .denWakeDoze m n v => Sys2Proof.Machine.execDenWakeDoze m n v s
  | .idleTimerExpiry e => Sys2Proof.Machine.execIdleTimerExpiry e s
  | .napTimerExpiry e => Sys2Proof.Machine.execNapTimerExpiry e s
  | .dozeEntryComplete e => Sys2Proof.Machine.execDozeEntryComplete e s
  | .napEntryComplete e => Sys2Proof.Machine.execNapEntryComplete e s
  | .wakeToDozeComplete e => Sys2Proof.Machine.execWakeToDozeComplete e s
  | .wakeToRunComplete e => Sys2Proof.Machine.execWakeToRunComplete e s
  | .dPass idx d adc => Sys2Proof.Machine.execDPass idx d adc s
  | .treeColumnResult st con => Sys2Proof.Machine.execTreeColumnResult st con s
  | .contributionApply st slot ecc => Sys2Proof.Machine.execContributionApply st slot ecc s
  | .dTrec idx d => Sys2Proof.Machine.execDTrec idx d s
  | .tileFillComplete st slot => Sys2Proof.Machine.execTileFillComplete st slot s
  | .arrivalStoreMove st slot => Sys2Proof.Machine.execArrivalStoreMove st slot s
  | .dRdbk idx d ecc => Sys2Proof.Machine.execDRdbk idx d ecc s
  | .dThop idx d ecc => Sys2Proof.Machine.execDThop idx d ecc s
  | .tallyHopForward st hop => Sys2Proof.Machine.execTallyHopForward st hop s
  | .stackHopDelivery st hop => Sys2Proof.Machine.execStackHopDelivery st hop s
  | .runningSumApply st slot ecc => Sys2Proof.Machine.execRunningSumApply st slot ecc s
  | .runningSumTimeout st slot ecc => Sys2Proof.Machine.execRunningSumTimeout st slot ecc s
  | .rxTally a msg => Sys2Proof.Machine.execRxTally a msg s
  | .ldgTrecWrite m st k v => Sys2Proof.Machine.execLdgTrecWrite m st k v s
  | .ldgTselWrite m st v => Sys2Proof.Machine.execLdgTselWrite m st v s
  | .scArm m st v => Sys2Proof.Machine.execScArm m st v s
  | .tlyScalePWrite m st k v => Sys2Proof.Machine.execTlyScalePWrite m st k v s
  | .ledgerWindowWrite m st a bytes ecc => Sys2Proof.Machine.execLedgerWindowWrite m st a bytes ecc s
  | .dMintConvert idx d ecc => Sys2Proof.Machine.execDMintConvert idx d ecc s
  | .dMintReplay idx d ecc => Sys2Proof.Machine.execDMintReplay idx d ecc s
  | .dMintCutThroughReplay idx d => Sys2Proof.Machine.execDMintCutThroughReplay idx d s
  | .dMintx idx d ecc => Sys2Proof.Machine.execDMintx idx d ecc s
  | .mntProfWrite m p hi v => Sys2Proof.Machine.execMntProfWrite m p hi v s
  | .dDfill idx d ecc => Sys2Proof.Machine.execDDfill idx d ecc s
  | .latch n => Sys2Proof.Machine.execLatch n s
  | .dDscore idx d adc ecc => Sys2Proof.Machine.execDDscore idx d adc ecc s
  | .dDvalue idx d adc ecc => Sys2Proof.Machine.execDDvalue idx d adc ecc s
  | .denTblArm m n => Sys2Proof.Machine.execDenTblArm m n s
  | .denTblDataWrite m n v => Sys2Proof.Machine.execDenTblDataWrite m n v s
  | .denTblDataRead m n => Sys2Proof.Machine.execDenTblDataRead m n s
  | .denOscaleWrite m n v => Sys2Proof.Machine.execDenOscaleWrite m n v s
  | .dHbm idx d ecc => Sys2Proof.Machine.execDHbm idx d ecc s
  | .dVsend idx d ecc => Sys2Proof.Machine.execDVsend idx d ecc s
  | .dVsendStartRecord idx d ecc => Sys2Proof.Machine.execDVsendStartRecord idx d ecc s
  | .dVrecv idx d => Sys2Proof.Machine.execDVrecv idx d s
  | .vrecvWaitExpiry idx => Sys2Proof.Machine.execVrecvWaitExpiry idx s
  | .vopRmsnorm idx d => Sys2Proof.Machine.execVopRmsnorm idx d s
  | .vopResnorm idx d => Sys2Proof.Machine.execVopResnorm idx d s
  | .vopLnorm idx d => Sys2Proof.Machine.execVopLnorm idx d s
  | .vopAdd idx d => Sys2Proof.Machine.execVopAdd idx d s
  | .vopSub idx d => Sys2Proof.Machine.execVopSub idx d s
  | .vopMul idx d => Sys2Proof.Machine.execVopMul idx d s
  | .vopAxpy idx d => Sys2Proof.Machine.execVopAxpy idx d s
  | .vopRowscale idx d => Sys2Proof.Machine.execVopRowscale idx d s
  | .vopColscale idx d => Sys2Proof.Machine.execVopColscale idx d s
  | .vopCvt idx d => Sys2Proof.Machine.execVopCvt idx d s
  | .vopCopy idx d => Sys2Proof.Machine.execVopCopy idx d s
  | .vopGather idx d => Sys2Proof.Machine.execVopGather idx d s
  | .vopScatter idx d => Sys2Proof.Machine.execVopScatter idx d s
  | .vopTranspose idx d => Sys2Proof.Machine.execVopTranspose idx d s
  | .vopRope idx d => Sys2Proof.Machine.execVopRope idx d s
  | .vopSilu idx d => Sys2Proof.Machine.execVopSilu idx d s
  | .vopGelu idx d => Sys2Proof.Machine.execVopGelu idx d s
  | .vopSwiglu idx d => Sys2Proof.Machine.execVopSwiglu idx d s
  | .vopGeglu idx d => Sys2Proof.Machine.execVopGeglu idx d s
  | .vopRelu2 idx d => Sys2Proof.Machine.execVopRelu2 idx d s
  | .vopExp idx d => Sys2Proof.Machine.execVopExp idx d s
  | .vopRecip idx d => Sys2Proof.Machine.execVopRecip idx d s
  | .vopRsqrt idx d => Sys2Proof.Machine.execVopRsqrt idx d s
  | .vopSoftcap idx d => Sys2Proof.Machine.execVopSoftcap idx d s
  | .vopClamp idx d => Sys2Proof.Machine.execVopClamp idx d s
  | .vopRowmax idx d => Sys2Proof.Machine.execVopRowmax idx d s
  | .vopRowsum idx d => Sys2Proof.Machine.execVopRowsum idx d s
  | .vopRowsumsq idx d => Sys2Proof.Machine.execVopRowsumsq idx d s
  | .vopMaskfill idx d => Sys2Proof.Machine.execVopMaskfill idx d s
  | .vopSmxPart idx d => Sys2Proof.Machine.execVopSmxPart idx d s
  | .vopSmxComb idx d => Sys2Proof.Machine.execVopSmxComb idx d s
  | .vopSmxFull idx d => Sys2Proof.Machine.execVopSmxFull idx d s
  | .vopArgmaxIdx idx d => Sys2Proof.Machine.execVopArgmaxIdx idx d s
  | .vopTopk idx d => Sys2Proof.Machine.execVopTopk idx d s
  | .vopTopp idx d => Sys2Proof.Machine.execVopTopp idx d s
  | .vopTemp idx d => Sys2Proof.Machine.execVopTemp idx d s
  | .vopPenalty idx d => Sys2Proof.Machine.execVopPenalty idx d s
  | .vopSample idx d => Sys2Proof.Machine.execVopSample idx d s
  | .vopSpecVerify idx d => Sys2Proof.Machine.execVopSpecVerify idx d s
  | .vopOutDot idx d => Sys2Proof.Machine.execVopOutDot idx d s
  | .vopFwht idx d => Sys2Proof.Machine.execVopFwht idx d s
  | .vopDot idx d => Sys2Proof.Machine.execVopDot idx d s
  | .vopEmbed idx d => Sys2Proof.Machine.execVopEmbed idx d s
  | .vopLse idx d => Sys2Proof.Machine.execVopLse idx d s
  | .vopDigest idx d => Sys2Proof.Machine.execVopDigest idx d s
  | .vopFill idx d => Sys2Proof.Machine.execVopFill idx d s
  | .vopStats idx d => Sys2Proof.Machine.execVopStats idx d s
  | .vopDequant idx d => Sys2Proof.Machine.execVopDequant idx d s
  | .engLoadStart m e v ecc => Sys2Proof.Machine.execEngLoadStart m e v ecc s
  | .engLoadRebuild m e v => Sys2Proof.Machine.execEngLoadRebuild m e v s
  | .engLoadAbort m e v => Sys2Proof.Machine.execEngLoadAbort m e v s
  | .queuedBuildStart st ecc => Sys2Proof.Machine.execQueuedBuildStart st ecc s
  | .buildComplete e => Sys2Proof.Machine.execBuildComplete e s
  | .loadModeScanComplete e => Sys2Proof.Machine.execLoadModeScanComplete e s
  | .refreshScanStart e => Sys2Proof.Machine.execRefreshScanStart e s
  | .refreshRowWrite e ce ue => Sys2Proof.Machine.execRefreshRowWrite e ce ue s
  | .engOscaleWrite m e v => Sys2Proof.Machine.execEngOscaleWrite m e v s
  | .trmRdataWrite m e v => Sys2Proof.Machine.execTrmRdataWrite m e v s
  | .trmRdataRead m e => Sys2Proof.Machine.execTrmRdataRead m e s
  | .trimWindowWrite m a v => Sys2Proof.Machine.execTrimWindowWrite m a v s
  | .trmRowArm m e v => Sys2Proof.Machine.execTrmRowArm m e v s
  | .trmModArm m e v => Sys2Proof.Machine.execTrmModArm m e v s
  | .plateWindowWrite m a bytes => Sys2Proof.Machine.execPlateWindowWrite m a bytes s
  | .asgStart m e v => Sys2Proof.Machine.execAsgStart m e v s
  | .searchStartAfterWait e => Sys2Proof.Machine.execSearchStartAfterWait e s
  | .groupSweepBegin e => Sys2Proof.Machine.execGroupSweepBegin e s
  | .sweepEnd e peaks => Sys2Proof.Machine.execSweepEnd e peaks s
  | .searchComplete e fails peaks => Sys2Proof.Machine.execSearchComplete e fails peaks s
  | .asgReplace m e v => Sys2Proof.Machine.execAsgReplace m e v s
  | .asgAbort m e v => Sys2Proof.Machine.execAsgAbort m e v s
  | .asgDataWrite m e v => Sys2Proof.Machine.execAsgDataWrite m e v s
  | .asgDataRead m e => Sys2Proof.Machine.execAsgDataRead m e s
  | .loopSample st k stream => Sys2Proof.Machine.execLoopSample st k stream s
  | .loopOverrun st k => Sys2Proof.Machine.execLoopOverrun st k s
  | .wideAcquisitionEnd e q peak kbias => Sys2Proof.Machine.execWideAcquisitionEnd e q peak kbias s
  | .acquireTimeout e q => Sys2Proof.Machine.execAcquireTimeout e q s
  | .verifyAttemptComplete e q => Sys2Proof.Machine.execVerifyAttemptComplete e q s
  | .correlationCheck e q => Sys2Proof.Machine.execCorrelationCheck e q s
  | .coastTimeout e q => Sys2Proof.Machine.execCoastTimeout e q s
  | .reSearchComplete e q peaks => Sys2Proof.Machine.execReSearchComplete e q peaks s
  | .exclusionExpiry e q => Sys2Proof.Machine.execExclusionExpiry e q s
  | .darkLightCheck fibre light => Sys2Proof.Machine.execDarkLightCheck fibre light s
  | .lckResearch m e v => Sys2Proof.Machine.execLckResearch m e v s
  | .lckRelease m e v => Sys2Proof.Machine.execLckRelease m e v s
  | .lckClrexcl m e v => Sys2Proof.Machine.execLckClrexcl m e v s
  | .lckRSwordWrite m e q v => Sys2Proof.Machine.execLckRSwordWrite m e q v s
  | .lckRCfgWrite m e q v => Sys2Proof.Machine.execLckRCfgWrite m e q v s
  | .heaterPwmPeriod st => Sys2Proof.Machine.execHeaterPwmPeriod st s
  | .heaterStowHoldExpiry st => Sys2Proof.Machine.execHeaterStowHoldExpiry st s
  | .htrTestWrite m st v => Sys2Proof.Machine.execHtrTestWrite m st v s
  | .ceBankArm m st v => Sys2Proof.Machine.execCeBankArm m st v s
  | .bankCheckComplete st => Sys2Proof.Machine.execBankCheckComplete st s
  | .ceBankDisarm m st v => Sys2Proof.Machine.execCeBankDisarm m st v s
  | .bankSwap st g => Sys2Proof.Machine.execBankSwap st g s
  | .slopeTableRecompute st => Sys2Proof.Machine.execSlopeTableRecompute st s
  | .ceTdataWrite m st v => Sys2Proof.Machine.execCeTdataWrite m st v s
  | .ceTdataRead m st => Sys2Proof.Machine.execCeTdataRead m st s
  | .traceArm m st t v => Sys2Proof.Machine.execTraceArm m st t v s
  | .traceForce m st t v => Sys2Proof.Machine.execTraceForce m st t v s
  | .traceStop m st t v => Sys2Proof.Machine.execTraceStop m st t v s
  | .traceSample st t => Sys2Proof.Machine.execTraceSample st t s
  | .tracePostComplete st t => Sys2Proof.Machine.execTracePostComplete st t s
  | .asyReq m st v => Sys2Proof.Machine.execAsyReq m st v s
  | .calTempCheck st => Sys2Proof.Machine.execCalTempCheck st s
  | .calibrationStart st => Sys2Proof.Machine.execCalibrationStart st s
  | .probePointComplete st adc => Sys2Proof.Machine.execProbePointComplete st adc s
  | .probePointRestart st => Sys2Proof.Machine.execProbePointRestart st s
  | .calHoldLimit st => Sys2Proof.Machine.execCalHoldLimit st s
  | .calFitComplete st => Sys2Proof.Machine.execCalFitComplete st s
  | .calRetry st => Sys2Proof.Machine.execCalRetry st s
  | .calBackoffExpiry e q => Sys2Proof.Machine.execCalBackoffExpiry e q s
  | .assayLiveSample e => Sys2Proof.Machine.execAssayLiveSample e s
  | .assaySampleDecode st => Sys2Proof.Machine.execAssaySampleDecode st s
  | .assayWindowPublish st slot row => Sys2Proof.Machine.execAssayWindowPublish st slot row s
  | .asyRSumRead m st => Sys2Proof.Machine.execAsyRSumRead m st s
  | .pltCurveArm m st => Sys2Proof.Machine.execPltCurveArm m st s
  | .lockReading e => Sys2Proof.Machine.execLockReading e s
  | .lockWindowClose e => Sys2Proof.Machine.execLockWindowClose e s
  | .totalRecompute e t => Sys2Proof.Machine.execTotalRecompute e t s
  | .ebud0Read m e => Sys2Proof.Machine.execEbud0Read m e s
  | .laneFault l cause => Sys2Proof.Machine.execLaneFault l cause s
  | .portReform p => Sys2Proof.Machine.execPortReform p s
  | .portDown p => Sys2Proof.Machine.execPortDown p s
  | .portUp p => Sys2Proof.Machine.execPortUp p s
  | .helloTimeout p => Sys2Proof.Machine.execHelloTimeout p s
  | .widen m p v => Sys2Proof.Machine.execWiden m p v s
  | .portRestart m p v => Sys2Proof.Machine.execPortRestart m p v s
  | .lnkPCfgWrite m p v => Sys2Proof.Machine.execLnkPCfgWrite m p v s
  | .lnkSteer m v => Sys2Proof.Machine.execLnkSteer m v s
  | .steerDone lock => Sys2Proof.Machine.execSteerDone lock s
  | .steerTimeout => Sys2Proof.Machine.execSteerTimeout s
  | .arpRequest p ip => Sys2Proof.Machine.execArpRequest p ip s
  | .neighbourSolicitation p ip => Sys2Proof.Machine.execNeighbourSolicitation p ip s
  | .echoRequest p v6 ip => Sys2Proof.Machine.execEchoRequest p v6 ip s
  | .frameDiscard p => Sys2Proof.Machine.execFrameDiscard p s
  | .rxWrite a msg => Sys2Proof.Machine.execRxWrite a msg s
  | .rxAck a msg => Sys2Proof.Machine.execRxAck a msg s
  | .rxError a msg => Sys2Proof.Machine.execRxError a msg s
  | .rxFault a msg => Sys2Proof.Machine.execRxFault a msg s
  | .rxOpen a msg => Sys2Proof.Machine.execRxOpen a msg s
  | .rxOpenOk a msg => Sys2Proof.Machine.execRxOpenOk a msg s
  | .rxNoContext a msg => Sys2Proof.Machine.execRxNoContext a msg s
  | .rxClose a msg => Sys2Proof.Machine.execRxClose a msg s
  | .rxCloseOk a msg => Sys2Proof.Machine.execRxCloseOk a msg s
  | .rxStart a msg => Sys2Proof.Machine.execRxStart a msg s
  | .rxRegWr a msg ecc => Sys2Proof.Machine.execRxRegWr a msg ecc s
  | .rxRegRd a msg ecc => Sys2Proof.Machine.execRxRegRd a msg ecc s
  | .rxRegRsp a msg => Sys2Proof.Machine.execRxRegRsp a msg s
  | .rxView a msg => Sys2Proof.Machine.execRxView a msg s
  | .rxJoin a msg => Sys2Proof.Machine.execRxJoin a msg s
  | .rxHello a msg => Sys2Proof.Machine.execRxHello a msg s
  | .rxHb a msg => Sys2Proof.Machine.execRxHb a msg s
  | .controlRetransmit f seq => Sys2Proof.Machine.execControlRetransmit f seq s
  | .flowFailed f => Sys2Proof.Machine.execFlowFailed f s
  | .eceAckTimeout f => Sys2Proof.Machine.execEceAckTimeout f s
  | .rateIncrease f => Sys2Proof.Machine.execRateIncrease f s
  | .faultSend f => Sys2Proof.Machine.execFaultSend f s
  | .flowOpen m v => Sys2Proof.Machine.execFlowOpen m v s
  | .flowClose m v => Sys2Proof.Machine.execFlowClose m v s
  | .flowAbort m v => Sys2Proof.Machine.execFlowAbort m v s
  | .vyvFrecWrite m k v => Sys2Proof.Machine.execVyvFrecWrite m k v s
  | .flowIdleTimeout f => Sys2Proof.Machine.execFlowIdleTimeout f s
  | .heartbeatSend => Sys2Proof.Machine.execHeartbeatSend s
  | .memberMissed l j => Sys2Proof.Machine.execMemberMissed l j s
  | .rollDecide l => Sys2Proof.Machine.execRollDecide l s
  | .viewWaitExpiry l => Sys2Proof.Machine.execViewWaitExpiry l s
  | .autojoin l => Sys2Proof.Machine.execAutojoin l s
  | .rolJoin m v => Sys2Proof.Machine.execRolJoin m v s
  | .rolForce m v => Sys2Proof.Machine.execRolForce m v s
  | .rolCtrlWrite m v => Sys2Proof.Machine.execRolCtrlWrite m v s
  | .rehash m v => Sys2Proof.Machine.execRehash m v s
  | .rehashComplete => Sys2Proof.Machine.execRehashComplete s
  | .hbmWindowEnd => Sys2Proof.Machine.execHbmWindowEnd s
  | .bar2Read a n ecc => Sys2Proof.Machine.execBar2Read a n ecc s
  | .bar2Write a bytes => Sys2Proof.Machine.execBar2Write a bytes s
  | .registerWrite m off v be ecc => Sys2Proof.Machine.execRegisterWrite m off v be ecc s
  | .frameProgramWindowWrite m a bytes => Sys2Proof.Machine.execFrameProgramWindowWrite m a bytes s
  | .pageReset m off v => Sys2Proof.Machine.execPageReset m off v s
  | .pgIset m off v => Sys2Proof.Machine.execPgIset m off v s
  | .pgLock m off v => Sys2Proof.Machine.execPgLock m off v s
  | .pgCommitGo m off v => Sys2Proof.Machine.execPgCommitGo m off v s
  | .msqTimeLoRead m => Sys2Proof.Machine.execMsqTimeLoRead m s
  | .clkAontimeLoRead m => Sys2Proof.Machine.execClkAontimeLoRead m s
  | .dmaGo m c v => Sys2Proof.Machine.execDmaGo m c v s
  | .dmaAbort m c v => Sys2Proof.Machine.execDmaAbort m c v s
  | .dmaComplete c hdata ecc fail => Sys2Proof.Machine.execDmaComplete c hdata ecc fail s
  | .mbxPost m c => Sys2Proof.Machine.execMbxPost m c s
  | .mbxPop m c v => Sys2Proof.Machine.execMbxPop m c v s
  | .domainUp d => Sys2Proof.Machine.execDomainUp d s
  | .smbWriteWord p pec => Sys2Proof.Machine.execSmbWriteWord p pec s
  | .smbReadWord => Sys2Proof.Machine.execSmbReadWord s
  | .smbBlockRead => Sys2Proof.Machine.execSmbBlockRead s
  | .smbBlockWrite bytes pec => Sys2Proof.Machine.execSmbBlockWrite bytes pec s
  | .smbReadByte => Sys2Proof.Machine.execSmbReadByte s
  | .smbTimeout => Sys2Proof.Machine.execSmbTimeout s
  | .thermalSample ts => Sys2Proof.Machine.execThermalSample ts s
  | .levelChange => Sys2Proof.Machine.execLevelChange s
  | .thermalShutdown => Sys2Proof.Machine.execThermalShutdown s
  | .sensorFault k => Sys2Proof.Machine.execSensorFault k s
  | .sensorFaultClear k => Sys2Proof.Machine.execSensorFaultClear k s
  | .hbmTemperatureRead ts => Sys2Proof.Machine.execHbmTemperatureRead ts s
  | .thmLimWrite m v => Sys2Proof.Machine.execThmLimWrite m v s
  | .hkScanTick x => Sys2Proof.Machine.execHkScanTick x s
  | .hkCrossCheck ca cb => Sys2Proof.Machine.execHkCrossCheck ca cb s
  | .hkEventEdge x => Sys2Proof.Machine.execHkEventEdge x s
  | .hkEventConversion x => Sys2Proof.Machine.execHkEventConversion x s
  | .hkUrg m v => Sys2Proof.Machine.execHkUrg m v s
  | .hkConversionComplete x code => Sys2Proof.Machine.execHkConversionComplete x code s
  | .lcoPinFault n cause => Sys2Proof.Machine.execLcoPinFault n cause s
  | .lcoClr m n v => Sys2Proof.Machine.execLcoClr m n v s
  | .lcoCfgWrite m n v => Sys2Proof.Machine.execLcoCfgWrite m n v s
  | .lcoSetWrite m n v => Sys2Proof.Machine.execLcoSetWrite m n v s
  | .tieTest m v => Sys2Proof.Machine.execTieTest m v s
  | .tieTestComplete reads => Sys2Proof.Machine.execTieTestComplete reads s
  | .clrtrip m v => Sys2Proof.Machine.execClrtrip m v s
  | .vaultUpdate m v => Sys2Proof.Machine.execVaultUpdate m v s
  | .vaultUpdateComplete flash => Sys2Proof.Machine.execVaultUpdateComplete flash s
  | .vaultAbort m v => Sys2Proof.Machine.execVaultAbort m v s
  | .setwrite m v => Sys2Proof.Machine.execSetwrite m v s
  | .setwriteComplete flash => Sys2Proof.Machine.execSetwriteComplete flash s
  | .setapply m v ecc => Sys2Proof.Machine.execSetapply m v ecc s
  | .suppressedFlush code inst => Sys2Proof.Machine.execSuppressedFlush code inst s
  | .dbkRsel m v => Sys2Proof.Machine.execDbkRsel m v s
  | .dbkRentRead m => Sys2Proof.Machine.execDbkRentRead m s
  | .dbkHcode m v => Sys2Proof.Machine.execDbkHcode m v s
  | .engCntclr m e v => Sys2Proof.Machine.execEngCntclr m e v s
  | .htrCntclr m st v => Sys2Proof.Machine.execHtrCntclr m st v s
  | .ceCntclr m st v => Sys2Proof.Machine.execCeCntclr m st v s
  | .ldgCntclr m st v => Sys2Proof.Machine.execLdgCntclr m st v s
  | .tlyCntclr m st v => Sys2Proof.Machine.execTlyCntclr m st v s
  | .mntCntclr m v => Sys2Proof.Machine.execMntCntclr m v s
  | .denCntclr m n v => Sys2Proof.Machine.execDenCntclr m n v s
  | .seqCntclr m st v => Sys2Proof.Machine.execSeqCntclr m st v s
  | .msqCntclr m v => Sys2Proof.Machine.execMsqCntclr m v s
  | .vecCntclr m v => Sys2Proof.Machine.execVecCntclr m v s
  | .asyCntclr m st v => Sys2Proof.Machine.execAsyCntclr m st v s
  | .pltCntclr m st v => Sys2Proof.Machine.execPltCntclr m st v s
  | .lnkCntclr m v => Sys2Proof.Machine.execLnkCntclr m v s
  | .vyvCntclr m v => Sys2Proof.Machine.execVyvCntclr m v s
  | .rolCntclr m v => Sys2Proof.Machine.execRolCntclr m v s
  | .hbmCntclr m v => Sys2Proof.Machine.execHbmCntclr m v s
  | .mbxCntclr m v => Sys2Proof.Machine.execMbxCntclr m v s
  | .smbCntclr m v => Sys2Proof.Machine.execSmbCntclr m v s
  | .glbCntclr m v => Sys2Proof.Machine.execGlbCntclr m v s
  | .pwrCntclr m v => Sys2Proof.Machine.execPwrCntclr m v s
  | .clkCntclr m v => Sys2Proof.Machine.execClkCntclr m v s
  | .rstCntclr m v => Sys2Proof.Machine.execRstCntclr m v s
  | .thmCntclr m v => Sys2Proof.Machine.execThmCntclr m v s
  | .hkCntclr m v => Sys2Proof.Machine.execHkCntclr m v s
  | .lcoCntclr m v => Sys2Proof.Machine.execLcoCntclr m v s
  | .dbkCntclr m v => Sys2Proof.Machine.execDbkCntclr m v s
  | .refclk100Return => Sys2Proof.Machine.execRefclk100Return s
  | .crystalStart => Sys2Proof.Machine.execCrystalStart s
  | .pllRelock p => Sys2Proof.Machine.execPllRelock p s
  | .lsafeNRelease => Sys2Proof.Machine.execLsafeNRelease s
  | .pwrgdAonDeassert => Sys2Proof.Machine.execPwrgdAonDeassert s
  | .d0Return pf1 => Sys2Proof.Machine.execD0Return pf1 s
  | .setapplyComplete => Sys2Proof.Machine.execSetapplyComplete s
  | .calDecodeComplete st => Sys2Proof.Machine.execCalDecodeComplete st s

end Sys2Proof.Machine
end

