-- ==== Sys2Proof/Machine/Tick.lean ====
section
/-! DEFINITION. The passage of 4 ns of STEADY time while no command waits (assumption 6). Every other timed effect is a
command of its own. -/

namespace Sys2Proof.Machine

/-- AON time (32.768 kHz) advances; once STEADY runs, from the release of the dies on (R27, R461), so does STEADY time, and
the pins' DACs update at 15.625 MHz, every 16 ticks (R459, R311, R504). -/
def Block.tick (b : Block) : Block :=
  let f := b.aonFrac + 32768
  let b := { b with up := b.up + 1, aon := if tickHz ≤ f then b.aon + 1 else b.aon,
                    aonFrac := if tickHz ≤ f then f - tickHz else f }
  if !b.pw.phase.diesUp then b else
  let b := { b with time := b.time + 1 }
  if b.time.toNat % 16 = 0 then b.pinsUpdate else b

/-- The idle step. -/
def State.tick (s : State) : State := s.run Block.tick

end Sys2Proof.Machine
end

