-- ==== Sys2Proof/WellFormed.lean ====
section
/-! DEFINITION. Which commands a sender can form: lists given as operands have the length and their numbers the range that
the hardware's own fields have. A command that is not well formed is no command of this hardware. -/

namespace Sys2Proof

/-- Does a number fit `n` bits? -/
def fits (n v : Nat) : Bool := decide (v < 2 ^ n)

/-- A descriptor is sixteen words (R273). -/
def Desc.wellFormed (d : Desc) : Bool := d.w.length == 16

/-- One list of `rows` ADC codes for each of `syms` symbols (R57). -/
def codesFit (syms rows : Nat) (adc : List (List (BitVec 8))) : Bool :=
  adc.length == syms && adc.all fun a => a.length == rows

/-- `NSYM` of a PASS (R57) and of a dynamic pass (R256). -/
def Desc.passSyms (d : Desc) : Nat := (d.word 2).toNat % 2 ^ 13
def Desc.dynSyms (d : Desc) : Nat := (d.word 6).toNat % 2 ^ 13

/-- Header numbers fit their fields (R379), and the payload is what a datagram can carry. -/
def Msg.wellFormed (m : Msg) : Bool :=
  fits 4 m.ver && fits 4 m.cls && fits 8 m.type && fits 16 m.flags && fits 16 m.dflow && fits 16 m.plen
    && fits 16 m.payload.length

/-- The source address is four words, and the UDP length fits its field (R378). -/
def Arrival.wellFormed (a : Arrival) : Bool := a.ip.length == 4 && fits 16 a.ulen

/-- HBM addresses have 37 bits (R412). -/
def Ecc.wellFormed (x : Ecc) : Bool := (x.ce ++ x.ue).all (fits 37)

/-- The byte lanes of one bus word. -/
def lanesFit (bytes : List (Option Byte)) : Bool := decide (0 < bytes.length) && decide (bytes.length ≤ 4)

/-- A peak names a row, a group, one of the 68 rings of an Accord and one of the 72 lines (R41, R47, R93). -/
def Peak.wellFormed (p : Peak) : Bool := fits 9 p.row && fits 3 p.group && decide (p.ring < 68) && decide (p.line < 72)

/-- Can a sender form this command? -/
def Instr.wellFormed : Instr → Bool
  | .powerOnReset => true
  | .holdUpMeasure _ _ => true
  | .sequenceError _ => true
  | .dieRelease => true
  | .stowReached => true
  | .mionusBoot => true
  | .pwrReq _ _ => true
  | .laserDeadTimeEnd => true
  | .lightCheckComplete _ => true
  | .heaterWarmUpComplete => true
  | .mapCommit => true
  | .holdToActiveComplete => true
  | .enterStow => true
  | .lsafeNTrip => true
  | .railFault _ _ => true
  | .saveTrigger _ => true
  | .saveComplete => true
  | .holdUpNodeCollapse => true
  | .vreqRaise _ _ => true
  | .vcoreLow => true
  | .criticalMargin _ _ => true
  | .refclk156Loss => true
  | .refclk156Return => true
  | .refclk100Loss => true
  | .crystalLoss => true
  | .pllUnlock _ => true
  | .moduleReset => true
  | .rstCmdMr _ _ => true
  | .rstCmdMionus _ _ => true
  | .mrResetPhase => true
  | .mrComplete => true
  | .watchdogExpiry => true
  | .perst _ => true
  | .functionLevelReset _ => true
  | .d3hot _ => true
  | .msixUnmask _ => true
  | .glbIack _ _ _ => true
  | .frameBegin => true
  | .msqSpush _ _ => true
  | .msqCtrlWrite _ _ => true
  | .dEnd _ d => d.wellFormed
  | .frameBoundary => true
  | .emptyBoundary => true
  | .frameLimitExpiry => true
  | .dFence _ d => d.wellFormed
  | .fenceRelease _ => true
  | .descriptorComplete _ => true
  | .dWake _ d => d.wellFormed
  | .wakeHintDelayExpiry _ => true
  | .wakeHoldExpiry _ => true
  | .engWakeRun _ _ _ => true
  | .engWakeDoze _ _ _ => true
  | .denWakeRun _ _ _ => true
  | .denWakeDoze _ _ _ => true
  | .idleTimerExpiry _ => true
  | .napTimerExpiry _ => true
  | .dozeEntryComplete _ => true
  | .napEntryComplete _ => true
  | .wakeToDozeComplete _ => true
  | .wakeToRunComplete _ => true
  | .dPass _ d adc => d.wellFormed && codesFit d.passSyms 512 adc
  | .treeColumnResult _ _ => true
  | .contributionApply _ _ ecc => ecc.wellFormed
  | .dTrec _ d => d.wellFormed
  | .tileFillComplete _ _ => true
  | .arrivalStoreMove _ _ => true
  | .dRdbk _ d ecc => d.wellFormed && ecc.wellFormed
  | .dThop _ d ecc => d.wellFormed && ecc.wellFormed
  | .tallyHopForward _ _ => true
  | .stackHopDelivery _ _ => true
  | .runningSumApply _ _ ecc => ecc.wellFormed
  | .runningSumTimeout _ _ ecc => ecc.wellFormed
  | .rxTally a msg => a.wellFormed && msg.wellFormed
  | .ldgTrecWrite _ _ _ _ => true
  | .ldgTselWrite _ _ _ => true
  | .scArm _ _ _ => true
  | .tlyScalePWrite _ _ _ _ => true
  | .ledgerWindowWrite _ _ _ bytes ecc => lanesFit bytes && ecc.wellFormed
  | .dMintConvert _ d ecc => d.wellFormed && ecc.wellFormed
  | .dMintReplay _ d ecc => d.wellFormed && ecc.wellFormed
  | .dMintCutThroughReplay _ d => d.wellFormed
  | .dMintx _ d ecc => d.wellFormed && ecc.wellFormed
  | .mntProfWrite _ _ _ _ => true
  | .dDfill _ d ecc => d.wellFormed && ecc.wellFormed
  | .latch _ => true
  | .dDscore _ d adc ecc => d.wellFormed && codesFit d.dynSyms 64 adc && ecc.wellFormed
  | .dDvalue _ d adc ecc => d.wellFormed && codesFit d.dynSyms 64 adc && ecc.wellFormed
  | .denTblArm _ _ => true
  | .denTblDataWrite _ _ _ => true
  | .denTblDataRead _ _ => true
  | .denOscaleWrite _ _ _ => true
  | .dHbm _ d ecc => d.wellFormed && ecc.wellFormed
  | .dVsend _ d ecc => d.wellFormed && ecc.wellFormed
  | .dVsendStartRecord _ d ecc => d.wellFormed && ecc.wellFormed
  | .dVrecv _ d => d.wellFormed
  | .vrecvWaitExpiry _ => true
  | .vopRmsnorm _ d => d.wellFormed
  | .vopResnorm _ d => d.wellFormed
  | .vopLnorm _ d => d.wellFormed
  | .vopAdd _ d => d.wellFormed
  | .vopSub _ d => d.wellFormed
  | .vopMul _ d => d.wellFormed
  | .vopAxpy _ d => d.wellFormed
  | .vopRowscale _ d => d.wellFormed
  | .vopColscale _ d => d.wellFormed
  | .vopCvt _ d => d.wellFormed
  | .vopCopy _ d => d.wellFormed
  | .vopGather _ d => d.wellFormed
  | .vopScatter _ d => d.wellFormed
  | .vopTranspose _ d => d.wellFormed
  | .vopRope _ d => d.wellFormed
  | .vopSilu _ d => d.wellFormed
  | .vopGelu _ d => d.wellFormed
  | .vopSwiglu _ d => d.wellFormed
  | .vopGeglu _ d => d.wellFormed
  | .vopRelu2 _ d => d.wellFormed
  | .vopExp _ d => d.wellFormed
  | .vopRecip _ d => d.wellFormed
  | .vopRsqrt _ d => d.wellFormed
  | .vopSoftcap _ d => d.wellFormed
  | .vopClamp _ d => d.wellFormed
  | .vopRowmax _ d => d.wellFormed
  | .vopRowsum _ d => d.wellFormed
  | .vopRowsumsq _ d => d.wellFormed
  | .vopMaskfill _ d => d.wellFormed
  | .vopSmxPart _ d => d.wellFormed
  | .vopSmxComb _ d => d.wellFormed
  | .vopSmxFull _ d => d.wellFormed
  | .vopArgmaxIdx _ d => d.wellFormed
  | .vopTopk _ d => d.wellFormed
  | .vopTopp _ d => d.wellFormed
  | .vopTemp _ d => d.wellFormed
  | .vopPenalty _ d => d.wellFormed
  | .vopSample _ d => d.wellFormed
  | .vopSpecVerify _ d => d.wellFormed
  | .vopOutDot _ d => d.wellFormed
  | .vopFwht _ d => d.wellFormed
  | .vopDot _ d => d.wellFormed
  | .vopEmbed _ d => d.wellFormed
  | .vopLse _ d => d.wellFormed
  | .vopDigest _ d => d.wellFormed
  | .vopFill _ d => d.wellFormed
  | .vopStats _ d => d.wellFormed
  | .vopDequant _ d => d.wellFormed
  | .engLoadStart _ _ _ ecc => ecc.wellFormed
  | .engLoadRebuild _ _ _ => true
  | .engLoadAbort _ _ _ => true
  | .queuedBuildStart _ ecc => ecc.wellFormed
  | .buildComplete _ => true
  | .loadModeScanComplete _ => true
  | .refreshScanStart _ => true
  | .refreshRowWrite _ ce ue => decide (ce + ue.length ≤ 102 ∧ ue.Nodup)
  | .engOscaleWrite _ _ _ => true
  | .trmRdataWrite _ _ _ => true
  | .trmRdataRead _ _ => true
  | .trimWindowWrite _ _ _ => true
  | .trmRowArm _ _ _ => true
  | .trmModArm _ _ _ => true
  | .plateWindowWrite _ _ bytes => lanesFit bytes
  | .asgStart _ _ _ => true
  | .searchStartAfterWait _ => true
  | .groupSweepBegin _ => true
  | .sweepEnd _ peaks => peaks.all Peak.wellFormed
  | .searchComplete _ fails peaks => fails.all (fun p => fits 9 p.1 && fits 3 p.2) && peaks.all Peak.wellFormed
  | .asgReplace _ _ _ => true
  | .asgAbort _ _ _ => true
  | .asgDataWrite _ _ _ => true
  | .asgDataRead _ _ => true
  | .loopSample _ _ stream => !stream.isEmpty
  | .loopOverrun _ _ => true
  | .wideAcquisitionEnd _ _ _ _ => true
  | .acquireTimeout _ _ => true
  | .verifyAttemptComplete _ _ => true
  | .correlationCheck _ _ => true
  | .coastTimeout _ _ => true
  | .reSearchComplete _ _ _ => true
  | .exclusionExpiry _ _ => true
  | .darkLightCheck _ _ => true
  | .lckResearch _ _ _ => true
  | .lckRelease _ _ _ => true
  | .lckClrexcl _ _ _ => true
  | .lckRSwordWrite _ _ _ _ => true
  | .lckRCfgWrite _ _ _ _ => true
  | .heaterPwmPeriod _ => true
  | .heaterStowHoldExpiry _ => true
  | .htrTestWrite _ _ _ => true
  | .ceBankArm _ _ _ => true
  | .bankCheckComplete _ => true
  | .ceBankDisarm _ _ _ => true
  | .bankSwap _ _ => true
  | .slopeTableRecompute _ => true
  | .ceTdataWrite _ _ _ => true
  | .ceTdataRead _ _ => true
  | .traceArm _ _ _ _ => true
  | .traceForce _ _ _ _ => true
  | .traceStop _ _ _ _ => true
  | .traceSample _ _ => true
  | .tracePostComplete _ _ => true
  | .asyReq _ _ _ => true
  | .calTempCheck _ => true
  | .calibrationStart _ => true
  | .probePointComplete _ adc => decide (adc.length ≤ 512) && adc.all fun a => a.length == 4096
  | .probePointRestart _ => true
  | .calHoldLimit _ => true
  | .calFitComplete _ => true
  | .calRetry _ => true
  | .calBackoffExpiry _ _ => true
  | .assayLiveSample _ => true
  | .assaySampleDecode _ => true
  | .assayWindowPublish _ _ _ => true
  | .asyRSumRead _ _ => true
  | .pltCurveArm _ _ => true
  | .lockReading _ => true
  | .lockWindowClose _ => true
  | .totalRecompute _ _ => true
  | .ebud0Read _ _ => true
  | .laneFault _ _ => true
  | .portReform _ => true
  | .portDown _ => true
  | .portUp _ => true
  | .helloTimeout _ => true
  | .widen _ _ _ => true
  | .portRestart _ _ _ => true
  | .lnkPCfgWrite _ _ _ => true
  | .lnkSteer _ _ => true
  | .steerDone _ => true
  | .steerTimeout => true
  | .arpRequest _ _ => true
  | .neighbourSolicitation _ ip => ip.length == 4
  | .echoRequest _ v6 ip => ip.length == if v6 then 4 else 1
  | .frameDiscard _ => true
  | .rxWrite a msg => a.wellFormed && msg.wellFormed
  | .rxAck a msg => a.wellFormed && msg.wellFormed
  | .rxError a msg => a.wellFormed && msg.wellFormed
  | .rxFault a msg => a.wellFormed && msg.wellFormed
  | .rxOpen a msg => a.wellFormed && msg.wellFormed
  | .rxOpenOk a msg => a.wellFormed && msg.wellFormed
  | .rxNoContext a msg => a.wellFormed && msg.wellFormed
  | .rxClose a msg => a.wellFormed && msg.wellFormed
  | .rxCloseOk a msg => a.wellFormed && msg.wellFormed
  | .rxStart a msg => a.wellFormed && msg.wellFormed
  | .rxRegWr a msg ecc => a.wellFormed && msg.wellFormed && ecc.wellFormed
  | .rxRegRd a msg ecc => a.wellFormed && msg.wellFormed && ecc.wellFormed
  | .rxRegRsp a msg => a.wellFormed && msg.wellFormed
  | .rxView a msg => a.wellFormed && msg.wellFormed
  | .rxJoin a msg => a.wellFormed && msg.wellFormed
  | .rxHello a msg => a.wellFormed && msg.wellFormed
  | .rxHb a msg => a.wellFormed && msg.wellFormed
  | .controlRetransmit _ _ => true
  | .flowFailed _ => true
  | .eceAckTimeout _ => true
  | .rateIncrease _ => true
  | .faultSend _ => true
  | .flowOpen _ _ => true
  | .flowClose _ _ => true
  | .flowAbort _ _ => true
  | .vyvFrecWrite _ _ _ => true
  | .flowIdleTimeout _ => true
  | .heartbeatSend => true
  | .memberMissed _ _ => true
  | .rollDecide _ => true
  | .viewWaitExpiry _ => true
  | .autojoin _ => true
  | .rolJoin _ _ => true
  | .rolForce _ _ => true
  | .rolCtrlWrite _ _ => true
  | .rehash _ _ => true
  | .rehashComplete => true
  | .hbmWindowEnd => true
  | .bar2Read _ n ecc => decide (0 < n) && fits 13 n && ecc.wellFormed
  | .bar2Write _ bytes => decide (0 < bytes.length) && fits 13 bytes.length
  | .registerWrite _ _ _ _ ecc => ecc.wellFormed
  | .frameProgramWindowWrite _ _ bytes => lanesFit bytes
  | .pageReset _ _ _ => true
  | .pgIset _ _ _ => true
  | .pgLock _ _ _ => true
  | .pgCommitGo _ _ _ => true
  | .msqTimeLoRead _ => true
  | .clkAontimeLoRead _ => true
  | .dmaGo _ _ _ => true
  | .dmaAbort _ _ _ => true
  | .dmaComplete _ _ ecc _ => ecc.wellFormed
  | .mbxPost _ _ => true
  | .mbxPop _ _ _ => true
  | .domainUp _ => true
  | .smbWriteWord _ _ => true
  | .smbReadWord => true
  | .smbBlockRead => true
  | .smbBlockWrite bytes _ => fits 8 bytes.length
  | .smbReadByte => true
  | .smbTimeout => true
  | .thermalSample ts => ts.length == 96
  | .levelChange => true
  | .thermalShutdown => true
  | .sensorFault _ => true
  | .sensorFaultClear _ => true
  | .hbmTemperatureRead ts => ts.length == 4
  | .thmLimWrite _ _ => true
  | .hkScanTick _ => true
  | .hkCrossCheck _ _ => true
  | .hkEventEdge _ => true
  | .hkEventConversion _ => true
  | .hkUrg _ _ => true
  | .hkConversionComplete _ _ => true
  | .lcoPinFault _ _ => true
  | .lcoClr _ _ _ => true
  | .lcoCfgWrite _ _ _ => true
  | .lcoSetWrite _ _ _ => true
  | .tieTest _ _ => true
  | .tieTestComplete _ => true
  | .clrtrip _ _ => true
  | .vaultUpdate _ _ => true
  | .vaultUpdateComplete _ => true
  | .vaultAbort _ _ => true
  | .setwrite _ _ => true
  | .setwriteComplete _ => true
  | .setapply _ _ ecc => ecc.wellFormed
  | .suppressedFlush _ _ => true
  | .dbkRsel _ _ => true
  | .dbkRentRead _ => true
  | .dbkHcode _ _ => true
  | .engCntclr _ _ _ => true
  | .htrCntclr _ _ _ => true
  | .ceCntclr _ _ _ => true
  | .ldgCntclr _ _ _ => true
  | .tlyCntclr _ _ _ => true
  | .mntCntclr _ _ => true
  | .denCntclr _ _ _ => true
  | .seqCntclr _ _ _ => true
  | .msqCntclr _ _ => true
  | .vecCntclr _ _ => true
  | .asyCntclr _ _ _ => true
  | .pltCntclr _ _ _ => true
  | .lnkCntclr _ _ => true
  | .vyvCntclr _ _ => true
  | .rolCntclr _ _ => true
  | .hbmCntclr _ _ => true
  | .mbxCntclr _ _ => true
  | .smbCntclr _ _ => true
  | .glbCntclr _ _ => true
  | .pwrCntclr _ _ => true
  | .clkCntclr _ _ => true
  | .rstCntclr _ _ => true
  | .thmCntclr _ _ => true
  | .hkCntclr _ _ => true
  | .lcoCntclr _ _ => true
  | .dbkCntclr _ _ => true
  | .refclk100Return => true
  | .crystalStart => true
  | .pllRelock _ => true
  | .lsafeNRelease => true
  | .pwrgdAonDeassert => true
  | .d0Return _ => true
  | .setapplyComplete => true
  | .calDecodeComplete _ => true

end Sys2Proof
end

