-- ==== Sys2Proof/Safety.lean ====
section
/-! DEFINITION. What counts as a safe step and a safe run, and the invariants that statements use. -/

namespace Sys2Proof.Machine

/-- A step that neither faults nor refuses. -/
def stepSafe (s : State) : Prop := ∃ t, step s = .next t

/-- Every waiting command is one that a sender can form. -/
def State.queueOk (s : State) : Prop := ∀ c ∈ s.pending, c.wellFormed = true

/-- The Daybook as R534 to R538 have it: at most its capacity, and every severity one of the eight. -/
def Daybook.ok (d : Daybook) : Prop :=
  d.ents.length ≤ maxEnts ∧ ∀ e ∈ d.ents, e.sev < 8

/-- The memory of the module (HBM and the SRAMs of R274) in canonical form: addresses strictly rising, no entry equal to what
an unlisted address reads as. -/
def Memory.wf (b : Block) : Bool := SMap.wf b.memDef b.mem

/-- What every step keeps: the Daybook in form, and no event left behind by a command. -/
def State.inv (s : State) : Prop := s.log.ok ∧ s.b.evs = []

/-! ## What statements say of a command -/

/-- The command answers a next state, of which `P` holds. -/
def Gives (c : Instr) (s : State) (P : State → Prop) : Prop := ∃ t, exec c s = .next t ∧ P t

/-- Bit `i` and field `[lo + w - 1 : lo]` of a register of the module. -/
def State.rdB (s : State) (off i : Nat) : Bool := s.b.rdB off i
def State.rdF (s : State) (off lo w : Nat) : Nat := s.b.rdF off lo w
def State.rd (s : State) (off : Nat) : Word := s.b.rd off

/-- Registers that logging an event writes (R534 to R538). -/
def logRegs : List Nat := [DBK_SUPPCNT, DBK_OVWCNT, DBK_DROPCNT, DBK_DROPSEV, PG_ISTAT P_DBK]

/-- Registers that record an access which found no register or a domain that is down (R433, R440, R450). -/
def errRegs : List Nat := [GLB_ERR, GLB_ERRADDR_LO, GLB_ERRADDR_HI, GLB_ERRCNT, PG_ISTAT P_GLB]

/-- Registers that a register write to `off` may change beside those that are its own: `PG_SEQ` of the page and the error
records (R437, R433, R440). -/
def accRegs (off : Nat) : List Nat := PG_SEQ (off / 0x1000 * 0x1000) :: errRegs

/-- Registers that the issue of a descriptor for sequencer `tgt` may change (R277, R310, R311). -/
def issueRegs (tgt : Nat) : List Nat :=
  [MSQ_REJCNT, MSQ_LASTREJ, PG_ISTAT P_MSQ, SEQ_ISSUED tgt, SEQ_REJCNT tgt, SEQ_LASTREJ tgt, PG_ISTAT (P_SEQ tgt)]

/-- Registers that record an access at or above the installed capacity (R420). -/
def afRegs : List Nat := [HBM_AFCNT, HBM_AFADDR_LO, HBM_AFADDR_HI, HBM_ERR, PG_ISTAT P_HBM]

/-- Registers that record what ECC saw (R419). -/
def eccRegs : List Nat := [HBM_CECNT, HBM_UECNT, HBM_UEADDR_LO, HBM_UEADDR_HI, HBM_ERR, PG_ISTAT P_HBM]

/-- The state of ports and lanes that a link command may change. -/
def linkRegs : List Nat := LNK_UP :: PG_ISTAT P_LNK :: (List.range 32).flatMap fun p => [LNK_P_STAT p, LNK_L_STAT p]

/-- The registers of the lane and the fibre pair of a steer in progress (R376). -/
def steerRegs (b : Block) : List Nat :=
  match b.vyv.steer with
  | some (l, _, f) => [LNK_L_STAT l, LNK_F f]
  | none => []

/-- The MSI-X table (R428). -/
def msixRegs : List Nat :=
  (List.range 64).flatMap fun v => [GLB_MSIX_ADDR_LO v, GLB_MSIX_ADDR_HI v, GLB_MSIX_DATA v, GLB_MSIX_CTL v]

/-- The registers of the Vault page that its operations show their state in (R533). -/
def vaultRegs : List Nat :=
  [VLT_STAT, VLT_RESULT, VLT_SEQ_A, VLT_SEQ_B, VLT_SET_SEQ, VLT_APPLY, VLT_APPLYERR, PG_ISTAT P_VLT]

/-- The counters that a `CNTCLR` write of `v` clears on the page at `p`. -/
def cntRegs (k : PageKind) (p : Nat) (v : Word) : List Nat :=
  match cntTable k with
  | none => []
  | some (_, sel) => (sel.filter fun x => bit v x.1).flatMap fun x => x.2.map (p + ·)

/-- Between `s` and `t` the units and memories of the module are as they were, every byte among them, but for the fields that
`may` takes from the later block; the registers, the Daybook, the vectors' armed and pending bits, the outputs and the events
are not spoken of. The queue is as it was. -/
def KeptUnits (s t : State) (may : Block → Block → Block := fun b _ => b) : Prop :=
  t.pending = s.pending
    ∧ t.b = { may s.b t.b with
        regs := t.b.regs, out := t.b.out, evs := t.b.evs,
        host := { (may s.b t.b).host with armed := t.b.host.armed, pend := t.b.host.pend } }

/-- Moreover every register is as it was but those of the list `w` and those that logging writes. -/
def Kept (s t : State) (w : List Nat) (may : Block → Block → Block := fun b _ => b) : Prop :=
  KeptUnits s t may ∧ ∀ o, o ∉ w → o ∉ logRegs → t.rd o = s.rd o

/-- The same for the registers at which `p` holds, but for those that logging or a failed access writes. -/
def KeptWhere (s t : State) (p : Nat → Bool) (may : Block → Block → Block := fun b _ => b) : Prop :=
  KeptUnits s t may ∧ ∀ o, p o = true → o ∉ logRegs → o ∉ errRegs → t.rd o = s.rd o

/-- Does an offset lie outside every page of the kinds `ks`? -/
def outside (ks : List PageKind) (o : Nat) : Bool :=
  match pageAt o with
  | some x => !ks.contains x.1
  | none => true

/-- Does an offset lie in one of the pages of the board: `GLB` to `SMB` (R431)? -/
def onBoard (o : Nat) : Bool := decide (o < 0x100000)

/-- What computing may change: engines, stacks, the frame in progress, memory, the count of free values taken and the
granules moved in the HBM window. -/
def mayCompute (b c : Block) : Block :=
  { b with
    engs := c.engs, stks := c.stks, frm := c.frm, mem := c.mem, free := c.free,
    host := { b.host with hbmCnt := c.host.hbmCnt } }

/-- Registers that the vector cores write (R312). -/
def vecRegs : List Nat := [VEC_REJCNT, VEC_LASTERR, VEC_OPCNT, VEC_SPEC, VEC_NONFIN, PG_ISTAT P_VEC]

/-- Does a register write of master `m` to `off` reach its register (R426, R427, R438, R440, R447, R463)? -/
def Block.accepts (b : Block) (m : Master) (off : Nat) : Bool :=
  !b.cutOff m && !b.asleep m && !barred m off && b.reach m off == .ok

/-- Does a register read of master `m` at `off` reach its register (R426, R427, R438, R440, R463)? -/
def Block.answers (b : Block) (m : Master) (off : Nat) : Bool :=
  !b.cutOff m && !b.asleep m && (m != .pf1 || b.reaches m off) && b.reach m off == .ok

/-- Is descriptor `d` at index `idx` issued now and not rejected by the common checks (R275 to R277, R281, R282, R415)? -/
def Block.takes (b : Block) (idx : Nat) (d : Desc) (op : Nat) (stackTgt : Bool) (masks : List Nat) : Bool :=
  match b.frm with
  | none => false
  | some fr =>
    fr.issues idx d && !(b.host.rehash.isSome && hbmOps.contains op) && decide (64 * idx < fr.sr.plen) && dOp d == op
      && (if op = 2 then decide (dTgt d < 5) else if stackTgt then decide (dTgt d < 4) else dTgt d == 4)
      && reservedZero d masks

/-- Is a descriptor of index `idx` issued in the frame in progress and not yet complete? -/
def State.inFlight (s : State) (idx : Nat) : Bool :=
  match s.b.frm with | some f => f.infl.any fun i => i.idx == idx | none => false

/-- Has it reached its completion point (R282)? -/
def State.hasReached (s : State) (idx : Nat) : Bool :=
  match s.b.frm with | some f => f.infl.any fun i => i.idx == idx && i.reached | none => false

/-- The rejections counted by the frame in progress (R277). -/
def State.nrej (s : State) : Option Nat := s.b.frm.map (·.nrej)

/-- The Mint job of a descriptor at index `idx`, the `ord`-th of its frame, before its MINTX (R288). -/
def MintJob.of (idx ord : Nat) (d : Desc) (ecc : Ecc) : MintJob := { idx := idx, ord := ord, d := d, dx := none, ecc := ecc }

/-- The job with its MINTX. -/
def MintJob.withX (j : MintJob) (d : Desc) (ecc : Ecc) : MintJob :=
  { j with dx := some d, ecc := ⟨j.ecc.ce ++ ecc.ce, j.ecc.ue ++ ecc.ue⟩ }

/-- Is vector operation `op` of descriptor `d` issued now and executed (R277, R306, R307, R312)? -/
def Block.vopOk (b : Block) (idx op : Nat) (d : Desc) (f : Frame) : Bool :=
  let v := vopOf op d
  b.takes idx d 0x28 false (List.replicate 15 0xFFFFFFFF) && dF d 1 0 6 == op && reservedZero d vopMasks
    && decide (1 ≤ v.len ∧ v.len ≤ 16384 ∧ 1 ≤ v.rows ∧ v.rows ≤ 2048 ∧ v.af ≠ 3 ∧ v.bf ≠ 3 ∧ v.df ≠ 3)
    && !v.badUse && !v.badParams
    && (match b.vopIndexed v with
      | some more => (firstSpanErr b.grade (v.reads f.sr.ncand ++ more ++ writeSpans v.d (b.vopRun v f.sr.ncand f.sr.seed))).isNone
      | none => false)

/-- The memory after vector operation `op` of `d` has written its rows (R306). -/
def Block.vopMem (b : Block) (op : Nat) (d : Desc) (f : Frame) : SMap Byte :=
  ((b.vopRun (vopOf op d) f.sr.ncand f.sr.seed).foldl VPut.row ⟨b, (vopOf op d).d, []⟩).b.mem

/-- The vector operations by their code (R308). -/
def vopCommands : List (Nat × (Nat → Desc → Instr)) := [
  (0, .vopRmsnorm), (1, .vopResnorm), (2, .vopLnorm), (3, .vopAdd), (4, .vopSub),
  (5, .vopMul), (6, .vopAxpy), (7, .vopRowscale), (8, .vopColscale), (9, .vopCvt),
  (10, .vopCopy), (11, .vopGather), (12, .vopScatter), (13, .vopTranspose), (14, .vopRope),
  (15, .vopSilu), (16, .vopGelu), (17, .vopSwiglu), (18, .vopGeglu), (19, .vopRelu2),
  (20, .vopExp), (21, .vopRecip), (22, .vopRsqrt), (23, .vopSoftcap), (24, .vopClamp),
  (25, .vopRowmax), (26, .vopRowsum), (27, .vopRowsumsq), (28, .vopMaskfill), (29, .vopSmxPart),
  (30, .vopSmxComb), (31, .vopSmxFull), (32, .vopArgmaxIdx), (33, .vopTopk), (34, .vopTopp),
  (35, .vopTemp), (36, .vopPenalty), (37, .vopSample), (38, .vopSpecVerify), (39, .vopOutDot),
  (40, .vopFwht), (41, .vopDot), (42, .vopEmbed), (43, .vopLse), (44, .vopDigest),
  (45, .vopFill), (46, .vopStats), (47, .vopDequant)]

/-- Do the counters that the bits of `v` select on the page at `p` of kind `k` read 0? -/
def State.cleared (t : State) (k : PageKind) (p : Nat) (v : Word) : Bool :=
  match cntTable k with
  | none => false
  | some (_, sel) => sel.all fun x => !bit v x.1 || x.2.all fun o => t.rd (p + o) == 0

/-- Is an engine in Run, or on its way there (R29 to R31)? -/
def PState.towardsRun : PState → Bool
  | .run | .waking | .pllStart true => true
  | _ => false

/-- Does no resident pass wait in stack `st`? -/
def Block.noPass (b : Block) (st : Nat) : Bool := (List.range 16).all fun k => (b.eng (16 * st + k)).passes.isEmpty

/-- Does a start condition hold for the calibration of engine `e` of stack `st`, due since `since` (R324, R338)? -/
def Block.calReady (b : Block) (st e : Nat) (since : BitVec 64) : Bool :=
  !b.inFrame || (if e < 64 then (b.eng e).passes.isEmpty || decide (b.rdF (ASY_SCHED st) 16 16 * 250000 ≤ (b.time - since).toNat)
    else b.noRows e && (b.eng e).dyn.shadow.isEmpty && (b.eng e).dyn.jobs.isEmpty)

/-- Does a conversion saturate: the share of clipped elements exceeds the threshold of its set (R219)? -/
def Block.mintSat (b : Block) (j : MintJob) (p : MProf) : Bool :=
  decide (b.rdF (MNT_THR p.cset) 0 17 * (totals (b.mintRows j p)).1 < (totals (b.mintRows j p)).2.1 * 65536)

/-- Does every unit of a job feed an engine (R289)? -/
def MintJob.feeds (j : MintJob) : Bool := !j.bcast || j.units.all fun u => !(j.emask u).isEmpty

/-- Does a replay pass its checks: its shape, its addresses, and a valid summary of an integer format (R217, R236)? -/
def Block.replayOk (b : Block) (j : MintJob) : Bool :=
  decide (1 ≤ j.n ∧ j.n ≤ 16384 ∧ 1 ≤ j.rows ∧ b.rdLE (j.sumaddr + 8) 4 % 2 = 1 ∧ bits (b.rdLE (j.sumaddr + 12) 4) 0 4 ≤ 1)
    && !j.units.isEmpty && (List.range 16).all (fun u => j.units.contains u || (j.emask u).isEmpty)
    && (firstSpanErr b.grade [(j.src, spanOf j.rows (b.replaySize j * j.n) j.sstride), (j.scaddr, 4 * j.rows), (j.sumaddr, 16)]).isNone

/-- Does a row of the calibration have codes that no longer decode (R328)? -/
def Block.calUndecodable (b : Block) (c : Cal) : Bool :=
  c.eng < 64 && c.rows.any fun r => ((b.eng c.eng).exactRow c.eng r [] false).isNone

/-- Is a received datagram a message of class `cls` and type `type` that passes every check (R381, R402, R405)? -/
def Block.admits (b : Block) (a : Arrival) (m : Msg) (cls type : Nat) : Bool :=
  b.vyvOn && b.portUp a.port && (msgFault1 m).isNone && (!b.rdB ROL_STAT 0 || heldActs type) && m.cls == cls
    && m.type == type && (plenRange cls type).isSome && (b.msgFault2 a m).isNone

/-- Is it moreover the next message of the control sequence of flow context `f`, with none held early (R389)? -/
def Block.inOrder (b : Block) (a : Arrival) (m : Msg) (type f : Nat) : Bool :=
  b.admits a m 2 type && m.dflow == f && decide (f < 4096) && m.seq == (b.flow f).ctlRx + 1 && (b.flow f).early.isEmpty

/-- Are the members of a roll that module hears a majority of its view, or half of it with its lowest serial (R400)? -/
def Block.majority (b : Block) (l : Nat) : Bool :=
  decide ((b.view l).length < 2 * (b.half l).length)
    || ((b.view l).length == 2 * (b.half l).length && (b.half l).contains (b.lowest l (b.view l)))

end Sys2Proof.Machine
end

