-- ==== Sys2Proof/Certificates/Slice0/Obligations.lean ====
section
/-! DEFINITION. The statements for the provers: what the commands do, what they leave alone, and what every step keeps.
`Gives c s P` says that command `c` answers a next state from `s`, of which `P` holds. -/

open Sys2Proof Sys2Proof.Machine

/-- Power-up, the save and power-down do what they are for. POWER_ON_RESET brings every register to its PO entry and ends
every frame, HOLD_UP_MEASURE shows what was measured, SEQUENCE_ERROR is flagged, DIE_RELEASE and STOW_REACHED bring
the module to Stow, MIONUS_BOOT starts Mionus, a save starts once, ends, and the node or PWRGD_AON falling stops the
island. -/
def Obligations.PowerUpAndDown : Prop :=
  (∀ (s : State), s.b.pw.phase ≠ .saving ∧ s.b.pw.phase ≠ .saved ∧ s.b.pw.phase ≠ .shut →
    Gives (.powerOnReset) s fun t => t.b.pw.phase = .island ∧ t.b.frm = none ∧ t.b.startQ = [] ∧ t.rd PWR_STATE =
      regDefault PWR_STATE ∧ ∀ off, off ∉ DBK_SUPPCNT :: DBK_OVWCNT :: DBK_DROPCNT :: DBK_DROPSEV :: PG_ISTAT P_DBK
      :: RST_CAUSE :: [] →
    t.rd off = regDefault off) ∧
  (∀ (s : State) (cap v : BitVec 16), s.b.pw.phase.islandUp = true →
    Gives (.holdUpMeasure cap v) s fun t => t.rd PWR_HU = wd (cap.toNat + v.toNat * 2 ^ 16)) ∧
  (∀ (s : State) (rails : BitVec 11), s.b.pw.phase = .island →
    Gives (.sequenceError rails) s fun t => t.rdB PWR_STAT 2 = true) ∧
  (∀ (s : State), s.b.pw.phase = .island →
    Gives (.dieRelease) s fun t => t.b.pw.phase = .released ∧ t.rdF PWR_RAIL 0 11 = 2047) ∧
  (∀ (s : State), s.b.pw.phase = .released → Gives (.stowReached) s fun t => t.b.pw.phase = .up ∧ t.b.modState = stStow) ∧
  (∀ (s : State), s.b.pw.mionus = false → s.b.pw.phase = .up → s.b.pw.drain = false ∧ s.b.pw.inMr = false →
    Gives (.mionusBoot) s fun t => t.b.pw.mionus = true) ∧
  (∀ (s : State) (k : Fin 2), s.b.pw.phase = .up →
    Gives (.saveTrigger k) s fun t => t.b.pw.phase = .saving ∧ t.b.pw.saving.isSome ∧ t.b.frm = none ∧ t.b.startQ =
      [] ∧ t.rdF LCO_LSTAT 0 4 = 0) ∧
  (∀ (s : State), s.b.pw.phase = .saving → s.b.pw.saving.isSome → s.b.pw.latchArmed = false ∧ s.b.pw.bySave = true →
    Gives (.saveComplete) s fun t => t.b.pw.phase = .saved ∧ t.b.pw.saving = none ∧ (t.b.pw.areaA.isSome ∨
      t.b.pw.areaB.isSome)) ∧
  (∀ (s : State), s.b.pw.phase ≠ .dark →
    Gives (.holdUpNodeCollapse) s fun t => t.b.pw.phase = .dark ∧ t.b.pw.mionus = false ∧ (t.b.pw.areaA.isSome →
    s.b.pw.areaA.isSome)) ∧
  (∀ (s : State), s.b.pw.phase ≠ .saving →
    Gives (.pwrgdAonDeassert) s fun t => t.b.pw.phase = .dark ∧ t.b.pw.latchArmed = true ∧ t.b.frm = none)

/-- Supply faults, margins and clock losses set their flags and count. A rail fault outside light clears the rail and
latches its flag; VREQ rises by 5 mV and never above 820 mV; VCORE_LOW and a critical margin set their flags; a lost
clock clears its CLK_STAT bit and its return or restart sets it, REFCLK100 taking the PCIe link with it; an unlocked
PLL is remembered until it relocks. -/
def Obligations.SupplyEvents : Prop :=
  (∀ (s : State) (rail : Fin 11) (mv : BitVec 16), rail.val ≠ 0 ∧ s.rdB PWR_RAIL rail.val = true →
    s.b.pw.phase.diesUp = true → s.b.lightOn = false ∧ s.b.pw.startup = none →
    Gives (.railFault rail mv) s fun t => t.rdB PWR_RAIL rail.val = false ∧ t.rdB PWR_RAIL (16 + rail.val) = true ∧
      t.rdB PWR_STAT 1 = true) ∧
  (∀ (s : State) (mon : Fin 32) (margin : BitVec 8), s.b.pw.mionus = true ∧ s.b.pw.vreqAt = none →
    margin.toNat < 8 ∧ s.rdF PWR_VREQ 0 10 < 820 →
    Gives (.vreqRaise mon margin) s fun t => t.rdF PWR_VREQ 0 10 = min 820 (s.rdF PWR_VREQ 0 10 + 5) ∧
      t.b.pw.vreqAt = some s.b.up) ∧
  (∀ (s : State), s.rdF PWR_VMEAS 0 10 + 20 < s.rdF PWR_VREQ 0 10 →
    Gives (.vcoreLow) s fun t => t.rdB PWR_STAT 3 = true ∧ t.rdB (PG_ISTAT P_PWR) 3 = true) ∧
  (∀ (s : State) (mon : Fin 32) (margin : BitVec 8), margin.toNat < 3 →
    Gives (.criticalMargin mon margin) s fun t => t.rdB PWR_STAT 4 = true ∧ t.b.pw.critical = true) ∧
  (∀ (s : State), s.rdB CLK_STAT 1 = true →
    Gives (.refclk156Loss) s fun t => t.rdB CLK_STAT 1 = false ∧ t.rdB CLK_STAT 4 = true) ∧
  (∀ (s : State), s.rdB CLK_STAT 1 = false →
    Gives (.refclk156Return) s fun t => t.rdB CLK_STAT 1 = true ∧ t.rdB CLK_STAT 4 = false) ∧
  (∀ (s : State), s.rdB CLK_STAT 2 = true →
    Gives (.refclk100Loss) s fun t => t.rdB CLK_STAT 2 = false ∧ t.b.host.linkDown = true ∧ t.rdF CLK_LOSSCNT 8 8 =
      min (s.rdF CLK_LOSSCNT 8 8 + 1) 255) ∧
  (∀ (s : State), Gives (.refclk100Return) s fun t => t.rdB CLK_STAT 2 = true ∧ t.b.host.linkDown = false) ∧
  (∀ (s : State), s.rdB CLK_STAT 0 = true →
    Gives (.crystalLoss) s fun t => t.rdB CLK_STAT 0 = false ∧ t.rdF CLK_LOSSCNT 16 8 = min (s.rdF CLK_LOSSCNT 16 8
      + 1) 255) ∧
  (∀ (s : State), Gives (.crystalStart) s fun t => t.rdB CLK_STAT 0 = true) ∧
  (∀ (s : State) (p : Fin 5), s.b.pllLocked p.val = true → s.b.frm = none →
    Gives (.pllUnlock p) s fun t => t.b.pllLocked p.val = false ∧ t.rdF CLK_LOSSCNT 24 8 = min (s.rdF CLK_LOSSCNT
      24 8 + 1) 255) ∧
  (∀ (s : State) (p : Fin 5), Gives (.pllRelock p) s fun t => t.b.pw.pllLost = s.b.pw.pllLost.filter (· != p.val))

/-- Module states change as requested and in order. A request begins its transition, waits for the frame boundary, or is
refused, by the state reached; it waits behind a transition that has begun to change light or clocks. The dead time, the
light check, the warm-up to the setpoint and the map commit lead to Hold, the dark fibres noted; Hold to Active completes
in Active with the engines in Nap; a called Stow is entered with LEN low; an interlock trip latches and darkens, calls
Stow where light was on and ends a start-up in its dead time, and its release does not relight; the laser trip is cleared
by CLRTRIP. -/
def Obligations.ModuleStates : Prop :=
  (∀ (s : State) (m : Master) (v : Word), s.b.accepts m PWR_REQ = true → fld v 0 2 = stHold ∧ s.b.modState = stStow →
    s.b.mayLight = true ∧ s.b.reqHeld = false ∧ s.b.replaceable = true →
    Gives (.pwrReq m v) s fun t => t.b.pw.now = some stHold ∧ t.b.pw.startup = some .dead ∧ t.b.pw.deadAt = s.b.time ∧
      t.b.pw.behind = none) ∧
  (∀ (s : State) (m : Master) (v : Word), s.b.accepts m PWR_REQ = true →
    (fld v 0 2 = stActive ∨ fld v 0 2 = stStow) ∧ s.b.modState = stHold →
    s.b.reqHeld = false ∧ s.b.replaceable = true →
    Gives (.pwrReq m v) s fun t => t.b.pw.now = some (fld v 0 2) ∧ t.b.pw.wait = none ∧ t.b.modState = stHold) ∧
  (∀ (s : State) (m : Master) (v : Word), s.b.accepts m PWR_REQ = true →
    (fld v 0 2 = stHold ∨ fld v 0 2 = stStow) ∧ s.b.modState = stActive →
    s.b.reqHeld = false ∧ s.b.replaceable = true →
    Gives (.pwrReq m v) s fun t => t.b.pw.wait = some (fld v 0 2) ∧ t.b.pw.now = none ∧ t.b.modState = stActive) ∧
  (∀ (s : State) (m : Master) (v : Word), s.b.accepts m PWR_REQ = true →
    (s.b.modState = fld v 0 2 ∨ s.b.modState = stStow ∧ (fld v 0 2 ≠ stHold ∨ s.b.mayLight = false)) →
    s.b.reqHeld = false ∧ s.b.replaceable = true →
    Gives (.pwrReq m v) s fun t => t.rdB PWR_STAT 0 = true ∧ t.rdB (PG_ISTAT P_PWR) 1 = true ∧ t.b.pw.now = none ∧
      t.b.modState = s.b.modState) ∧
  (∀ (s : State) (m : Master) (v : Word), s.b.accepts m PWR_REQ = true → s.b.pw.phase ≠ .saving →
    (s.b.reqHeld = true ∨ s.b.replaceable = false) →
    Gives (.pwrReq m v) s fun t => t.b.pw.behind = some (fld v 0 2) ∧ t.b.pw.now = s.b.pw.now ∧ t.b.pw.startup =
      s.b.pw.startup) ∧
  (∀ (s : State), s.b.pw.startup = some .dead →
    Gives (.laserDeadTimeEnd) s fun t => t.b.pw.startup = some .light ∧ t.rdF LCO_LSTAT 0 4 = s.rdF LCO_LENMASK 0 4
      ∧ t.rdB LCO_LSTAT 6 = false) ∧
  (∀ (s : State) (dark : List (Fin 16)), s.b.pw.startup = some .light →
    Gives (.lightCheckComplete dark) s fun t => t.b.pw.startup = some .warm ∧ ∀ f : Fin 16, t.b.pw.dark.contains f.val =
      (!s.rdB LCO_LSTAT (f / 4) || dark.contains f)) ∧
  (∀ (s : State), s.b.pw.startup = some .warm → (∀ e ∈ s.b.startEngs, ∀ q ∈ regionsOf e, s.b.loopEn e q = true →
      s.b.atSetpoint e q = true) →
    Gives (.heaterWarmUpComplete) s fun t => t.b.pw.startup = some .acquire) ∧
  (∀ (s : State) (e q : Nat), s.b.pw.startup = some .warm → e ∈ s.b.startEngs ∧ q ∈ regionsOf e →
    s.b.loopEn e q = true ∧ s.b.atSetpoint e q = false →
    Gives (.heaterWarmUpComplete) s fun t => t.b.pw.startup = some .warm) ∧
  (∀ (s : State), s.b.pw.startup = some .acquire ∧ s.b.pw.behind = none →
    (∀ (e : Fin 72) (r : Search), (s.b.eng e).search = some r → r.startup = false) →
    Gives (.mapCommit) s fun t => t.b.modState = stHold ∧ t.b.pw.startup = none ∧ t.b.pw.now = none) ∧
  (∀ (s : State), s.b.pw.now = some stActive ∧ s.b.pw.behind = none →
    Gives (.holdToActiveComplete) s fun t => t.b.modState = stActive ∧ t.b.pw.now = none ∧ ∀ e : Fin 72, (s.b.eng
      e).calRun = false → (t.b.eng e).ps = .nap) ∧
  (∀ (s : State), s.b.pw.now = some stStow ∧ s.b.pw.behind = none → s.b.frm = none →
    Gives (.enterStow) s fun t => t.b.modState = stStow ∧ t.rdF LCO_LSTAT 0 4 = 0 ∧ t.b.startQ = [] ∧ t.b.pw.now = none) ∧
  (∀ (s : State), s.b.pw.phase = .up → s.b.lightOn = false ∧ s.b.pw.startup = none →
    Gives (.lsafeNTrip) s fun t => t.rdB LCO_LSTAT 4 = true ∧ t.rdB LCO_LSTAT 5 = true ∧ t.rdF LCO_LSTAT 0 4 = 0 ∧
      t.rd LCO_TRIPCNT = wd (min ((s.rd LCO_TRIPCNT).toNat + 1) (2 ^ 32 - 1))) ∧
  (∀ (s : State), s.b.pw.phase = .up ∧ s.b.lightOn = true → s.b.pw.drain = false ∧ s.b.pw.inMr = false ∧ s.b.pw.mionus
      = true →
    Gives (.lsafeNTrip) s fun t => t.rdB LCO_LSTAT 4 = true ∧ t.rdF LCO_LSTAT 0 4 = 0 ∧ t.b.frm = none ∧ t.b.pw.now =
      some stStow ∧ t.b.pw.wait = none ∧ t.b.pw.behind = none) ∧
  (∀ (s : State), s.b.pw.phase = .up ∧ s.b.pw.startup = some .dead →
    Gives (.lsafeNTrip) s fun t => t.rdB LCO_LSTAT 4 = true ∧ t.rdB LCO_LSTAT 8 = true ∧ t.rdB LCO_LSTAT 6 = false ∧
      t.b.pw.startup = none ∧ t.b.pw.now = none) ∧
  (∀ (s : State), Gives (.lsafeNRelease) s fun t => t.rdB LCO_LSTAT 5 = false ∧ t.rdB LCO_LSTAT 4 = s.rdB LCO_LSTAT 4
      ∧ t.rdF LCO_LSTAT 0 4 = s.rdF LCO_LSTAT 0 4) ∧
  (∀ (s : State) (m : Master) (v : Word), s.b.accepts m LCO_LCMD = true → s.rdB LCO_LSTAT 5 = false →
    Gives (.clrtrip m v) s fun t => t.rdB LCO_LSTAT 4 = false ∧ t.rdF LCO_LSTAT 0 4 = s.rdF LCO_LSTAT 0 4)

/-- Module reset, Mionus reset and the watchdog. MODULE_RESET and RST_CMD begin the drain and count, the reset phase
begins once no frame runs, and its completion ends it; a Mionus reset, by command or watchdog, stops Mionus and
counts. -/
def Obligations.Resets : Prop :=
  (∀ (s : State), s.b.pw.phase = .up → s.b.pw.drain = false ∧ s.b.pw.inMr = false →
    Gives (.moduleReset) s fun t => t.b.pw.drain = true ∧ t.rd RST_MRCNT = wd (min ((s.rd RST_MRCNT).toNat + 1) (2
      ^ 32 - 1))) ∧
  (∀ (s : State) (m : Master) (v : Word), s.b.accepts m RST_CMD = true →
    (m = .pf0 ∨ m = .mionus) ∧ fld v 16 16 = 0xA55A →
    s.b.pw.phase = .up ∧ s.b.pw.drain = false ∧ s.b.pw.inMr = false →
    Gives (.rstCmdMr m v) s fun t => t.b.pw.drain = true) ∧
  (∀ (s : State) (m : Master) (v : Word), s.b.accepts m RST_CMD = true →
    (m = .pf0 ∨ m = .mionus) ∧ fld v 16 16 = 0xA55A → s.b.pw.phase = .up ∧ s.b.pw.mionus = true →
    Gives (.rstCmdMionus m v) s fun t => t.b.pw.mionus = false) ∧
  (∀ (s : State), s.b.pw.drain = true → s.b.frm = none ∧ s.b.tail = false →
    Gives (.mrResetPhase) s fun t => t.b.pw.drain = false ∧ t.b.pw.inMr = true ∧ t.b.startQ = [] ∧ t.b.host.mbx =
      [] ∧ t.rdB RST_STAT 1 = true) ∧
  (∀ (s : State), s.b.pw.inMr = true → s.b.pw.drain = false ∧ s.b.pw.mionus = false →
    Gives (.mrComplete) s fun t => t.b.pw.inMr = false ∧ t.rdB RST_STAT 1 = false) ∧
  (∀ (s : State), s.rdB RST_WDT 31 = true → s.b.pw.mionus = true →
    Gives (.watchdogExpiry) s fun t => t.b.pw.mionus = false ∧ t.rd RST_WDTCNT = wd (min ((s.rd RST_WDTCNT).toNat +
      1) (2 ^ 32 - 1)))

/-- PERST_N, function resets, D3hot and the interrupt vectors. PERST_N falling resets the interface of both functions and
drops waiting BAR2 accesses and copies; its rise is shown; a function-level reset and D0 bring a function out of
D3hot, D3hot puts it there; a vector is unmasked; an acknowledged vector is armed again or has signalled again. -/
def Obligations.PcieFunctions : Prop :=
  (∀ (s : State), s.rdB RST_STAT 3 = false →
    Gives (.perst true) s fun t => t.rdB RST_STAT 3 = true ∧ t.rdB RST_CAUSE 5 = true ∧ t.b.host.bar2Q = [] ∧
      t.b.host.dma = [] ∧ t.b.host.pf0D3 = false ∧ t.b.host.pf1D3 = false ∧ ∀ v : Fin 64, t.rd (GLB_MSIX_CTL v) = 1) ∧
  (∀ (s : State), Gives (.perst false) s fun t => t.rdB RST_STAT 3 = false ∧ t.b.host.bar2Q = s.b.host.bar2Q ∧
      t.b.host.pf0D3 = s.b.host.pf0D3) ∧
  (∀ (s : State), s.b.cutOff .pf0 = false →
    Gives (.functionLevelReset true) s fun t => t.b.host.pf1D3 = false ∧ t.b.host.pf1 = [] ∧ t.b.host.pf0D3 =
      s.b.host.pf0D3) ∧
  (∀ (s : State), s.b.cutOff .pf0 = false →
    Gives (.functionLevelReset false) s fun t => t.b.host.pf0D3 = false ∧ t.b.host.bar2Q = [] ∧ t.b.host.pf1D3 =
      s.b.host.pf1D3) ∧
  (∀ (s : State), s.b.cutOff .pf0 = false →
    Gives (.d3hot false) s fun t => t.b.host.pf0D3 = true ∧ t.b.host.pf1D3 = s.b.host.pf1D3) ∧
  (∀ (s : State), s.b.cutOff .pf0 = false →
    Gives (.d3hot true) s fun t => t.b.host.pf1D3 = true ∧ t.b.host.pf0D3 = s.b.host.pf0D3) ∧
  (∀ (s : State), s.b.cutOff .pf0 = false →
    Gives (.d0Return false) s fun t => t.b.host.pf0D3 = false ∧ t.b.host.pf1D3 = s.b.host.pf1D3) ∧
  (∀ (s : State), s.b.cutOff .pf0 = false →
    Gives (.d0Return true) s fun t => t.b.host.pf1D3 = false ∧ t.b.host.pf0D3 = s.b.host.pf0D3) ∧
  (∀ (s : State) (vec : Fin 64), s.b.accepts .pf0 (GLB_MSIX_CTL vec) = true →
    Gives (.msixUnmask vec) s fun t => t.rdB (GLB_MSIX_CTL vec) 0 = false) ∧
  (∀ (s : State) (m : Master) (hi : Bool) (v : Word), s.b.accepts m (if hi then GLB_IACK_HI else GLB_IACK_LO) = true →
    Gives (.glbIack m hi v) s fun t => ∀ i : Fin 32, v.getLsbD i = true →
    let k := i.val + (if hi then 32 else 0); t.b.host.armed.getLsbD k = true ∨ t.b.host.pend.getLsbD k = true ∨ ∃ a
      d, Output.msix k a d ∈ t.b.out)

/-- The page header: page reset, ISET, lock and commit. A page reset gives every PR field of the page its entry; a write
of PG_ISET sets the defined interrupt bits written; PG_LOCK locks; a commit brings every set value of the LCO page
into force. -/
def Obligations.PageHeader : Prop :=
  (∀ (s : State) (m : Master) (off : BitVec 26) (v : Word), s.b.accepts m (PG_CTRL (off.toNat / 0x1000 * 0x1000)) =
      true ∧ (pageAt (off.toNat / 0x1000 * 0x1000)).isSome = true →
    Gives (.pageReset m off v) s fun t => ∀ o r, rowAt o = some r → o / 0x1000 = off.toNat / 0x1000 →
    t.rd o &&& wd r.pr = regDefault o &&& wd r.pr) ∧
  (∀ (s : State) (m : Master) (off : BitVec 26) (v : Word) (k : PageKind) (i : Nat), s.b.accepts m (PG_ISET (off.toNat
      / 0x1000 * 0x1000)) = true →
    pageAt (off.toNat / 0x1000 * 0x1000) = some (k, i) →
    Gives (.pgIset m off v) s fun t => t.rd (PG_ISTAT (off.toNat / 0x1000 * 0x1000)) = s.rd (PG_ISTAT (off.toNat /
      0x1000 * 0x1000)) ||| (v &&& wd k.istat)) ∧
  (∀ (s : State) (m : Master) (off : BitVec 26) (v : Word), s.b.accepts m (PG_LOCK (off.toNat / 0x1000 * 0x1000)) =
      true ∧ (pageAt (off.toNat / 0x1000 * 0x1000)).isSome = true →
    Gives (.pgLock m off v) s fun t => t.rdB (PG_LOCK (off.toNat / 0x1000 * 0x1000)) 0 = true) ∧
  (∀ (s : State) (m : Master) (off : BitVec 26) (v : Word), s.b.accepts m (PG_COMMIT P_LCO) = true ∧ off.toNat /
      0x1000 * 0x1000 = P_LCO →
    Gives (.pgCommitGo m off v) s fun t => ∀ n : Fin 16, t.rd (LCO_SET n) = (s.b.pin n).set)

/-- Mailboxes are first in, first out. A post by the bound sender of a channel in use, whose receiver is up and whose
queue has room, appends the staged message with the next sequence number; a pop by the bound receiver removes the
head; when a domain comes up the queues of its receivers are empty. -/
def Obligations.Mailboxes : Prop :=
  (∀ (s : State) (m : Master) (c : Fin 32), s.b.answers m (MBX_POST c) = true →
    s.b.isSender m c = true ∧ (s.b.bind c).2.2 = true →
    s.b.domUp (masterDom (s.b.bind c).2.1) = true ∧ (s.b.chan c).queue.length < 4 →
    Gives (.mbxPost m c) s fun t => (t.b.chan c).queue = (s.b.chan c).queue ++ [((s.b.chan c).next, s.b.staged c)]
      ∧ (t.b.chan c).next = ((s.b.chan c).next + 1) % 256 ∧ ∀ j, j ≠ c.val →
    t.b.chan j = s.b.chan j) ∧
  (∀ (s : State) (m : Master) (c : Fin 32) (v : Word), s.b.accepts m (MBX_RXCTL c) = true →
    s.b.isReceiver m c = true ∧ (s.b.chan c).queue ≠ [] →
    Gives (.mbxPop m c v) s fun t => (t.b.chan c).queue = (s.b.chan c).queue.tail ∧ ∀ j, j ≠ c.val →
    t.b.chan j = s.b.chan j) ∧
  (∀ (s : State) (d : Dom), s.b.domUp d = true →
    Gives (.domainUp d) s fun t => ∀ c : Fin 32, s.rdB (MBX_BIND c) 8 = true → masterDom (s.b.bind c).2.1 = d →
    (t.b.chan c).queue = [])

/-- Start records queue and frames begin. A start record with every field in range and a later FRAME joins the queue while
the module accepts frames; MSQ_CTRL.EN takes the value written; the record at the head begins its frame on every
sequencer. -/
def Obligations.FrameBegin : Prop :=
  (∀ (s : State) (m : Master) (v : Word) (r : Start), s.b.accepts m MSQ_SPUSH = true →
    s.b.startQ.length < 8 ∧ startOf ((List.range 8).map fun k => s.rd (MSQ_SREC k)) = some r →
    s.b.refuses = false ∧ (s.b.lastId.all fun l => seqGT r.frame l) = true →
    Gives (.msqSpush m v) s fun t => t.b.startQ = s.b.startQ ++ [r] ∧ t.b.lastId = some r.frame) ∧
  (∀ (s : State) (m : Master) (v : Word), s.b.accepts m MSQ_CTRL = true →
    Gives (.msqCtrlWrite m v) s fun t => t.rdB MSQ_CTRL 0 = v.getLsbD 0) ∧
  (∀ (s : State) (r : Start) (rest : List Start), s.b.startQ = r :: rest ∧ s.b.frm = none ∧ s.b.tail = false →
    s.b.refuses = false ∧ s.b.pw.wait = none ∧ s.b.pw.now = none ∧ s.b.gap ≤ s.b.time.toNat → s.b.vyv.held = [] →
    Gives (.frameBegin) s fun t => t.b.frm.map (fun f => (f.sr, f.begun, f.flags, f.infl)) = some (r, s.b.time, 0,
      []) ∧ t.b.startQ = rest ∧ t.rd MSQ_FRAME = r.frame ∧ ∀ st : Fin 4, t.rd (SEQ_FRAME st) = r.frame)

/-- END, fences, completion and the frame limit. END ends the program and fixes IRQ and SADDR; a FENCE completes on issue and is
released once its condition is met; a descriptor at its completion point leaves the frame, and with SIG its counter
counts; at the frame limit issue stops and every descriptor is abandoned. -/
def Obligations.FrameFlow : Prop :=
  (∀ (s : State) (idx : Nat) (d : Desc), s.b.takes idx d 0x01 false [0xFFFFFFFF, 0xFF, 1] = true →
    dAddr d 1 % 32 = 0 ∧ (dAddr d 1 = 0 ∨ (opSpan s.b.grade (dAddr d 1) 32).isNone = true) →
    Gives (.dEnd idx d) s fun t => t.b.frm.map (fun f => (f.ended, f.irq, f.saddr)) = some (true,
      dB d 3 0, if dAddr d 1 = 0 then none else some (dAddr d 1)) ∧ t.nrej = s.nrej) ∧
  (∀ (s : State) (idx : Nat) (d : Desc), s.b.takes idx d 0x02 false [0x1000F, 0xFFFF] = true →
    Gives (.dFence idx d) s fun t => t.hasReached idx = true ∧ t.nrej = s.nrej) ∧
  (∀ (s : State) (tgt : Fin 5) (f : Frame) (w : FenceW), s.b.frm = some f ∧ f.fences.find? (fun w => w.tgt == tgt.val)
      = some w →
    s.b.fencePasses f w = true →
    Gives (.fenceRelease tgt) s fun t => t.b.frm.map (·.fences) = some (f.fences.filter fun v => v.tgt != tgt.val)) ∧
  (∀ (s : State) (idx : Nat) (f : Frame) (i : Infl), s.b.frm = some f ∧ f.infl.find? (fun i => i.idx == idx &&
      i.reached) = some i →
    Gives (.descriptorComplete idx) s fun t => t.b.frm.map (·.infl) = some (f.infl.erase i) ∧ (i.sig = true →
    t.rdF (MSQ_CTR i.ctr) 0 16 = min (s.rdF (MSQ_CTR i.ctr) 0 16 + 1) 65535)) ∧
  (∀ (s : State) (f : Frame), s.b.frm = some f → f.tlimit = false ∧ f.abandon = false →
    Gives (.frameLimitExpiry) s fun t => t.b.frm.map (fun f => (f.tlimit, f.stopped, f.queue, f.infl,
      f.fences)) = some (true, true, [], [], []) ∧ t.rdB (PG_ISTAT P_MSQ) 2 = true)

/-- The frame boundary. A frame whose END has issued and whose descriptors are issued and complete, or whose limit has passed, ends
at its boundary, which is counted; a boundary that no group delays leaves no scale table armed, with a frame or
without one; a group that swaps has its other bank active. -/
def Obligations.FrameBoundary : Prop :=
  (∀ (s : State) (f : Frame), s.b.frm = some f → f.tlimit = true ∨ f.ended = true ∧ f.queue = [] ∧ f.infl = [] →
    Gives (.frameBoundary) s fun t => t.b.frm = none ∧ t.b.bnds = s.b.bnds + 1) ∧
  (∀ (s : State), s.b.frm = none ∧ s.b.tail = false →
    Gives (.emptyBoundary) s fun t => t.b.frm = none ∧ (t.b.tail = false →
    ∀ st : Fin 4, t.rdB (TLY_CTRL st) 0 = false)) ∧
  (∀ (s : State) (st : Fin 4) (g : Fin 18), (s.b.stk st).swapping.contains g.val = true ∧ (s.b.stk st).swapping.any (·
      != g.val) = true →
    Gives (.bankSwap st g) s fun t => t.rdF (CE_BANK_ACT st) g 1 = 1 - s.rdF (CE_BANK_ACT st) g 1 ∧ (t.b.stk
      st).swapping = (s.b.stk st).swapping.filter (· != g.val))

/-- Engine power states and wake hints. Idle and nap timers begin the descents, entries and wakes end in their states; a
Run request brings an engine towards Run in Active, a Doze request starts the PLL of an engine in Nap and turns
back one on its way there; a WAKE hint
acts at once or when its delay runs out; a hold ends. -/
def Obligations.EnginePower : Prop :=
  (∀ (s : State) (m : Master) (e : Fin 64) (v : Word), s.b.accepts m (ENG_WAKE e) = true ∧ s.b.modState = stActive →
    Gives (.engWakeRun m e v) s fun t => (t.b.eng e).ps.towardsRun = true) ∧
  (∀ (s : State) (m : Master) (e : Fin 64) (v : Word), s.b.accepts m (ENG_WAKE e) = true ∧ s.b.modState = stActive ∧
      v.getLsbD 0 = false ∧ (s.b.eng e).ps = .nap →
    Gives (.engWakeDoze m e v) s fun t => (t.b.eng e).ps = .pllStart false) ∧
  (∀ (s : State) (m : Master) (e : Fin 64) (v : Word), s.b.accepts m (ENG_WAKE e) = true ∧ s.b.modState = stActive ∧
      v.getLsbD 0 = false ∧ (s.b.eng e).ps = .toNap →
    Gives (.engWakeDoze m e v) s fun t => (t.b.eng e).ps = .redoze) ∧
  (∀ (s : State) (m : Master) (n : Fin 8) (v : Word), s.b.accepts m (DEN_WAKE (64 + n)) = true ∧ s.b.modState = stActive →
    Gives (.denWakeRun m n v) s fun t => (t.b.eng (64 + n)).ps.towardsRun = true) ∧
  (∀ (s : State) (m : Master) (n : Fin 8) (v : Word), s.b.accepts m (DEN_WAKE (64 + n)) = true ∧ s.b.modState =
      stActive ∧ v.getLsbD 0 = false ∧ (s.b.eng (64 + n)).ps = .nap →
    Gives (.denWakeDoze m n v) s fun t => (t.b.eng (64 + n)).ps = .pllStart false) ∧
  (∀ (s : State) (e : Fin 72), (s.b.eng e).ps = .run ∧ (s.b.eng e).hold = 0 ∧ (s.b.eng e).calRun = false →
    (s.b.eng e).passes = [] ∧ (s.b.eng e).dyn.jobs = [] →
    (if e.val < 64 then s.rdB (ENG_CFG e) 0 else s.rdB (DEN_CFG e) 0) = true →
    Gives (.idleTimerExpiry e) s fun t => (t.b.eng e).ps = .toDoze) ∧
  (∀ (s : State) (e : Fin 72), (s.b.eng e).ps = .doze →
    (if e.val < 64 then s.rdB (ENG_CFG e) 1 else s.rdB (DEN_CFG e) 1) = true →
    Gives (.napTimerExpiry e) s fun t => (t.b.eng e).ps = .toNap) ∧
  (∀ (s : State) (e : Fin 72), (s.b.eng e).ps = .toDoze →
    Gives (.dozeEntryComplete e) s fun t => (t.b.eng e).ps = .doze ∧ t.rdF (engState e) 0 2 = 1) ∧
  (∀ (s : State) (e : Fin 72), (s.b.eng e).ps = .toNap →
    Gives (.napEntryComplete e) s fun t => (t.b.eng e).ps = .nap ∧ t.rdF (engState e) 0 2 = 2) ∧
  (∀ (s : State) (e : Fin 72) (r : Bool), (s.b.eng e).ps = .pllStart r →
    Gives (.wakeToDozeComplete e) s fun t => (t.b.eng e).ps = if r then .waking else .doze) ∧
  (∀ (s : State) (e : Fin 72), (s.b.eng e).ps = .redoze →
    Gives (.wakeToDozeComplete e) s fun t => (t.b.eng e).ps = .doze) ∧
  (∀ (s : State) (e : Fin 72), Gives (.wakeHoldExpiry e) s fun t => (t.b.eng e).hold = 0 ∧ (t.b.eng e).ps = (s.b.eng e).ps) ∧
  (∀ (s : State) (idx : Nat) (d : Desc), s.b.takes idx d 0x03 true [0x0103FFFF, 0xFFFFFFFF] = true → dF d 2 0 16 ≠ 0 →
    Gives (.dWake idx d) s fun t => t.hasReached idx = true ∧ t.nrej = s.nrej ∧ t.b.wakes.length = s.b.wakes.length + 1) ∧
  (∀ (s : State) (idx : Nat) (d : Desc) (k : Fin 16), s.b.takes idx d 0x03 true [0x0103FFFF, 0xFFFFFFFF] = true →
    dF d 2 0 16 = 0 ∧ dB d 1 24 = true ∧ dB d 1 k = true ∧ s.b.modState = stActive →
    Gives (.dWake idx d) s fun t => t.hasReached idx = true ∧ (t.b.eng (16 * dTgt d + k)).ps.towardsRun = true) ∧
  (∀ (s : State) (hint : Nat) (w : WakeW), s.b.wakes.find? (fun w => w.id == hint) = some w →
    w.toRun = true ∧ s.b.modState = stActive →
    Gives (.wakeHintDelayExpiry hint) s fun t => (∀ e ∈ w.engs, (t.b.eng e).ps.towardsRun = true) ∧ t.b.wakes =
      s.b.wakes.filter (·.id != hint))

/-- Tile records, the fill, and what the host writes to the Ledger and the scale tables. A valid record written to a slot
that holds no live tile makes it FILLING; the fill writes the empty value to every element and opens the slot, or
makes it wait when no contribution is to come; host writes of the record are staged and the slot selected, and with word
7 the record is taken or waits for its slot; the pending scale table takes legal values while it is not armed. -/
def Obligations.TileRecords : Prop :=
  (∀ (s : State) (idx : Nat) (d : Desc), s.b.takes idx d 0x18 true [0x3FF, 0xFFFFFFFF, 0xFFFFFFFF, 0xFFFFFFFF,
      0xFFFFFFFF, 0xFFFFFFFF, 0xFFFFFFFF, 0xFFFFFFFF, 0xFFFFFFFF] = true →
    (s.b.tile (dTgt d) (dF d 1 0 10)).st = .empty ∨ (s.b.tile (dTgt d) (dF d 1 0 10)).st = .closed ∨ (s.b.tile (dTgt d) (dF d 1 0
      10)).st = .err →
    recValid ((List.range 8).map fun i => d.word (2 + i)) = true →
    Gives (.dTrec idx d) s fun t => (t.b.tile (dTgt d) (dF d 1 0 10)).st = .filling ∧ (t.b.tile (dTgt d) (dF d 1 0
      10)).trec = ((List.range 8).map fun i => d.word (2 + i)) ∧ t.nrej = s.nrej ∧ t.inFlight idx = true) ∧
  (∀ (s : State) (st : Fin 4) (slot : Fin 1024), (s.b.tile st slot).st = .filling ∧ tNcon (s.b.tile st slot).trec ≠ 0
      ∧ tChin (s.b.tile st slot).trec = false →
    Gives (.tileFillComplete st slot) s fun t => (t.b.tile st slot).st = .opn ∧ t.b.rdLed st (tBase (s.b.tile st
      slot).trec) (stBytes (s.b.tile st slot).trec) = (List.replicate (stRows (s.b.tile st slot).trec * stCols
      (s.b.tile st slot).trec) (emptyElem (tFmt (s.b.tile st slot).trec) (tOp (s.b.tile st slot).trec))).flatten) ∧
  (∀ (s : State) (st : Fin 4) (slot : Fin 1024), (s.b.tile st slot).st = .filling ∧ tNcon (s.b.tile st slot).trec = 0 →
    Gives (.tileFillComplete st slot) s fun t => (t.b.tile st slot).st = .wait) ∧
  (∀ (s : State) (m : Master) (st : Fin 4) (i : Fin 8) (v : Word), s.b.accepts m (LDG_TREC st i) = true →
    s.b.frm = none ∧ i.val < 7 → Gives (.ldgTrecWrite m st i v) s fun t => (t.b.stk st).stage.find i = some v) ∧
  (∀ (s : State) (m : Master) (st : Fin 4) (i : Fin 8) (v : Word), s.b.accepts m (LDG_TREC st i) = true →
    s.b.frm = none ∧ i.val = 7 → ((s.b.tile st (s.rdF (LDG_TSEL st) 0 10)).st = .empty ∨ (s.b.tile st (s.rdF (LDG_TSEL
      st) 0 10)).st = .closed ∨ (s.b.tile st (s.rdF (LDG_TSEL st) 0 10)).st = .err) →
    Gives (.ldgTrecWrite m st i v) s fun t => (t.b.stk st).stage = [] ∧ (t.b.tile st (s.rdF (LDG_TSEL st) 0 10)).trec =
      (List.range 8).map fun j => if j = 7 then v else ((s.b.stk st).stage.find j).getD (tW (s.b.tile st (s.rdF
      (LDG_TSEL st) 0 10)).trec j)) ∧
  (∀ (s : State) (m : Master) (st : Fin 4) (i : Fin 8) (v : Word), s.b.accepts m (LDG_TREC st i) = true →
    s.b.frm = none ∧ i.val = 7 → ((s.b.tile st (s.rdF (LDG_TSEL st) 0 10)).st = .filling ∨ (s.b.tile st (s.rdF (LDG_TSEL
      st) 0 10)).st = .opn ∨ (s.b.tile st (s.rdF (LDG_TSEL st) 0 10)).st = .wait) →
    Gives (.ldgTrecWrite m st i v) s fun t => (t.b.stk st).stage = [] ∧ t.b.tile st (s.rdF (LDG_TSEL st) 0 10) =
      s.b.tile st (s.rdF (LDG_TSEL st) 0 10) ∧ (t.b.stk st).trecQ = (s.b.stk st).trecQ ++ [(s.rdF (LDG_TSEL st) 0 10,
      none, (List.range 8).map fun j => if j = 7 then v else ((s.b.stk st).stage.find j).getD (tW (s.b.tile st (s.rdF
      (LDG_TSEL st) 0 10)).trec j))]) ∧
  (∀ (s : State) (m : Master) (st : Fin 4) (v : Word), s.b.accepts m (LDG_TSEL st) = true →
    Gives (.ldgTselWrite m st v) s fun t => t.rd (LDG_TSEL st) = v &&& 0x3FF ∧ (t.b.stk st).stage = []) ∧
  (∀ (s : State) (m : Master) (st : Fin 4) (v : Word), s.b.accepts m (TLY_CTRL st) = true → v.getLsbD 0 = true →
    Gives (.scArm m st v) s fun t => t.rdB (TLY_CTRL st) 0 = true ∧ t.rdB (TLY_STAT st) 0 = true) ∧
  (∀ (s : State) (m : Master) (st : Fin 4) (k : Fin 256) (v : Word), s.b.accepts m (TLY_SCALE_P st k) = true →
    s.rdB (TLY_CTRL st) 0 = false ∧ scaleOk v = true →
    Gives (.tlyScalePWrite m st k v) s fun t => t.rd (TLY_SCALE_P st k) = v ∧ t.rd (TLY_SCALE st k) = s.rd
      (TLY_SCALE st k))

/-- Columns, contributions, running sums and readback. The tree forms the next column of a group all of whose members have
delivered it; the oldest whole contribution to an open tile is applied and counted; a running sum that is complete, or
whose wait has ended, is applied as the last contribution and the tile closes; a readback of a closed tile completes,
and waits for another; a THOP joins the hops. -/
def Obligations.Accumulation : Prop :=
  (∀ (s : State) (st : Fin 4) (con : Nat) (c : Con), s.b.mintQ = [] →
    (s.b.stk st).cons.find? (fun c => c.id == con) = some c ∧ c.ready = true →
    Gives (.treeColumnResult st con) s fun t => ((t.b.stk st).cons.find? fun c => c.id == con) = some
      { c with res := c.res ++ [c.column] }) ∧
  (∀ (s : State) (st : Fin 4) (slot : Fin 1024) (ecc : Ecc) (c : Con), (s.b.stk st).nextFor slot = some c ∧ c.ncol ≤
      c.res.length ∧ c.link = .plain →
    (s.b.tile st slot).st = .opn ∧ (mixes (s.b.tile st slot).trec c.res).isNone = true ∧ (s.b.tile st slot).nappl +
      1 < tNcon (s.b.tile st slot).trec →
    Gives (.contributionApply st slot ecc) s fun t => (t.b.tile st slot).nappl = (s.b.tile st slot).nappl + 1 ∧
      (t.b.tile st slot).st = .opn ∧ (t.b.stk st).cons.any (fun d => d.id == c.id) = false) ∧
  (∀ (s : State) (st : Fin 4) (slot : Fin 1024) (ecc : Ecc), (s.b.tile st slot).st = .wait ∧ (s.b.tile st slot).rsComplete
      = true →
    (s.b.stk st).trecQ = [] →
    Gives (.runningSumApply st slot ecc) s fun t => (t.b.tile st slot).st = .closed ∧ (t.b.tile st slot).nappl =
      (s.b.tile st slot).nappl + 1) ∧
  (∀ (s : State) (st : Fin 4) (slot : Fin 1024) (ecc : Ecc), (s.b.tile st slot).st = .wait ∧ (s.b.tile st slot).rsComplete
      = false →
    (s.b.stk st).trecQ = [] →
    Gives (.runningSumTimeout st slot ecc) s fun t => (t.b.tile st slot).st = .closed ∧ (t.b.tile st slot).zf = true ∧
      t.rdB (TLY_STAT st) 4 = true) ∧
  (∀ (s : State) (st : Fin 4) (slot : Fin 1024), (s.b.tile st slot).st = .opn ∧ tChin (s.b.tile st slot).trec = true →
    Gives (.arrivalStoreMove st slot) s fun t => ((t.b.stk st).store.any fun m => m.dslot == slot.val && m.dtag ==
      tTag (s.b.tile st slot).trec) = false) ∧
  (∀ (s : State) (st : Fin 4) (hop : Nat) (h : HopFly), (s.b.stk st).fly.find? (fun h => h.idx == hop) = some h →
    (s.b.tile h.dstk h.dslot).st = .opn ∧ tTag (s.b.tile h.dstk h.dslot).trec = h.dtag ∧ tChin (s.b.tile h.dstk
      h.dslot).trec = true ∧ tallyFault (s.b.tile h.dstk h.dslot) h.msg = none →
    Gives (.stackHopDelivery st hop) s fun t => (t.b.tile h.dstk h.dslot).rsCols = (s.b.tile h.dstk h.dslot).rsCols
      ++ List.range (stCols h.trec)) ∧
  (∀ (s : State) (idx : Nat) (d : Desc) (ecc : Ecc), s.b.takes idx d 0x19 true [0x303FF, 0xFFFFFFFF, 0xFF, 0x1FFF0FFF]
      = true →
    dF d 1 16 2 ≠ 3 ∧ mspace s.b.grade (dAddr d 2) = .vsram → (s.b.tile (dTgt d) (dF d 1 0 10)).st ≠ .closed →
    Gives (.dRdbk idx d ecc) s fun t => (t.b.stk (dTgt d)).rdbkQ = (s.b.stk (dTgt d)).rdbkQ ++ [⟨idx, dF d 1 0 10,
      dF d 1 16 2, dAddr d 2, dF d 4 0 12, dF d 4 16 13⟩] ∧ t.nrej = s.nrej) ∧
  (∀ (s : State) (idx : Nat) (d : Desc) (ecc : Ecc), s.b.takes idx d 0x19 true [0x303FF, 0xFFFFFFFF, 0xFF, 0x1FFF0FFF]
      = true →
    dF d 1 16 2 = 0 ∧ mspace s.b.grade (dAddr d 2) = .vsram → (s.b.tile (dTgt d) (dF d 1 0 10)).st = .closed →
    dF d 4 0 12 + dF d 4 16 13 ≤ stCols (s.b.tile (dTgt d) (dF d 1 0 10)).trec →
    Gives (.dRdbk idx d ecc) s fun t => t.hasReached idx = true ∧ t.nrej = s.nrej) ∧
  (∀ (s : State) (idx : Nat) (d : Desc) (ecc : Ecc), s.b.takes idx d 0x1A true [0x3103FF, 0x3FFF03FF, 0xFF0FFF] = true →
    if dB d 1 16 then s.b.flowState (dF d 3 0 12) = 2 else dF d 1 20 2 ≠ dTgt d →
    Gives (.dThop idx d ecc) s fun t => (t.b.stk (dTgt d)).hopQ.length = (s.b.stk (dTgt d)).hopQ.length + 1 ∧ t.nrej =
      s.nrej ∧ t.inFlight idx = true)

/-- A PASS joins the queue of its engine. A PASS whose fields are legal, to an engine that holds a model, founds a tally
group, or joins the one that is still forming for it, and waits in the queue of its engine for its symbols; an engine
that wakes into Run is in Run. -/
def Obligations.ResidentPass : Prop :=
  (∀ (s : State) (idx : Nat) (d : Desc) (adc : List (List (BitVec 8))), s.b.takes idx d 0x10 true [0xFFFF077F,
      0x03FF1FFF, 0xFFF] = true →
    passShape d adc = true ∧ 1 ≤ dF d 2 0 13 ∧ dF d 2 0 13 ≤ 4096 ∧ (dB d 1 6 = true → dF d 2 0 13 % 2 = 0) →
    dF d 1 8 3 ≠ 7 ∧ s.rdB (ENG_STATE (16 * dTgt d + dF d 1 0 4)) 2 = true ∧ groupOk (dF d 1 8 3) (dF d 1 16 16)
      (dF d 1 0 4) = true →
    s.b.beyondCols (dTgt d) (dF d 2 16 10) (dF d 3 0 12 + if dB d 1 6 then dF d 2 0 13 / 2 else dF d 2 0 13) = false →
    s.b.mintQ = [] ∧ ((s.b.stk (dTgt d)).cons.any fun c => c.dyn.isNone && c.gnode == 24 + dF d 1 8 3 && c.mask == dF d 1
      16 16 && !c.formed) = false →
    Gives (.dPass idx d adc) s fun t => ((t.b.eng (16 * dTgt d + dF d 1 0 4)).passes.map fun p => (p.idx, p.nsym,
      p.bus, p.a13, p.adc)) = ((s.b.eng (16 * dTgt d + dF d 1 0 4)).passes.map fun p => (p.idx, p.nsym, p.bus, p.a13,
      p.adc)) ++ [(idx, dF d 2 0 13, dF d 1 4 2, dB d 1 6, adc)] ∧ (t.b.stk (dTgt d)).cons.length = (s.b.stk (dTgt
      d)).cons.length + 1 ∧ t.nrej = s.nrej ∧ t.inFlight idx = true) ∧
  (∀ (s : State) (idx : Nat) (d : Desc) (adc : List (List (BitVec 8))) (c : Con), s.b.takes idx d 0x10 true [0xFFFF077F,
      0x03FF1FFF, 0xFFF] = true →
    passShape d adc = true ∧ 1 ≤ dF d 2 0 13 ∧ dF d 2 0 13 ≤ 4096 ∧ (dB d 1 6 = true → dF d 2 0 13 % 2 = 0) →
    dF d 1 8 3 ≠ 7 ∧ s.rdB (ENG_STATE (16 * dTgt d + dF d 1 0 4)) 2 = true ∧ groupOk (dF d 1 8 3) (dF d 1 16 16)
      (dF d 1 0 4) = true →
    s.b.beyondCols (dTgt d) (dF d 2 16 10) (dF d 3 0 12 + if dB d 1 6 then dF d 2 0 13 / 2 else dF d 2 0 13) = false →
    s.b.mintQ = [] ∧ ((s.b.stk (dTgt d)).cons.find? fun c => c.dyn.isNone && c.gnode == 24 + dF d 1 8 3 && c.mask == dF d
      1 16 16 && !c.formed) = some c →
    c.slot = dF d 2 16 10 ∧ c.col0 = dF d 3 0 12 ∧ c.a13 = dB d 1 6 ∧ (c.ncol = if dB d 1 6 then dF d 2 0 13 / 2 else dF
      d 2 0 13) ∧ (c.mem.any fun m => m.leaf == dF d 1 0 4) = false →
    Gives (.dPass idx d adc) s fun t => ((t.b.eng (16 * dTgt d + dF d 1 0 4)).passes.map fun p => (p.idx, p.con)) =
      ((s.b.eng (16 * dTgt d + dF d 1 0 4)).passes.map fun p => (p.idx, p.con)) ++ [(idx, c.id)] ∧ (t.b.stk (dTgt
      d)).cons.length = (s.b.stk (dTgt d)).cons.length ∧ t.nrej = s.nrej ∧ t.inFlight idx = true) ∧
  (∀ (s : State) (e : Fin 72), (s.b.eng e).ps = .waking →
    s.b.mintQ = [] ∧ (s.b.stk (stackOf e)).cal = none →
    (s.b.eng (64 + 2 * stackOf e)).dyn.jobs = [] ∧ (s.b.eng (65 + 2 * stackOf e)).dyn.jobs = [] →
    Gives (.wakeToRunComplete e) s fun t => (t.b.eng e).ps = .run ∧ t.rdF (engState e) 0 2 = 0)

/-- Mint profiles, conversions and replays. A valid profile word is taken while no frame runs; a conversion that has no
MINTX and meets no cause of rejection forms the symbols of its rows, with CLIP where it saturates, and holds them for its
engines; a conversion to memory, or a replay, waits for its MINTX, with which the conversion writes its summary and
completes and the replay holds the symbols of the stored codes. -/
def Obligations.MintDescriptors : Prop :=
  (∀ (s : State) (m : Master) (p : Fin 16) (hi : Bool) (v : Word), s.b.accepts m (if hi then MNT_PROF_W1 p else
      MNT_PROF_W0 p) = true →
    s.b.frm = none ∧ profValid (if hi then s.rd (MNT_PROF_W0 p) else v) (if hi then v else s.rd (MNT_PROF_W1 p)) =
      true →
    Gives (.mntProfWrite m p hi v) s fun t => t.rd (if hi then MNT_PROF_W1 p else MNT_PROF_W0 p) = v) ∧
  (∀ (s : State) (idx : Nat) (d : Desc) (ecc : Ecc) (f : Frame) (j : MintJob) (p : MProf), s.b.frm = some f ∧
      s.b.takes idx d 0x20 false mintMasks = true →
    j = MintJob.of idx f.mOrd d ecc ∧ p = s.b.mprof (dF d 1 0 4) →
    j.mop = 0 ∧ j.needsX p = false ∧ f.mq = [] ∧ s.b.pairs idx = false ∧ s.b.mintFieldsBad j = false →
    (s.b.mintReason j p).isNone = true ∧ (firstSpanErr s.b.grade (j.spans p)).isNone = true →
    j.dbus = true ∧ j.feeds = true →
    s.b.noPass 0 = true ∧ s.b.noPass 1 = true ∧ s.b.noPass 2 = true ∧ s.b.noPass 3 = true →
    Gives (.dMintConvert idx d ecc) s fun t => t.nrej = s.nrej ∧ t.inFlight idx = true ∧ (t.b.mintQ.map fun w => (w.job,
      w.begun, w.out)) = [(j, true, deliveries j (if s.b.mintSat j p then fCLIP else 0) (rowSyms (p.fmt == 1)
      ((s.b.mintRows j p).map (·.codes))))]) ∧
  (∀ (s : State) (idx : Nat) (d : Desc) (ecc : Ecc) (f : Frame), s.b.frm = some f ∧ s.b.takes idx d 0x20 false
      mintMasks = true →
    MintJob.mop (MintJob.of idx f.mOrd d ecc) = 1 ∧ s.b.pairs idx = true →
    Gives (.dMintReplay idx d ecc) s fun t => t.b.frm.map (fun g => (g.mint, g.mOrd)) = some (some (MintJob.of idx
      f.mOrd d ecc), f.mOrd + 1) ∧ t.nrej = s.nrej ∧ t.inFlight idx = true) ∧
  (∀ (s : State) (idx : Nat) (d : Desc) (f : Frame), s.b.frm = some f ∧ s.b.takes idx d 0x20 false mintMasks = true →
    MintJob.mop (MintJob.of idx f.mOrd d ⟨[], []⟩) = 2 ∧ s.b.pairs idx = true →
    Gives (.dMintCutThroughReplay idx d) s fun t => t.b.frm.map (fun g => (g.mint, g.mOrd)) = some (some
      (MintJob.of idx f.mOrd d ⟨[], []⟩), f.mOrd + 1) ∧ t.nrej = s.nrej ∧ t.inFlight idx = true) ∧
  (∀ (s : State) (idx : Nat) (d : Desc) (ecc : Ecc) (f : Frame) (i j : MintJob) (p : MProf), s.b.frm = some f ∧ f.mint =
      some i ∧ s.inFlight i.idx = true ∧ s.b.takes idx d 0x21 false mintxMasks = true →
    j = i.withX d ecc ∧ p = s.b.mprof (dF i.d 1 0 4) →
    f.mq = [] ∧ s.b.mintFieldsBad j = false ∧ j.mop = 0 ∧ j.dmem = true ∧ j.dbus = false →
    (s.b.mintReason j p).isNone = true ∧ (firstSpanErr s.b.grade (j.spans p)).isNone = true ∧ p.fmt < 4 →
    Gives (.dMintx idx d ecc) s fun t => t.hasReached i.idx = true ∧ t.nrej = s.nrej ∧ t.b.frm.map (fun g => (g.mint,
      g.mq)) = some (none, []) ∧ t.b.rdBytes j.sumaddr 16 = summaryBytes (totals (s.b.mintRows j p)).1 (totals
      (s.b.mintRows j p)).2.1 (s.b.mintSat j p) ((totals (s.b.mintRows j p)).2.2.1 != 0) p.fmt) ∧
  (∀ (s : State) (idx : Nat) (d : Desc) (ecc : Ecc) (f : Frame) (i j : MintJob), s.b.frm = some f ∧ f.mint = some i ∧
      s.inFlight i.idx = true ∧ s.b.takes idx d 0x21 false mintxMasks = true →
    j = i.withX d ecc ∧ f.mq = [] ∧ s.b.mintFieldsBad j = false ∧ j.mop = 1 →
    s.b.replayOk j = true ∧ j.feeds = true →
    s.b.noPass 0 = true ∧ s.b.noPass 1 = true ∧ s.b.noPass 2 = true ∧ s.b.noPass 3 = true →
    Gives (.dMintx idx d ecc) s fun t => t.nrej = s.nrej ∧ t.inFlight i.idx = true ∧ (t.b.mintQ.map fun w => (w.job,
      w.begun, w.out)) = [(j, true, deliveries j (if (s.b.rdLE (j.sumaddr + 8) 4).testBit 1 then fCLIP else 0) fun r k
      => sliceSyms (s.b.replaySize j == 2) (s.b.replaySlice j (s.b.replaySize j) r k).1)])

/-- Dynamic engines: fills, the latch, passes and ring tables. A query fill puts the rows it reads, a value fill
the transpose of those it reads, into the shadow registers; the latch moves them to the DACs; score and value passes form
one contribution per symbol and tile, and the ring
table is written, read, armed and scaled as the host asks. -/
def Obligations.DynamicEngines : Prop :=
  (∀ (s : State) (idx : Nat) (d : Desc) (ecc : Ecc), s.b.takes idx d 0x11 true [0x7F07, 0xFFFFFFFF, 0xFFFF00FF,
      0xFFFFFFFF, 0xFFFFFFFF, 3, 0x1FFFFFF] = true →
    (s.b.eng (dynEng d)).dyn.jobs = [] ∧ (s.b.eng (dynEng d)).dyn.shadow = [] ∧ s.b.dynHeld (dynEng d) = false ∧
      s.b.modState = stActive →
    dB d 1 1 = false ∧ 1 ≤ dF d 1 8 7 ∧ dF d 1 8 7 ≤ 64 ∧ (firstSpanErr s.b.grade [(dSrc d, spanOf (dF d 1 8 7) 128
      (dStride d))]).isNone = true →
    Gives (.dDfill idx d ecc) s fun t => t.hasReached idx = true ∧ t.nrej = s.nrej ∧ ∀ r : Fin 64, r.val < dF d 1 8 7 →
    (t.b.eng (dynEng d)).dyn.shadow.find r = some ((s.b.eng (dynEng d)).fillRow (dynEng d) r (s.b.cacheRow ecc.ue
      (dSrc d + r * dStride d) none) false)) ∧
  (∀ (s : State) (idx : Nat) (d : Desc) (ecc : Ecc) (p n : Nat), s.b.takes idx d 0x11 true [0x7F07, 0xFFFFFFFF,
      0xFFFF00FF, 0xFFFFFFFF, 0xFFFFFFFF, 3, 0x1FFFFFF] = true →
    (s.b.eng (dynEng d)).dyn.jobs = [] ∧ (s.b.eng (dynEng d)).dyn.shadow = [] ∧ s.b.dynHeld (dynEng d) = false ∧
      s.b.modState = stActive →
    dB d 1 1 = true ∧ dB d 1 2 = false ∧ dF d 1 8 7 = 64 →
    p = s.b.dynPos d 4 (dB d 6 1) ∧ n = min 128 (s.b.dynPos d 5 (dB d 6 1) - p) ∧ p + 128 ≤ 2 ^ 32 →
    n = 0 ∨ (firstSpanErr s.b.grade [(dSrc d + p * dStride d, spanOf n 128 (dStride d))]).isNone = true →
    Gives (.dDfill idx d ecc) s fun t => t.hasReached idx = true ∧ t.nrej = s.nrej ∧ ∀ r : Fin 64,
    (t.b.eng (dynEng d)).dyn.shadow.find r = some ((s.b.eng (dynEng d)).fillRow (dynEng d) r ((List.range 128).map fun q
      => if q < n then (s.b.cacheRow ecc.ue (dSrc d + (p + q) * dStride d) none).getD (64 * dF d 6 0 1 + r) 0 else 0)
      true)) ∧
  (∀ (s : State) (n : Fin 8), (s.b.eng (64 + n)).dyn.shadow ≠ [] ∧ s.b.dynHeld (64 + n) = false →
    (s.b.eng (64 + n)).dyn.jobs = [] →
    Gives (.latch n) s fun t => (t.b.eng (64 + n)).dyn.shadow = [] ∧ (t.b.eng (64 + n)).dyn.rows = (s.b.eng (64 +
      n)).dyn.shadow.foldl (fun m q => m.set (fun _ => {}) q.1 q.2) (s.b.eng (64 + n)).dyn.rows) ∧
  (∀ (s : State) (idx : Nat) (d : Desc) (adc : List (List (BitVec 8))) (ecc : Ecc), s.b.takes idx d 0x12 true
      [0x3F7F1F, 0xFFFFFFFF, 0xFFFF00FF, 0xFFFFFFFF, 0xFFFFFFFF, 0x03FF1FFF, 0x0FFF01FF, 0x800003FF, 0x1FFFFFF,
      0x1FFFFFF, 0xFFFFFFFF, 0xFF] = true ∧ dynShape d adc = true →
    (s.b.eng (dynEng d)).dyn.jobs = [] ∧ s.b.dynHeld (dynEng d) = false ∧ s.b.modState = stActive →
    (s.b.eng (dynEng d)).ps = .run ∧ (s.b.eng (dynEng d)).dyn.shadow = [] →
    1 ≤ dF d 1 16 6 ∧ 1 ≤ dF d 1 8 7 ∧ dF d 1 8 7 ≤ 64 / dF d 1 16 6 * dF d 1 16 6 ∧ 1 ≤ dF d 6 0 13 ∧ dF d 6 0 13 ≤
      4096 →
    (dB d 8 31 = true → s.b.beyondTile (dTgt d) (dF d 8 0 10) (dF d 7 0 9 + dF d 1 8 7) 0 = false ∧ ∀ tr, s.b.recordFor
      (dTgt d) (dF d 8 0 10) = some tr → tOp tr = 3 ∨ tOp tr = 4) →
    (dB d 1 3 = true → bookOk (s.b.dynBook (dF d 9 0 25)) = true) →
    s.b.beyondTile (dTgt d) (dF d 6 16 10) (dF d 7 0 9 + dF d 1 8 7) (dF d 7 16 12 + dF d 6 0 13) = false ∧
      s.b.rowsFilled (dynEng d) (dF d 1 8 7) 1 = true →
    (firstSpanErr s.b.grade ([(dSrc d + s.b.dynPos d 4 (dB d 1 4) * dStride d, spanOf (dF d 6 0 13) (if dB d 1 3 then 64
      else 128) (dStride d)), (dAddr d 11 + 4 * s.b.dynPos d 4 (dB d 1 4), 4 * dF d 6 0 13), (vsBase + dF d 10 0 25, 4 *
      dF d 6 0 13)] ++ if dB d 1 3 then [(vsBase + dF d 9 0 25, 16)] else [])).isNone = true →
    Gives (.dDscore idx d adc ecc) s fun t => (t.b.stk (dTgt d)).cons.length = (s.b.stk (dTgt d)).cons.length + dF
      d 6 0 13 * (if dB d 8 31 then 2 else 1) ∧ (t.b.eng (dynEng d)).dyn.jobs = [] ∧ t.nrej = s.nrej ∧ t.inFlight idx = true) ∧
  (∀ (s : State) (idx : Nat) (d : Desc) (adc : List (List (BitVec 8))) (ecc : Ecc), s.b.takes idx d 0x13 true [3,
      0xFFFFFFFF, 0xFFFF00FF, 0xFFFFFFFF, 0xFF, 0x03FF1FFF, 0x0FFF01FF, 0xFFFF] = true ∧ dynShape d adc = true →
    (s.b.eng (dynEng d)).dyn.jobs = [] ∧ s.b.dynHeld (dynEng d) = false ∧ s.b.modState = stActive →
    (s.b.eng (dynEng d)).ps = .run ∧ (s.b.eng (dynEng d)).dyn.shadow = [] →
    1 ≤ dF d 6 0 13 ∧ dF d 6 0 13 ≤ 4096 ∧ s.b.beyondTile (dTgt d) (dF d 6 16 10) (dF d 7 0 9 + 64) (dF d 7 16 12 +
      dF d 6 0 13) = false ∧ s.b.rowsFilled (dynEng d) 64 2 = true →
    (firstSpanErr s.b.grade [(dSrc d + 128 * dF d 8 0 16, spanOf (dF d 6 0 13) 128 (dStride d)), (dAddr d 4, 16)]).isNone =
      true ∧ s.b.rdLE (dAddr d 4 + 12) 4 % 16 = 0 ∧ bit (s.b.rd32 (dAddr d 4 + 8)) 0 = true →
    Gives (.dDvalue idx d adc ecc) s fun t => (t.b.stk (dTgt d)).cons.length = (s.b.stk (dTgt d)).cons.length + dF
      d 6 0 13 ∧ (t.b.eng (dynEng d)).dyn.jobs = [] ∧ t.nrej = s.nrej ∧ t.inFlight idx = true) ∧
  (∀ (s : State) (m : Master) (n : Fin 8), s.b.accepts m (DEN_TBL_CTRL (64 + n)) = true →
    (tblBad (s.b.eng (64 + n)).dyn.tblP).isNone = true →
    Gives (.denTblArm m n) s fun t => t.rdB (DEN_TBL_CTRL (64 + n)) 0 = true) ∧
  (∀ (s : State) (m : Master) (n : Fin 8) (v : Word), s.b.accepts m (DEN_TBL_DATA (64 + n)) = true →
    s.rdB (DEN_TBL_CTRL (64 + n)) 0 = false →
    Gives (.denTblDataWrite m n v) s fun t => tblGet (t.b.eng (64 + n)).dyn.tblP (s.rdF (DEN_TBL_ADDR (64 + n)) 0
      8) = v ∧ (t.b.eng (64 + n)).dyn.tblF = (s.b.eng (64 + n)).dyn.tblF) ∧
  (∀ (s : State) (m : Master) (n : Fin 8), s.b.answers m (DEN_TBL_DATA (64 + n)) = true →
    Gives (.denTblDataRead m n) s fun t => Output.data m [s.b.tblWord (64 + n)] ∈ t.b.out ∧ (s.rdB (DEN_TBL_ADDR
      (64 + n)) 31 = true →
    t.rdF (DEN_TBL_ADDR (64 + n)) 0 8 = (s.rdF (DEN_TBL_ADDR (64 + n)) 0 8 + 1) % 256)) ∧
  (∀ (s : State) (m : Master) (n : Fin 8) (v : Word), s.b.accepts m (DEN_OSCALE (64 + n)) = true →
    Gives (.denOscaleWrite m n v) s fun t => t.rdF (DEN_OSCALE (64 + n)) 0 2 = fld v 0 2 ∧ t.rdF (DEN_OSCALE (64 +
      n)) 16 8 = fld v 16 8 ∧ t.rdF (DEN_OSCALE (64 + n)) 24 8 = fld v 24 8 ∧ (t.b.eng (64 + n)).rangeNew = true)

/-- Vector operations complete and write their rows. Every vector operation whose descriptor is issued and meets no cause
of rejection completes: it writes the rows that its operands give at D and nowhere else, counts, and is not rejected.
Whatever its descriptor, it changes no byte of memory outside the rows that its operands give, no register but those
of the vector cores, of issue and of access faults, and nothing else but the frame in progress, the free values taken
and the granule counts. -/
def Obligations.VectorOperations : Prop :=
  (∀ (s : State) (idx : Nat) (d : Desc) (f : Frame), ∀ p ∈ vopCommands, s.b.frm = some f → s.b.vopOk idx p.1 d f = true →
    Gives (p.2 idx d) s fun t => t.b.mem = s.b.vopMem p.1 d f ∧ t.hasReached idx = true ∧ t.nrej = s.nrej ∧
      t.rd VEC_OPCNT = wd (min ((s.rd VEC_OPCNT).toNat + 1) (2 ^ 32 - 1))) ∧
  (∀ (s : State) (idx : Nat) (d : Desc), ∀ p ∈ vopCommands, Gives (p.2 idx d) s fun t =>
    Kept s t (vecRegs ++ issueRegs (dTgt d) ++ afRegs) (fun b c =>
      { b with mem := c.mem, frm := c.frm, free := c.free, host := { b.host with hbmCnt := c.host.hbmCnt } }) ∧
    ∀ a, (∀ f, s.b.frm = some f →
        ∀ q ∈ writeSpans (vopOf p.1 d).d (s.b.vopRun (vopOf p.1 d) f.sr.ncand f.sr.seed), a < q.1 ∨ q.1 + q.2 ≤ a) →
      t.b.rd8 a = s.b.rd8 a)

/-- Counter clears. A write of a CNTCLR register that reaches it makes the counters of the bits written read 0, and
changes no register of another page. Any write of one, whether it reaches it or not, changes only the counters its
bits select, the per-loop counts, live windows and voltage minimum where its page has them, PG_SEQ of the page and the
records of failed accesses; all else is as before. -/
def Obligations.CounterClears : Prop :=
  (∀ (s : State) (m : Master) (e : Fin 64) (v : Word), s.b.accepts m (P_ENG e + 0x088) = true →
    Gives (.engCntclr m e v) s fun t => t.cleared .eng (P_ENG e) v = true ∧ ∀ o, o / 0x1000 ≠ P_ENG e / 0x1000 →
    t.rd o = s.rd o) ∧
  (∀ (s : State) (m : Master) (st : Fin 4) (v : Word), s.b.accepts m (P_HTR st + 0x05C) = true →
    Gives (.htrCntclr m st v) s fun t => t.cleared .htr (P_HTR st) v = true ∧ ∀ o, o / 0x1000 ≠ P_HTR st / 0x1000 →
    t.rd o = s.rd o) ∧
  (∀ (s : State) (m : Master) (st : Fin 4) (v : Word), s.b.accepts m (P_CE st + 0x074) = true →
    Gives (.ceCntclr m st v) s fun t => t.cleared .ce (P_CE st) v = true ∧ ∀ o, o / 0x1000 ≠ P_CE st / 0x1000 →
    t.rd o = s.rd o) ∧
  (∀ (s : State) (m : Master) (st : Fin 4) (v : Word), s.b.accepts m (P_LDG st + 0x084) = true →
    Gives (.ldgCntclr m st v) s fun t => t.cleared .ldg (P_LDG st) v = true ∧ ∀ o, o / 0x1000 ≠ P_LDG st / 0x1000 →
    t.rd o = s.rd o) ∧
  (∀ (s : State) (m : Master) (st : Fin 4) (v : Word), s.b.accepts m (P_TLY st + 0x074) = true →
    Gives (.tlyCntclr m st v) s fun t => t.cleared .tly (P_TLY st) v = true ∧ ∀ o, o / 0x1000 ≠ P_TLY st / 0x1000 →
    t.rd o = s.rd o) ∧
  (∀ (s : State) (m : Master) (v : Word), s.b.accepts m (P_MNT + 0x048) = true →
    Gives (.mntCntclr m v) s fun t => t.cleared .mnt (P_MNT) v = true ∧ ∀ o, o / 0x1000 ≠ P_MNT / 0x1000 →
    t.rd o = s.rd o) ∧
  (∀ (s : State) (m : Master) (n : Fin 8) (v : Word), s.b.accepts m (P_DEN (64 + n) + 0x078) = true →
    Gives (.denCntclr m n v) s fun t => t.cleared .den (P_DEN (64 + n)) v = true ∧ ∀ o, o / 0x1000 ≠ P_DEN (64 + n)
      / 0x1000 →
    t.rd o = s.rd o) ∧
  (∀ (s : State) (m : Master) (st : Fin 4) (v : Word), s.b.accepts m (P_SEQ st + 0x064) = true →
    Gives (.seqCntclr m st v) s fun t => t.cleared .seq (P_SEQ st) v = true ∧ ∀ o, o / 0x1000 ≠ P_SEQ st / 0x1000 →
    t.rd o = s.rd o) ∧
  (∀ (s : State) (m : Master) (v : Word), s.b.accepts m (P_MSQ + 0x090) = true →
    Gives (.msqCntclr m v) s fun t => t.cleared .msq (P_MSQ) v = true ∧ ∀ o, o / 0x1000 ≠ P_MSQ / 0x1000 →
    t.rd o = s.rd o) ∧
  (∀ (s : State) (m : Master) (v : Word), s.b.accepts m (P_VEC + 0x058) = true →
    Gives (.vecCntclr m v) s fun t => t.cleared .vec (P_VEC) v = true ∧ ∀ o, o / 0x1000 ≠ P_VEC / 0x1000 →
    t.rd o = s.rd o) ∧
  (∀ (s : State) (m : Master) (st : Fin 4) (v : Word), s.b.accepts m (P_ASY st + 0x07C) = true →
    Gives (.asyCntclr m st v) s fun t => t.cleared .asy (P_ASY st) v = true ∧ ∀ o, o / 0x1000 ≠ P_ASY st / 0x1000 →
    t.rd o = s.rd o) ∧
  (∀ (s : State) (m : Master) (st : Fin 4) (v : Word), s.b.accepts m (P_PLT st + 0x058) = true →
    Gives (.pltCntclr m st v) s fun t => t.cleared .plt (P_PLT st) v = true ∧ ∀ o, o / 0x1000 ≠ P_PLT st / 0x1000 →
    t.rd o = s.rd o) ∧
  (∀ (s : State) (m : Master) (v : Word), s.b.accepts m (P_LNK + 0x05C) = true →
    Gives (.lnkCntclr m v) s fun t => t.cleared .lnk (P_LNK) v = true ∧ ∀ o, o / 0x1000 ≠ P_LNK / 0x1000 →
    t.rd o = s.rd o) ∧
  (∀ (s : State) (m : Master) (v : Word), s.b.accepts m (P_VYV + 0x09C) = true →
    Gives (.vyvCntclr m v) s fun t => t.cleared .vyv (P_VYV) v = true ∧ ∀ o, o / 0x1000 ≠ P_VYV / 0x1000 →
    t.rd o = s.rd o) ∧
  (∀ (s : State) (m : Master) (v : Word), s.b.accepts m (P_ROL + 0x064) = true →
    Gives (.rolCntclr m v) s fun t => t.cleared .rol (P_ROL) v = true ∧ ∀ o, o / 0x1000 ≠ P_ROL / 0x1000 →
    t.rd o = s.rd o) ∧
  (∀ (s : State) (m : Master) (v : Word), s.b.accepts m (P_HBM + 0x084) = true →
    Gives (.hbmCntclr m v) s fun t => t.cleared .hbm (P_HBM) v = true ∧ ∀ o, o / 0x1000 ≠ P_HBM / 0x1000 →
    t.rd o = s.rd o) ∧
  (∀ (s : State) (m : Master) (v : Word), s.b.accepts m (P_MBX + 0x05C) = true →
    Gives (.mbxCntclr m v) s fun t => t.cleared .mbx (P_MBX) v = true ∧ ∀ o, o / 0x1000 ≠ P_MBX / 0x1000 →
    t.rd o = s.rd o) ∧
  (∀ (s : State) (m : Master) (v : Word), s.b.accepts m (P_SMB + 0x054) = true →
    Gives (.smbCntclr m v) s fun t => t.cleared .smb (P_SMB) v = true ∧ ∀ o, o / 0x1000 ≠ P_SMB / 0x1000 →
    t.rd o = s.rd o) ∧
  (∀ (s : State) (m : Master) (v : Word), s.b.accepts m (P_GLB + 0x070) = true →
    Gives (.glbCntclr m v) s fun t => t.cleared .glb (P_GLB) v = true ∧ ∀ o, o / 0x1000 ≠ P_GLB / 0x1000 →
    t.rd o = s.rd o) ∧
  (∀ (s : State) (m : Master) (v : Word), s.b.accepts m (P_PWR + 0x06C) = true →
    Gives (.pwrCntclr m v) s fun t => t.cleared .pwr (P_PWR) v = true ∧ (v.getLsbD 0 = true →
    t.rdF PWR_VMEAS 16 10 = 0) ∧ ∀ o, o / 0x1000 ≠ P_PWR / 0x1000 → t.rd o = s.rd o) ∧
  (∀ (s : State) (m : Master) (v : Word), s.b.accepts m (P_CLK + 0x058) = true →
    Gives (.clkCntclr m v) s fun t => t.cleared .clk (P_CLK) v = true ∧ ∀ o, o / 0x1000 ≠ P_CLK / 0x1000 →
    t.rd o = s.rd o) ∧
  (∀ (s : State) (m : Master) (v : Word), s.b.accepts m (P_RST + 0x05C) = true →
    Gives (.rstCntclr m v) s fun t => t.cleared .rst (P_RST) v = true ∧ ∀ o, o / 0x1000 ≠ P_RST / 0x1000 →
    t.rd o = s.rd o) ∧
  (∀ (s : State) (m : Master) (v : Word), s.b.accepts m (P_THM + 0x070) = true →
    Gives (.thmCntclr m v) s fun t => t.cleared .thm (P_THM) v = true ∧ ∀ o, o / 0x1000 ≠ P_THM / 0x1000 →
    t.rd o = s.rd o) ∧
  (∀ (s : State) (m : Master) (v : Word), s.b.accepts m (P_HK + 0x090) = true →
    Gives (.hkCntclr m v) s fun t => t.cleared .hk (P_HK) v = true ∧ ∀ o, o / 0x1000 ≠ P_HK / 0x1000 →
    t.rd o = s.rd o) ∧
  (∀ (s : State) (m : Master) (v : Word), s.b.accepts m (P_LCO + 0x064) = true →
    Gives (.lcoCntclr m v) s fun t => t.cleared .lco (P_LCO) v = true ∧ ∀ o, o / 0x1000 ≠ P_LCO / 0x1000 →
    t.rd o = s.rd o) ∧
  (∀ (s : State) (m : Master) (v : Word), s.b.accepts m (P_DBK + 0x070) = true →
    Gives (.dbkCntclr m v) s fun t => t.cleared .dbk (P_DBK) v = true ∧ ∀ o, o / 0x1000 ≠ P_DBK / 0x1000 →
    t.rd o = s.rd o) ∧
  (∀ (s : State) (m : Master) (e : Fin 64) (v : Word), Gives (.engCntclr m e v) s fun t => Kept s t (cntRegs .eng
      (P_ENG e) v ++ accRegs (P_ENG e))) ∧
  (∀ (s : State) (m : Master) (st : Fin 4) (v : Word), Gives (.htrCntclr m st v) s fun t => Kept s t (cntRegs .htr
      (P_HTR st) v ++ accRegs (P_HTR st))) ∧
  (∀ (s : State) (m : Master) (st : Fin 4) (v : Word), Gives (.ceCntclr m st v) s fun t => (Kept s t (cntRegs .ce
      (P_CE st) v ++ accRegs (P_CE st)) (fun b c => { b with engs := c.engs, stks := c.stks })) ∧ (∀ k, stackOf k ≠ st →
    t.b.eng k = s.b.eng k) ∧ ∀ k, k ≠ st → t.b.stk k = s.b.stk k) ∧
  (∀ (s : State) (m : Master) (st : Fin 4) (v : Word), Gives (.ldgCntclr m st v) s fun t => Kept s t (cntRegs .ldg
      (P_LDG st) v ++ accRegs (P_LDG st))) ∧
  (∀ (s : State) (m : Master) (st : Fin 4) (v : Word), Gives (.tlyCntclr m st v) s fun t => Kept s t (cntRegs .tly
      (P_TLY st) v ++ accRegs (P_TLY st))) ∧
  (∀ (s : State) (m : Master) (v : Word), Gives (.mntCntclr m v) s fun t => Kept s t (cntRegs .mnt P_MNT v ++ accRegs
      P_MNT)) ∧
  (∀ (s : State) (m : Master) (n : Fin 8) (v : Word), Gives (.denCntclr m n v) s fun t => Kept s t (cntRegs .den
      (P_DEN (64 + n)) v ++ accRegs (P_DEN (64 + n)))) ∧
  (∀ (s : State) (m : Master) (st : Fin 4) (v : Word), Gives (.seqCntclr m st v) s fun t => Kept s t (cntRegs .seq
      (P_SEQ st) v ++ accRegs (P_SEQ st))) ∧
  (∀ (s : State) (m : Master) (v : Word), Gives (.msqCntclr m v) s fun t => Kept s t (cntRegs .msq P_MSQ v ++ accRegs
      P_MSQ)) ∧
  (∀ (s : State) (m : Master) (v : Word), Gives (.vecCntclr m v) s fun t => Kept s t (cntRegs .vec P_VEC v ++ accRegs
      P_VEC)) ∧
  (∀ (s : State) (m : Master) (st : Fin 4) (v : Word), Gives (.asyCntclr m st v) s fun t => (Kept s t (cntRegs .asy
      (P_ASY st) v ++ accRegs (P_ASY st)) (fun b c => { b with stks := c.stks })) ∧ ∀ k, k ≠ st →
    t.b.stk k = s.b.stk k) ∧
  (∀ (s : State) (m : Master) (st : Fin 4) (v : Word), Gives (.pltCntclr m st v) s fun t => Kept s t (cntRegs .plt
      (P_PLT st) v ++ accRegs (P_PLT st))) ∧
  (∀ (s : State) (m : Master) (v : Word), Gives (.lnkCntclr m v) s fun t => Kept s t (cntRegs .lnk P_LNK v ++ accRegs
      P_LNK)) ∧
  (∀ (s : State) (m : Master) (v : Word), Gives (.vyvCntclr m v) s fun t => Kept s t (cntRegs .vyv P_VYV v ++ accRegs
      P_VYV)) ∧
  (∀ (s : State) (m : Master) (v : Word), Gives (.rolCntclr m v) s fun t => Kept s t (cntRegs .rol P_ROL v ++ accRegs
      P_ROL)) ∧
  (∀ (s : State) (m : Master) (v : Word), Gives (.hbmCntclr m v) s fun t => Kept s t (cntRegs .hbm P_HBM v ++ accRegs
      P_HBM)) ∧
  (∀ (s : State) (m : Master) (v : Word), Gives (.mbxCntclr m v) s fun t => Kept s t (cntRegs .mbx P_MBX v ++ accRegs
      P_MBX)) ∧
  (∀ (s : State) (m : Master) (v : Word), Gives (.smbCntclr m v) s fun t => Kept s t (cntRegs .smb P_SMB v ++ accRegs
      P_SMB)) ∧
  (∀ (s : State) (m : Master) (v : Word), Gives (.glbCntclr m v) s fun t => Kept s t (cntRegs .glb P_GLB v ++ accRegs
      P_GLB)) ∧
  (∀ (s : State) (m : Master) (v : Word), Gives (.pwrCntclr m v) s fun t => Kept s t (PWR_VMEAS :: cntRegs .pwr P_PWR
      v ++ accRegs P_PWR) (fun b c => { b with hk := { b.hk with vclear := c.hk.vclear } })) ∧
  (∀ (s : State) (m : Master) (v : Word), Gives (.clkCntclr m v) s fun t => Kept s t (cntRegs .clk P_CLK v ++ accRegs
      P_CLK)) ∧
  (∀ (s : State) (m : Master) (v : Word), Gives (.rstCntclr m v) s fun t => Kept s t (cntRegs .rst P_RST v ++ accRegs
      P_RST)) ∧
  (∀ (s : State) (m : Master) (v : Word), Gives (.thmCntclr m v) s fun t => Kept s t (cntRegs .thm P_THM v ++ accRegs
      P_THM)) ∧
  (∀ (s : State) (m : Master) (v : Word), Gives (.hkCntclr m v) s fun t => Kept s t (cntRegs .hk P_HK v ++ accRegs P_HK)) ∧
  (∀ (s : State) (m : Master) (v : Word), Gives (.lcoCntclr m v) s fun t => Kept s t (cntRegs .lco P_LCO v ++ accRegs
      P_LCO)) ∧
  (∀ (s : State) (m : Master) (v : Word), Gives (.dbkCntclr m v) s fun t => Kept s t (cntRegs .dbk P_DBK v ++ accRegs
      P_DBK))

/-- Plate builds and the refresh scan. A START or a rebuild that is accepted while the builder of the stack is busy joins
its queue and shows BUSY; an abort ends a build with its error bit; a queued request is taken up; a finished build
waits for its swap in the background half; the refresh scan starts at row 0, writes row after row, and a load-mode
scan ends. -/
def Obligations.LoadsAndScans : Prop :=
  (∀ (s : State) (m : Master) (e : Fin 64) (v : Word) (ecc : Ecc), s.b.accepts m (ENG_LOAD_CTRL e) = true ∧ fld v 1 2 = 0 →
    s.rdB (ENG_STATE e) 4 = false ∧ (s.b.stk (stackOf e)).builder ≠ [] →
    (s.b.modState = stHold ∨ s.b.modState = stActive) ∧ s.rdB (ASG_STAT e) 1 = true →
    (s.b.stk (stackOf e)).cal = none →
    Gives (.engLoadStart m e v ecc) s fun t => (t.b.stk (stackOf e)).builder = (s.b.stk (stackOf e)).builder ++
      [e.val] ∧ (t.b.eng e).build.map (fun q => (q.rebuild, q.waiting)) = some (false, true) ∧ t.rdB (ENG_STATE e)
      4 = true) ∧
  (∀ (s : State) (m : Master) (e : Fin 64) (v : Word), s.b.accepts m (ENG_LOAD_CTRL e) = true ∧ fld v 0 1 = 0 ∧ fld v
      2 1 = 0 →
    s.rdB (ENG_STATE e) 4 = false ∧ (s.b.stk (stackOf e)).builder ≠ [] → s.rdB (ENG_STATE e) 2 = true →
    Gives (.engLoadRebuild m e v) s fun t => (t.b.stk (stackOf e)).builder = (s.b.stk (stackOf e)).builder ++
      [e.val] ∧ (t.b.eng e).build.map (fun q => (q.rebuild, q.waiting)) = some (true, true) ∧ t.rdB (ENG_STATE e) 4
      = true) ∧
  (∀ (s : State) (m : Master) (e : Fin 64) (v : Word), s.b.accepts m (ENG_LOAD_CTRL e) = true ∧ fld v 0 2 = 0 →
    s.rdB (ENG_STATE e) 4 = true →
    Gives (.engLoadAbort m e v) s fun t => (t.b.eng e).build = none ∧ t.rdB (ENG_STATE e) 4 = false ∧ t.rdB
      (ENG_LOAD_STAT e) 7 = true ∧ (t.b.eng e).fg = (s.b.eng e).fg) ∧
  (∀ (s : State) (st : Fin 4) (ecc : Ecc) (e : Fin 64) (q : Build), (s.b.stk st).builder.head? = some e.val ∧ stackOf
      e = st.val →
    (s.b.eng e).build = some q ∧ q.waiting = true ∧ s.b.host.rehash = none →
    Gives (.queuedBuildStart st ecc) s fun t => (t.b.eng e).build = none ∧ t.rdB (ENG_STATE e) 4 = false ∨ (t.b.eng
      e).build.map (·.waiting) = some false) ∧
  (∀ (s : State) (e : Fin 64) (q : Build), (s.b.eng e).build = some q ∧ q.waiting = false ∧ q.cal = false →
    (s.b.stk (stackOf e)).calDone = [] →
    Gives (.buildComplete e) s fun t => (t.b.eng e).bg = q.half ∧ (t.b.eng e).built = some q ∧ (t.b.eng e).build =
      none ∧ t.rdB (ENG_STATE e) 3 = true ∧ t.rdB (ENG_STATE e) 4 = false ∧ t.rdB (ENG_LOAD_STAT e) 1 = true) ∧
  (∀ (s : State) (e : Fin 64), s.rdB (ENG_STATE e) 5 = true ∧ 512 ≤ (s.b.eng e).scanNext →
    s.b.mintQ = [] →
    Gives (.loadModeScanComplete e) s fun t => t.rdB (ENG_STATE e) 5 = false ∧ t.rdF (ENG_SCAN e) 16 16 = (s.rdF
      (ENG_SCAN e) 16 16 + 1) % 65536) ∧
  (∀ (s : State) (e : Fin 64), s.b.modState = stHold ∨ s.b.modState = stActive →
    s.rdB (ENG_SCAN e) 9 = false ∧ ((s.b.eng e).search.any fun q => !q.waiting) = false →
    Gives (.refreshScanStart e) s fun t => t.rdB (ENG_SCAN e) 9 = true ∧ (t.b.eng e).scanNext = 0) ∧
  (∀ (s : State) (e : Fin 64) (ce : Nat) (ue : List (Fin 102)), s.rdB (ENG_SCAN e) 9 = true ∧ ((s.b.eng e).search.any fun q
      => !q.waiting) = false →
    (s.b.eng e).scanNext < 512 →
    Gives (.refreshRowWrite e ce ue) s fun t => (t.b.eng e).scanNext = (s.b.eng e).scanNext + 1 ∧ (t.b.eng
      e).oldRows = (s.b.eng e).oldRows.filter (· != (s.b.eng e).scanNext))

/-- Trims, output scale and the memory windows. Ring trims written by the host are in force at once in an engine without a
model, through the register and through the trim window; row and modulator trims and the output scale wait for the
boundary; a plate-window write reaches the pending scales, a Ledger-window write the Ledger while no frame runs. -/
def Obligations.TrimsAndWindows : Prop :=
  (∀ (s : State) (m : Master) (e : Fin 72) (v : Word), s.b.accepts m (TRM_RDATA e) = true →
    (s.rdF (TRM_RADDR e) 0 19) < ringsOf e ∧ s.b.trimsNow e = true → (s.b.stk (stackOf e)).cal = none →
    Gives (.trmRdataWrite m e v) s fun t => (t.b.eng e).trims.get (fun _ => 0) (s.rdF (TRM_RADDR e) 0 19) = (v &&&
      trimMask e).toNat) ∧
  (∀ (s : State) (m : Master) (e : Fin 72), s.b.answers m (TRM_RDATA e) = true →
    Gives (.trmRdataRead m e) s fun t => Output.data m [s.b.trimWord e (s.rdF (TRM_RADDR e) 0 19)] ∈ t.b.out) ∧
  (∀ (s : State) (m : Master) (e : Fin 72) (v : Word), s.b.accepts m (TRM_CTRL e) = true →
    Gives (.trmRowArm m e v) s fun t => t.rdB (TRM_CTRL e) 0 = true ∧ t.rdB (TRM_STAT e) 0 = true) ∧
  (∀ (s : State) (m : Master) (e : Fin 72) (v : Word), s.b.accepts m (TRM_CTRL e) = true →
    Gives (.trmModArm m e v) s fun t => t.rdB (TRM_CTRL e) 1 = true ∧ t.rdB (TRM_STAT e) 1 = true) ∧
  (∀ (s : State) (m : Master) (e : Fin 64) (v : Word), s.b.accepts m (ENG_OSCALE e) = true →
    Gives (.engOscaleWrite m e v) s fun t => t.rdF (ENG_OSCALE e) 0 2 = fld v 0 2 ∧ t.rdF (ENG_OSCALE e) 16 8 = fld
      v 16 8 ∧ t.rdF (ENG_OSCALE e) 8 5 = s.rdF (ENG_OSCALE e) 8 5 ∧ (t.b.eng e).rangeNew = true ∧ (t.b.eng
      e).range = (s.b.eng e).range) ∧
  (∀ (s : State) (m : Master) (a : Fin 524288) (v : Word) (e k : Nat), s.b.accepts m (0x1000000 + 4 * a) = true →
    s.b.target (0x1000000 + 4 * a) = .trim e k ∧ k / 4 < ringsOf e ∧ s.b.trimsNow e = true →
    (s.b.stk (stackOf e)).cal = none →
    Gives (.trimWindowWrite m a v) s fun t => (t.b.eng e).trims.get (fun _ => 0) (k / 4) = (v &&& trimMask e).toNat) ∧
  (∀ (s : State) (m : Master) (a : Fin 8388608) (v : Byte) (e k : Nat), s.b.accepts m (0x1800000 + a) = true →
    s.b.target (0x1800000 + a) = .plate e k ∧ 0x67000 ≤ k ∧ k < 0x68000 → s.rdB (ENG_STATE e) 4 = false →
    Gives (.plateWindowWrite m a [some v]) s fun t => (t.b.eng e).scaleP.get (fun _ => 0) (k - 0x67000) = v.toNat) ∧
  (∀ (s : State) (m : Master) (st : Fin 4) (a : Fin 8388608) (bytes : List (Option Byte)) (ecc : Ecc), s.b.accepts m
      (0x2000000 + 0x800000 * st + a) = true →
    s.b.frm = none → Gives (.ledgerWindowWrite m st a bytes ecc) s fun t => ∀ k v, bytes[k]? = some (some v) →
    a.val + k < 0x800000 → t.b.rdLed st (a + k) 1 = [v])

/-- Searches, replacements and the pending map. A START that is not refused begins a search; a waiting one is served,
sweeps its groups one after another and ends; an ABORT ends it; a replacement marks its ring failed in the pending
map; the pending map is written and read through ASG_DATA. -/
def Obligations.AssignmentSearch : Prop :=
  (∀ (s : State) (m : Master) (e : Fin 72) (v : Word), s.b.accepts m (ASG_CTRL e) = true ∧ fld v 3 2 = 0 →
    s.b.asgRefused e (some (fld v 1 2)) = false →
    Gives (.asgStart m e v) s fun t => (t.b.eng e).search.map (·.scope) = some (fld v 1 2) ∧ t.rdB (ASG_STAT e) 0 = true) ∧
  (∀ (s : State) (m : Master) (e : Fin 72) (v : Word), s.b.accepts m (ASG_CTRL e) = true ∧ v.getLsbD 0 = false ∧
      v.getLsbD 4 = false →
    s.b.asgRefused e none = false →
    Gives (.asgReplace m e v) s fun t => mRole (mapGet (t.b.eng e).mapP (ringIx e (s.rdF (ASG_TARGET e) 0 9) (s.rdF
      (ASG_TARGET e) 9 3) (s.rdF (ASG_TARGET e) 12 7))) = 2 ∧ t.rdB (ASG_STAT e) 3 = true) ∧
  (∀ (s : State) (m : Master) (e : Fin 72) (v : Word), s.b.accepts m (ASG_CTRL e) = true ∧ v.getLsbD 0 = false ∧
      v.getLsbD 3 = false →
    (s.b.eng e).search.isSome →
    s.b.mintQ = [] ∧ (s.b.eng (64 + 2 * stackOf e)).dyn.jobs = [] ∧ (s.b.eng (65 + 2 * stackOf
      e)).dyn.jobs = [] →
    Gives (.asgAbort m e v) s fun t => (t.b.eng e).search = none ∧ t.rdB (ASG_STAT e) 0 = false ∧ t.rdB (ASG_STAT
      e) 5 = true ∧ (t.b.eng e).mapP = (s.b.eng e).mapP) ∧
  (∀ (s : State) (e : Fin 72) (r : Search), (s.b.eng e).search = some r ∧ r.waiting = true ∧ r.startup = false →
    s.b.bankFree e = true →
    Gives (.searchStartAfterWait e) s fun t => (t.b.eng e).search = some { r with waiting := false, start := s.b.time }) ∧
  (∀ (s : State) (e : Fin 72) (r : Search) (g : Nat) (rest : List Nat), (s.b.eng e).search = some r ∧ r.waiting =
      false ∧ r.sweeping = none ∧ r.todo = g :: rest →
    ((sweepRegions e g).all fun q => s.b.lockSt e q == 3) = true ∧ (s.b.stk (stackOf e)).cal = none →
    Gives (.groupSweepBegin e) s fun t => (t.b.eng e).search = some { r with sweeping := some g, todo := rest }) ∧
  (∀ (s : State) (e : Fin 72) (peaks : List Peak) (r : Search) (g : Nat), (s.b.eng e).search = some r ∧
      r.sweeping = some g →
    Gives (.sweepEnd e peaks) s fun t => (t.b.eng e).search.map (fun r => (r.sweeping, r.swept, r.peaks)) = some
      (none, r.swept ++ [g], r.peaks ++ peaks.filter fun p => p.group == g)) ∧
  (∀ (s : State) (e : Fin 72) (fails : List (Nat × Nat)) (peaks : List Peak) (r : Search),
      (s.b.eng e).search = some r ∧ r.waiting = false ∧ r.sweeping = none ∧ r.todo = [] →
    s.b.mintQ = [] ∧ (s.b.eng (64 + 2 * stackOf e)).dyn.jobs = [] ∧ (s.b.eng (65 + 2 * stackOf
      e)).dyn.jobs = [] →
    Gives (.searchComplete e fails peaks) s fun t => (t.b.eng e).search = none ∧ t.rdB (ASG_STAT e) 0 = false
      ∧ t.rdB (ASG_STAT e) 3 = true) ∧
  (∀ (s : State) (m : Master) (e : Fin 72) (v : Word), s.b.accepts m (ASG_DATA e) = true →
    s.rdF (ASG_ADDR e) 0 19 < ringsOf e →
    Gives (.asgDataWrite m e v) s fun t => mapGet (t.b.eng e).mapP (s.rdF (ASG_ADDR e) 0 19) = v ∧ (t.b.eng e).mapF
      = (s.b.eng e).mapF) ∧
  (∀ (s : State) (m : Master) (e : Fin 72), s.b.answers m (ASG_DATA e) = true →
    Gives (.asgDataRead m e) s fun t => Output.data m [s.b.asgWord e] ∈ t.b.out)

/-- Region lock states. A wide acquisition that finds a peak goes to Verify, one that finds none counts an attempt and
after the last fails the region; a code check over the detector means that passes locks, or leaves a Locked region
Locked, and one that fails re-searches; Coast ends in Re-search, which goes to Verify at the nearest peak; excluded peaks
are forgotten; light that returns ends the dark flag. -/
def Obligations.RegionLock : Prop :=
  (∀ (s : State) (e : Fin 72) (q : Fin 64) (p h : Int) (kbias : Option (BitVec 16)), (regionsOf e).contains q.val =
      true ∧ s.b.lockSt e q = 1 →
    excluded (s.b.region e q) p = false ∧ -32768 ≤ p ∧ p ≤ 32767 ∧ 0 ≤ h ∧ h ≤ 32767 →
    Gives (.wideAcquisitionEnd e q (some (p, h)) kbias) s fun t => t.b.lockSt e q = 2 ∧ (t.b.region e q).uB = p ∧
      (t.b.region e q).uH = h) ∧
  (∀ (s : State) (e : Fin 72) (q : Fin 64), (regionsOf e).contains q.val = true ∧ s.b.lockSt e q = 1 →
    (s.b.region e q).wide + 1 < s.rdF (LCK_RETRY e) 0 4 →
    Gives (.acquireTimeout e q) s fun t => t.b.lockSt e q = 1 ∧ (t.b.region e q).wide = (s.b.region e q).wide + 1) ∧
  (∀ (s : State) (e : Fin 72) (q : Fin 64), (regionsOf e).contains q.val = true ∧ s.b.lockSt e q = 1 →
    s.rdF (LCK_RETRY e) 0 4 ≤ (s.b.region e q).wide + 1 → Gives (.acquireTimeout e q) s fun t => t.b.lockSt e q = 7) ∧
  (∀ (s : State) (e : Fin 72) (q : Fin 64), (regionsOf e).contains q.val = true ∧ s.b.lockSt e q = 2 →
    s.b.verifyLen e ≤ (s.b.region e q).means.length →
    (s.b.codeJudge e q (s.b.correlate ((s.b.region e q).window (s.b.verifyLen e))).1).1 = true →
    Gives (.verifyAttemptComplete e q) s fun t => t.b.lockSt e q = 3 ∧ t.rdB (LCK_R_STATE e q) 4 = false) ∧
  (∀ (s : State) (e : Fin 72) (q : Fin 64), (regionsOf e).contains q.val = true ∧ s.b.lockSt e q = 2 →
    s.b.verifyLen e ≤ (s.b.region e q).means.length →
    s.b.codeJudge e q (s.b.correlate ((s.b.region e q).window (s.b.verifyLen e))).1 = (false, true) →
    Gives (.verifyAttemptComplete e q) s fun t => t.b.lockSt e q = 6 ∧ t.rdB (LCK_R_STATE e q) 4 = true) ∧
  (∀ (s : State) (e : Fin 72) (q : Fin 64), (regionsOf e).contains q.val = true ∧ s.b.lockSt e q = 3 →
    1024 ≤ (s.b.region e q).means.length ∧ (s.b.stk (stackOf e)).cal = none →
    s.b.codeJudge e q (s.b.correlate ((s.b.region e q).window 1024)).1 = (false, true) →
    Gives (.correlationCheck e q) s fun t => t.b.lockSt e q = 6 ∧ t.rdB (LCK_R_STATE e q) 4 = true) ∧
  (∀ (s : State) (e : Fin 72) (q : Fin 64), (regionsOf e).contains q.val = true ∧ s.b.lockSt e q = 3 →
    1024 ≤ (s.b.region e q).means.length →
    (s.b.codeJudge e q (s.b.correlate ((s.b.region e q).window 1024)).1).1 = true →
    Gives (.correlationCheck e q) s fun t => t.b.lockSt e q = 3 ∧ (t.b.region e q).means = (s.b.region e q).means) ∧
  (∀ (s : State) (e : Fin 72) (q : Fin 64), (regionsOf e).contains q.val = true ∧ s.b.lockSt e q = 5 →
    s.rdB (LCK_R_STATE e q) 5 = false → Gives (.coastTimeout e q) s fun t => t.b.lockSt e q = 6) ∧
  (∀ (s : State) (e : Fin 72) (q : Fin 64) (peaks : List Int) (p : Int), (regionsOf e).contains q.val = true ∧
      s.b.lockSt e q = 6 →
    nearestPeak (s.b.region e q) peaks = some p →
    Gives (.reSearchComplete e q peaks) s fun t => t.b.lockSt e q = 2 ∧ (t.b.region e q).uB = p) ∧
  (∀ (s : State) (e : Fin 72) (q : Fin 64), (regionsOf e).contains q.val = true ∧ s.b.lockSt e q = 3 →
    Gives (.exclusionExpiry e q) s fun t => (t.b.region e q).excl = [] ∧ t.rdF (LCK_R_STATE e q) 8 3 = 0 ∧
      t.b.lockSt e q = 3) ∧
  (∀ (s : State) (fibre : Fin 16), Gives (.darkLightCheck fibre true) s fun t => ∀ p ∈ fibreRegions fibre, t.rdB
      (LCK_R_STATE p.1 p.2) 5 = false)

/-- Lock commands and heaters. RESEARCH, RELEASE and CLREXCL act on the region they name; the configuration and the
sentinel word are taken as written, and a region disabled is Off; the heater duties of a period are those asked for
while their current is within the limit; a heater hold that ends in Stow leaves no duty. -/
def Obligations.LockCommands : Prop :=
  (∀ (s : State) (m : Master) (e : Fin 72) (v : Word), s.b.accepts m (LCK_CMD e) = true ∧ v.getLsbD 11 = false ∧ fld v
      0 6 ∈ regionsOf e ∧ fld v 9 2 = 0 →
    (s.b.lockSt e (fld v 0 6) = 3 ∨ s.b.lockSt e (fld v 0 6) = 5) ∧ (s.b.stk (stackOf e)).cal = none →
    Gives (.lckResearch m e v) s fun t => t.b.lockSt e (fld v 0 6) = 6) ∧
  (∀ (s : State) (m : Master) (e : Fin 72) (v : Word), s.b.accepts m (LCK_CMD e) = true ∧ v.getLsbD 11 = false ∧ fld v
      0 6 ∈ regionsOf e ∧ v.getLsbD 8 = false ∧ v.getLsbD 10 = false →
    s.b.lockSt e (fld v 0 6) = 7 →
    Gives (.lckRelease m e v) s fun t => t.b.lockSt e (fld v 0 6) = 1 ∧ (t.b.region e (fld v 0 6)).wide = 0) ∧
  (∀ (s : State) (m : Master) (e : Fin 72) (v : Word), s.b.accepts m (LCK_CMD e) = true ∧ v.getLsbD 11 = false ∧ fld v
      0 6 ∈ regionsOf e ∧ fld v 8 2 = 0 →
    Gives (.lckClrexcl m e v) s fun t => (t.b.region e (fld v 0 6)).excl = [] ∧ t.b.lockSt e (fld v 0 6) =
      s.b.lockSt e (fld v 0 6)) ∧
  (∀ (s : State) (m : Master) (e : Fin 72) (q : Fin 64) (v : Word), s.b.accepts m (LCK_R_SWORD e q) = true →
    (regionsOf e).contains q.val = true →
    Gives (.lckRSwordWrite m e q v) s fun t => t.rd (LCK_R_SWORD e q) = v &&& 0x3FF0FFF) ∧
  (∀ (s : State) (m : Master) (e : Fin 72) (q : Fin 64) (v : Word), s.b.accepts m (LCK_R_CFG e q) = true →
    (regionsOf e).contains q.val = true ∧ (s.b.stk (stackOf e)).cal = none →
    Gives (.lckRCfgWrite m e q v) s fun t => t.rd (LCK_R_CFG e q) = v &&& 0xFF07 ∧ (v.getLsbD 0 = false →
    t.b.lockSt e q = 0)) ∧
  (∀ (s : State) (st : Fin 4), ((List.range 1032).map fun i => s.b.heaterDuty st i).foldl (· + ·) 0 * 33 ≤ (s.rd
      (HTR_ILIM st)).toNat * 655360 →
    Gives (.heaterPwmPeriod st) s fun t => (∃ ps, Output.pulses st ps ∈ t.b.out) ∧ t.rdB (HTR_STAT st) 0 = false ∧
      ∀ i : Fin 1032, t.rdF (HTR_DUTY st (i / 2)) (16 * (i % 2)) 16 = s.b.heaterDuty st i % 65536 ∧
      t.rdF (LCK_R_HEAT (loopOf st i).1 (loopOf st i).2) 0 16 = s.b.heaterDuty st i % 65536) ∧
  (∀ (s : State) (st : Fin 4), s.b.lit = false ∧ s.b.pw.startup = none →
    Gives (.heaterStowHoldExpiry st) s fun t => ∀ i : Fin 1032, (t.b.region (loopOf st i).1 (loopOf st i).2).duty =
      0 ∧ t.rdF (LCK_R_HEAT (loopOf st i).1 (loopOf st i).2) 0 16 = 0) ∧
  (∀ (s : State) (m : Master) (st : Fin 4) (v : Word), s.b.accepts m (HTR_TEST st) = true →
    Gives (.htrTestWrite m st v) s fun t => t.rd (HTR_TEST st) = v &&& 0xFFFF87FF)

/-- Loop samples and coefficient banks. A sample inside the rails of a loop in Verify or Locked is latched and the loop
keeps its state, and its region's temperature is shown; an overrun of a loaded lane counts, and a lane at 900 per mille
or less has none; an arm starts the check of its groups, a disarm ends it, and a check that ends leaves no group in
check; the slope table follows the tuning curve; a table write lands where CE_TADDR points or, in a bank that refuses it,
is counted, and a read answers the word there. -/
def Obligations.LoopsAndBanks : Prop :=
  (∀ (s : State) (st : Fin 4) (i : Fin 1032) (stream : List (BitVec 12)) (e q : Nat) (err : Int) (mean : Nat),
      loopOf st i = (e, q) →
    (s.b.lockSt e q = 2 ∨ s.b.lockSt e q = 3) ∧ (s.b.region e q).held = false →
    (s.b.measure e q stream).1 = (err, mean) →
    s.rdF (LCK_RAIL e) 0 12 < mean ∧ mean < s.rdF (LCK_RAIL e) 16 12 →
    lowVar (((s.b.region e q).errs ++ [err]).drop ((s.b.region e q).errs.length + 1 - 64)) (s.rd (LCK_VFLOOR
      e)).toNat = false →
    Gives (.loopSample st i stream) s fun t => (t.b.region e q).e = err ∧ (t.b.region e q).mean = mean ∧
      (t.b.region e q).means.getLast? = some (mean, chipAt s.b.time) ∧ t.b.lockSt e q = s.b.lockSt e q ∧
      t.rdB (LCK_R_STATE e q) 6 = false) ∧
  (∀ (s : State) (st : Fin 4) (i : Fin 1032) (stream : List (BitVec 12)) (e q : Nat), loopOf st i = (e, q) →
    Gives (.loopSample st i stream) s fun t => t.rdF (LCK_R_RTEMP e q) 0 16 = (s.rdF (THM_T (24 + 12 * st.val +
      (Config.nearestDiode (1032 * st + i)).val)) 0 16 + (Config.heaterRise (match s.b.inForce with
      | some x => x.prod.bytes | none => []) st i (BitVec.ofNat 16 (s.rdF (LCK_R_HEAT e q) 0 16))).toNat) % 65536) ∧
  (∀ (s : State) (st : Fin 4) (i : Fin 1032) (e q : Nat), loopOf st i = (e, q) →
    s.b.lockSt e q ≠ 0 ∧ (s.b.region e q).held = false →
    900 < (s.b.stk st).laneLoad (s.b.activeBank st) (laneOf i) →
    Gives (.loopOverrun st i) s fun t => (t.b.region e q).ovr = min ((s.b.region e q).ovr + 1) 65535 ∧ t.rdF
      (CE_OVR_TOTAL st) 0 32 = min (s.rdF (CE_OVR_TOTAL st) 0 32 + 1) (2 ^ 32 - 1) ∧ t.b.lockSt e q = s.b.lockSt e q) ∧
  (∀ (s : State) (st : Fin 4) (i : Fin 1032) (e q : Nat), loopOf st i = (e, q) →
    (s.b.stk st).laneLoad (s.b.activeBank st) (laneOf i) ≤ 900 →
    Gives (.loopOverrun st i) s fun t => (t.b.region e q).ovr = (s.b.region e q).ovr ∧
      t.rd (CE_OVR_TOTAL st) = s.rd (CE_OVR_TOTAL st)) ∧
  (∀ (s : State) (m : Master) (st : Fin 4) (v : Word), s.b.accepts m (CE_BANK_ARM st) = true → fld v 0 18 ≠ 0 →
    Gives (.ceBankArm m st v) s fun t => t.rd (CE_BANK_ARM st) = s.rd (CE_BANK_ARM st) ||| wd (fld v 0 18) ∧
      (t.b.stk st).checking = (s.b.stk st).checking ||| fld v 0 18 ∧ t.rdB (CE_BANK_STAT st) 0 = true) ∧
  (∀ (s : State) (m : Master) (st : Fin 4) (v : Word), s.b.accepts m (CE_BANK_DISARM st) = true →
    Gives (.ceBankDisarm m st v) s fun t => t.rd (CE_BANK_ARM st) = s.rd (CE_BANK_ARM st) &&& ~~~(wd (fld v 0 18))) ∧
  (∀ (s : State) (st : Fin 4), (s.b.stk st).checking ≠ 0 →
    Gives (.bankCheckComplete st) s fun t => (t.b.stk st).checking = 0 ∧ t.rdB (CE_BANK_STAT st) 0 = false) ∧
  (∀ (s : State) (st : Fin 4), Gives (.slopeTableRecompute st) s fun t => (t.b.stk st).slope = slopeOf (s.b.curveOf
      (PLT_CURVE st)) ∧ ∀ g : Fin 18, ∀ i : Fin 255, t.b.slopeFor st g i = s.b.slopeFor st g i) ∧
  (∀ (s : State) (m : Master) (st : Fin 4) (v : Word) (bank g : Nat) (loop : Option Nat), s.b.accepts m (CE_TDATA st)
      = true ∧ s.rdB (CE_TADDR st) 30 = false →
    bankAt (s.rdF (CE_TADDR st) 0 24 / 4 * 4) = some (bank, g, loop) ∧ s.b.bankRefuses st bank g = false →
    Gives (.ceTdataWrite m st v) s fun t => (t.b.stk st).tab (s.rdF (CE_TADDR st) 0 24 / 4 * 4) = v) ∧
  (∀ (s : State) (m : Master) (st : Fin 4) (v : Word) (bank g : Nat) (loop : Option Nat), s.b.accepts m (CE_TDATA st)
      = true →
    bankAt (s.rdF (CE_TADDR st) 0 24 / 4 * 4) = some (bank, g, loop) ∧ s.b.bankRefuses st bank g = true →
    Gives (.ceTdataWrite m st v) s fun t => (t.b.stk st).ceTab = (s.b.stk st).ceTab ∧ t.rdB (CE_BANK_STAT st) 7 =
      true ∧ t.rdF (CE_TREFCNT st) 0 32 = min (s.rdF (CE_TREFCNT st) 0 32 + 1) (2 ^ 32 - 1)) ∧
  (∀ (s : State) (m : Master) (st : Fin 4), s.b.answers m (CE_TDATA st) = true →
    Gives (.ceTdataRead m st) s fun t => Output.data m [s.b.tabRead st (s.rdF (CE_TADDR st) 0 24 / 4 * 4)] ∈ t.b.out)

/-- Trace buffers. ARM takes an Idle or Done buffer to Armed with an empty memory, FORCE an Armed one to Triggered, STOP
either to Done; a sample of an Armed buffer whose trigger does not fire is stored at the write pointer, which
advances; a Triggered buffer that has its samples is Done. -/
def Obligations.TraceBuffers : Prop :=
  (∀ (s : State) (m : Master) (st n : Fin 4) (v : Word), s.b.accepts m (CE_TRC_CTRL st n) = true ∧ v.getLsbD 5 = false
      ∧ v.getLsbD 6 = false →
    (s.rdF (CE_TRC_STAT st n) 0 2 = 0 ∨ s.rdF (CE_TRC_STAT st n) 0 2 = 3) ∧ s.rdF (CE_TRC_TRIG st n) 0 4 < 12 →
    Gives (.traceArm m st n v) s fun t => t.rd (CE_TRC_STAT st n) = wd (1 + 8 * s.rdF (CE_TRC_STAT st n) 3 1) ∧ (t.b.trace st n).mem = [] ∧ (t.b.trace st
      n).mode = v.getLsbD 0) ∧
  (∀ (s : State) (m : Master) (st n : Fin 4) (v : Word), s.b.accepts m (CE_TRC_CTRL st n) = true ∧ v.getLsbD 4 = false
      ∧ v.getLsbD 6 = false →
    s.rdF (CE_TRC_STAT st n) 0 2 = 1 →
    Gives (.traceForce m st n v) s fun t => t.rdF (CE_TRC_STAT st n) 0 2 = 2 ∧ (t.b.trace st n).left = s.rdF
      (CE_TRC_TRIG st n) 16 12 ∧ (t.b.trace st n).trigs = (s.b.trace st n).trigs + 1 ∧ t.rdF (CE_TRC_STAT st n) 4
      12 = s.rdF (CE_TRC_STAT st n) 16 12) ∧
  (∀ (s : State) (m : Master) (st n : Fin 4) (v : Word), s.b.accepts m (CE_TRC_CTRL st n) = true ∧ v.getLsbD 4 = false
      ∧ v.getLsbD 5 = false →
    (s.rdF (CE_TRC_STAT st n) 0 2 = 1 ∨ s.rdF (CE_TRC_STAT st n) 0 2 = 2) →
    Gives (.traceStop m st n v) s fun t => t.rdF (CE_TRC_STAT st n) 0 2 = 3 ∧ (t.b.trace st n).mem = (s.b.trace st
      n).mem) ∧
  (∀ (s : State) (st n : Fin 4), s.rdF (CE_TRC_STAT st n) 0 2 = 1 ∧ s.b.traceFires st n = false ∧ (s.b.trace st
      n).skip = 0 →
    Gives (.traceSample st n) s fun t => t.rdF (CE_TRC_STAT st n) 0 2 = 1 ∧ t.rdF (CE_TRC_STAT st n) 16 12 = (s.rdF
      (CE_TRC_STAT st n) 16 12 + 1) % 4096 ∧ (t.b.trace st n).skip = s.rdF (CE_TRC_TRIG st n) 8 8 ∧ (t.b.trace st
      n).mem.get (fun _ => 0) (s.rdF (CE_TRC_STAT st n) 16 12) = (List.range 4).foldl (fun a j => a + h16
      (s.b.nodeValue st (s.b.traceNode st n j)) * 2 ^ (16 * j)) 0) ∧
  (∀ (s : State) (st n : Fin 4), s.rdF (CE_TRC_STAT st n) 0 2 = 2 ∧ (s.b.trace st n).left = 0 →
    Gives (.tracePostComplete st n) s fun t => t.rdF (CE_TRC_STAT st n) 0 2 = 3 ∧ t.rdB (PG_ISTAT (P_CE st)) (4 +
      n) = true)

/-- The course of a calibration. A request or a temperature check makes regions due; the oldest due engine is calibrated
once a start condition holds; its decode, its probe points, whose codes enter the sums of their rows, a restart and the
retry move it on, the last point ending the hold; the hold limit abandons it; a backoff ends. -/
def Obligations.CalibrationCourse : Prop :=
  (∀ (s : State) (m : Master) (st : Fin 4) (v : Word), s.b.accepts m (ASY_REQ st) = true →
    fld v 0 5 ≤ 17 ∧ fld v 5 6 ∈ regionsOf (engAt st (fld v 0 5)) ∧ fld v 12 2 ≠ 3 →
    s.b.lockSt (engAt st (fld v 0 5)) (fld v 5 6) ≠ 0 ∧ s.b.lockSt (engAt st (fld v 0 5)) (fld v 5 6) ≠ 7 →
    Gives (.asyReq m st v) s fun t => (t.b.region (engAt st (fld v 0 5)) (fld v 5 6)).due.isSome = true ∨
      (t.b.region (engAt st (fld v 0 5)) (fld v 5 6)).dueNew.isSome = true) ∧
  (∀ (s : State) (st : Fin 4) (n : Fin 18) (q : Nat), s.b.lit = true ∧ s.rdB (ASY_CTRL st) 1 = true →
    q ∈ regionsOf (engAt st n) ∧ s.b.beyond (engAt st n) q = true →
    s.b.lockSt (engAt st n) q ≠ 0 ∧ s.b.lockSt (engAt st n) q ≠ 7 ∧ (s.b.region (engAt st n) q).backoff = false →
    (((s.b.stk st).cal.toList ++ (s.b.stk st).calDone).any fun c => c.eng == engAt st n && c.regions.contains q) = false →
    Gives (.calTempCheck st) s fun t => (t.b.region (engAt st n) q).due.isSome = true) ∧
  (∀ (s : State) (st : Fin 4) (e q : Nat) (since : BitVec 64), (s.b.stk st).cal = none ∧ s.b.lit = true ∧
      s.b.mionusRuns = true →
    s.b.calPick st = some (e, q, since) ∧ s.b.calReady st e since = true ∧ (s.b.eng e).rangeNew = false →
    Gives (.calibrationStart st) s fun t => (t.b.stk st).cal.map (fun c => (c.eng, c.first, c.attempt, c.hold)) =
      some (e, q, 1, false)) ∧
  (∀ (s : State) (st : Fin 4) (c : Cal), (s.b.stk st).cal = some c ∧ c.decoded = false →
    s.b.calUndecodable c = false →
    Gives (.calDecodeComplete st) s fun t => (t.b.stk st).decoding = false ∧ (t.b.stk st).cal.map (·.decoded) =
      some true) ∧
  (∀ (s : State) (st : Fin 4) (adc : List (List (BitVec 8))) (c : Cal), (s.b.stk st).cal = some c ∧ c.hold = true ∧
      c.broken = false →
    c.point + 1 < probePoints c.eng ∧ c.yields = false →
    Gives (.probePointComplete st adc) s fun t => ∃ acc, (t.b.stk st).cal = some
      { c with point := c.point + 1, acc := acc } ∧ ∀ (r : Fin (rowsOfEng c.eng)) (codes : List (BitVec 8)), adc[r.val]? = some codes →
    acc.get (fun _ => {}) (512 * (c.point / (probePoints c.eng / 2)) + r) = s.b.probeAcc c r (c.point % (probePoints
      c.eng / 2)) codes (c.acc.get (fun _ => {}) (512 * (c.point / (probePoints c.eng / 2)) + r))) ∧
  (∀ (s : State) (st : Fin 4) (adc : List (List (BitVec 8))) (c : Cal), (s.b.stk st).cal = some c ∧ c.hold = true ∧
      c.broken = false →
    probePoints c.eng ≤ c.point + 1 →
    s.b.mintQ = [] ∧ (s.b.eng (64 + 2 * st)).dyn.jobs = [] ∧ (s.b.eng (65 + 2 * st)).dyn.jobs = [] →
    Gives (.probePointComplete st adc) s fun t => (t.b.stk st).cal.map (fun c => (c.hold, c.fitting)) = some (false,
      true) ∧ ∀ q ∈ c.regions, (t.b.region c.eng q).held = false) ∧
  (∀ (s : State) (st : Fin 4) (c : Cal), (s.b.stk st).cal = some c ∧ c.hold = true ∧ c.broken = true →
    (s.b.eng c.eng).passes = [] ∧ (s.b.eng c.eng).dyn.jobs = [] →
    Gives (.probePointRestart st) s fun t => (t.b.stk st).cal = some { c with broken := false }) ∧
  (∀ (s : State) (st : Fin 4) (c : Cal), (s.b.stk st).cal = some c ∧ c.hold = true ∧ c.first < 64 ∧ c.scope < 3 →
    s.b.mintQ = [] ∧ (s.b.eng (64 + 2 * st)).dyn.jobs = [] ∧ (s.b.eng (65 + 2 * st)).dyn.jobs = [] →
    Gives (.calHoldLimit st) s fun t => (t.b.stk st).cal = none ∧ t.rdF (ASY_LAST st) 0 2 = 1 ∧ t.rdF (ASY_LAST st)
      20 4 = 2) ∧
  (∀ (s : State) (st : Fin 4) (c : Cal), (s.b.stk st).cal = some c ∧ c.retry = true →
    Gives (.calRetry st) s fun t => (t.b.stk st).cal.map (fun c => (c.retry, c.attempt)) = some (false, c.attempt)) ∧
  (∀ (s : State) (e : Fin 72) (q : Fin 64), Gives (.calBackoffExpiry e q) s fun t => (t.b.region e q).backoff = false
      ∧ (t.b.region e q).due = (s.b.region e q).due)

/-- The fit of a calibration. A pair of runs that agrees ends the calibration as accepted; one that disagrees with retries
left begins a further attempt; one that disagrees after the last abandons it with cause 1. -/
def Obligations.CalibrationFit : Prop :=
  (∀ (s : State) (st : Fin 4) (c : Cal), (s.b.stk st).cal = some c ∧ c.fitting = true ∧ s.b.mionusRuns = true →
    s.b.pairAgrees c (s.b.calFit c) = true →
    Gives (.calFitComplete st) s fun t => (t.b.stk st).cal = none ∧ t.rdF (ASY_LAST st) 0 2 = 0) ∧
  (∀ (s : State) (st : Fin 4) (c : Cal), (s.b.stk st).cal = some c ∧ c.fitting = true ∧ s.b.mionusRuns = true →
    s.b.pairAgrees c (s.b.calFit c) = false → c.attempt ≤ s.rdF (ASY_TOL st) 24 4 →
    Gives (.calFitComplete st) s fun t => (t.b.stk st).cal = some
      { c with attempt := c.attempt + 1, fitting := false, retry := true, acc := [] }) ∧
  (∀ (s : State) (st : Fin 4) (c : Cal), (s.b.stk st).cal = some c ∧ c.fitting = true ∧ s.b.mionusRuns = true →
    s.b.pairAgrees c (s.b.calFit c) = false ∧ c.first < 64 ∧ c.scope < 3 → s.rdF (ASY_TOL st) 24 4 < c.attempt →
    s.b.mintQ = [] ∧ (s.b.eng (64 + 2 * st)).dyn.jobs = [] ∧ (s.b.eng (65 + 2 * st)).dyn.jobs = [] →
    Gives (.calFitComplete st) s fun t => (t.b.stk st).cal = none ∧ t.rdF (ASY_LAST st) 0 2 = 1 ∧
      t.rdF (ASY_LAST st) 20 4 = 1)

/-- Assay samples, windows and the error budget. A live sample is queued, a queued one enters the window of its row, and a
full window is published; the readings, windows and totals of the error-budget register move as Mionus keeps them, and
a read of EBUD0 latches the words behind it; a read of the last sum word answers it; a curve that passes its checks is
armed. -/
def Obligations.AssaySamples : Prop :=
  (∀ (s : State) (e : Fin 72) (y : Sample) (rest : List Sample), (s.b.eng e).samples = y :: rest ∧ s.b.sampleSkipped e
      y.row = false →
    (s.b.stk (stackOf e)).asyQ.length < 32 →
    Gives (.assayLiveSample e) s fun t => (t.b.eng e).samples = rest ∧ (t.b.stk (stackOf e)).asyQ = (s.b.stk
      (stackOf e)).asyQ ++ [(slotOf e, y)]) ∧
  (∀ (s : State) (st : Fin 4) (slot : Nat) (y : Sample) (rest : List (Nat × Sample)) (v : Int), (s.b.stk st).asyQ =
      (slot, y) :: rest ∧ slot < 18 →
    (s.b.stk st).builder = [] ∧ y.exact = some v →
    Gives (.assaySampleDecode st) s fun t => (t.b.stk st).asyQ = rest ∧ (t.b.stk st).win.get (fun _ => {}) (512 *
      slot + y.row) = ((s.b.stk st).win.get (fun _ => {}) (512 * slot + y.row)).add (⟨v * 256, 2 ^ y.shift⟩ :
      Fr).rneInt y.m y.sat) ∧
  (∀ (s : State) (st : Fin 4) (slot : Fin 18) (row : Fin 512) (w : Sums), (s.b.stk st).win.get (fun _ => ({} : Sums))
      (512 * slot + row) = w →
    2 ^ s.rdF (ASY_CFG st) 8 5 ≤ w.n ∧ w.full = false →
    Gives (.assayWindowPublish st slot row) s fun t => (t.b.stk st).win.get (fun _ => {}) (512 * slot + row) = {} ∧
      ((t.b.stk st).pub.get (fun _ => {}) (512 * slot + row)).n = w.n ∧ ((t.b.stk st).pub.get (fun _ => {}) (512 *
      slot + row)).live = wd (pubRms ⟨w.see, w.n⟩ + pubMean ⟨w.se, w.n⟩ * 2 ^ 16)) ∧
  (∀ (s : State) (e : Fin 72), s.b.mionusRuns = true ∧ (s.b.eng e).ps = .run →
    s.b.lockSt e ((s.b.eng e).lkNext % (regionsOf e).length) = 3 ∧ (s.b.eng e).lkN + 1 < 4096 →
    Gives (.lockReading e) s fun t => (t.b.eng e).lkN = (s.b.eng e).lkN + 1 ∧ (t.b.eng e).lkNext = (s.b.eng
      e).lkNext % (regionsOf e).length + 1) ∧
  (∀ (s : State) (e : Fin 72), s.b.mionusRuns = true ∧ 64 ≤ (s.b.eng e).lkN →
    Gives (.lockWindowClose e) s fun t => t.rdB (ebud e 3) 25 = true ∧ t.rdF (ebud e 1) 0 16 = min (sqrtFr ⟨28224 *
      (s.b.eng e).lkSum, 1000000 * (s.b.eng e).lkN⟩) 65535 ∧ (t.b.eng e).lkN = 0) ∧
  (∀ (s : State) (e : Fin 72) (temp : BitVec 16), s.b.mionusRuns = true ∧ s.rdB (ebud e 3) 24 = true →
    Gives (.totalRecompute e temp) s fun t => t.rdF (ebud e 1) 16 16 = s.b.trimr e ∧ t.rdB (ebud e 3) 27 = decide
      ((if e.val < 64 then 393 else 492) < t.rdF (ebud e 3) 0 16)) ∧
  (∀ (s : State) (m : Master) (e : Fin 72), s.b.answers m (ebud e 0) = true →
    Gives (.ebud0Read m e) s fun t => Output.data m [s.rd (ebud e 0)] ∈ t.b.out ∧ ∀ i : Fin 4, 0 < i.val →
    t.b.ebudLatched e i = s.b.ebudNow e i) ∧
  (∀ (s : State) (m : Master) (st : Fin 4), s.b.answers m (ASY_R_SUM st 9) = true →
    Gives (.asyRSumRead m st) s fun t => Output.data m [s.b.asyRow st (fld (s.b.asySel m st false) 0 5) (fld
      (s.b.asySel m st false) 16 9) 0x0BC] ∈ t.b.out) ∧
  (∀ (s : State) (m : Master) (st : Fin 4), s.b.accepts m (PLT_CURVE_CTRL st) = true ∧ s.rdB (PLT_CURVE_CTRL st) 0 =
      false →
    s.b.curveBad st (s.b.curveOf (PLT_CURVE_P st)) = none →
    Gives (.pltCurveArm m st) s fun t => t.rdB (PLT_CURVE_CTRL st) 0 = true ∧ t.rdB (PLT_CURVE_STAT st) 0 = true)

/-- Lane faults, ports and steering. A lane fault is recorded with its cause; a port with a lost lane re-forms narrower or
goes down; its PCS brings it up; a HELLO that does not come ends the wait; WIDEN, RESTART and a new configuration stop
a port and give it the form it restarts with; a steer moves a lane to a free fibre pair and locks or faults. -/
def Obligations.LinksAndPorts : Prop :=
  (∀ (s : State) (l : Fin 32) (cause : Fin 4), s.rdB (LNK_L_STAT l) 3 = false ∧ s.b.domUp .link = true →
    (cause.val ≠ 2 ∨ s.b.laneInUse l = true) →
    Gives (.laneFault l cause) s fun t => t.rdB (LNK_L_STAT l) 3 = true ∧ t.rdF (LNK_L_STAT l) 4 3 = cause.val + 1
      ∧ t.rdB (LNK_L_STAT l) 2 = false ∧ t.rdB (PG_ISTAT P_LNK) 0 = true) ∧
  (∀ (s : State) (p : Fin 32) (f : Nat × Nat), s.rdB (LNK_P_STAT p) 0 = true ∧ s.b.laneLost p = true →
    s.rdB (LNK_P_STAT p) 3 = true ∧ s.rdB LNK_CTRL 1 = true ∧ cfgWidth (s.b.portCfg p) ≠ 0 →
    s.b.bestForm p (cfgWidth (s.b.portCfg p) - 1) = some f →
    Gives (.portReform p) s fun t => (t.b.port p).form = some f ∧ t.rdB (LNK_P_STAT p) 0 = false ∧ t.b.lnkF 0 =
      s.b.lnkF 0) ∧
  (∀ (s : State) (p : Fin 32), s.rdB (LNK_P_STAT p) 0 = true ∧ s.b.laneLost p = true →
    (s.rdB (LNK_P_STAT p) 3 = false ∨ s.rdB LNK_CTRL 1 = false) →
    Gives (.portDown p) s fun t => t.rdB (LNK_P_STAT p) 0 = false ∧ t.rdB (LNK_P_STAT p) 5 = true ∧ (t.b.port
      p).form = none ∧ t.rdB (PG_ISTAT P_LNK) 2 = true) ∧
  (∀ (s : State) (p : Fin 32) (k mask : Nat), (s.b.port p).form = some (k, mask) ∧ cfgEn (s.b.portCfg p) = true →
    s.rdB LNK_CTRL 0 = true ∧ s.b.domUp .link = true →
    k < 4 ∧ mask < 256 ∧ ((List.range 8).all fun i => !mask.testBit i || (decide (p.val + i < 32) && s.b.laneGood
      (p + i))) = true →
    Gives (.portUp p) s fun t => t.rdB (LNK_P_STAT p) 0 = true ∧ t.rdF (LNK_P_STAT p) 8 8 = mask ∧ (t.b.port
      p).form = none ∧ (t.b.port p).hello = bit (s.b.portCfg p) 3 ∧ t.rdB LNK_UP p = true) ∧
  (∀ (s : State) (p : Fin 32), (s.b.port p).hello = true →
    Gives (.helloTimeout p) s fun t => (t.b.port p).hello = false ∧ t.rd (LNK_P_STAT p) = s.rd (LNK_P_STAT p)) ∧
  (∀ (s : State) (m : Master) (p : Fin 32) (v : Word), s.b.accepts m (LNK_P_CMD p) = true ∧ v.getLsbD 1 = false →
    s.rdB (LNK_P_STAT p) 0 = true ∧ s.rdB (LNK_P_STAT p) 4 = true →
    Gives (.widen m p v) s fun t => (t.b.port p).form = s.b.bestForm p (cfgWidth (s.b.portCfg p)) ∧ t.rdB
      (LNK_P_STAT p) 0 = false) ∧
  (∀ (s : State) (m : Master) (p : Fin 32) (v : Word), s.b.accepts m (LNK_P_CMD p) = true ∧ v.getLsbD 0 = false →
    cfgEn (s.b.portCfg p) = true →
    Gives (.portRestart m p v) s fun t => (t.b.port p).form = some (cfgWidth (s.b.portCfg p), 2 ^ (2 ^ cfgWidth
      (s.b.portCfg p)) - 1) ∧ t.rdB (LNK_P_STAT p) 0 = false) ∧
  (∀ (s : State) (m : Master) (p : Fin 32) (v : Word), s.b.accepts m (LNK_P_CFG p) = true →
    ((List.range 32).all fun q => !cfgBad (fun q => if q = p.val then v &&& 0xFFF7001F else s.rd (LNK_P_CFG q)) q)
      = true →
    Gives (.lnkPCfgWrite m p v) s fun t => t.rd (LNK_P_CFG p) = v &&& 0xFFF7001F ∧ t.b.portCfg p = v &&& 0xFFF7001F) ∧
  (∀ (s : State) (m : Master) (v : Word), s.b.accepts m LNK_STEER = true ∧ s.b.vyv.steer = none →
    fld v 8 6 < 40 ∧ s.b.fibreUser (fld v 8 6) = none →
    Gives (.lnkSteer m v) s fun t => t.b.vyv.steer = some (fld v 0 5, s.rdF (LNK_L_FMAP (fld v 0 5)) 0 6, fld v 8
      6) ∧ t.rd (LNK_L_FMAP (fld v 0 5)) = wd (fld v 8 6) ∧ t.rdB (LNK_L_STAT (fld v 0 5)) 7 = true ∧ t.rdB
      LNK_STEER_STAT 0 = true) ∧
  (∀ (s : State) (lock : BitVec 32) (l old f : Nat), s.b.vyv.steer = some (l, old, f) ∧ l < 32 ∧ f < 40 →
    Gives (.steerDone lock) s fun t => t.b.vyv.steer = none ∧ t.rd (LNK_L_STAT l) = 3 ∧ t.rdB (LNK_F f) 8 = true ∧
      t.rdB LNK_STEER_STAT 1 = true ∧ t.rdF LNK_STEERCNT 0 32 = min (s.rdF LNK_STEERCNT 0 32 + 1) (2 ^ 32 - 1)) ∧
  (∀ (s : State) (l old f : Nat), s.b.vyv.steer = some (l, old, f) ∧ l < 32 →
    Gives (.steerTimeout) s fun t => t.b.vyv.steer = none ∧ t.rdB (LNK_L_STAT l) 3 = true ∧ t.rdF (LNK_L_STAT l) 4
      3 = 2 ∧ t.rdB LNK_STEER_STAT 2 = true)

/-- Requests and frames at a port. An ARP, neighbour or echo request for the own address of a port that is up is answered,
the first thousand in a second; a frame that is not for the port is counted as discarded. -/
def Obligations.PortTraffic : Prop :=
  (∀ (s : State) (p : Fin 32) (ip : Word), s.b.portUp p = true ∧ 0 < (s.b.port p).tokens → ip = s.rd (LNK_P_IPV4 p) →
    Gives (.arpRequest p ip) s fun t => Output.ethReply p 0 ∈ t.b.out) ∧
  (∀ (s : State) (p : Fin 32) (ip : List Word), s.b.portUp p = true ∧ 0 < (s.b.port p).tokens → s.b.isV6 p ip = true →
    Gives (.neighbourSolicitation p ip) s fun t => Output.ethReply p 1 ∈ t.b.out) ∧
  (∀ (s : State) (p : Fin 32) (v6 : Bool) (ip : List Word), s.b.portUp p = true ∧ 0 < (s.b.port p).tokens →
    (if v6 then s.b.isV6 p ip else ip == [s.rd (LNK_P_IPV4 p)]) = true →
    Gives (.echoRequest p v6 ip) s fun t => Output.ethReply p (if v6 then 3 else 2) ∈ t.b.out) ∧
  (∀ (s : State) (p : Fin 32), s.b.portUp p = true →
    Gives (.frameDiscard p) s fun t => t.rdF (LNK_P_RXDISC p) 0 32 = min (s.rdF (LNK_P_RXDISC p) 0 32 + 1) (2 ^ 32 - 1))

/-- Flow contexts, their records and their control messages. OPEN, CLOSE and ABORT act on the selected context; a word of
a FREE record is written; an idle context is freed; an unacknowledged message is sent again or fails its flow; a CE
mark is reported; the rate rises; a noted failure is sent. -/
def Obligations.FlowContexts : Prop :=
  (∀ (s : State) (m : Master) (v : Word), s.b.accepts m VYV_FCMD = true ∧ v.getLsbD 1 = false ∧ v.getLsbD 2 = false →
    (s.b.flow (s.rdF VYV_FSEL 0 12)).state = 0 ∧ (s.b.flow (s.rdF VYV_FSEL 0 12)).kind ≠ 1 →
    Gives (.flowOpen m v) s fun t => t.b.flowState (s.rdF VYV_FSEL 0 12) = 1 ∧ t.rdB VYV_FSTAT 0 = true) ∧
  (∀ (s : State) (m : Master) (v : Word), s.b.accepts m VYV_FCMD = true ∧ v.getLsbD 1 = false ∧ v.getLsbD 2 = false →
    (s.b.flow (s.rdF VYV_FSEL 0 12)).state = 0 ∧ (s.b.flow (s.rdF VYV_FSEL 0 12)).kind = 1 →
    ((s.b.flow (s.rdF VYV_FSEL 0 12)).members.any s.b.openUnicast) = true →
    Gives (.flowOpen m v) s fun t => t.b.flowState (s.rdF VYV_FSEL 0 12) = 2 ∧ t.rdB VYV_FSTAT 1 = true) ∧
  (∀ (s : State) (m : Master) (v : Word), s.b.accepts m VYV_FCMD = true ∧ v.getLsbD 0 = false ∧ v.getLsbD 2 = false →
    (s.b.flow (s.rdF VYV_FSEL 0 12)).state = 2 ∧ (s.b.flow (s.rdF VYV_FSEL 0 12)).kind ≠ 1 →
    Gives (.flowClose m v) s fun t => t.b.flowState (s.rdF VYV_FSEL 0 12) = 3 ∧ (t.b.flow (s.rdF VYV_FSEL 0
      12)).ctlTx = (s.b.flow (s.rdF VYV_FSEL 0 12)).ctlTx + 1 ∧ t.rdB VYV_FSTAT 0 = true) ∧
  (∀ (s : State) (m : Master) (v : Word), s.b.accepts m VYV_FCMD = true ∧ v.getLsbD 0 = false ∧ v.getLsbD 2 = false →
    ((s.b.flow (s.rdF VYV_FSEL 0 12)).state = 1 ∨ (s.b.flow (s.rdF VYV_FSEL 0 12)).state = 4 ∨ (s.b.flow (s.rdF
      VYV_FSEL 0 12)).state = 2 ∧ (s.b.flow (s.rdF VYV_FSEL 0 12)).kind = 1) →
    Gives (.flowClose m v) s fun t => t.b.flowState (s.rdF VYV_FSEL 0 12) = 0 ∧ t.rdB VYV_FSTAT 1 = true) ∧
  (∀ (s : State) (m : Master) (v : Word), s.b.accepts m VYV_FCMD = true ∧ v.getLsbD 0 = false ∧ v.getLsbD 1 = false →
    Gives (.flowAbort m v) s fun t => t.b.flowState (s.rdF VYV_FSEL 0 12) = 0 ∧ (t.b.flow (s.rdF VYV_FSEL 0
      12)).txSeq = (s.b.flow (s.rdF VYV_FSEL 0 12)).txSeq) ∧
  (∀ (s : State) (m : Master) (i : Fin 16) (v : Word), s.b.accepts m (VYV_FREC i) = true →
    (s.b.flow (s.rdF VYV_FSEL 0 12)).state = 0 ∧ i.val ≠ 0 ∧ frecMask (s.b.flow (s.rdF VYV_FSEL 0 12)).kind i ≠ 0 →
    Gives (.vyvFrecWrite m i v) s fun t => (t.b.flow (s.rdF VYV_FSEL 0 12)).w i = ((s.b.flow (s.rdF VYV_FSEL 0
      12)).w i &&& ~~~frecMask (s.b.flow (s.rdF VYV_FSEL 0 12)).kind i) ||| (v &&& frecMask (s.b.flow (s.rdF
      VYV_FSEL 0 12)).kind i)) ∧
  (∀ (s : State) (f : Fin 4096), (s.b.flow f).state ≠ 0 ∧ (s.b.flow f).kind ≠ 1 →
    fld ((s.b.flow f).w 7) 16 16 ≠ 0 ∧ s.b.rollFlow f = false →
    Gives (.flowIdleTimeout f) s fun t => t.b.flowState f = 0) ∧
  (∀ (s : State) (f : Fin 4096) (seq : BitVec 32) (c : Ctl), (s.b.flow f).out = [c] ∧ c.seq = seq →
    c.tries < s.rdF VYV_RTO 16 4 ∧ s.b.vyvOn = true →
    Gives (.controlRetransmit f seq) s fun t => (t.b.flow f).out = [{ c with tries := c.tries + 1 }] ∧ t.rdF
      VYV_RETXCNT 0 32 = min (s.rdF VYV_RETXCNT 0 32 + 1) (2 ^ 32 - 1)) ∧
  (∀ (s : State) (f : Fin 4096), ((s.b.flow f).out.any fun c => decide (s.rdF VYV_RTO 16 4 ≤ c.tries)) = true →
    Gives (.flowFailed f) s fun t => t.b.flowState f = 4 ∧ (t.b.flow f).out = [] ∧ (t.b.flow f).waitQ = [] ∧ t.rdB
      (PG_ISTAT P_VYV) 1 = true) ∧
  (∀ (s : State) (f : Fin 4096), (s.b.flow f).ce = true ∧ s.b.flowState f = 2 →
    s.b.vyvOn = true ∧ s.b.portUp (s.b.flow f).port = true →
    Gives (.eceAckTimeout f) s fun t => (t.b.flow f).ce = false ∧ t.b.flowState f = 2) ∧
  (∀ (s : State) (f : Fin 4096), (s.b.flow f).state = 2 ∧ (s.b.flow f).kind ≠ 1 ∧ s.b.eceRecent (s.b.flow f) =
      false →
    Gives (.rateIncrease f) s fun t => (t.b.flow f).w 15 = wd (min (fld ((s.b.flow f).w 15) 0 16 + s.rdF VYV_ECNAI
      0 8) (max (s.b.portRate (s.b.flow f).port) (fld ((s.b.flow f).w 15) 0 16)))) ∧
  (∀ (s : State) (f : Fin 4096) (x : FaultN), s.b.vyv.faults.find? (fun x => x.flow == f.val) = some x ∧ s.b.flowState
      f = 2 →
    Gives (.faultSend f) s fun t => t.b.vyv.faults = s.b.vyv.faults.erase x ∧ t.rdF VYV_FAULTTX 0 32 = min (s.rdF
      VYV_FAULTTX 0 32 + 1) (2 ^ 32 - 1) ∧ (t.b.flow f).ctlTx = (s.b.flow f).ctlTx + 1)

/-- Tensor sends and receives of a frame. VSEND sends its data as WRITEs numbered on the flow, or one START with STREC;
VRECV opens a receive buffer, whose wait ends with every byte that is missing written 0; a hop whose tile has closed
leaves for its stack. -/
def Obligations.NetworkDescriptors : Prop :=
  (∀ (s : State) (idx : Nat) (d : Desc) (ecc : Ecc), s.b.takes idx d 0x38 false [0x10FFF, mLo, mHi, 0x1FFFFFF, mLo,
      0xFFFF] = true ∧ dB d 1 16 = false →
    s.b.flowState (dF d 1 0 12) = 2 ∧ (s.b.flow (dF d 1 0 12)).kind ≠ 1 ∧ (opSpan s.b.grade (dAddr d 2) (dF d 4 0 25)).isNone
      = true →
    Gives (.dVsend idx d ecc) s fun t => (t.b.flow (dF d 1 0 12)).txSeq = (s.b.flow (dF d 1 0 12)).txSeq +
      BitVec.ofNat 32 ((dF d 4 0 25 + 8191) / 8192) ∧ t.hasReached idx = true ∧ t.nrej = s.nrej) ∧
  (∀ (s : State) (idx : Nat) (d : Desc) (ecc : Ecc), s.b.takes idx d 0x38 false [0x10FFF, mLo, mHi, 0x1FFFFFF, mLo,
      0xFFFF] = true ∧ dB d 1 16 = true ∧ dF d 4 0 25 = 32 →
    s.b.flowState (dF d 1 0 12) = 2 ∧ (s.b.flow (dF d 1 0 12)).kind ≠ 1 ∧ (opSpan s.b.grade (dAddr d 2) (dF d 4 0 25)).isNone
      = true →
    Gives (.dVsendStartRecord idx d ecc) s fun t => (t.b.flow (dF d 1 0 12)).ctlTx = (s.b.flow (dF d 1 0 12)).ctlTx
      + 1 ∧ (t.b.flow (dF d 1 0 12)).txSeq = (s.b.flow (dF d 1 0 12)).txSeq ∧ t.hasReached idx = true ∧ t.nrej = s.nrej) ∧
  (∀ (s : State) (idx : Nat) (d : Desc) (f : Frame), s.b.frm = some f ∧ s.b.takes idx d 0x39 false [0xFFF, mLo, mHi,
      0x1FFFFFF, mLo] = true →
    s.b.flowState (dF d 1 0 12) = 2 ∧ (s.b.flow (dF d 1 0 12)).kind ≠ 1 ∧ (opSpan s.b.grade (dAddr d 2) (dF d 4 0 25)).isNone
      = true ∧ dF d 4 0 25 ≠ 0 →
    s.b.vyv.held = [] ∧ s.b.pw.drain = false ∧ f.mq = [] →
    Gives (.dVrecv idx d) s fun t => t.b.frm.map (·.vrecvs) = some (f.vrecvs ++
      [{ idx := idx, flow := dF d 1 0 12, rtag := dF d 5 0 16, dst := dAddr d 2, len := dF d 4 0 25, spans := [], done := false }]) ∧ t.nrej = s.nrej) ∧
  (∀ (s : State) (idx : Nat) (f : Frame) (v : Vrecv), s.b.frm = some f ∧ f.vrecvs = [v] ∧ f.mq = [] →
    v.idx = idx ∧ v.done = false →
    Gives (.vrecvWaitExpiry idx) s fun t => t.b.frm.map (·.vrecvs) = some [{ v with done := true }] ∧ ∀ o : Fin
      v.len, v.missing o = true →
    t.b.rd8 (v.dst + o) = 0) ∧
  (∀ (s : State) (st : Fin 4) (hop : Nat) (h : Hop) (trec : List Word) (bytes : List Byte) (flags : Nat), (s.b.stk
      st).hopQ = [h] ∧ h.idx = hop →
    h.ready = some (trec, bytes, flags) ∧ h.remote = false →
    Gives (.tallyHopForward st hop) s fun t => (t.b.stk st).hopQ = [] ∧ (t.b.stk st).fly = (s.b.stk st).fly ++
      [⟨hop, h.dstk, h.dslot, h.dtag, trec, bytes, flags, h.link⟩] ∧ t.rdF (TLY_HOPTX st) 0 32 = min (s.rdF (TLY_HOPTX st)
      0 32 + 1) (2 ^ 32 - 1))

/-- Flow handshakes received. An OPEN of a peer whose context is OPENING, or for which a context is FREE, opens it;
OPEN_OK opens an OPENING context and NO_CONTEXT fails it; CLOSE starts the close of an OPEN one, CLOSE_OK ends the
close of a CLOSING one. -/
def Obligations.FlowHandshakes : Prop :=
  (∀ (s : State) (a : Arrival) (m : Msg) (f : Fin 4096), s.b.admits a m 2 tOPEN = true →
    s.b.flowState f = 1 ∧ (s.b.flow f).kind = 0 ∧ (s.b.flow f).peer = m.spath ∧ fld ((s.b.flow f).w 6) 0 16 =
      a.sport.toNat →
    ∀ g : Fin f, s.b.flowState g ≠ 1 →
    Gives (.rxOpen a m) s fun t => t.b.flowState f = 2 ∧ (t.b.flow f).peerFlow = be m.payload 0 2 % 4096 ∧ t.rdB
      VYV_FSTAT 1 = true) ∧
  (∀ (s : State) (a : Arrival) (m : Msg) (f : Fin 4096), s.b.admits a m 2 tOPEN = true ∧ m.flags.testBit 2 = false →
    s.b.flowState f = 0 ∧ (s.b.vyv.flows.all fun q => q.2.state != 1) = true ∧ ∀ g : Fin f, s.b.flowState g ≠ 0 →
    Gives (.rxOpen a m) s fun t => t.b.flowState f = 2 ∧ (t.b.flow f).peer = m.spath ∧ (t.b.flow f).peerFlow = be
      m.payload 0 2 % 4096 ∧ (t.b.flow f).w 7 = s.rd VYV_FDEF) ∧
  (∀ (s : State) (a : Arrival) (m : Msg) (f : Nat), s.b.admits a m 2 tOPENOK = true ∧ m.dflow = f →
    f < 4096 ∧ s.b.flowState f = 1 →
    Gives (.rxOpenOk a m) s fun t => t.b.flowState f = 2 ∧ (t.b.flow f).peerFlow = be m.payload 0 2 % 4096 ∧
      (t.b.flow f).out = []) ∧
  (∀ (s : State) (a : Arrival) (m : Msg) (f : Nat), s.b.admits a m 2 tNOCTX = true ∧ m.dflow = f →
    f < 4096 ∧ s.b.flowState f = 1 →
    Gives (.rxNoContext a m) s fun t => t.b.flowState f = 4 ∧ (t.b.flow f).out = [] ∧ t.rdB VYV_FSTAT 2 = true ∧
      t.rdF VYV_FSTAT 4 4 = 2) ∧
  (∀ (s : State) (a : Arrival) (m : Msg) (f : Nat), s.b.inOrder a m tCLOSE f = true → s.b.flowState f = 2 →
    Gives (.rxClose a m) s fun t => t.b.flowState f = 3 ∧ (t.b.flow f).bye = true ∧ (t.b.flow f).ctlRx = m.seq) ∧
  (∀ (s : State) (a : Arrival) (m : Msg) (f : Nat), s.b.inOrder a m tCLOSEOK f = true →
    s.b.flowState f = 3 ∧ (s.b.flow f).bye = false →
    Gives (.rxCloseOk a m) s fun t => t.b.flowState f = 0 ∧ t.rdB VYV_FSTAT 1 = true)

/-- Tensor messages received. A WRITE for the receive buffer of its tag in the current frame is placed there; a WRITE or
tally message of a later frame is kept in its flow’s receive space while that has room; either moves the sequence of
its flow on. -/
def Obligations.TensorArrivals : Prop :=
  (∀ (s : State) (a : Arrival) (m : Msg) (f : Nat) (v : Vrecv), s.b.admits a m 1 tWRITE = true ∧ m.dflow = f ∧ f <
      4096 ∧ (m.seq - (s.b.flow f).rxSeq).toNat < 2 ^ 31 ∧ s.b.frameRel m.frame = 1 →
    s.b.vrecvFor f (be m.payload 0 2) = some v ∧ v.done = false →
    s.b.frm.map (·.mq) = some [] ∧ be m.payload 4 4 + (m.payload.drop 16).length ≤ v.len ∧ v.overlaps (be m.payload
      4 4) (m.payload.drop 16).length = false →
    Gives (.rxWrite a m) s fun t => (t.b.flow f).rxSeq = m.seq + 1 ∧ ∀ i : Fin (m.payload.drop 16).length, t.b.rd8
      (v.dst + be m.payload 4 4 + i) = (m.payload.drop 16)[i]) ∧
  (∀ (s : State) (a : Arrival) (m : Msg) (f : Nat), s.b.admits a m 1 tWRITE = true ∧ m.dflow = f ∧ f < 4096 ∧ (m.seq -
      (s.b.flow f).rxSeq).toNat < 2 ^ 31 ∧ s.b.frameRel m.frame = 2 →
    (((s.b.vyv.held.filter fun g => g.flow == f).map (·.size)).foldl (· + ·) 0) + m.payload.length ≤ fld ((s.b.flow
      f).w 7) 0 16 * 1024 →
    ((s.b.vyv.held.map (·.size)).foldl (· + ·) 0) + m.payload.length ≤ s.rdF VYV_RXSIZE 0 11 * 2 ^ 20 →
    (s.rd VYV_RXBASE_LO).toNat + s.rdF VYV_RXBASE_HI 0 5 * 2 ^ 32 + s.rdF VYV_RXSIZE 0 11 * 2 ^ 20 ≤ s.b.grade.bytes →
    Gives (.rxWrite a m) s fun t => (t.b.flow f).rxSeq = m.seq + 1 ∧ t.b.vyv.held = s.b.vyv.held ++ [⟨f, m.frame,
      m.seq, m.payload.length, some (be m.payload 0 2, be m.payload 4 4, m.payload.drop 16), none⟩]) ∧
  (∀ (s : State) (a : Arrival) (m : Msg) (f : Nat), s.b.admits a m 1 tTALLY = true ∧ m.dflow = f ∧ f < 4096 ∧ (m.seq -
      (s.b.flow f).rxSeq).toNat < 2 ^ 31 ∧ s.b.frameRel m.frame = 2 →
    (((s.b.vyv.held.filter fun g => g.flow == f).map (·.size)).foldl (· + ·) 0) + m.payload.length ≤ fld ((s.b.flow
      f).w 7) 0 16 * 1024 →
    ((s.b.vyv.held.map (·.size)).foldl (· + ·) 0) + m.payload.length ≤ s.rdF VYV_RXSIZE 0 11 * 2 ^ 20 →
    (s.rd VYV_RXBASE_LO).toNat + s.rdF VYV_RXBASE_HI 0 5 * 2 ^ 32 + s.rdF VYV_RXSIZE 0 11 * 2 ^ 20 ≤ s.b.grade.bytes →
    Gives (.rxTally a m) s fun t => (t.b.flow f).rxSeq = m.seq + 1 ∧ t.b.vyv.held.length = s.b.vyv.held.length + 1
      ∧ ∀ h ∈ t.b.vyv.held, h ∈ s.b.vyv.held ∨ h.flow = f ∧ h.frame = m.frame ∧ h.tally.isSome = true)

/-- Control messages received. An ACK releases what it covers; an ERROR changes no context; a FAULT is counted; a START
record is queued as a pushed one is; a register request is answered on the flow, a REG_RSP only acknowledged; a HELLO
with the same lanes confirms the peer; a heartbeat tells of its member. -/
def Obligations.ControlArrivals : Prop :=
  (∀ (s : State) (a : Arrival) (m : Msg) (f : Nat), s.b.admits a m 2 tACK = true ∧ m.dflow = f ∧ f < 4096 →
    (s.b.flow f).bye = false ∧ (s.b.flow f).waitQ = [] →
    Gives (.rxAck a m) s fun t => (t.b.flow f).out = (s.b.flow f).out.filter fun c => c.seq == 0 || seqGT c.seq
      (BitVec.ofNat 32 (be m.payload 0 4))) ∧
  (∀ (s : State) (a : Arrival) (m : Msg) (f : Nat), s.b.admits a m 2 tERROR = true →
    Gives (.rxError a m) s fun t => (t.b.flow f).out = (s.b.flow f).out ∧ (t.b.flow f).ctlRx = (s.b.flow f).ctlRx ∧
      t.b.flowState f = s.b.flowState f) ∧
  (∀ (s : State) (a : Arrival) (m : Msg) (f : Nat), s.b.inOrder a m tFAULT f = true →
    Gives (.rxFault a m) s fun t => (t.b.flow f).ctlRx = m.seq ∧ t.rdF VYV_FAULTRX 0 32 = min (s.rdF VYV_FAULTRX 0
      32 + 1) (2 ^ 32 - 1) ∧ t.rdB (PG_ISTAT P_VYV) 3 = true) ∧
  (∀ (s : State) (a : Arrival) (m : Msg) (f : Nat) (r : Start), s.b.inOrder a m tSTART f = true ∧ rollLevel m.dpath = 0 →
    s.b.startQ.length < 8 ∧ startOf (wordsLE 8 m.payload) = some r →
    s.b.refuses = false ∧ (s.b.lastId.all fun l => seqGT r.frame l) = true →
    Gives (.rxStart a m) s fun t => (t.b.flow f).ctlRx = m.seq ∧ t.b.startQ = s.b.startQ ++ [r]) ∧
  (∀ (s : State) (a : Arrival) (m : Msg) (f : Nat) (ecc : Ecc), s.b.inOrder a m tREGWR f = true ∧ (s.b.flow f).waitQ =
      [] ∧ (s.b.flow f).out.length < 64 ∧ s.b.flowState f ≠ 0 →
    be m.payload 0 4 = LNK_SERTHR ∧ be m.payload 4 2 = 1 ∧ m.payload.length = 12 →
    s.b.accepts .vyv LNK_SERTHR = true →
    Gives (.rxRegWr a m ecc) s fun t => (t.b.flow f).ctlRx = m.seq ∧ t.rd LNK_SERTHR = (plainReg LNK_SERTHR
      ((wordsLE 1 (m.payload.drop 8)).headD 0) s.b).1.rd LNK_SERTHR ∧ (t.b.flow f).out.length = (s.b.flow
      f).out.length + 1) ∧
  (∀ (s : State) (a : Arrival) (m : Msg) (ecc : Ecc) (f : Nat), s.b.inOrder a m tREGRD f = true ∧ (s.b.flow f).waitQ = [] ∧
      (s.b.flow f).out.length < 64 ∧ s.b.flowState f ≠ 0 →
    be m.payload 0 4 = LNK_SERTHR ∧ be m.payload 4 2 = 1 → s.b.answers .vyv LNK_SERTHR = true →
    Gives (.rxRegRd a m ecc) s fun t => (t.b.flow f).ctlRx = m.seq ∧ (t.b.flow f).out.map (·.msg.payload) = (s.b.flow
      f).out.map (·.msg.payload) ++ [[0, 0, 0, 0] ++ bytesBE 4 LNK_SERTHR ++ [0, 1, 0, 0] ++ bytesLE 4 (s.rd
      LNK_SERTHR).toNat]) ∧
  (∀ (s : State) (a : Arrival) (m : Msg) (f : Nat), s.b.inOrder a m tREGRSP f = true →
    Gives (.rxRegRsp a m) s fun t => (t.b.flow f).ctlRx = m.seq ∧ (t.b.flow f).out = (s.b.flow f).out) ∧
  (∀ (s : State) (a : Arrival) (m : Msg), s.b.admits a m 2 tHELLO = true →
    s.rdF (LNK_P_STAT a.port) 8 8 = be m.payload 9 1 →
    (s.b.port a.port).hello = true ∧ bit (s.b.portCfg a.port) 3 = true →
    Gives (.rxHello a m) s fun t => t.rdB (LNK_P_STAT a.port) 3 = true ∧ (t.b.port a.port).hello = false) ∧
  (∀ (s : State) (a : Arrival) (m : Msg), s.b.admits a m 3 tHB = true →
    s.b.rollLevels.contains (be m.payload 8 1) = true ∧ (be m.payload 9 1) ≠ s.b.ownIx (be m.payload 8 1) →
    seqGT m.epoch (s.b.epochAt (be m.payload 8 1)) = false →
    Gives (.rxHb a m) s fun t => (t.b.heard (be m.payload 8 1) (be m.payload 9 1)).alive = true ∧ (t.b.heard (be
      m.payload 8 1) (be m.payload 9 1)).serial = some (BitVec.ofNat 64 (be m.payload 0 8)) ∧ (t.b.heard (be
      m.payload 8 1) (be m.payload 9 1)).fresh = true)

/-- Rolls: heartbeats, decisions, views and joining. Heartbeats are numbered; a missed member is taken as not heard and
its level decides; a level whose heard members are its majority goes on with them under the next epoch when its face
is among them as the lowest, else it is Held; a Held member heard long enough, a JOIN and FORCE bring a new view; a
later VIEW is adopted; JOIN is sent on the flow of the face; ROL_CTRL starts the roll. -/
def Obligations.RollViews : Prop :=
  (∀ (s : State), (s.b.rollLevels.any fun l => s.b.partakes l) = true ∧ s.b.vyvOn = true →
    Gives (.heartbeatSend) s fun t => t.b.vyv.hb = s.b.vyv.hb + 1 ∧ ∀ l j : Nat, (t.b.heard l j).fresh = false) ∧
  (∀ (s : State) (l : Fin 4) (j : Fin 256), s.b.partakes (l + 1) = true ∧ s.b.inView (l + 1) j = true ∧ j.val ≠
      s.b.ownIx (l + 1) →
    (s.b.heard (l + 1) j).alive = true ∧ s.b.heldAt (l + 1) = false →
    Gives (.memberMissed l j) s fun t => (t.b.heard (l + 1) j).alive = false ∧ t.b.rol.decide.contains (l + 1) =
      true ∧ t.rdF (ROL_L_MISSCNT l) 0 32 = min (s.rdF (ROL_L_MISSCNT l) 0 32 + 1) (2 ^ 32 - 1)) ∧
  (∀ (s : State) (l : Fin 4), s.b.partakes (l + 1) = true ∧ s.b.heldAt (l + 1) = false ∧ s.b.rol.decide.contains
      (l.val + 1) = true →
    s.b.majority (l + 1) = true ∧ s.b.lowest (l + 1) (s.b.half (l + 1)) = s.b.ownIx (l + 1) →
    Gives (.rollDecide l) s fun t => t.b.epochAt (l + 1) = s.b.epochAt (l + 1) + 1 ∧ t.b.view (l + 1) = s.b.half (l + 1)) ∧
  (∀ (s : State) (l : Fin 4), s.b.partakes (l + 1) = true ∧ s.b.heldAt (l + 1) = false ∧ s.b.rol.decide.contains
      (l.val + 1) = true →
    s.b.majority (l + 1) = false →
    Gives (.rollDecide l) s fun t => t.b.heldAt (l + 1) = true ∧ t.rdB ROL_STAT 0 = true) ∧
  (∀ (s : State) (l : Fin 4), s.b.partakes (l + 1) = true ∧ s.b.heldAt (l + 1) = false ∧ s.b.rol.wait.contains (l.val
      + 1) = true →
    s.b.majority (l + 1) = true ∧ s.b.lowest (l + 1) (s.b.half (l + 1)) = s.b.ownIx (l + 1) →
    Gives (.viewWaitExpiry l) s fun t => t.b.epochAt (l + 1) = s.b.epochAt (l + 1) + 1 ∧ t.b.view (l + 1) =
      s.b.half (l + 1)) ∧
  (∀ (s : State) (l : Fin 4), s.b.partakes (l + 1) = true ∧ s.b.heldAt (l + 1) = false ∧ s.b.rol.wait.contains (l.val
      + 1) = true →
    s.b.majority (l + 1) = false →
    Gives (.viewWaitExpiry l) s fun t => t.b.heldAt (l + 1) = true ∧ t.rdB ROL_STAT 0 = true) ∧
  (∀ (s : State) (l : Fin 4) (j : Nat), s.rdB ROL_CTRL 1 = true ∧ s.b.partakes (l + 1) = true ∧ s.b.isFace (l + 1) =
      true ∧ s.b.heldAt (l + 1) = false →
    j < s.b.configured (l + 1) ∧ s.b.inView (l + 1) j = false ∧ 10 ≤ (s.b.heard (l + 1) j).run →
    Gives (.autojoin l) s fun t => t.b.epochAt (l + 1) = s.b.epochAt (l + 1) + 1 ∧ t.b.inView (l + 1) j = true) ∧
  (∀ (s : State) (m : Master) (v : Word) (l : Fin 4), s.b.accepts m ROL_CMD = true ∧ fld v 4 3 = l.val + 1 ∧
      s.b.rollLevels.contains (l.val + 1) = true ∧ s.b.heldAt (l + 1) = true ∧ v.getLsbD 1 = false →
    s.b.lowest (l + 1) (s.b.view (l + 1)) ≠ s.b.ownIx (l + 1) →
    s.b.flowState ((s.b.mrec (l + 1) (s.b.lowest (l + 1) (s.b.view (l + 1)))).2) = 2 →
    Gives (.rolJoin m v) s fun t => (t.b.flow ((s.b.mrec (l + 1) (s.b.lowest (l + 1) (s.b.view (l + 1)))).2)).ctlTx
      = (s.b.flow ((s.b.mrec (l + 1) (s.b.lowest (l + 1) (s.b.view (l + 1)))).2)).ctlTx + 1) ∧
  (∀ (s : State) (m : Master) (v : Word) (l : Fin 4), s.b.accepts m ROL_CMD = true ∧ fld v 4 3 = l.val + 1 ∧
      s.b.rollLevels.contains (l.val + 1) = true ∧ s.b.heldAt (l + 1) = true ∧ v.getLsbD 0 = false →
    Gives (.rolForce m v) s fun t => t.b.epochAt (l + 1) = s.b.epochAt (l + 1) + 1 ∧ t.b.view (l + 1) = s.b.half (l + 1)) ∧
  (∀ (s : State) (m : Master) (v : Word), s.b.accepts m ROL_CTRL = true ∧ s.rdB ROL_CTRL 0 = false ∧ v.getLsbD 0 = true →
    pathOk s.b.path = true ∧ pScope s.b.path = 2 →
    Gives (.rolCtrlWrite m v) s fun t => t.rdF ROL_CTRL 0 2 = fld v 0 2 ∧ t.rd ROL_STAT = wd (pDepth s.b.path * 32)) ∧
  (∀ (s : State) (m : Master) (v : Word), s.b.accepts m ROL_CTRL = true ∧ s.rdB ROL_CTRL 0 = false ∧ v.getLsbD 0 = true →
    (pathOk s.b.path = false ∨ pScope s.b.path ≠ 2) →
    Gives (.rolCtrlWrite m v) s fun t => t.rd ROL_CTRL = s.rd ROL_CTRL ∧ t.rd ROL_STAT = s.rd ROL_STAT ∧ t.rdB
      (PG_ISTAT P_ROL) 4 = true) ∧
  (∀ (s : State) (a : Arrival) (m : Msg) (f : Nat) (l : Fin 4), s.b.inOrder a m tVIEW f = true ∧ be m.payload 0 1 =
      l.val + 1 ∧ be m.payload 1 1 = 0 →
    s.b.rollLevels.contains (l.val + 1) = true ∧ seqGT (BitVec.ofNat 32 (be m.payload 4 4)) (s.b.epochAt (l + 1)) =
      true →
    (ofBytesLE ((m.payload.drop 16).take 32)).testBit (s.b.ownIx (l + 1)) = true →
    Gives (.rxView a m) s fun t => (t.b.flow f).ctlRx = m.seq ∧ t.b.epochAt (l + 1) = BitVec.ofNat 32 (be m.payload
      4 4) ∧ t.b.view (l + 1) = (List.range 256).filter fun j => (ofBytesLE ((m.payload.drop 16).take 32)).testBit j) ∧
  (∀ (s : State) (a : Arrival) (m : Msg) (f : Nat) (l : Fin 4), s.b.inOrder a m tJOIN f = true ∧ be m.payload 8 1 =
      l.val + 1 ∧ (rollLevel m.dpath = 0 ∨ rollLevel m.dpath = l.val + 1) →
    s.b.rollLevels.contains (l.val + 1) = true ∧ s.b.notFaceAt (l + 1) = none →
    Gives (.rxJoin a m) s fun t => (t.b.flow f).ctlRx = m.seq ∧ t.b.epochAt (l + 1) = s.b.epochAt (l + 1) + 1 ∧
      t.b.inView (l + 1) (be m.payload 9 1) = true)

/-- HBM: copies, the channel hash, imbalance and the aperture. A stream copy stores its source as it stood at issue; an
accepted REHASH empties the receive pool, and its completion puts the new hash in force with the contents of HBM no
longer those before; a window ends with its counts shown when they are enough; a BAR2 read answers the bytes stored, a
BAR2 write stores the bytes it enables. -/
def Obligations.HbmCommands : Prop :=
  (∀ (s : State) (idx : Nat) (d : Desc) (ecc : Ecc), s.b.takes idx d 0x30 false [0x307, mLo, mHi, mLo, mHi, mLo,
      0xFFFF] = true ∧ dF d 6 0 32 ≠ 0 ∧ ecc.ue = [] →
    (opSpan s.b.grade (hbmAddr d 2 8 s.b.pbase) (dF d 6 0 32)).isNone = true ∧ (mspan s.b.grade (hbmAddr d 4 9 s.b.pbase) (dF d 6 0 32)
      = .fpsram ∨ (opSpan s.b.grade (hbmAddr d 4 9 s.b.pbase) (dF d 6 0 32)).isNone = true) →
    s.b.hitsProgram (hbmAddr d 4 9 s.b.pbase) (dF d 6 0 32) = false →
    Gives (.dHbm idx d ecc) s fun t => (∀ i : Fin (dF d 6 0 32), t.b.rd8 ((hbmAddr d 4 9 s.b.pbase) + i) = s.b.rd8
      ((hbmAddr d 2 8 s.b.pbase) + i)) ∧ t.hasReached idx = true ∧ t.nrej = s.nrej) ∧
  (∀ (s : State) (m : Master) (v : Word), s.b.accepts m HBM_CMD = true →
    s.b.inFrame = false ∧ s.b.hbmIdle = true ∧ s.b.host.rehash = none →
    Gives (.rehash m v) s fun t => t.b.host.rehash = some (s.rdF HBM_HASH_P 0 2) ∧ t.rdB HBM_STAT 1 = true ∧
      t.b.vyv.held = []) ∧
  (∀ (s : State) (h : Nat), s.b.host.rehash = some h →
    Gives (.rehashComplete) s fun t => t.b.host.rehash = none ∧ t.rd HBM_CFG = wd h ∧ t.b.hbmGen = s.b.hbmGen + 1 ∧
      t.rdB (PG_ISTAT P_HBM) 3 = true) ∧
  (∀ (s : State) (p : Fin 64), 65536 ≤ (List.range 64).foldl (fun a n => a + s.b.host.hbmCnt.get (fun _ => 0) (n % 16)) 0 →
    Gives (.hbmWindowEnd) s fun t => t.b.host.hbmCnt = [] ∧ t.rd (HBM_PC_CNT p) = wd (min (s.b.host.hbmCnt.get (fun
      _ => 0) (p % 16)) (2 ^ 32 - 1))) ∧
  (∀ (s : State) (p : Fin 64), (List.range 64).foldl (fun a n => a + s.b.host.hbmCnt.get (fun _ => 0) (n % 16)) 0 < 65536 →
    Gives (.hbmWindowEnd) s fun t => t.b.host.hbmCnt = [] ∧ t.rd (HBM_PC_CNT p) = s.rd (HBM_PC_CNT p)) ∧
  (∀ (s : State) (a : BitVec 37) (n : Nat) (ecc : Ecc), s.b.cutOff .pf0 = false ∧ s.b.host.pf0D3 = false ∧ s.b.domUp
      .hbm = true ∧ s.b.host.rehash = none →
    (opSpan s.b.grade a.toNat n).isNone = true ∧ ecc.ue = [] →
    Gives (.bar2Read a n ecc) s fun t => Output.bar2 (s.b.rdBytes a.toNat n) false ∈ t.b.out) ∧
  (∀ (s : State) (a : BitVec 37) (n : Nat) (ecc : Ecc), s.b.cutOff .pf0 = false ∧ s.b.host.pf0D3 = false ∧ s.b.domUp
      .hbm = true ∧ s.b.host.rehash.isSome = true →
    Gives (.bar2Read a n ecc) s fun t => t.b.host.bar2Q = s.b.host.bar2Q ++ [.read a.toNat n ecc]) ∧
  (∀ (s : State) (a : BitVec 37) (bytes : List (Option Byte)), s.b.cutOff .pf0 = false ∧ s.b.host.pf0D3 = false ∧
      s.b.domUp .hbm = true ∧ s.b.host.rehash = none →
    (opSpan s.b.grade a.toNat bytes.length).isNone = true →
    Gives (.bar2Write a bytes) s fun t => ∀ i : Fin bytes.length, t.b.rd8 (a.toNat + i) = bytes[i].getD (s.b.rd8
      (a.toNat + i)))

/-- Register writes, times, host DMA and the frame-program window. A register write changes its register by the access
codes of its fields; one with partial byte enables does not; a read of a low time word answers it and latches the high
one; GO starts a copy, ABORT ends it with reason 5, and its completion moves the bytes; a write through the
frame-program window stores what lies outside the running program. -/
def Obligations.HostAccesses : Prop :=
  (∀ (s : State) (m : Master) (off : BitVec 26) (v : Word) (ecc : Ecc) (o : Nat) (k : PageKind) (i : Nat), mapped m
      (off.toNat / 4 * 4) = some o ∧ s.b.accepts m o = true →
    s.b.target o = .page k i ∧ [PageKind.id_, .clk, .smb, .seq, .vec].contains k = true ∧ (rowAt o).isSome = true →
    0x40 ≤ o % 0x1000 ∧ ((cntTable k).any fun t => t.1 == o % 0x1000) = false →
    Gives (.registerWrite m off v 15 ecc) s fun t => t.rd o = (plainReg o v s.b).1.rd o) ∧
  (∀ (s : State) (m : Master) (off : BitVec 26) (v : Word) (be : BitVec 4) (ecc : Ecc) (o : Nat) (k : PageKind) (i :
      Nat), mapped m (off.toNat / 4 * 4) = some o ∧ s.b.accepts m o = true →
    s.b.target o = .page k i ∧ be ≠ 15 ∧ k ≠ .glb ∧ k ≠ .dbk ∧ s.b.domUp .control = true →
    Gives (.registerWrite m off v be ecc) s fun t => t.rd o = s.rd o ∧ t.rdB GLB_ERR 2 = true) ∧
  (∀ (s : State) (m : Master) (a : Fin 4194304) (bytes : List (Option Byte)), s.b.accepts m (0x1400000 + a) = true →
    Gives (.frameProgramWindowWrite m a bytes) s fun t => ∀ i : Fin bytes.length, a.val + i.val < 4194304 →
    t.b.rd8 (fpBase + a + i) = (if s.b.hitsProgram (fpBase + a + i) 1 then s.b.rd8 (fpBase + a + i) else
      bytes[i].getD (s.b.rd8 (fpBase + a + i)))) ∧
  (∀ (s : State) (m : Master), s.b.answers m MSQ_TIME_LO = true →
    Gives (.msqTimeLoRead m) s fun t => Output.data m [s.b.time.setWidth 32] ∈ t.b.out ∧ t.b.host.timeHi =
      s.b.time.extractLsb' 32 32) ∧
  (∀ (s : State) (m : Master), s.b.answers m CLK_AONTIME_LO = true →
    Gives (.clkAontimeLoRead m) s fun t => Output.data m [s.b.aon.setWidth 32] ∈ t.b.out ∧ t.b.host.aonHi =
      (s.b.aon.extractLsb' 32 16).setWidth 32) ∧
  (∀ (s : State) (m : Master) (c : Fin 4) (v : Word), s.b.accepts m (GLB_DMA_CTRL c) = true ∧ v.getLsbD 3 = false ∧
      s.b.dma c = none →
    (s.rd (GLB_DMA_LEN c)).toNat ≠ 0 ∧ (mspan s.b.grade ((s.rd (GLB_DMA_MADDR_LO c)).toNat + s.rdF (GLB_DMA_MADDR_HI c) 0 8 *
      2 ^ 32) (s.rd (GLB_DMA_LEN c)).toNat = .hbm ∧ s.b.domUp .hbm = true ∨ mspan s.b.grade ((s.rd (GLB_DMA_MADDR_LO
      c)).toNat + s.rdF (GLB_DMA_MADDR_HI c) 0 8 * 2 ^ 32) (s.rd (GLB_DMA_LEN c)).toNat = .vsram ∨ mspan s.b.grade ((s.rd
      (GLB_DMA_MADDR_LO c)).toNat + s.rdF (GLB_DMA_MADDR_HI c) 0 8 * 2 ^ 32) (s.rd (GLB_DMA_LEN c)).toNat = .fpsram) →
    (v.getLsbD 1 = true ∨ s.b.hitsProgram ((s.rd (GLB_DMA_MADDR_LO c)).toNat + s.rdF (GLB_DMA_MADDR_HI c) 0 8 * 2 ^
      32) (s.rd (GLB_DMA_LEN c)).toNat = false) →
    Gives (.dmaGo m c v) s fun t => t.b.dma c = some ⟨v.getLsbD 1, v.getLsbD 2, ((s.rd (GLB_DMA_HADDR_LO c)).toNat
      + (s.rd (GLB_DMA_HADDR_HI c)).toNat * 2 ^ 32), ((s.rd (GLB_DMA_MADDR_LO c)).toNat + s.rdF (GLB_DMA_MADDR_HI
      c) 0 8 * 2 ^ 32), (s.rd (GLB_DMA_LEN c)).toNat⟩ ∧ t.rdB (GLB_DMA_STAT c) 0 = true ∧ t.rd (GLB_DMA_DONELEN c) = 0) ∧
  (∀ (s : State) (m : Master) (c : Fin 4) (v : Word), s.b.accepts m (GLB_DMA_CTRL c) = true ∧ v.getLsbD 0 = false ∧
      (s.b.dma c).isSome = true →
    Gives (.dmaAbort m c v) s fun t => t.b.dma c = none ∧ t.rdB (GLB_DMA_STAT c) 0 = false ∧ t.rdF (GLB_DMA_STAT c)
      4 4 = 5) ∧
  (∀ (s : State) (c : Fin 4) (hdata : List Byte) (ecc : Ecc) (q : Dma), s.b.dma c = some q ∧ q.toHost = true ∧ ecc.ue
      = [] →
    (s.b.host.rehash = none ∨ mspace s.b.grade q.maddr ≠ .hbm) →
    Gives (.dmaComplete c hdata ecc none) s fun t => t.b.dma c = none ∧ t.rdB (GLB_DMA_STAT c) 1 = true ∧ t.rd
      (GLB_DMA_DONELEN c) = wd q.len ∧ Output.hostMem q.haddr (s.b.rdBytes q.maddr q.len) false ∈ t.b.out) ∧
  (∀ (s : State) (c : Fin 4) (hdata : List Byte) (ecc : Ecc) (q : Dma), s.b.dma c = some q ∧ q.toHost = false ∧
      hdata.length = q.len ∧ s.b.hitsProgram q.maddr q.len = false →
    (s.b.host.rehash = none ∨ mspace s.b.grade q.maddr ≠ .hbm) →
    Gives (.dmaComplete c hdata ecc none) s fun t => t.b.dma c = none ∧ t.rdB (GLB_DMA_STAT c) 1 = true ∧ ∀ i : Fin
      hdata.length, t.b.rd8 (q.maddr + i) = hdata[i])

/-- SMBus transactions. Write Word sets the pointer; Read Word answers it, Read Byte the last status; a Block Read answers
the words from the pointer on and a Block Write writes them, each moving the pointer; a timeout is counted. -/
def Obligations.SmbusTransactions : Prop :=
  (∀ (s : State) (p : BitVec 16) (pec : Option Bool), s.b.domUp .island = true ∧ s.b.pecBad pec = false ∧ p.toNat % 4 = 0 →
    Gives (.smbWriteWord p pec) s fun t => t.b.smbPtr = p.toNat ∧ t.rdF SMB_STAT 0 8 = 0 ∧ Output.smbus true [] ∈
      t.b.out) ∧
  (∀ (s : State) (p : BitVec 16) (pec : Option Bool), s.b.domUp .island = true ∧ s.b.pecBad pec = true →
    Gives (.smbWriteWord p pec) s fun t => t.b.smbPtr = s.b.smbPtr ∧ t.rdF SMB_STAT 0 8 = 1 ∧ Output.smbus false []
      ∈ t.b.out) ∧
  (∀ (s : State), s.b.domUp .island = true →
    Gives (.smbReadWord) s fun t => Output.smbus true (bytesLE 2 s.b.smbPtr) ∈ t.b.out ∧ t.b.smbPtr = s.b.smbPtr) ∧
  (∀ (s : State), s.b.domUp .island = true →
    Gives (.smbReadByte) s fun t => Output.smbus true (bytesLE 1 (s.rdF SMB_STAT 0 8)) ∈ t.b.out) ∧
  (∀ (s : State), s.b.domUp .island = true ∧ clampN 1 8 (s.rdF SMB_CFG 16 4) = 1 →
    smbOff s.b.smbPtr = some ID_SERIAL_LO →
    Gives (.smbBlockRead) s fun t => Output.smbus true (bytesLE 1 4 ++ bytesLE 4 (s.rd ID_SERIAL_LO).toNat) ∈
      t.b.out ∧ t.b.smbPtr = (s.b.smbPtr + 4) % 2 ^ 16 ∧ t.rdF SMB_STAT 0 8 = 0) ∧
  (∀ (s : State) (bytes : List Byte) (pec : Option Bool), s.b.domUp .island = true ∧ s.b.pecBad pec = false ∧
      bytes.length = 4 →
    smbOff s.b.smbPtr = some SMB_CFG →
    Gives (.smbBlockWrite bytes pec) s fun t => t.rd SMB_CFG = (plainReg SMB_CFG ((wordsLE 1 bytes).headD 0)
      s.b).1.rd SMB_CFG ∧ t.b.smbPtr = (s.b.smbPtr + 4) % 2 ^ 16 ∧ t.rdF SMB_STAT 0 8 = 0) ∧
  (∀ (s : State), s.b.domUp .island = true →
    Gives (.smbTimeout) s fun t => t.rdF SMB_TOCNT 0 32 = min (s.rdF SMB_TOCNT 0 32 + 1) (2 ^ 32 - 1) ∧ t.rdB
      (PG_ISTAT P_SMB) 1 = true)

/-- Thermal management and housekeeping conversions. A thermal sample stores every reading; the module level follows the
sensors below SHUTDOWN, and a sensor at SHUTDOWN trips the module; a sensor out of range is faulted and, back in
range, cleared; legal thresholds are taken, others refused; HBM temperatures are shown. A tick of an enabled converter
with no scan under way begins the scan of its channels; an event edge starts the delay of its conversion, which then
runs; an urgent request runs on a free converter; a conversion that completes leaves its result and counts it; the
cross-check shows both codes. -/
def Obligations.ThermalAndHousekeeping : Prop :=
  (∀ (s : State) (ts : List (BitVec 16)), s.b.pw.phase ≠ .dark ∧ s.b.pw.phase ≠ .saved ∧ ts.length = 96 →
    Gives (.thermalSample ts) s fun t => ∀ i : Fin 96, t.rdF (THM_T i) 0 16 = (ts.getD i 0).toNat) ∧
  (∀ (s : State) (new i : Nat), s.b.level = (new, i) ∧ new < 4 → s.rdF THM_STAT 0 3 ≠ new ∧ s.rdF THM_STAT 0 3 ≠ 4 →
    Gives (.levelChange) s fun t => t.rdF THM_STAT 0 3 = new ∧ t.rdB (PG_ISTAT P_THM) 0 = true) ∧
  (∀ (s : State), s.b.level.1 = 4 ∧ s.rdB LCO_LSTAT 9 = false →
    [Phase.island, .released, .up, .saving].contains s.b.pw.phase = true →
    Gives (.thermalShutdown) s fun t => t.rdF THM_STAT 0 3 = 4 ∧ t.rdB LCO_LSTAT 9 = true) ∧
  (∀ (s : State) (i : Fin 96), s.b.tFault i = false ∧ 3 ≤ (s.b.sensor i).out →
    Gives (.sensorFault i) s fun t => t.b.tFault i = true ∧ t.rdB (THM_FAULT (i / 32)) (i % 32) = true ∧
      (t.b.sensor i).level = 0) ∧
  (∀ (s : State) (i : Fin 96), s.b.tFault i = true ∧ 100 ≤ (s.b.sensor i).good →
    Gives (.sensorFaultClear i) s fun t => t.b.tFault i = false ∧ t.rdB (THM_FAULT (i / 32)) (i % 32) = false) ∧
  (∀ (s : State) (ts : List (BitVec 8)), ts.length = 4 →
    Gives (.hbmTemperatureRead ts) s fun t => ∀ k : Fin 4, t.rdF THM_HBM (8 * k) 8 = (ts.getD k 0).toNat) ∧
  (∀ (s : State) (m : Master) (v : Word), s.b.accepts m THM_LIM = true ∧ s.rdB (PG_LOCK P_THM) 0 = false →
    limitsOk (fld v 0 8) (fld v 8 8) (fld v 16 8) (s.rdF THM_LIM 24 8) = true →
    Gives (.thmLimWrite m v) s fun t => t.rdF THM_LIM 0 24 = fld v 0 24 ∧ t.rdF THM_LIM 24 8 = s.rdF THM_LIM 24 8) ∧
  (∀ (s : State) (m : Master) (v : Word), s.b.accepts m THM_LIM = true ∧ s.rdB (PG_LOCK P_THM) 0 = false →
    limitsOk (fld v 0 8) (fld v 8 8) (fld v 16 8) (s.rdF THM_LIM 24 8) = false →
    Gives (.thmLimWrite m v) s fun t => t.rd THM_LIM = s.rd THM_LIM ∧ t.rdB THM_STAT 3 = true) ∧
  (∀ (s : State) (x : Bool), s.b.hkOn x = true ∧ s.rdF (hkTmr x) 0 16 ≠ 0 ∧ (s.b.conv x).scan = [] →
    Gives (.hkScanTick x) s fun t => (t.b.conv x).scan = (List.range 48).filter ((s.rd (hkScanLo x)).toNat + (s.rd
      (hkScanHi x)).toNat * 2 ^ 32).testBit) ∧
  (∀ (s : State) (x : Bool), s.b.hkOn x = true ∧ s.rdF (hkEvt x) 0 2 ≠ 0 ∧ s.rdF (hkEvt x) 0 2 ≠ 3 →
    s.rdB CLK_STAT 3 = true ∧ (s.b.conv x).delay = false →
    Gives (.hkEventEdge x) s fun t => (t.b.conv x).delay = true ∧ (t.b.conv x).run = (s.b.conv x).run) ∧
  (∀ (s : State) (x : Bool), (s.b.conv x).delay = true ∧ (s.b.conv x).run = none →
    Gives (.hkEventConversion x) s fun t => (t.b.conv x).delay = false ∧ (t.b.conv x).run = some (false, s.rdF
      (hkEvt x) 8 6)) ∧
  (∀ (s : State) (m : Master) (v : Word), s.b.accepts m HK_URG = true ∧ s.rdB HK_URGRES 17 = false →
    s.b.hkOn (v.getLsbD 8) = true ∧ (s.b.conv (v.getLsbD 8)).run = none ∧ (s.b.conv (v.getLsbD 8)).event = none →
    Gives (.hkUrg m v) s fun t => (t.b.conv (v.getLsbD 8)).run = some (true, fld v 0 6) ∧ t.rdB HK_URGRES 17 = true) ∧
  (∀ (s : State) (x : Bool) (code : BitVec 12) (ch : Nat), s.b.hkOn x = true ∧ (s.b.conv x).run = some (false, ch) ∧
      ch < 48 →
    (s.b.conv x).event = none ∧ (s.b.conv x).host = none →
    Gives (.hkConversionComplete x code) s fun t => (t.b.conv x).run = none ∧ t.rdF (hkRes x ch) 0 16 =
      s.b.hkFormat x ch (if hkReserved x ch then 0 else code.toNat) ∧ t.rdF (hkRes x ch) 24 8 = (s.rdF (hkRes x ch)
      24 8 + 1) % 256) ∧
  (∀ (s : State) (ca cb : BitVec 12), s.b.hk.check = true ∧ s.b.hk.a.run = none ∧ s.b.hk.b.run = none →
    s.b.hkOn false = true ∧ s.b.hkOn true = true →
    Gives (.hkCrossCheck ca cb) s fun t => t.rd HK_XRES = wd (ca.toNat + cb.toNat * 2 ^ 16) ∧ t.b.hk.check = false)

/-- Laser-control pins. A fault latches a pin off with its cause, CLR clears it; a configuration that does not change the
type of an enabled pin and a set value are taken; a tie test begins while every LEN is low and ends with the pins that
answered each other latched off. -/
def Obligations.LaserPins : Prop :=
  (∀ (s : State) (n : Fin 16) (cause : Fin 4), s.b.pinFails n cause = true →
    Gives (.lcoPinFault n cause) s fun t => t.rdB (LCO_PSTAT n) 1 = true ∧ t.rdF (LCO_PSTAT n) 2 3 = cause.val ∧
      t.b.pinOn n = false ∧ t.rdB (LCO_PSTAT n) 0 = false) ∧
  (∀ (s : State) (m : Master) (n : Fin 16) (v : Word), s.b.accepts m (LCO_CMD n) = true ∧ s.rdB (LCO_PSTAT n) 1 = true →
    (s.rdF (LCO_PSTAT n) 2 3 ≠ 4 ∨ s.rdB LCO_TIESTAT (16 + n) = false) →
    Gives (.lcoClr m n v) s fun t => t.rdB (LCO_PSTAT n) 1 = false ∧ t.rdF (LCO_PSTAT n) 2 3 = 0 ∧ (t.b.pin n).lvl = 0) ∧
  (∀ (s : State) (m : Master) (n : Fin 16) (v : Word), s.b.accepts m (LCO_CFG n) = true →
    (s.rdB (LCO_CFG n) 0 = false ∨ s.rdB (LCO_CFG n) 1 = v.getLsbD 1) →
    Gives (.lcoCfgWrite m n v) s fun t => t.rd (LCO_CFG n) = v &&& 0xFF0F) ∧
  (∀ (s : State) (m : Master) (n : Fin 16) (v : Word), s.b.accepts m (LCO_SET n) = true →
    Gives (.lcoSetWrite m n v) s fun t => (t.b.pin n).set = v &&& 0xFFF ∧ t.rd (LCO_SET n) = if s.rdB (LCO_CFG n) 3
      then v &&& 0xFFF else s.rd (LCO_SET n)) ∧
  (∀ (s : State) (m : Master) (v : Word), s.b.accepts m LCO_TIECMD = true →
    s.rdF LCO_LSTAT 0 4 = 0 ∧ s.rdB LCO_LSTAT 6 = false → Gives (.tieTest m v) s fun t => t.rdB LCO_TIESTAT 0 = true) ∧
  (∀ (s : State) (reads : List (Fin 16 × Fin 16 × BitVec 12)), s.rdB LCO_TIESTAT 0 = true ∧ reads.any s.b.tied = false →
    Gives (.tieTestComplete reads) s fun t => t.rdB LCO_TIESTAT 0 = false ∧ t.rdB LCO_TIESTAT 1 = true ∧ t.rdF
      LCO_TIESTAT 16 16 = 0) ∧
  (∀ (s : State) (i j : Fin 16) (code : BitVec 12), s.rdB LCO_TIESTAT 0 = true ∧ i ≠ j ∧ s.rdB LCO_CTRL 0 = true →
    s.rdB (LCO_CFG i) 0 = true ∧ s.rdB (LCO_CFG j) 0 = true ∧ 64 < code.toNat →
    Gives (.tieTestComplete [(i, j, code)]) s fun t => t.rdB LCO_TIESTAT 0 = false ∧ t.rdB LCO_TIESTAT 1 = false ∧ t.rdF
      LCO_TIESTAT 16 16 = 2 ^ i.val + 2 ^ j.val ∧ t.rdB (LCO_PSTAT i) 1 = true ∧ t.rdB (LCO_PSTAT j) 1 = true)

/-- Vault updates and host sets. UPDATE and SETWRITE of a valid staged image begin, their completion with no flash fault
stores the slot or the set and ends the operation; ABORT ends one with status 7; SETAPPLY writes the entries of the
newer set, and its completion ends it. -/
def Obligations.VaultOperations : Prop :=
  (∀ (s : State) (m : Master) (v : Word) (secs : List (Nat × Nat × Nat × Word)), s.b.accepts m VLT_CMD = true ∧ (m =
      .pf0 ∨ m = .mionus) ∧ fld v 16 16 = 0x5AA5 ∧ s.b.vlt.job = none →
    4096 ≤ (s.rd VLT_LEN).toNat ∧ (s.rd VLT_LEN).toNat ≤ 31 * 2 ^ 20 ∧ s.b.stageOk (s.rd VLT_LEN).toNat = true →
    s.b.stagedHeader s.b.vltAddr (s.rd VLT_LEN).toNat = some secs ∧ (s.b.stagedSect s.b.vltAddr secs 1).ok = true ∧
      (s.b.stagedSect s.b.vltAddr secs 2).ok = true →
    Gives (.vaultUpdate m v) s fun t => t.b.vlt.job.map (fun j => (j.op, j.slot, j.secs)) = some (1, if s.rdB
      VLT_STAT 5 then 0 else 1 - s.rdF VLT_STAT 0 1, secs) ∧ t.rd VLT_RESULT = 1) ∧
  (∀ (s : State) (j : VJob) (x : VSlot), s.b.vlt.job = some j ∧ j.op = 1 →
    (s.b.stagedSect j.addr j.secs 1).ok = true ∧ (s.b.stagedSect j.addr j.secs 2).ok = true →
    s.b.inForce = some x ∧ x.prod.ok = true →
    Gives (.vaultUpdateComplete 0) s fun t => t.b.vlt.job = none ∧ t.b.vlt.slot j.slot = ⟨true, j.seq, j.fwver,
      s.b.stagedSect j.addr j.secs 1, s.b.stagedSect j.addr j.secs 2, x.prod⟩ ∧ t.rdB (PG_ISTAT P_VLT) 0 = true) ∧
  (∀ (s : State) (m : Master) (v : Word), s.b.accepts m VLT_CMD = true ∧ (m = .pf0 ∨ m = .mionus) ∧ fld v 16 16 =
      0x5AA5 ∧ s.b.vlt.job.isSome = true →
    Gives (.vaultAbort m v) s fun t => t.b.vlt.job = none ∧ t.rdF VLT_RESULT 4 4 = 7) ∧
  (∀ (s : State) (m : Master) (v : Word), s.b.accepts m VLT_CMD = true ∧ (m = .pf0 ∨ m = .mionus) ∧ fld v 16 16 =
      0x5AA5 ∧ s.b.vlt.job = none →
    72 ≤ (s.rd VLT_LEN).toNat ∧ (s.rd VLT_LEN).toNat ≤ 2 ^ 20 ∧ s.b.stageOk (s.rd VLT_LEN).toNat = true ∧ (s.rd
      VLT_LEN).toNat = 64 + 8 * s.b.rdLE (s.b.vltAddr + 8) 4 →
    s.b.rdLE s.b.vltAddr 4 = 0x56415354 ∧ s.b.rd32 (s.b.vltAddr + 60) = crc32c (s.b.rdBytes s.b.vltAddr 60 ++
      s.b.rdBytes (s.b.vltAddr + 64) ((s.rd VLT_LEN).toNat - 64)) →
    Gives (.setwrite m v) s fun t => t.b.vlt.job.map (fun j => (j.op, j.count)) = some (2, s.b.rdLE (s.b.vltAddr +
      8) 4) ∧ t.rd VLT_RESULT = 2) ∧
  (∀ (s : State) (j : VJob), s.b.vlt.job = some j ∧ j.op = 2 →
    Gives (.setwriteComplete 0) s fun t => t.b.vlt.job = none ∧ t.b.vlt.area j.slot = ⟨true, j.seq, (List.range
      j.count).map fun k => (s.b.rd32 (j.addr + 64 + 8 * k), s.b.rd32 (j.addr + 68 + 8 * k))⟩) ∧
  (∀ (s : State) (m : Master) (v : Word) (ecc : Ecc) (x : VSet) (w : Word) (val : Word) (k : PageKind) (i : Nat),
      s.b.accepts m VLT_CMD = true ∧ (m = .pf0 ∨ m = .mionus) ∧ fld v 16 16 = 0x5AA5 ∧ s.b.vlt.job = none ∧
      s.b.vlt.newerSet = some x ∧ x.ents = [(w, val)] →
    w.toNat % 4 = 0 ∧ s.b.accepts .mionus w.toNat = true ∧ s.b.target w.toNat = .page k i →
    [PageKind.id_, .clk, .smb, .seq, .vec].contains k = true ∧ 0x40 ≤ w.toNat % 0x1000 ∧ ((cntTable k).any fun t =>
      t.1 == w.toNat % 0x1000) = false →
    (rowAt w.toNat).isSome = true ∧ (plainReg w.toNat val s.b).2 = true →
    Gives (.setapply m v ecc) s fun t => t.rd w.toNat = (plainReg w.toNat val s.b).1.rd w.toNat ∧ t.rdF VLT_APPLY 0
      16 = 1 ∧ t.b.vlt.job.map (·.op) = some 3) ∧
  (∀ (s : State) (j : VJob), s.b.vlt.job = some j ∧ j.op = 3 →
    Gives (.setapplyComplete) s fun t => t.b.vlt.job = none ∧ t.rdB (PG_ISTAT P_VLT) 0 = true)

/-- Reading and writing the Daybook. RSEL latches the entry at or after the number written into the copy of its master; a
read of the last entry word answers it; a host entry of a host code is logged; the flush of a bucket with suppressed
occurrences enters their count. -/
def Obligations.DaybookAccess : Prop :=
  (∀ (s : State) (m : Master) (v : Word), s.b.accepts m DBK_RSEL = true →
    Gives (.dbkRsel m v) s fun t => t.b.dbk m = (s.b.dbk m).select s.log v ∧ t.log = s.log) ∧
  (∀ (s : State) (m : Master), s.b.answers m (DBK_RENT 7) = true →
    Gives (.dbkRentRead m) s fun t => Output.data m [(s.b.dbk m).rent.getD 7 0] ∈ t.b.out ∧ t.log = s.log) ∧
  (∀ (s : State) (m : Master) (v : Word), s.b.accepts m DBK_HCODE = true ∧ (m = .pf0 ∨ m = .mionus) ∧ 0xF000 ≤ fld v 0 16 →
    ((s.log.bucket (0xF000 * 256) 100 s.b.time).refill 100 s.b.time).tokens ≠ 0 ∧ s.log.ents.length < maxEnts →
    Gives (.dbkHcode m v) s fun t => t.log.ents.length = s.log.ents.length + 1 ∧ t.log.ents.getLast?.map (fun e =>
      (e.code, e.sev, e.seq)) = some (BitVec.ofNat 16 (fld v 0 16), fld v 16 3, s.log.next)) ∧
  (∀ (s : State) (code : BitVec 16) (inst : BitVec 8) (x : Bucket), s.log.bks.find? (·.1 == (if 0xF000 ≤ code.toNat
      then 0xF000 else code.toNat) * 256 + inst.toNat) = some (((if 0xF000 ≤ code.toNat then 0xF000 else
      code.toNat) * 256 + inst.toNat), x) →
    x.supp ≠ 0 ∧ s.log.ents.length < maxEnts →
    Gives (.suppressedFlush code inst) s fun t => t.log.ents.getLast?.map (fun e => (e.code, e.flush, e.supp)) =
      some (code, true, min x.supp 65535))

/-- Register and bus accesses leave the rest alone. A command of the host interface, the mailboxes or the SMBus target, a
read of a data window or of a latched counter among them, changes the registers named for it, PG_SEQ of its page and
the records of failed accesses, and what is named of the host interface; all else is as before -/
def Obligations.FrameAccesses : Prop :=
  (∀ (s : State) (m : Master) (e : Fin 72), Gives (.trmRdataRead m e) s fun t => Kept s t (TRM_RADDR e :: errRegs)) ∧
  (∀ (s : State) (m : Master) (e : Fin 72), Gives (.asgDataRead m e) s fun t => Kept s t (ASG_ADDR e :: errRegs)) ∧
  (∀ (s : State) (m : Master) (n : Fin 8), Gives (.denTblDataRead m n) s fun t => Kept s t (DEN_TBL_ADDR (64 + n) ::
      errRegs)) ∧
  (∀ (s : State) (m : Master) (st : Fin 4), Gives (.ceTdataRead m st) s fun t => Kept s t (CE_TADDR st :: (List.range
      4).map (CE_TRC_STAT st) ++ errRegs)) ∧
  (∀ (s : State) (m : Master) (e : Fin 72), Gives (.ebud0Read m e) s fun t => Kept s t (errRegs) (fun b c =>
      { b with host := { b.host with ebud := c.host.ebud } })) ∧
  (∀ (s : State) (m : Master), Gives (.msqTimeLoRead m) s fun t => Kept s t (errRegs) (fun b c =>
      { b with host := { b.host with timeHi := c.host.timeHi } })) ∧
  (∀ (s : State) (m : Master), Gives (.clkAontimeLoRead m) s fun t => Kept s t (errRegs) (fun b c =>
      { b with host := { b.host with aonHi := c.host.aonHi } })) ∧
  (∀ (s : State) (m : Master), Gives (.dbkRentRead m) s fun t => Kept s t (errRegs) (fun b c =>
      { b with host := { b.host with dbkRd := c.host.dbkRd } })) ∧
  (∀ (s : State), Gives (.smbReadWord) s fun t => Kept s t [SMB_TXCNT, SMB_STAT]) ∧
  (∀ (s : State), Gives (.smbReadByte) s fun t => Kept s t [SMB_TXCNT]) ∧
  (∀ (s : State) (a : BitVec 37) (n : Nat) (x : Ecc), Gives (.bar2Read a n x) s fun t => Kept s t (errRegs ++ afRegs
      ++ eccRegs) (fun b c =>
      { b with free := c.free, host := { b.host with hbmCnt := c.host.hbmCnt, bar2Q := c.host.bar2Q } })) ∧
  (∀ (s : State) (m : Master) (off : BitVec 26) (v : Word), Gives (.pgIset m off v) s fun t => Kept s t (PG_ISTAT
      (off.toNat / 0x1000 * 0x1000) :: accRegs off.toNat)) ∧
  (∀ (s : State) (m : Master) (off : BitVec 26) (v : Word), Gives (.pgLock m off v) s fun t => Kept s t (PG_LOCK
      (off.toNat / 0x1000 * 0x1000) :: accRegs off.toNat)) ∧
  (∀ (s : State) (m : Master) (off : BitVec 26) (v : Word), Gives (.pgCommitGo m off v) s fun t => Kept s t (PG_COMMIT
      P_LCO :: (List.range 16).map LCO_SET ++ accRegs off.toNat)) ∧
  (∀ (s : State) (m : Master) (c : Fin 32), Gives (.mbxPost m c) s fun t => Kept s t ([MBX_REFCNT, MBX_DOWNCNT,
      PG_ISTAT P_MBX] ++ errRegs) (fun b c => { b with host := { b.host with mbx := c.host.mbx } })) ∧
  (∀ (s : State) (m : Master) (c : Fin 32) (v : Word), Gives (.mbxPop m c v) s fun t => Kept s t (accRegs (MBX_RXCTL
      c)) (fun b c => { b with host := { b.host with mbx := c.host.mbx } })) ∧
  (∀ (s : State) (d : Dom), Gives (.domainUp d) s fun t => Kept s t [] (fun b c =>
      { b with host := { b.host with mbx := c.host.mbx } })) ∧
  (∀ (s : State) (p : BitVec 16) (pec : Option Bool), Gives (.smbWriteWord p pec) s fun t => Kept s t [SMB_TXCNT,
      SMB_STAT, SMB_PECERR, PG_ISTAT P_SMB]) ∧
  (∀ (s : State), Gives (.smbTimeout) s fun t => Kept s t [SMB_TOCNT, PG_ISTAT P_SMB]) ∧
  (∀ (s : State) (x : Bool), Gives (.perst x) s fun t => Kept s t (RST_CAUSE :: RST_STAT :: (List.range 4).map
      GLB_DMA_STAT ++ msixRegs) (fun b c =>
      { b with host := { b.host with pf0D3 := c.host.pf0D3, pf1D3 := c.host.pf1D3, pf1 := c.host.pf1, dbkRd := c.host.dbkRd, bar2Q := c.host.bar2Q, dma := c.host.dma } })) ∧
  (∀ (s : State) (pf1 : Bool), Gives (.functionLevelReset pf1) s fun t => Kept s t (PG_ISTAT P_GLB :: (List.range
      4).map GLB_DMA_STAT ++ msixRegs) (fun b c =>
      { b with host := { b.host with pf0D3 := c.host.pf0D3, pf1D3 := c.host.pf1D3, pf1 := c.host.pf1, dbkRd := c.host.dbkRd, bar2Q := c.host.bar2Q, dma := c.host.dma } })) ∧
  (∀ (s : State) (pf1 : Bool), Gives (.d3hot pf1) s fun t => Kept s t [] (fun b c =>
      { b with host := { b.host with pf0D3 := c.host.pf0D3, pf1D3 := c.host.pf1D3 } })) ∧
  (∀ (s : State) (pf1 : Bool), Gives (.d0Return pf1) s fun t => Kept s t [] (fun b c =>
      { b with host := { b.host with pf0D3 := c.host.pf0D3, pf1D3 := c.host.pf1D3 } })) ∧
  (∀ (s : State) (v : Fin 64), Gives (.msixUnmask v) s fun t => Kept s t (GLB_MSIX_CTL v :: accRegs (GLB_MSIX_CTL v))) ∧
  (∀ (s : State) (m : Master) (hi : Bool) (v : Word), Gives (.glbIack m hi v) s fun t => Kept s t (accRegs P_GLB)) ∧
  (∀ (s : State) (m : Master) (c : Fin 4) (v : Word), Gives (.dmaGo m c v) s fun t => Kept s t (GLB_DMA_STAT c ::
      GLB_DMA_DONELEN c :: afRegs ++ accRegs P_GLB) (fun b c => { b with host := { b.host with dma := c.host.dma } })) ∧
  (∀ (s : State) (m : Master) (c : Fin 4) (v : Word), Gives (.dmaAbort m c v) s fun t => Kept s t (GLB_DMA_STAT c ::
      GLB_DMA_DONELEN c :: afRegs ++ accRegs P_GLB) (fun b c => { b with host := { b.host with dma := c.host.dma } })) ∧
  (∀ (s : State) (m : Master) (v : Word), Gives (.dbkRsel m v) s fun t => Kept s t (accRegs P_DBK) (fun b c =>
      { b with host := { b.host with dbkRd := c.host.dbkRd } })) ∧
  (∀ (s : State) (m : Master) (v : Word), Gives (.dbkHcode m v) s fun t => Kept s t (PG_ISTAT P_DBK :: accRegs P_DBK)) ∧
  (∀ (s : State) (code : BitVec 16) (i : BitVec 8), Gives (.suppressedFlush code i) s fun t => Kept s t []) ∧
  (∀ (s : State) (m : Master) (p : Fin 16) (hi : Bool) (v : Word), Gives (.mntProfWrite m p hi v) s fun t => Kept s t
      ((if hi then MNT_PROF_W1 p else MNT_PROF_W0 p) :: MNT_ERR :: PG_ISTAT P_MNT :: accRegs P_MNT)) ∧
  (∀ (s : State) (m : Master) (v : Word), Gives (.msqSpush m v) s fun t => Kept s t (MSQ_SREFUSED :: PG_ISTAT P_MSQ ::
      accRegs P_MSQ) (fun b c => { b with startQ := c.startQ, lastId := c.lastId })) ∧
  (∀ (s : State) (m : Master) (v : Word), Gives (.msqCtrlWrite m v) s fun t => Kept s t (MSQ_CTRL :: MSQ_SREFUSED ::
      PG_ISTAT P_MSQ :: accRegs P_MSQ) (fun b c => { b with startQ := c.startQ }))

/-- Power, clock, thermal, laser and Vault commands leave the rest alone. A supply, clock, thermal or housekeeping event,
or a command of the laser-control outputs or the Vault, changes the registers named for it and, where one is named,
one unit; all else, the frame and every memory among it, is as before -/
def Obligations.FrameService : Prop :=
  (∀ (s : State), Gives (.crystalLoss) s fun t => Kept s t [CLK_STAT, CLK_LOSSCNT, PG_ISTAT P_CLK]) ∧
  (∀ (s : State), Gives (.crystalStart) s fun t => Kept s t [CLK_STAT]) ∧
  (∀ (s : State), Gives (.refclk100Loss) s fun t => Kept s t [CLK_STAT, CLK_LOSSCNT, PG_ISTAT P_CLK] (fun b c =>
      { b with host := { b.host with linkDown := c.host.linkDown } })) ∧
  (∀ (s : State), Gives (.refclk100Return) s fun t => Kept s t [CLK_STAT] (fun b c =>
      { b with host := { b.host with linkDown := c.host.linkDown } })) ∧
  (∀ (s : State), Gives (.refclk156Loss) s fun t => Kept s t ([CLK_STAT, CLK_LOSSCNT, PG_ISTAT P_CLK] ++ linkRegs)) ∧
  (∀ (s : State) (r : BitVec 11), Gives (.sequenceError r) s fun t => Kept s t [PWR_STAT]) ∧
  (∀ (s : State) (x y : BitVec 16), Gives (.holdUpMeasure x y) s fun t => Kept s t [PWR_HU, PWR_STAT, PG_ISTAT P_PWR]) ∧
  (∀ (s : State), Gives (.vcoreLow) s fun t => Kept s t [PWR_STAT, PG_ISTAT P_PWR]) ∧
  (∀ (s : State) (k : Fin 32) (x : BitVec 8), Gives (.vreqRaise k x) s fun t => Kept s t [PWR_MARGIN, PWR_VREQ,
      PG_ISTAT P_PWR] (fun b c => { b with pw := { b.pw with vreqAt := c.pw.vreqAt } })) ∧
  (∀ (s : State) (k : Fin 32) (x : BitVec 8), Gives (.criticalMargin k x) s fun t => Kept s t [PWR_MARGIN, PWR_STAT,
      PG_ISTAT P_PWR] (fun b c => { b with pw := { b.pw with critical := c.pw.critical } })) ∧
  (∀ (s : State), Gives (.dieRelease) s fun t => Kept s t [CLK_STAT, PWR_RAIL] (fun b c =>
      { b with pw := { b.pw with phase := c.pw.phase } })) ∧
  (∀ (s : State) (p : Fin 5), Gives (.pllRelock p) s fun t => Kept s t [] (fun b c =>
      { b with pw := { b.pw with pllLost := c.pw.pllLost } })) ∧
  (∀ (s : State), Gives (.lsafeNRelease) s fun t => Kept s t [LCO_LSTAT]) ∧
  (∀ (s : State), Gives (.laserDeadTimeEnd) s fun t => Kept s t [LCO_LSTAT] (fun b c =>
      { b with pw := { b.pw with startup := c.pw.startup } })) ∧
  (∀ (s : State) (ds : List (Fin 16)), Gives (.lightCheckComplete ds) s fun t => Kept s t ((List.range 72).map fun e
      => PG_ISTAT (P_LCK e)) (fun b c => { b with pw := { b.pw with startup := c.pw.startup, dark := c.pw.dark } })) ∧
  (∀ (s : State) (ts : List (BitVec 16)), Gives (.thermalSample ts) s fun t => Kept s t (THM_STAT :: THM_TTIME ::
      (List.range 96).map THM_T) (fun b c => { b with thm := c.thm })) ∧
  (∀ (s : State) (i : Fin 96), Gives (.sensorFault i) s fun t => Kept s t [THM_T i, THM_FAULT (i / 32), THM_STAT,
      PG_ISTAT P_THM] (fun b c => { b with thm := c.thm })) ∧
  (∀ (s : State) (i : Fin 96), Gives (.sensorFaultClear i) s fun t => Kept s t [THM_T i, THM_FAULT (i / 32), THM_STAT]) ∧
  (∀ (s : State), Gives (.levelChange) s fun t => Kept s t [THM_STAT, THM_TCNT, PG_ISTAT P_THM]) ∧
  (∀ (s : State) (ts : List (BitVec 8)), Gives (.hbmTemperatureRead ts) s fun t => Kept s t [THM_HBM, PG_ISTAT P_THM]) ∧
  (∀ (s : State) (m : Master) (v : Word), Gives (.thmLimWrite m v) s fun t => Kept s t (THM_LIM :: THM_STAT :: accRegs
      P_THM) (fun b c => { b with thm := c.thm })) ∧
  (∀ (s : State) (x : Bool), Gives (.hkScanTick x) s fun t => Kept s t [HK_TOVR] (fun b c => { b with hk := c.hk })) ∧
  (∀ (s : State) (x : Bool), Gives (.hkEventEdge x) s fun t => Kept s t [HK_EVLOST, PG_ISTAT P_HK] (fun b c =>
      { b with hk := c.hk })) ∧
  (∀ (s : State) (x : Bool), Gives (.hkEventConversion x) s fun t => Kept s t [HK_ABORTCNT] (fun b c =>
      { b with hk := c.hk })) ∧
  (∀ (s : State) (m : Master) (v : Word), Gives (.hkUrg m v) s fun t => Kept s t (HK_URGRES :: HK_ABORTCNT :: PG_ISTAT
      P_HK :: accRegs P_HK) (fun b c => { b with hk := c.hk })) ∧
  (∀ (s : State) (x : Bool) (code : BitVec 12), Gives (.hkConversionComplete x code) s fun t => Kept s t (HK_URGRES ::
      [PWR_VMEAS, PWR_STAT, PWR_HU, PWR_POWER, PG_ISTAT P_PWR, PG_ISTAT P_HK] ++ (List.range 16).map LCO_PSTAT ++
      (List.range 48).flatMap (fun k => [hkRes x k, hkLimst x k])) (fun b c =>
      { b with hk := c.hk, pins := c.pins, free := c.free })) ∧
  (∀ (s : State) (x y : BitVec 12), Gives (.hkCrossCheck x y) s fun t => Kept s t [HK_XRES, HK_STAT, HK_XFCNT, hkRes
      false 47, hkRes true 47, hkLimst false 47, hkLimst true 47, PG_ISTAT P_HK] (fun b c =>
      { b with hk := c.hk, pins := c.pins, free := c.free })) ∧
  (∀ (s : State) (n : Fin 16) (k : Fin 4), Gives (.lcoPinFault n k) s fun t => Kept s t (LCO_STAT :: LCO_FLTCNT ::
      PG_ISTAT P_LCO :: (List.range 16).map LCO_PSTAT) (fun b c => { b with pins := c.pins })) ∧
  (∀ (s : State) (m : Master) (n : Fin 16) (v : Word), Gives (.lcoSetWrite m n v) s fun t => Kept s t (LCO_SET n ::
      PG_COMMIT P_LCO :: accRegs P_LCO) (fun b c => { b with pins := c.pins })) ∧
  (∀ (s : State) (m : Master) (n : Fin 16) (v : Word), Gives (.lcoCfgWrite m n v) s fun t => Kept s t (LCO_CFG n ::
      LCO_STAT :: (List.range 16).map LCO_PSTAT ++ accRegs P_LCO) (fun b c => { b with pins := c.pins })) ∧
  (∀ (s : State) (m : Master) (n : Fin 16) (v : Word), Gives (.lcoClr m n v) s fun t => Kept s t (LCO_STAT ::
      (List.range 16).map LCO_PSTAT ++ accRegs P_LCO) (fun b c => { b with pins := c.pins })) ∧
  (∀ (s : State) (m : Master) (v : Word), Gives (.tieTest m v) s fun t => Kept s t (LCO_TIESTAT :: accRegs P_LCO)) ∧
  (∀ (s : State) (ps : List (Fin 16 × Fin 16 × BitVec 12)), Gives (.tieTestComplete ps) s fun t => Kept s t (LCO_TIESTAT :: LCO_STAT ::
      LCO_FLTCNT :: PG_ISTAT P_LCO :: (List.range 16).map LCO_PSTAT) (fun b c => { b with pins := c.pins })) ∧
  (∀ (s : State) (m : Master) (v : Word), Gives (.clrtrip m v) s fun t => Kept s t (LCO_LSTAT :: PG_ISTAT P_LCO ::
      accRegs P_LCO)) ∧
  (∀ (s : State) (m : Master) (v : Word), Gives (.vaultUpdate m v) s fun t => Kept s t (vaultRegs ++ accRegs P_VLT)
      (fun b c => { b with vlt := c.vlt })) ∧
  (∀ (s : State) (m : Master) (v : Word), Gives (.vaultAbort m v) s fun t => Kept s t (vaultRegs ++ accRegs P_VLT)
      (fun b c => { b with vlt := c.vlt })) ∧
  (∀ (s : State) (m : Master) (v : Word), Gives (.setwrite m v) s fun t => Kept s t (vaultRegs ++ accRegs P_VLT) (fun
      b c => { b with vlt := c.vlt })) ∧
  (∀ (s : State) (k : Fin 3), Gives (.vaultUpdateComplete k) s fun t => Kept s t (vaultRegs) (fun b c =>
      { b with vlt := c.vlt })) ∧
  (∀ (s : State) (k : Fin 3), Gives (.setwriteComplete k) s fun t => Kept s t (vaultRegs) (fun b c =>
      { b with vlt := c.vlt })) ∧
  (∀ (s : State), Gives (.setapplyComplete) s fun t => Kept s t (vaultRegs) (fun b c => { b with vlt := c.vlt }))

/-- Engine commands leave the rest alone. A command for one engine changes the registers named for it and that engine;
every other engine, register and unit and every byte of memory is as before -/
def Obligations.FrameEngines : Prop :=
  (∀ (s : State) (e : Fin 72), Gives (.dozeEntryComplete e) s fun t => (Kept s t [engState e] (fun b c =>
      { b with engs := c.engs })) ∧ ∀ k, k ≠ e →
    t.b.eng k = s.b.eng k) ∧
  (∀ (s : State) (e : Fin 72), Gives (.napEntryComplete e) s fun t => (Kept s t [engState e] (fun b c =>
      { b with engs := c.engs })) ∧ ∀ k, k ≠ e →
    t.b.eng k = s.b.eng k) ∧
  (∀ (s : State) (e : Fin 72), Gives (.napTimerExpiry e) s fun t => (Kept s t [engState e] (fun b c =>
      { b with engs := c.engs })) ∧ ∀ k, k ≠ e →
    t.b.eng k = s.b.eng k) ∧
  (∀ (s : State) (e : Fin 72), Gives (.wakeToDozeComplete e) s fun t => (Kept s t [engState e] (fun b c =>
      { b with engs := c.engs })) ∧ ∀ k, k ≠ e →
    t.b.eng k = s.b.eng k) ∧
  (∀ (s : State) (e : Fin 64), Gives (.refreshScanStart e) s fun t => (Kept s t [ENG_SCAN e] (fun b c =>
      { b with engs := c.engs })) ∧ ∀ k, k ≠ e →
    t.b.eng k = s.b.eng k) ∧
  (∀ (s : State) (e : Fin 64) (x : Nat) (y : List (Fin 102)), Gives (.refreshRowWrite e x y) s fun t => (Kept s t [ENG_SCAN e, PLT_CECNT
      (stackOf e), PLT_UECNT (stackOf e), PLT_UEADDR (stackOf e), PG_ISTAT (P_PLT (stackOf e)), PG_ISTAT (P_ENG e)]
      (fun b c => { b with engs := c.engs })) ∧ ∀ k, k ≠ e →
    t.b.eng k = s.b.eng k) ∧
  (∀ (s : State) (m : Master) (e : Fin 64) (v : Word), Gives (.engOscaleWrite m e v) s fun t => (Kept s t (ENG_OSCALE
      e :: accRegs (P_ENG e)) (fun b c => { b with engs := c.engs })) ∧ ∀ k, k ≠ e →
    t.b.eng k = s.b.eng k) ∧
  (∀ (s : State) (m : Master) (n : Fin 8) (v : Word), Gives (.denOscaleWrite m n v) s fun t => (Kept s t (DEN_OSCALE
      (64 + n) :: accRegs (P_DEN (64 + n))) (fun b c => { b with engs := c.engs })) ∧ ∀ k, k ≠ 64 + n →
    t.b.eng k = s.b.eng k) ∧
  (∀ (s : State) (e : Fin 72) (q : Fin 64), Gives (.exclusionExpiry e q) s fun t => (Kept s t [LCK_R_STATE e q] (fun b
      c => { b with engs := c.engs })) ∧ ∀ k, k ≠ e →
    t.b.eng k = s.b.eng k) ∧
  (∀ (s : State) (m : Master) (e : Fin 72) (q : Fin 64) (v : Word), Gives (.lckRSwordWrite m e q v) s fun t => (Kept s
      t (LCK_R_SWORD e q :: accRegs (LCK_R_SWORD e q)) (fun b c => { b with engs := c.engs })) ∧ ∀ k, k ≠ e →
    t.b.eng k = s.b.eng k) ∧
  (∀ (s : State) (e : Fin 72) (q : Fin 64), Gives (.calBackoffExpiry e q) s fun t => (Kept s t [] (fun b c =>
      { b with engs := c.engs })) ∧ ∀ k, k ≠ e →
    t.b.eng k = s.b.eng k) ∧
  (∀ (s : State) (e : Fin 72), Gives (.searchStartAfterWait e) s fun t => (Kept s t [ENG_HELD e] (fun b c =>
      { b with engs := c.engs })) ∧ ∀ k, k ≠ e →
    t.b.eng k = s.b.eng k) ∧
  (∀ (s : State) (m : Master) (e : Fin 72) (v : Word), Gives (.asgDataWrite m e v) s fun t => (Kept s t (ASG_ADDR e ::
      ASG_STAT e :: accRegs (ASG_DATA e)) (fun b c => { b with engs := c.engs })) ∧ ∀ k, k ≠ e →
    t.b.eng k = s.b.eng k) ∧
  (∀ (s : State) (m : Master) (n : Fin 8) (v : Word), Gives (.denTblDataWrite m n v) s fun t => (Kept s t
      (DEN_TBL_ADDR (64 + n) :: DEN_TBL_STAT (64 + n) :: accRegs (P_DEN (64 + n))) (fun b c =>
      { b with engs := c.engs })) ∧ ∀ k, k ≠ 64 + n →
    t.b.eng k = s.b.eng k) ∧
  (∀ (s : State) (e : Fin 72), Gives (.lockWindowClose e) s fun t => (Kept s t [ebud e 1, ebud e 3] (fun b c =>
      { b with engs := c.engs })) ∧ ∀ k, k ≠ e →
    t.b.eng k = s.b.eng k) ∧
  (∀ (s : State) (e : Fin 72) (x : BitVec 16), Gives (.totalRecompute e x) s fun t => Kept s t [ebud e 1, ebud e 3]) ∧
  (∀ (s : State) (m : Master) (st : Fin 4) (v : Word), Gives (.asyReq m st v) s fun t => (Kept s t (PG_ISTAT (P_ASY
      st) :: accRegs (P_ASY st)) (fun b c => { b with engs := c.engs })) ∧ ∀ k, k ≠ engAt st (fld v 0 5) →
    t.b.eng k = s.b.eng k) ∧
  (∀ (s : State) (m : Master) (e : Fin 72) (v : Word), Gives (.trmRowArm m e v) s fun t => Kept s t (TRM_CTRL e ::
      TRM_STAT e :: accRegs (TRM_CTRL e))) ∧
  (∀ (s : State) (m : Master) (e : Fin 72) (v : Word), Gives (.trmModArm m e v) s fun t => Kept s t (TRM_CTRL e ::
      TRM_STAT e :: accRegs (TRM_CTRL e))) ∧
  (∀ (s : State) (m : Master) (n : Fin 8), Gives (.denTblArm m n) s fun t => Kept s t (DEN_TBL_CTRL (64 + n) ::
      DEN_TBL_STAT (64 + n) :: PG_ISTAT (P_DEN (64 + n)) :: accRegs (P_DEN (64 + n)))) ∧
  (∀ (s : State) (st : Fin 4), Gives (.heaterPwmPeriod st) s fun t => (Kept s t (HTR_STAT st :: HTR_LIMITCNT st ::
      HTR_SKIPCNT st :: PG_ISTAT (P_HTR st) ::
      ((List.range 516).map (HTR_DUTY st) ++
      (List.range 1032).map fun i => LCK_R_HEAT (loopOf st i).1 (loopOf st i).2)) (fun b c =>
      { b with engs := c.engs })) ∧ ∀ k, stackOf k ≠ st →
    t.b.eng k = s.b.eng k) ∧
  (∀ (s : State) (st : Fin 4), Gives (.heaterStowHoldExpiry st) s fun t => (Kept s t ((List.range 1032).map fun i =>
      LCK_R_HEAT (loopOf st i).1 (loopOf st i).2) (fun b c => { b with engs := c.engs })) ∧ ∀ k, stackOf k ≠ st →
    t.b.eng k = s.b.eng k) ∧
  (∀ (s : State) (st : Fin 4), Gives (.calTempCheck st) s fun t => (Kept s t ((List.range 18).map fun k => ebud (engAt
      st k) 3) (fun b c => { b with engs := c.engs })) ∧ ∀ k, stackOf k ≠ st →
    t.b.eng k = s.b.eng k) ∧
  (∀ (s : State) (m : Master) (st : Fin 4) (v : Word), Gives (.htrTestWrite m st v) s fun t => Kept s t (HTR_TEST st
      :: (List.range 72).flatMap (fun e => LCK_STAT e :: LCK_UNLK_LO e :: LCK_UNLK_HI e :: (List.range 64).map
      (LCK_R_STATE e)) ++ accRegs (P_HTR st)))

/-- Commands for a stack leave the rest alone. A command for the Ledger, the tally tree or the control engine of one stack
changes the registers named for it and that stack; every other stack, every byte of its Ledger but those stored, and
all else is as before -/
def Obligations.FrameStacks : Prop :=
  (∀ (s : State) (m : Master) (st : Fin 4) (v : Word), Gives (.ceBankArm m st v) s fun t => (Kept s t (CE_BANK_ARM st
      :: CE_BANK_STAT st :: accRegs (P_CE st)) (fun b c => { b with stks := c.stks })) ∧ ∀ k, k ≠ st →
    t.b.stk k = s.b.stk k) ∧
  (∀ (s : State) (m : Master) (st : Fin 4) (v : Word), Gives (.ceBankDisarm m st v) s fun t => (Kept s t (CE_BANK_ARM
      st :: CE_BANK_STAT st :: accRegs (P_CE st)) (fun b c => { b with stks := c.stks })) ∧ ∀ k, k ≠ st →
    t.b.stk k = s.b.stk k) ∧
  (∀ (s : State) (st : Fin 4), Gives (.bankCheckComplete st) s fun t => (Kept s t (CE_BANK_ARM st :: CE_BANK_STAT st
      :: CE_BANK_ERR st :: PG_ISTAT (P_CE st) :: (List.range 16).map (CE_LOAD st)) (fun b c =>
      { b with stks := c.stks })) ∧ ∀ k, k ≠ st →
    t.b.stk k = s.b.stk k) ∧
  (∀ (s : State) (st : Fin 4), Gives (.slopeTableRecompute st) s fun t => (Kept s t [] (fun b c =>
      { b with stks := c.stks })) ∧ ∀ k, k ≠ st →
    t.b.stk k = s.b.stk k) ∧
  (∀ (s : State) (st x : Fin 4), Gives (.tracePostComplete st x) s fun t => Kept s t [CE_TRC_STAT st x, PG_ISTAT (P_CE st)]) ∧
  (∀ (s : State) (m : Master) (st : Fin 4) (v : Word), Gives (.scArm m st v) s fun t => Kept s t (TLY_CTRL st ::
      TLY_STAT st :: accRegs (P_TLY st))) ∧
  (∀ (s : State) (m : Master) (st : Fin 4) (k : Fin 256) (v : Word), Gives (.tlyScalePWrite m st k v) s fun t => Kept
      s t (TLY_SCALE_P st k :: TLY_STAT st :: accRegs (P_TLY st))) ∧
  (∀ (s : State) (m : Master) (st : Fin 4) (v : Word), Gives (.ldgTselWrite m st v) s fun t => (Kept s t (LDG_TSEL st
      :: accRegs (P_LDG st)) (fun b c => { b with stks := c.stks })) ∧ (∀ k, k ≠ st →
    t.b.stk k = s.b.stk k) ∧ ∀ k, (t.b.stk k).led = (s.b.stk k).led) ∧
  (∀ (s : State) (m : Master) (st : Fin 4) (i : Fin 8) (v : Word), Gives (.ldgTrecWrite m st i v) s fun t => (Kept s t
      (PG_ISTAT (P_LDG st) :: accRegs (P_LDG st)) (fun b c => { b with stks := c.stks })) ∧ (∀ k, k ≠ st →
    t.b.stk k = s.b.stk k) ∧ ∀ k, (t.b.stk k).led = (s.b.stk k).led) ∧
  (∀ (s : State) (st : Fin 4) (x : Fin 1024), Gives (.tileFillComplete st x) s fun t => (Kept s t [] (fun b c =>
      { b with stks := c.stks, frm := c.frm })) ∧ (∀ k, k ≠ st →
    t.b.stk k = s.b.stk k) ∧ ∀ a, (a < tBase (s.b.tile st x).trec ∨ tBase (s.b.tile st x).trec + stBytes (s.b.tile
      st x).trec ≤ a) →
    (tChin (s.b.tile st x).trec = true →
    a < tCbase (s.b.tile st x).trec ∨ tCbase (s.b.tile st x).trec + stBytes (s.b.tile st x).trec ≤ a) →
    (t.b.stk st).led.get zeroByte a = (s.b.stk st).led.get zeroByte a) ∧
  (∀ (s : State) (m : Master) (st : Fin 4) (a : Fin 8388608) (bs : List (Option Byte)) (x : Ecc), Gives (.ledgerWindowWrite m st a
      bs x) s fun t => (Kept s t (LDG_CECNT st :: LDG_UECNT st :: PG_ISTAT (P_LDG st) :: accRegs (0x2000000 +
      0x800000 * st + a)) (fun b c => { b with stks := c.stks, frm := c.frm, tail := c.tail })) ∧ (∀ k, k ≠ st →
    t.b.stk k = s.b.stk k) ∧ (x.ue = [] → ∀ k, (k < a.val ∨ a.val + bs.length ≤ k) →
    (t.b.stk st).led.get zeroByte k = (s.b.stk st).led.get zeroByte k)) ∧
  (∀ (s : State) (i : Nat) (d : Desc), Gives (.dTrec i d) s fun t => (Kept s t (PG_ISTAT (P_LDG (dTgt d)) :: issueRegs
      (dTgt d)) (fun b c => { b with stks := c.stks, frm := c.frm })) ∧ ∀ k, (t.b.stk k).led = (s.b.stk k).led) ∧
  (∀ (s : State) (i : Nat) (d : Desc) (x : Ecc), Gives (.dThop i d x) s fun t => (Kept s t (LDG_CECNT (dTgt d) ::
      LDG_UECNT (dTgt d) :: PG_ISTAT (P_LDG (dTgt d)) :: issueRegs (dTgt d)) (fun b c =>
      { b with stks := c.stks, frm := c.frm })) ∧ (x.ue = [] → ∀ k, (t.b.stk k).led = (s.b.stk k).led)) ∧
  (∀ (s : State) (i : Nat) (d : Desc), Gives (.dFence i d) s fun t => Kept s t (issueRegs (dTgt d)) (fun b c =>
      { b with frm := c.frm })) ∧
  (∀ (s : State) (i : Nat) (d : Desc), Gives (.dEnd i d) s fun t => Kept s t (issueRegs (dTgt d) ++ afRegs) (fun b c
      => { b with frm := c.frm })) ∧
  (∀ (s : State) (x : Fin 5), Gives (.fenceRelease x) s fun t => Kept s t [] (fun b c => { b with frm := c.frm })) ∧
  (∀ (s : State) (i : Nat), Gives (.descriptorComplete i) s fun t => Kept s t ((List.range 16).map MSQ_CTR) (fun b c
      => { b with frm := c.frm }))

/-- Link and flow commands leave the rest alone. A command for a lane, a port or a flow context changes the state of lanes
and ports or that one context, with the registers named for it; all else is as before -/
def Obligations.FrameLinks : Prop :=
  (∀ (s : State) (l : Fin 32) (k : Fin 4), Gives (.laneFault l k) s fun t => Kept s t (LNK_L_STAT l :: PG_ISTAT P_LNK
      :: (List.range 32).map LNK_P_STAT)) ∧
  (∀ (s : State) (p : Fin 32), Gives (.frameDiscard p) s fun t => Kept s t [LNK_P_RXDISC p]) ∧
  (∀ (s : State) (p : Fin 32) (ip : Word), Gives (.arpRequest p ip) s fun t => Kept s t [LNK_P_RXDISC p] (fun b c =>
      { b with vyv := { b.vyv with ports := c.vyv.ports } })) ∧
  (∀ (s : State) (p : Fin 32) (ip : List Word), Gives (.neighbourSolicitation p ip) s fun t => Kept s t [LNK_P_RXDISC
      p] (fun b c => { b with vyv := { b.vyv with ports := c.vyv.ports } })) ∧
  (∀ (s : State) (p : Fin 32) (v6 : Bool) (ip : List Word), Gives (.echoRequest p v6 ip) s fun t => Kept s t
      [LNK_P_RXDISC p] (fun b c => { b with vyv := { b.vyv with ports := c.vyv.ports } })) ∧
  (∀ (s : State) (p : Fin 32), Gives (.helloTimeout p) s fun t => Kept s t [] (fun b c =>
      { b with vyv := { b.vyv with ports := c.vyv.ports } })) ∧
  (∀ (s : State) (p : Fin 32), Gives (.portDown p) s fun t => Kept s t [LNK_P_STAT p, LNK_UP, PG_ISTAT P_LNK] (fun b c
      => { b with vyv := { b.vyv with ports := c.vyv.ports } })) ∧
  (∀ (s : State) (p : Fin 32), Gives (.portReform p) s fun t => Kept s t [LNK_P_STAT p, LNK_UP, PG_ISTAT P_LNK] (fun b
      c => { b with vyv := { b.vyv with ports := c.vyv.ports } })) ∧
  (∀ (s : State) (p : Fin 32), Gives (.portUp p) s fun t => Kept s t (LNK_P_STAT p :: LNK_UP :: LNK_DEGCNT :: PG_ISTAT
      P_LNK :: (List.range 8).map (fun i => LNK_L_STAT (p + i)) ++ (List.range 64).map LNK_F) (fun b c =>
      { b with vyv := { b.vyv with ports := c.vyv.ports } })) ∧
  (∀ (s : State) (m : Master) (p : Fin 32) (v : Word), Gives (.widen m p v) s fun t => Kept s t (linkRegs ++ accRegs
      P_LNK) (fun b c => { b with vyv := { b.vyv with ports := c.vyv.ports } })) ∧
  (∀ (s : State) (m : Master) (p : Fin 32) (v : Word), Gives (.portRestart m p v) s fun t => Kept s t (linkRegs ++
      accRegs P_LNK) (fun b c => { b with vyv := { b.vyv with ports := c.vyv.ports } })) ∧
  (∀ (s : State) (m : Master) (p : Fin 32) (v : Word), Gives (.lnkPCfgWrite m p v) s fun t => Kept s t (LNK_P_CFG p ::
      linkRegs ++ accRegs P_LNK) (fun b c => { b with vyv := { b.vyv with ports := c.vyv.ports, cfg := c.vyv.cfg } })) ∧
  (∀ (s : State), Gives (.refclk156Return) s fun t => Kept s t (CLK_STAT :: linkRegs) (fun b c =>
      { b with vyv := { b.vyv with ports := c.vyv.ports } })) ∧
  (∀ (s : State) (m : Master) (v : Word), Gives (.lnkSteer m v) s fun t => Kept s t (LNK_STEER_STAT :: LNK_L_STAT (fld
      v 0 5) :: LNK_L_FMAP (fld v 0 5) :: accRegs P_LNK) (fun b c =>
      { b with vyv := { b.vyv with steer := c.vyv.steer } })) ∧
  (∀ (s : State) (n : BitVec 32), Gives (.steerDone n) s fun t => Kept s t (steerRegs s.b ++ LNK_STEER_STAT ::
      LNK_STEERCNT :: PG_ISTAT P_LNK :: (List.range 32).map LNK_P_STAT) (fun b c =>
      { b with vyv := { b.vyv with steer := c.vyv.steer } })) ∧
  (∀ (s : State), Gives (.steerTimeout) s fun t => Kept s t (steerRegs s.b ++ LNK_STEER_STAT :: PG_ISTAT P_LNK ::
      (List.range 32).map LNK_P_STAT) (fun b c => { b with vyv := { b.vyv with steer := c.vyv.steer } })) ∧
  (∀ (s : State) (f : Fin 4096), Gives (.flowIdleTimeout f) s fun t => (Kept s t [] (fun b c =>
      { b with vyv := { b.vyv with flows := c.vyv.flows, held := c.vyv.held, faults := c.vyv.faults } })) ∧ ∀ k, k ≠ f →
    t.b.flow k = s.b.flow k) ∧
  (∀ (s : State) (f : Fin 4096), Gives (.flowFailed f) s fun t => (Kept s t [VYV_FSTAT, PG_ISTAT P_VYV] (fun b c =>
      { b with vyv := { b.vyv with flows := c.vyv.flows } })) ∧ ∀ k, k ≠ f →
    t.b.flow k = s.b.flow k) ∧
  (∀ (s : State) (f : Fin 4096), Gives (.rateIncrease f) s fun t => (Kept s t [] (fun b c =>
      { b with vyv := { b.vyv with flows := c.vyv.flows } })) ∧ ∀ k, k ≠ f →
    t.b.flow k = s.b.flow k) ∧
  (∀ (s : State) (m : Master) (i : Fin 16) (v : Word), Gives (.vyvFrecWrite m i v) s fun t => (Kept s t (VYV_FSTAT ::
      accRegs P_VYV) (fun b c => { b with vyv := { b.vyv with flows := c.vyv.flows } })) ∧ ∀ k, k ≠ s.b.rdF
      VYV_FSEL 0 12 →
    t.b.flow k = s.b.flow k) ∧
  (∀ (s : State) (l : Fin 4) (j : Fin 256), Gives (.memberMissed l j) s fun t => Kept s t [ROL_L_MISSCNT l, PG_ISTAT
      P_ROL] (fun b c => { b with rol := c.rol }))

/-- Commands that write memory store only what they are told. A HBM copy, a DMA into the module, an aperture write and a
frame-program write change the bytes they name, what they read being unchanged, with the registers and units named;
every other byte of memory is as before -/
def Obligations.FrameMemory : Prop :=
  (∀ (s : State) (i : Nat) (d : Desc) (x : Ecc), Gives (.dHbm i d x) s fun t => (Kept s t (issueRegs (dTgt d) ++
      afRegs ++ eccRegs) (fun b c =>
      { b with mem := c.mem, frm := c.frm, host := { b.host with hbmCnt := c.host.hbmCnt } })) ∧ ∀ a, (a < hbmAddr
      d 4 9 s.b.pbase ∨ hbmAddr d 4 9 s.b.pbase + dF d 6 0 32 ≤ a) →
    t.b.rd8 a = s.b.rd8 a) ∧
  (∀ (s : State) (m : Master) (k : Fin 4194304) (bs : List (Option Byte)), Gives (.frameProgramWindowWrite m k bs) s
      fun t => (Kept s t (MSQ_PWREF :: accRegs (0x1400000 + k)) (fun b c => { b with mem := c.mem })) ∧ ∀ a, ((bs[a
      - (fpBase + k)]?).join = none ∨ a < fpBase + k ∨ fpBase + 4194304 ≤ a) →
    t.b.rd8 a = s.b.rd8 a) ∧
  (∀ (s : State) (a : BitVec 37) (bs : List (Option Byte)), Gives (.bar2Write a bs) s fun t => (Kept s t (errRegs ++
      afRegs) (fun b c =>
      { b with mem := c.mem, host := { b.host with hbmCnt := c.host.hbmCnt, bar2Q := c.host.bar2Q } })) ∧ ∀ k,
      ((bs[k - a.toNat]?).join = none ∨ k < a.toNat) →
    t.b.rd8 k = s.b.rd8 k) ∧
  (∀ (s : State) (n : Fin 4) (hd : List Byte) (x : Ecc) (fl : Option Nat), Gives (.dmaComplete n hd x fl) s fun t =>
      (Kept s t (GLB_DMA_STAT n :: GLB_DMA_DONELEN n :: PG_ISTAT P_GLB :: eccRegs) (fun b c =>
      { b with mem := c.mem, free := c.free, host := { b.host with hbmCnt := c.host.hbmCnt, dma := c.host.dma } }))
      ∧ ∀ a, (∀ q, s.b.dma n = some q →
    q.toHost = true ∨ a < q.maddr ∨ q.maddr + q.len ≤ a) → t.b.rd8 a = s.b.rd8 a) ∧
  (∀ (s : State), Gives (.hbmWindowEnd) s fun t => Kept s t (HBM_IMB :: HBM_STAT :: HBM_IMBCNT :: PG_ISTAT P_HBM ::
      (List.range 64).map HBM_PC_CNT) (fun b c => { b with host := { b.host with hbmCnt := c.host.hbmCnt } }))

/-- Flows, rolls, requests and traces leave the rest alone. A command for a flow, a roll, a power request, a save, a trace
or an Assay window changes registers of the pages named for it and the units named; every other register, unit,
engine, stack and memory is as before, but for the records of failed accesses and of logging -/
def Obligations.FrameProtocols : Prop :=
  (∀ (s : State) (m : Master) (v : Word), Gives (.flowOpen m v) s fun t => KeptWhere s t (outside [.vyv]) (fun b c =>
      { b with vyv := { b.vyv with faults := c.vyv.faults, flows := c.vyv.flows, held := c.vyv.held } })) ∧
  (∀ (s : State) (m : Master) (v : Word), Gives (.flowClose m v) s fun t => KeptWhere s t (outside [.vyv]) (fun b c =>
      { b with vyv := { b.vyv with faults := c.vyv.faults, flows := c.vyv.flows, held := c.vyv.held } })) ∧
  (∀ (s : State) (m : Master) (v : Word), Gives (.flowAbort m v) s fun t => KeptWhere s t (outside [.vyv]) (fun b c =>
      { b with vyv := { b.vyv with faults := c.vyv.faults, flows := c.vyv.flows, held := c.vyv.held } })) ∧
  (∀ (s : State) (f : Fin 4096) (seq : BitVec 32), Gives (.controlRetransmit f seq) s fun t => KeptWhere s t (outside
      [.vyv]) (fun b c => { b with vyv := { b.vyv with flows := c.vyv.flows } })) ∧
  (∀ (s : State) (f : Fin 4096), Gives (.eceAckTimeout f) s fun t => KeptWhere s t (outside []) (fun b c =>
      { b with vyv := { b.vyv with flows := c.vyv.flows } })) ∧
  (∀ (s : State) (f : Fin 4096), Gives (.faultSend f) s fun t => KeptWhere s t (outside [.vyv]) (fun b c =>
      { b with vyv := { b.vyv with faults := c.vyv.faults, flows := c.vyv.flows } })) ∧
  (∀ (s : State) (a : Arrival) (msg : Msg), Gives (.rxAck a msg) s fun t => KeptWhere s t (outside [.vyv, .rol]) (fun
      b c => { b with vyv := { b.vyv with faults := c.vyv.faults, flows := c.vyv.flows, held := c.vyv.held } })) ∧
  (∀ (s : State) (a : Arrival) (msg : Msg), Gives (.rxError a msg) s fun t => KeptWhere s t (outside [.vyv, .rol])
      (fun b c => { b with vyv := { b.vyv with flows := c.vyv.flows } })) ∧
  (∀ (s : State) (a : Arrival) (msg : Msg), Gives (.rxOpen a msg) s fun t => KeptWhere s t (outside [.vyv, .rol]) (fun
      b c => { b with vyv := { b.vyv with flows := c.vyv.flows } })) ∧
  (∀ (s : State) (a : Arrival) (msg : Msg), Gives (.rxOpenOk a msg) s fun t => KeptWhere s t (outside [.vyv, .rol])
      (fun b c => { b with vyv := { b.vyv with flows := c.vyv.flows } })) ∧
  (∀ (s : State) (a : Arrival) (msg : Msg), Gives (.rxNoContext a msg) s fun t => KeptWhere s t (outside [.vyv, .rol])
      (fun b c => { b with vyv := { b.vyv with flows := c.vyv.flows } })) ∧
  (∀ (s : State) (a : Arrival) (msg : Msg), Gives (.rxHello a msg) s fun t => KeptWhere s t (outside [.lnk, .vyv,
      .rol]) (fun b c => { b with vyv := { b.vyv with flows := c.vyv.flows, ports := c.vyv.ports } })) ∧
  (∀ (s : State) (a : Arrival) (msg : Msg), Gives (.rxHb a msg) s fun t => KeptWhere s t (outside [.msq, .vyv, .rol])
      (fun b c =>
      { b with startQ := c.startQ, rol := { b.rol with decide := c.rol.decide, heard := c.rol.heard, prop := c.rol.prop, wait := c.rol.wait }, vyv := { b.vyv with flows := c.vyv.flows } })) ∧
  (∀ (s : State), Gives (.heartbeatSend) s fun t => KeptWhere s t (outside []) (fun b c =>
      { b with rol := { b.rol with heard := c.rol.heard }, vyv := { b.vyv with flows := c.vyv.flows, hb := c.vyv.hb } })) ∧
  (∀ (s : State) (l : Fin 4), Gives (.rollDecide l) s fun t => KeptWhere s t (outside [.msq, .rol]) (fun b c =>
      { b with startQ := c.startQ, rol := { b.rol with decide := c.rol.decide, heard := c.rol.heard, prop := c.rol.prop, wait := c.rol.wait }, vyv := { b.vyv with flows := c.vyv.flows } })) ∧
  (∀ (s : State) (l : Fin 4), Gives (.viewWaitExpiry l) s fun t => KeptWhere s t (outside [.msq, .rol]) (fun b c =>
      { b with startQ := c.startQ, rol := { b.rol with decide := c.rol.decide, heard := c.rol.heard, prop := c.rol.prop, wait := c.rol.wait }, vyv := { b.vyv with flows := c.vyv.flows } })) ∧
  (∀ (s : State) (l : Fin 4), Gives (.autojoin l) s fun t => KeptWhere s t (outside [.msq, .rol]) (fun b c =>
      { b with startQ := c.startQ, rol := { b.rol with decide := c.rol.decide, heard := c.rol.heard, prop := c.rol.prop, wait := c.rol.wait }, vyv := { b.vyv with flows := c.vyv.flows } })) ∧
  (∀ (s : State) (m : Master) (v : Word), Gives (.rolJoin m v) s fun t => KeptWhere s t (outside [.msq, .rol]) (fun b
      c =>
      { b with startQ := c.startQ, rol := { b.rol with decide := c.rol.decide, heard := c.rol.heard, prop := c.rol.prop, wait := c.rol.wait }, vyv := { b.vyv with flows := c.vyv.flows } })) ∧
  (∀ (s : State) (m : Master) (v : Word), Gives (.rolForce m v) s fun t => KeptWhere s t (outside [.msq, .rol]) (fun b
      c =>
      { b with startQ := c.startQ, rol := { b.rol with decide := c.rol.decide, heard := c.rol.heard, prop := c.rol.prop, wait := c.rol.wait }, vyv := { b.vyv with flows := c.vyv.flows } })) ∧
  (∀ (s : State) (m : Master) (v : Word), Gives (.rolCtrlWrite m v) s fun t => KeptWhere s t (outside [.rol]) (fun b c
      => {
      b with rol :=
      { b.rol with decide := c.rol.decide, heard := c.rol.heard, prop := c.rol.prop, wait := c.rol.wait } })) ∧
  (∀ (s : State) (m : Master) (v : Word), Gives (.rehash m v) s fun t => KeptWhere s t (outside [.hbm]) (fun b c =>
      { b with host := { b.host with rehash := c.host.rehash }, vyv := { b.vyv with held := c.vyv.held } })) ∧
  (∀ (s : State), Gives (.rehashComplete) s fun t => KeptWhere s t (outside [.hbm]) (fun b c =>
      { b with free := c.free, hbmGen := c.hbmGen, mem := c.mem, host := { b.host with bar2Q := c.host.bar2Q, hbmCnt := c.host.hbmCnt, rehash := c.host.rehash } })) ∧
  (∀ (s : State) (idx : Nat) (d : Desc) (ecc : Ecc), Gives (.dVsend idx d ecc) s fun t => KeptWhere s t (outside
      [.seq, .hbm, .msq]) (fun b c =>
      { b with frm := c.frm, host := { b.host with hbmCnt := c.host.hbmCnt }, vyv := { b.vyv with flows := c.vyv.flows, txLog := c.vyv.txLog } })) ∧
  (∀ (s : State) (idx : Nat) (d : Desc) (ecc : Ecc), Gives (.dVsendStartRecord idx d ecc) s fun t => KeptWhere s t
      (outside [.seq, .hbm, .msq]) (fun b c =>
      { b with frm := c.frm, host := { b.host with hbmCnt := c.host.hbmCnt }, vyv := { b.vyv with flows := c.vyv.flows, txLog := c.vyv.txLog } })) ∧
  (∀ (s : State), Gives (.frameLimitExpiry) s fun t => KeptWhere s t (outside [.msq]) mayCompute) ∧
  (∀ (s : State) (p : Fin 5), Gives (.pllUnlock p) s fun t => KeptWhere s t (outside [.clk, .msq]) (fun b c =>
      { mayCompute b c with pw := { b.pw with pllLost := c.pw.pllLost } })) ∧
  (∀ (s : State), Gives (.moduleReset) s fun t => KeptWhere s t (outside [.rst, .msq]) (fun b c =>
      { mayCompute b c with startQ := c.startQ, pw := { b.pw with drain := c.pw.drain, phase := c.pw.phase } })) ∧
  (∀ (s : State) (trigger : Fin 2), Gives (.saveTrigger trigger) s fun t => KeptWhere s t (outside [.lco]) (fun b c =>
      { b with frm := c.frm, pins := c.pins, startQ := c.startQ, tail := c.tail, vlt := c.vlt, pw := c.pw })) ∧
  (∀ (s : State), Gives (.saveComplete) s fun t => KeptWhere s t (outside []) (fun b c =>
      { b with free := c.free, pw := { b.pw with areaA := c.pw.areaA, areaB := c.pw.areaB, phase := c.pw.phase, saving := c.pw.saving } })) ∧
  (∀ (s : State), Gives (.holdUpNodeCollapse) s fun t => KeptWhere s t (outside []) (fun b c =>
      { b with pw := { b.pw with areaA := c.pw.areaA, areaB := c.pw.areaB, mionus := c.pw.mionus, phase := c.pw.phase, saving := c.pw.saving } })) ∧
  (∀ (s : State), Gives (.pwrgdAonDeassert) s fun t => KeptWhere s t (outside []) (fun b c =>
      { b with frm := c.frm, pw := { b.pw with latchArmed := c.pw.latchArmed, mionus := c.pw.mionus, phase := c.pw.phase } })) ∧
  (∀ (s : State) (m : Master) (v : Word), Gives (.pwrReq m v) s fun t => KeptWhere s t (outside [.pwr, .lco, .msq])
      (fun b c =>
      { b with startQ := c.startQ, pw := { b.pw with behind := c.pw.behind, dark := c.pw.dark, deadAt := c.pw.deadAt, forced := c.pw.forced, now := c.pw.now, startup := c.pw.startup, wait := c.pw.wait } })) ∧
  (∀ (s : State), Gives (.holdToActiveComplete) s fun t => KeptWhere s t (outside [.pwr, .lco, .msq, .eng, .den])
      (fun b c =>
      { b with engs := c.engs, startQ := c.startQ, pw := { b.pw with behind := c.pw.behind, dark := c.pw.dark, deadAt := c.pw.deadAt, forced := c.pw.forced, now := c.pw.now, startup := c.pw.startup, wait := c.pw.wait } })) ∧
  (∀ (s : State), Gives (.mrComplete) s fun t => KeptWhere s t (outside [.pwr, .rst, .lco, .mbx, .msq]) (fun b c =>
      { b with startQ := c.startQ, pw := c.pw })) ∧
  (∀ (s : State), Gives (.mapCommit) s fun t => KeptWhere s t (outside [.pwr, .lco, .asg, .msq, .eng, .den]) (fun b c
      => {
      b with engs := c.engs, startQ := c.startQ, pw :=
      { b.pw with behind := c.pw.behind, dark := c.pw.dark, deadAt := c.pw.deadAt, forced := c.pw.forced, now := c.pw.now, startup := c.pw.startup, wait := c.pw.wait } })) ∧
  (∀ (s : State), Gives (.mionusBoot) s fun t => KeptWhere s t (outside [.id_, .pwr, .rst, .lco, .vlt, .mbx, .msq])
      (fun b c => { b with startQ := c.startQ, host := { b.host with mbx := c.host.mbx }, pw := c.pw })) ∧
  (∀ (s : State) (m : Master) (st : Fin 4), Gives (.asyRSumRead m st) s fun t => KeptWhere s t (outside [.asy]) (fun b
      c => { b with host := { b.host with pf1 := c.host.pf1 } })) ∧
  (∀ (s : State), Gives (.smbBlockRead) s fun t => KeptWhere s t (outside [.mbx, .smb, .ce, .asy, .trm, .asg, .trmd,
      .eng, .den]) (fun b c =>
      { b with host := { b.host with aonHi := c.host.aonHi, dbkRd := c.host.dbkRd, ebud := c.host.ebud, mbx := c.host.mbx, pf1 := c.host.pf1, timeHi := c.host.timeHi } })) ∧
  (∀ (s : State) (m : Master) (st : Fin 4) (v : Word), Gives (.ceTdataWrite m st v) s fun t => KeptWhere s t (outside
      [.ce]) (fun b c => { b with stks := c.stks })) ∧
  (∀ (s : State) (m : Master) (st : Fin 4) (t : Fin 4) (v : Word), Gives (.traceArm m st t v) s fun t => KeptWhere s t
      (outside [.ce]) (fun b c => { b with stks := c.stks })) ∧
  (∀ (s : State) (m : Master) (st : Fin 4) (t : Fin 4) (v : Word), Gives (.traceForce m st t v) s fun t => KeptWhere s
      t (outside [.ce]) (fun b c => { b with stks := c.stks })) ∧
  (∀ (s : State) (m : Master) (st : Fin 4) (t : Fin 4) (v : Word), Gives (.traceStop m st t v) s fun t => KeptWhere s
      t (outside [.ce]) (fun b c => { b with stks := c.stks })) ∧
  (∀ (s : State) (st : Fin 4) (t : Fin 4), Gives (.traceSample st t) s fun t => KeptWhere s t (outside [.ce]) (fun b c
      => { b with stks := c.stks })) ∧
  (∀ (s : State) (st : Fin 4), Gives (.assaySampleDecode st) s fun t => KeptWhere s t (outside [.asy]) (fun b c =>
      { b with stks := c.stks })) ∧
  (∀ (s : State) (st : Fin 4) (slot : Fin 18) (row : Fin 512), Gives (.assayWindowPublish st slot row) s fun t =>
      KeptWhere s t (outside [.asy]) (fun b c => { b with stks := c.stks })) ∧
  (∀ (s : State) (e : Fin 72) (peaks : List Peak), Gives (.sweepEnd e peaks) s fun t => KeptWhere s t (outside []) (fun b c => { b with engs := c.engs })) ∧
  (∀ (s : State) (e : Fin 72), Gives (.lockReading e) s fun t => KeptWhere s t (outside []) (fun b c =>
      { b with engs := c.engs })) ∧
  (∀ (s : State) (e : Fin 72), Gives (.wakeHoldExpiry e) s fun t => KeptWhere s t (outside []) (fun b c =>
      { b with engs := c.engs })) ∧
  (∀ (s : State) (m : Master) (off : BitVec 26) (v : Word), Gives (.pageReset m off v) s fun t => KeptWhere s t (fun o
      => o / 0x1000 != off.toNat / 0x1000) (fun b c =>
      { b with stks := c.stks, host := { b.host with dbkRd := c.host.dbkRd, dma := c.host.dma } }))

/-- Passes, tiles, engine wakes and plate builds leave the board alone. A command of the resident engines, the tally tree,
the Ledger or the plate changes engines, stacks, memory and the frame in progress, with what is named besides, and no
register of the pages GLB to SMB but the records of failed accesses and of logging; all other units are as before -/
def Obligations.FrameComputing : Prop :=
  (∀ (s : State) (st : Fin 4) (con : Nat), Gives (.treeColumnResult st con) s fun t => KeptWhere s t onBoard mayCompute) ∧
  (∀ (s : State) (st : Fin 4) (slot : Fin 1024) (ecc : Ecc), Gives (.contributionApply st slot ecc) s fun t =>
      KeptWhere s t onBoard mayCompute) ∧
  (∀ (s : State) (st : Fin 4) (slot : Fin 1024), Gives (.arrivalStoreMove st slot) s fun t => KeptWhere s t onBoard
      (fun b c => { b with stks := c.stks, vyv := { b.vyv with faults := c.vyv.faults } })) ∧
  (∀ (s : State) (idx : Nat) (d : Desc) (ecc : Ecc), Gives (.dRdbk idx d ecc) s fun t => KeptWhere s t onBoard mayCompute) ∧
  (∀ (s : State) (st : Fin 4) (hop : Nat), Gives (.tallyHopForward st hop) s fun t => KeptWhere s t onBoard (fun b c
      => { b with frm := c.frm, stks := c.stks, vyv := { b.vyv with flows := c.vyv.flows, txLog := c.vyv.txLog } })) ∧
  (∀ (s : State) (st : Fin 4) (hop : Nat), Gives (.stackHopDelivery st hop) s fun t => KeptWhere s t onBoard (fun b c
      => { b with frm := c.frm, stks := c.stks, vyv := { b.vyv with faults := c.vyv.faults } })) ∧
  (∀ (s : State) (st : Fin 4) (slot : Fin 1024) (ecc : Ecc), Gives (.runningSumApply st slot ecc) s fun t => KeptWhere s t onBoard
      mayCompute) ∧
  (∀ (s : State) (st : Fin 4) (slot : Fin 1024) (ecc : Ecc), Gives (.runningSumTimeout st slot ecc) s fun t => KeptWhere s t onBoard
      mayCompute) ∧
  (∀ (s : State) (idx : Nat) (d : Desc) (adc : List (List (BitVec 8))), passShape d adc = true →
    Gives (.dPass idx d adc) s fun t => KeptWhere s t onBoard mayCompute) ∧
  (∀ (s : State), Gives (.frameBegin) s fun t => KeptWhere s t onBoard (fun b c =>
      { mayCompute b c with startQ := c.startQ, vyv := { b.vyv with cur := c.vyv.cur, faults := c.vyv.faults, held := c.vyv.held } })) ∧
  (∀ (s : State) (idx : Nat) (d : Desc), Gives (.dWake idx d) s fun t => KeptWhere s t onBoard (fun b c =>
      { b with engs := c.engs, frm := c.frm, nextWake := c.nextWake, wakes := c.wakes })) ∧
  (∀ (s : State) (hint : Nat), Gives (.wakeHintDelayExpiry hint) s fun t => KeptWhere s t onBoard (fun b c =>
      { b with engs := c.engs, wakes := c.wakes })) ∧
  (∀ (s : State) (m : Master) (e : Fin 64) (v : Word), Gives (.engWakeRun m e v) s fun t => KeptWhere s t onBoard (fun
      b c => { b with engs := c.engs })) ∧
  (∀ (s : State) (m : Master) (e : Fin 64) (v : Word), Gives (.engWakeDoze m e v) s fun t => KeptWhere s t onBoard
      (fun b c => { b with engs := c.engs })) ∧
  (∀ (s : State) (m : Master) (n : Fin 8) (v : Word), Gives (.denWakeRun m n v) s fun t => KeptWhere s t onBoard (fun
      b c => { b with engs := c.engs })) ∧
  (∀ (s : State) (m : Master) (n : Fin 8) (v : Word), Gives (.denWakeDoze m n v) s fun t => KeptWhere s t onBoard (fun
      b c => { b with engs := c.engs })) ∧
  (∀ (s : State) (e : Fin 72), Gives (.idleTimerExpiry e) s fun t => KeptWhere s t onBoard (fun b c =>
      { b with engs := c.engs })) ∧
  (∀ (s : State) (st : Fin 4) (ecc : Ecc), Gives (.queuedBuildStart st ecc) s fun t => KeptWhere s t onBoard mayCompute) ∧
  (∀ (s : State) (e : Fin 64), Gives (.buildComplete e) s fun t => KeptWhere s t onBoard mayCompute) ∧
  (∀ (s : State) (e : Fin 64), Gives (.loadModeScanComplete e) s fun t => KeptWhere s t onBoard mayCompute) ∧
  (∀ (s : State) (m : Master) (a : Fin 8388608) (bytes : List (Option Byte)), Gives (.plateWindowWrite m a bytes) s
      fun t => KeptWhere s t onBoard (fun b c => { b with engs := c.engs })) ∧
  (∀ (s : State) (m : Master) (st : Fin 4), Gives (.pltCurveArm m st) s fun t => KeptWhere s t onBoard mayCompute) ∧
  (∀ (s : State) (st : Fin 4) (i : Fin 1032), Gives (.loopOverrun st i) s fun t => KeptWhere s t onBoard (fun b c =>
      { b with engs := c.engs, frm := c.frm, free := c.free })) ∧
  (∀ (s : State) (st : Fin 4), Gives (.calibrationStart st) s fun t => KeptWhere s t onBoard (fun b c =>
      { b with engs := c.engs, stks := c.stks })) ∧
  (∀ (s : State) (st : Fin 4), Gives (.probePointRestart st) s fun t => KeptWhere s t onBoard (fun b c =>
      { b with engs := c.engs, stks := c.stks })) ∧
  (∀ (s : State) (st : Fin 4), Gives (.calRetry st) s fun t => KeptWhere s t onBoard (fun b c =>
      { b with engs := c.engs, stks := c.stks })) ∧
  (∀ (s : State) (e : Fin 72), Gives (.assayLiveSample e) s fun t => KeptWhere s t onBoard (fun b c =>
      { b with engs := c.engs, stks := c.stks }))

/-- Work that moves the dynamic engines leaves the board alone. A command of the Mint, the dynamic engines, an assignment,
a lock loop, a calibration or a received tensor, each of which may let waiting symbols and jobs go on, changes
engines, stacks, memory and the frame in progress, with what is named besides, and no register of the pages GLB to SMB
but the records of failed accesses and of logging. A boundary, Stow entry, a watchdog expiry and a reset command
change moreover only the units named -/
def Obligations.FrameEngineWork : Prop :=
  (∀ (s : State) (idx : Nat) (d : Desc) (ecc : Ecc), Gives (.dMintConvert idx d ecc) s fun t => KeptWhere s t onBoard
      mayCompute) ∧
  (∀ (s : State) (idx : Nat) (d : Desc) (ecc : Ecc), Gives (.dMintReplay idx d ecc) s fun t => KeptWhere s t onBoard
      mayCompute) ∧
  (∀ (s : State) (idx : Nat) (d : Desc), Gives (.dMintCutThroughReplay idx d) s fun t => KeptWhere s t onBoard mayCompute) ∧
  (∀ (s : State) (idx : Nat) (d : Desc) (ecc : Ecc), Gives (.dMintx idx d ecc) s fun t => KeptWhere s t onBoard mayCompute) ∧
  (∀ (s : State) (idx : Nat) (d : Desc) (ecc : Ecc), Gives (.dDfill idx d ecc) s fun t => KeptWhere s t onBoard mayCompute) ∧
  (∀ (s : State) (n : Fin 8), Gives (.latch n) s fun t => KeptWhere s t onBoard mayCompute) ∧
  (∀ (s : State) (idx : Nat) (d : Desc) (adc : List (List (BitVec 8))) (ecc : Ecc), dynShape d adc = true →
    Gives (.dDscore idx d adc ecc) s fun t => KeptWhere s t onBoard mayCompute) ∧
  (∀ (s : State) (idx : Nat) (d : Desc) (adc : List (List (BitVec 8))) (ecc : Ecc), dynShape d adc = true →
    Gives (.dDvalue idx d adc ecc) s fun t => KeptWhere s t onBoard mayCompute) ∧
  (∀ (s : State) (idx : Nat) (d : Desc), Gives (.dVrecv idx d) s fun t => KeptWhere s t onBoard (fun b c =>
      { mayCompute b c with vyv := { b.vyv with faults := c.vyv.faults, held := c.vyv.held } })) ∧
  (∀ (s : State) (idx : Nat), Gives (.vrecvWaitExpiry idx) s fun t => KeptWhere s t onBoard mayCompute) ∧
  (∀ (s : State) (a : Arrival) (msg : Msg), Gives (.rxWrite a msg) s fun t => KeptWhere s t onBoard (fun b c =>
      { mayCompute b c with vyv := { b.vyv with faults := c.vyv.faults, flows := c.vyv.flows, held := c.vyv.held } })) ∧
  (∀ (s : State) (a : Arrival) (msg : Msg), Gives (.rxTally a msg) s fun t => KeptWhere s t onBoard (fun b c =>
      { mayCompute b c with vyv := { b.vyv with faults := c.vyv.faults, flows := c.vyv.flows, held := c.vyv.held } })) ∧
  (∀ (s : State) (e : Fin 72), Gives (.wakeToRunComplete e) s fun t => KeptWhere s t onBoard mayCompute) ∧
  (∀ (s : State) (m : Master) (e : Fin 64) (v : Word) (ecc : Ecc), Gives (.engLoadStart m e v ecc) s fun t =>
      KeptWhere s t onBoard mayCompute) ∧
  (∀ (s : State) (m : Master) (e : Fin 64) (v : Word), Gives (.engLoadRebuild m e v) s fun t => KeptWhere s t onBoard
      mayCompute) ∧
  (∀ (s : State) (m : Master) (e : Fin 64) (v : Word), Gives (.engLoadAbort m e v) s fun t => KeptWhere s t onBoard
      mayCompute) ∧
  (∀ (s : State) (m : Master) (e : Fin 72) (v : Word), Gives (.trmRdataWrite m e v) s fun t => KeptWhere s t onBoard
      mayCompute) ∧
  (∀ (s : State) (m : Master) (a : Fin 524288) (v : Word), Gives (.trimWindowWrite m a v) s fun t => KeptWhere s t
      onBoard mayCompute) ∧
  (∀ (s : State) (m : Master) (e : Fin 72) (v : Word), Gives (.asgStart m e v) s fun t => KeptWhere s t onBoard mayCompute) ∧
  (∀ (s : State) (m : Master) (e : Fin 72) (v : Word), Gives (.asgReplace m e v) s fun t => KeptWhere s t onBoard
      (fun b c => { mayCompute b c with pw := { b.pw with stage := c.pw.stage } })) ∧
  (∀ (s : State) (m : Master) (e : Fin 72) (v : Word), Gives (.asgAbort m e v) s fun t => KeptWhere s t onBoard mayCompute) ∧
  (∀ (s : State) (e : Fin 72), Gives (.groupSweepBegin e) s fun t => KeptWhere s t onBoard mayCompute) ∧
  (∀ (s : State) (e : Fin 72) (fails : List (Nat × Nat)) (peaks : List Peak), Gives (.searchComplete e fails peaks) s
      fun t => KeptWhere s t onBoard (fun b c => { mayCompute b c with pw := { b.pw with stage := c.pw.stage } })) ∧
  (∀ (s : State) (st : Fin 4) (i : Fin 1032) (stream : List (BitVec 12)), Gives (.loopSample st i stream) s fun t => KeptWhere s t onBoard mayCompute) ∧
  (∀ (s : State) (e : Fin 72) (q : Fin 64) (peak : Option (Int × Int)) (kbias : Option (BitVec 16)), Gives
      (.wideAcquisitionEnd e q peak kbias) s fun t => KeptWhere s t onBoard mayCompute) ∧
  (∀ (s : State) (e : Fin 72) (q : Fin 64), Gives (.acquireTimeout e q) s fun t => KeptWhere s t onBoard mayCompute) ∧
  (∀ (s : State) (e : Fin 72) (q : Fin 64), Gives (.verifyAttemptComplete e q) s fun t =>
      KeptWhere s t onBoard mayCompute) ∧
  (∀ (s : State) (e : Fin 72) (q : Fin 64), Gives (.correlationCheck e q) s fun t => KeptWhere
      s t onBoard mayCompute) ∧
  (∀ (s : State) (e : Fin 72) (q : Fin 64), Gives (.coastTimeout e q) s fun t => KeptWhere s t onBoard mayCompute) ∧
  (∀ (s : State) (e : Fin 72) (q : Fin 64) (peaks : List Int), Gives (.reSearchComplete e q peaks) s fun t =>
      KeptWhere s t onBoard mayCompute) ∧
  (∀ (s : State) (fibre : Fin 16) (light : Bool), Gives (.darkLightCheck fibre light) s fun t => KeptWhere s t onBoard
      mayCompute) ∧
  (∀ (s : State) (m : Master) (e : Fin 72) (v : Word), Gives (.lckResearch m e v) s fun t => KeptWhere s t onBoard
      mayCompute) ∧
  (∀ (s : State) (m : Master) (e : Fin 72) (v : Word), Gives (.lckRelease m e v) s fun t => KeptWhere s t onBoard
      mayCompute) ∧
  (∀ (s : State) (m : Master) (e : Fin 72) (v : Word), Gives (.lckClrexcl m e v) s fun t => KeptWhere s t onBoard
      mayCompute) ∧
  (∀ (s : State) (m : Master) (e : Fin 72) (q : Fin 64) (v : Word), Gives (.lckRCfgWrite m e q v) s fun t => KeptWhere
      s t onBoard mayCompute) ∧
  (∀ (s : State) (st : Fin 4) (adc : List (List (BitVec 8))), Gives (.probePointComplete st adc) s fun t => KeptWhere s t onBoard mayCompute) ∧
  (∀ (s : State) (st : Fin 4), Gives (.calHoldLimit st) s fun t => KeptWhere s t onBoard mayCompute) ∧
  (∀ (s : State) (st : Fin 4), Gives (.calFitComplete st) s fun t => KeptWhere s t onBoard (fun b c =>
      { mayCompute b c with pw := { b.pw with stage := c.pw.stage } })) ∧
  (∀ (s : State) (st : Fin 4), Gives (.calDecodeComplete st) s fun t => KeptWhere s t onBoard mayCompute) ∧
  (∀ (s : State), Gives (.heaterWarmUpComplete) s fun t => KeptWhere s t onBoard (fun b c =>
      { mayCompute b c with pw := { b.pw with startup := c.pw.startup } })) ∧
  (∀ (s : State) (st : Fin 4) (g : Fin 18), Gives (.bankSwap st g) s fun t => KeptUnits s t (fun b c =>
      { mayCompute b c with startQ := c.startQ, tail := c.tail, pw := c.pw })) ∧
  (∀ (s : State), Gives (.emptyBoundary) s fun t => KeptUnits s t (fun b c =>
      { mayCompute b c with startQ := c.startQ, tail := c.tail, pw := c.pw })) ∧
  (∀ (s : State), Gives (.frameBoundary) s fun t => KeptUnits s t (fun b c =>
      { mayCompute b c with bnds := c.bnds, gap := c.gap, startQ := c.startQ, tail := c.tail, pw := c.pw, vyv := { b.vyv with faults := c.vyv.faults, held := c.vyv.held } })) ∧
  (∀ (s : State), Gives (.enterStow) s fun t => KeptUnits s t (fun b c =>
      { mayCompute b c with startQ := c.startQ, tail := c.tail, wakes := c.wakes, pw := c.pw })) ∧
  (∀ (s : State), Gives (.mrResetPhase) s fun t => KeptUnits s t (fun b c =>
      { mayCompute b c with hk := c.hk, startQ := c.startQ, host := { b.host with dma := c.host.dma, hbmCnt := c.host.hbmCnt, mbx := c.host.mbx }, pw := c.pw })) ∧
  (∀ (s : State), Gives (.watchdogExpiry) s fun t => KeptUnits s t (fun b c =>
      { mayCompute b c with vlt := c.vlt, pw := c.pw })) ∧
  (∀ (s : State) (m : Master) (v : Word), Gives (.rstCmdMr m v) s fun t => KeptUnits s t (fun b c =>
      { mayCompute b c with startQ := c.startQ, vlt := c.vlt, pw := c.pw })) ∧
  (∀ (s : State) (m : Master) (v : Word), Gives (.rstCmdMionus m v) s fun t => KeptUnits s t (fun b c =>
      { mayCompute b c with startQ := c.startQ, vlt := c.vlt, pw := c.pw }))

/-- A step runs the command at the front of the queue. A step takes the command at the front of the queue and is its
execution with the rest of the queue; on an empty queue, which is the model's own choice (assumption 6), 4 ns pass, of
STEADY time only once the dies are released. -/
def Obligations.StepRunsFront : Prop :=
  (∀ (c : Instr) (r : List Instr) (s : State), s.pending = c :: r → step s = exec c { s with pending := r }) ∧
  (∀ s : State, s.pending = [] → step s = .next s.tick ∧ s.tick.pending = [] ∧ s.tick.b.up = s.b.up + 1 ∧
    s.tick.b.time = if s.b.pw.phase.diesUp then s.b.time + 1 else s.b.time)

/-- The module right after power-on reset. After reset no command waits, the island alone runs, no frame runs, no start
record waits, memory lists nothing, and every register holds the value that its map gives for PO, zero where the map
gives none or says HW (the model's choice, assumptions 1, 4 and 25); some of those values are written out. -/
def Obligations.ResetState : Prop :=
  State.reset.pending = [] ∧ State.reset.inv ∧ State.reset.b.pw.phase = .island ∧ State.reset.b.frm = none ∧
  State.reset.b.startQ = [] ∧ State.reset.b.mem = [] ∧ (∀ o, State.reset.rd o = regDefault o) ∧
  (∀ m : Fin 4, State.reset.rd (HTR_ILIM m) = 2000) ∧ State.reset.rd MSQ_CTRL = 0 ∧ State.reset.rd PWR_STATE = 1 ∧
  State.reset.rd THM_LIM = 0x7369645F ∧ State.reset.rd DBK_IRQSEV = 5 ∧ State.reset.rd VYV_RTO = 0x60014 ∧
  State.reset.rd LNK_CTRL = 3 ∧ (∀ e : Fin 64, State.reset.rd (ENG_CFG e) = 3)

/-- Every step keeps the Daybook in form. From every state whose Daybook holds at most 16,384 entries, each of one of the
eight severities, with no event left unlogged, every step that answers a next state gives such a state. -/
def Obligations.StepKeepsInvariant : Prop :=
  ∀ s t : State, s.inv → step s = .next t → t.inv

/-- Every command that a sender can form completes. Whatever the state, a command that is well formed answers a next state
and leaves the queue as it is; a PASS, DSCORE or DVALUE whose list of ADC codes has not the shape of its symbols,
which no sender can form, stops with operandShape. -/
def Obligations.CommandsComplete : Prop :=
  (∀ (c : Instr) (s : State), c.wellFormed = true → Gives c s fun t => t.pending = s.pending) ∧
  (∀ (s : State) (idx : Nat) (d : Desc) (adc : List (List (BitVec 8))), passShape d adc = false →
    exec (.dPass idx d adc) s = .fault .operandShape) ∧
  (∀ (s : State) (idx : Nat) (d : Desc) (adc : List (List (BitVec 8))) (ecc : Ecc), dynShape d adc = false →
    exec (.dDscore idx d adc ecc) s = .fault .operandShape ∧ exec (.dDvalue idx d adc ecc) s = .fault .operandShape)

/-- The path of a register write. A register write that PERST_N cuts off changes nothing; one by a function in D3hot is
answered as unsupported and changes nothing; a write of PF1 to anything but the selections it has a copy of is
ignored; a write to an unmapped offset changes only the error records, and gets no error response; one to a domain
that is down changes only the error records, which the control die keeps when it is up, and gets an error response;
one to a register that SMBus may not write is ignored. -/
def Obligations.RegisterPath : Prop :=
  ∀ (s : State) (m : Master) (off : BitVec 26) (v : Word) (be : BitVec 4) (ecc : Ecc) (o : Nat),
    mapped m (off.toNat / 4 * 4) = some o →
    (s.b.cutOff m = true → Gives (.registerWrite m off v be ecc) s fun t => Kept s t []) ∧
    (s.b.cutOff m = false → s.b.asleep m = true → Gives (.registerWrite m off v be ecc) s fun t => Kept s t [] ∧ Output.unsupported m ∈ t.b.out) ∧
    (s.b.cutOff m = false → s.b.asleep m = false →
      (m = .pf1 → barred m o = true → Gives (.registerWrite m off v be ecc) s fun t => Kept s t []) ∧
      (m ≠ .pf1 ∨ barred m o = false →
        (s.b.reach m o = .unmapped → Gives (.registerWrite m off v be ecc) s fun t =>
          Kept s t errRegs ∧ (s.b.domUp .control = true → t.rdB GLB_ERR 1 = true) ∧ ∀ w, Output.errResp m w ∉ t.b.out) ∧
        (s.b.reach m o = .down → Gives (.registerWrite m off v be ecc) s fun t =>
          Kept s t errRegs ∧ Output.errResp m true ∈ t.b.out ∧ (s.b.domUp .control = true → t.rdB GLB_ERR 0 = true)) ∧
        (s.b.reach m o = .ok → barred m o = true → Gives (.registerWrite m off v be ecc) s fun t => Kept s t [])))

/-- How the Daybook fills, and that entries leave it only by replacement. A new entry takes the next SEQ. While the
Daybook is full it replaces, of the entries of its severity or lower, the one with the lowest SEQ, and the replacement
is counted; where there is none it is dropped and takes no SEQ, DROPCNT counts it, and its bit in DROPSEV and the
interrupt bit DROP are set. An occurrence whose bucket holds no token is suppressed and counted. Whatever the command
but power-on reset, an entry held before it is held unchanged after it, unless the Daybook is full. SEQ numbers are
taken to rise along the Daybook, as they do until they wrap. -/
def Obligations.DaybookRules : Prop :=
  (∀ (d : Daybook) (b : Block) (mk : BitVec 32 → LogEnt), d.ents.length < maxEnts →
    (enter d b mk).1.ents = d.ents ++ [mk d.next] ∧ (enter d b mk).1.next = d.next + 1) ∧
  (∀ (d : Daybook) (b : Block) (mk : BitVec 32 → LogEnt), maxEnts ≤ d.ents.length →
    d.ents.Pairwise (fun x y => x.seq.toNat < y.seq.toNat) → (∃ e ∈ d.ents, e.sev ≤ (mk d.next).sev) →
    ∃ v ∈ d.ents, v.sev ≤ (mk d.next).sev ∧ (∀ e ∈ d.ents, e.sev ≤ (mk d.next).sev → v.seq.toNat ≤ e.seq.toNat) ∧
      (enter d b mk).1.ents = d.ents.filter (· ≠ v) ++ [mk d.next] ∧ (enter d b mk).1.next = d.next + 1 ∧
      (enter d b mk).2.rd DBK_OVWCNT = wd (min ((b.rd DBK_OVWCNT).toNat + 1) (2 ^ 32 - 1))) ∧
  (∀ (d : Daybook) (b : Block) (mk : BitVec 32 → LogEnt), maxEnts ≤ d.ents.length → (mk d.next).sev < 8 →
    (∀ e ∈ d.ents, (mk d.next).sev < e.sev) →
    (enter d b mk).1 = d ∧ (enter d b mk).2.rd DBK_DROPCNT = wd (min ((b.rd DBK_DROPCNT).toNat + 1) (2 ^ 32 - 1)) ∧
      (enter d b mk).2.rdB DBK_DROPSEV (mk d.next).sev = true ∧ (enter d b mk).2.rdB (PG_ISTAT P_DBK) 1 = true) ∧
  (∀ (d : Daybook) (b : Block) (v : Ev), (evInfo v.code).2 ≠ 0 →
    ((d.bucket ((if 0xF000 ≤ v.code then 0xF000 else v.code) * 256 + v.inst) (evInfo v.code).2 b.time).refill
      (evInfo v.code).2 b.time).tokens = 0 →
    (logEv d b v).1.ents = d.ents ∧ (logEv d b v).1.next = d.next ∧
      (logEv d b v).2.rd DBK_SUPPCNT = wd (min ((b.rd DBK_SUPPCNT).toNat + 1) (2 ^ 32 - 1))) ∧
  (∀ (c : Instr) (s t : State), c ≠ .powerOnReset → exec c s = .next t →
    ∀ e ∈ s.log.ents, e ∈ t.log.ents ∨ maxEnts ≤ t.log.ents.length)

/-- A steer is refused, and no reset affects it. A write of LNK_STEER while a steer is in progress, or to a pair that is
in use or out of range, sets REFUSED and steers nothing; a lane number, which has five bits, is never out of range. A
module reset and a reset of Mionus, in each of their steps, leave a steer as it is: the lane and its two pairs, the
status register, and the pair and state of every lane. -/
def Obligations.SteerRefusals : Prop :=
  (∀ (s : State) (m : Master) (v : Word), s.b.accepts m LNK_STEER = true →
    s.b.vyv.steer.isSome = true ∨ 40 ≤ fld v 8 6 ∨ (∃ l : Fin 32, s.rdF (LNK_L_FMAP l) 0 6 = fld v 8 6) →
    Gives (.lnkSteer m v) s fun t => t.rdB LNK_STEER_STAT 3 = true ∧ t.b.vyv.steer = s.b.vyv.steer ∧
      ∀ l : Fin 32, t.rd (LNK_L_FMAP l) = s.rd (LNK_L_FMAP l) ∧ t.rd (LNK_L_STAT l) = s.rd (LNK_L_STAT l)) ∧
  (∀ s : State, ∀ c ∈ [Instr.moduleReset, .mrResetPhase, .mrComplete, .watchdogExpiry], Gives c s fun t =>
    t.b.vyv.steer = s.b.vyv.steer ∧ t.rd LNK_STEER_STAT = s.rd LNK_STEER_STAT ∧
      ∀ l : Fin 32, t.rd (LNK_L_FMAP l) = s.rd (LNK_L_FMAP l) ∧ t.rd (LNK_L_STAT l) = s.rd (LNK_L_STAT l)) ∧
  (∀ (s : State) (m : Master) (v : Word), ∀ c ∈ [Instr.rstCmdMr m v, .rstCmdMionus m v], Gives c s fun t =>
    t.b.vyv.steer = s.b.vyv.steer ∧ t.rd LNK_STEER_STAT = s.rd LNK_STEER_STAT ∧
      ∀ l : Fin 32, t.rd (LNK_L_FMAP l) = s.rd (LNK_L_FMAP l) ∧ t.rd (LNK_L_STAT l) = s.rd (LNK_L_STAT l))

/-- A save runs to its end. During a save MRST_N, further triggers and a trip of LSAFE_N change nothing, and writes of
RST_CMD and PWR_REQ change at most the records of failed accesses; the save ends when it is complete, with one of the
areas valid. When the hold-up node collapses the island stops; a save still running is lost with its area, and the
other area stands. -/
def Obligations.SaveToItsEnd : Prop :=
  (∀ (s : State) (k : Fin 2), s.b.pw.phase = .saving → ∀ c ∈ [Instr.moduleReset, .saveTrigger k, .lsafeNTrip],
    Gives c s fun t => Kept s t []) ∧
  (∀ (s : State) (m : Master) (v : Word), s.b.pw.phase = .saving →
    ∀ c ∈ [Instr.rstCmdMr m v, .rstCmdMionus m v, .pwrReq m v], Gives c s fun t => Kept s t errRegs) ∧
  (∀ s : State, s.b.pw.phase = .saving ∧ s.b.pw.saving.isSome = true → Gives .saveComplete s fun t =>
    t.b.pw.saving = none ∧ t.b.pw.phase ≠ .saving ∧ (t.b.pw.areaA.isSome = true ∨ t.b.pw.areaB.isSome = true)) ∧
  (∀ s : State, s.b.pw.phase = .saving → Gives .holdUpNodeCollapse s fun t =>
    t.b.pw.phase = .dark ∧ t.b.pw.saving = none ∧
      (s.b.pw.newerArea.map (·.1) = some 0 → t.b.pw.areaA = s.b.pw.areaA ∧ t.b.pw.areaB = none) ∧
      (s.b.pw.newerArea.map (·.1) ≠ some 0 → t.b.pw.areaB = s.b.pw.areaB ∧ t.b.pw.areaA = none)) ∧
  (∀ s : State, s.b.pw.phase ≠ .saving → Gives .holdUpNodeCollapse s fun t =>
    t.b.pw.phase = .dark ∧ t.b.pw.areaA = s.b.pw.areaA ∧ t.b.pw.areaB = s.b.pw.areaB)
end

