-- ==== Sys2Proof/Laws/Sparse.lean ====
section
/-! SUPPORT. Laws of sparse memories: read after write, and that every operation keeps the canonical form. -/

namespace Sys2Proof.Machine

variable {α : Type}

theorem SMap.find_put (m : SMap α) (k : Nat) (v : α) (j : Nat) :
    (m.put k v).find j = if j = k then some v else m.find j := by
  induction m with
  | nil => simp only [SMap.put, SMap.find]
  | cons e m ih =>
    obtain ⟨i, w⟩ := e
    simp only [SMap.put]
    split
    · rfl
    · split
      · subst_vars; simp only [SMap.find]; split <;> rfl
      · simp only [SMap.find, ih]
        by_cases h : j = i
        · have : ¬ j = k := by omega
          simp [h, *]; omega
        · simp [h]

theorem SMap.find_drop (m : SMap α) (k j : Nat) : (m.drop k).find j = if j = k then none else m.find j := by
  induction m with
  | nil => simp [SMap.drop, SMap.find]
  | cons e m ih =>
    obtain ⟨i, w⟩ := e
    simp only [SMap.drop]
    split
    · subst_vars; rw [ih]; split
      · rfl
      · rename_i h; simp [SMap.find, h]
    · simp only [SMap.find, ih]
      by_cases h : j = i
      · have : ¬ j = k := by omega
        simp [h]; omega
      · simp [h]

/-- What a memory reads as after a write. -/
theorem SMap.get_set [DecidableEq α] (d : Nat → α) (m : SMap α) (k : Nat) (v : α) (j : Nat) :
    (m.set d k v).get d j = if j = k then v else m.get d j := by
  unfold SMap.set SMap.get
  split
  · rename_i h; rw [SMap.find_drop]; split
    · subst_vars; simp
    · rfl
  · rw [SMap.find_put]; split <;> simp

@[simp] theorem SMap.get_set_same [DecidableEq α] (d : Nat → α) (m : SMap α) (k : Nat) (v : α) :
    (m.set d k v).get d k = v := by rw [SMap.get_set]; simp

theorem SMap.get_set_ne [DecidableEq α] (d : Nat → α) (m : SMap α) {k j : Nat} (v : α) (h : j ≠ k) :
    (m.set d k v).get d j = m.get d j := by rw [SMap.get_set]; simp [h]

@[simp] theorem SMap.get_nil (d : Nat → α) (j : Nat) : SMap.get d ([] : SMap α) j = d j := rfl

/-- What a memory reads as after a write of consecutive values. -/
theorem SMap.get_setMany [DecidableEq α] (d : Nat → α) (vs : List α) (m : SMap α) (k j : Nat) :
    (m.setMany d k vs).get d j = if h : k ≤ j ∧ j < k + vs.length then vs[j - k]'(by omega) else m.get d j := by
  induction vs generalizing m k with
  | nil => simp only [SMap.setMany]; split
           · rename_i h; simp at h; omega
           · rfl
  | cons v vs ih =>
    simp only [SMap.setMany, ih, SMap.get_set, List.length_cons]
    by_cases h1 : k + 1 ≤ j ∧ j < k + 1 + vs.length
    · have h2 : k ≤ j ∧ j < k + (vs.length + 1) := by omega
      have h3 : j - k = (j - (k + 1)) + 1 := by omega
      simp only [h1, h2, and_self, dite_true]
      simp only [h3, List.getElem_cons_succ]
    · simp only [h1, dite_false]
      by_cases h2 : j = k
      · subst h2; simp
      · have h4 : ¬ (k ≤ j ∧ j < k + (vs.length + 1)) := by omega
        simp [h2, h4]

theorem SMap.get_setMany_out [DecidableEq α] (d : Nat → α) (vs : List α) (m : SMap α) (k j : Nat)
    (h : ¬ (k ≤ j ∧ j < k + vs.length)) : (m.setMany d k vs).get d j = m.get d j := by
  rw [SMap.get_setMany, dif_neg h]

/-! ## The canonical form -/

variable [DecidableEq α] (d : Nat → α)

theorem SMap.wf_cons (k : Nat) (v : α) (m : SMap α) :
    SMap.wf d ((k, v) :: m) = true ↔ v ≠ d k ∧ (∀ e ∈ m, k < e.1) ∧ SMap.wf d m = true := by
  simp [SMap.wf, and_assoc]

@[simp] theorem SMap.wf_nil : SMap.wf d ([] : SMap α) = true := rfl

theorem SMap.mem_put {m : SMap α} {k : Nat} {v : α} {e : Nat × α} (h : e ∈ m.put k v) : e = (k, v) ∨ e ∈ m := by
  induction m with
  | nil => simpa [SMap.put] using h
  | cons x m ih =>
    obtain ⟨i, w⟩ := x
    simp only [SMap.put] at h
    split at h
    · simpa using h
    · split at h
      · rcases List.mem_cons.mp h with h | h
        · exact .inl h
        · exact .inr (List.mem_cons_of_mem _ h)
      · rcases List.mem_cons.mp h with h | h
        · exact .inr (h ▸ List.mem_cons_self ..)
        · rcases ih h with h | h
          · exact .inl h
          · exact .inr (List.mem_cons_of_mem _ h)

theorem SMap.mem_drop {m : SMap α} {k : Nat} {e : Nat × α} (h : e ∈ m.drop k) : e ∈ m := by
  induction m with
  | nil => simpa [SMap.drop] using h
  | cons x m ih =>
    obtain ⟨i, w⟩ := x
    simp only [SMap.drop] at h
    split at h
    · exact List.mem_cons_of_mem _ (ih h)
    · rcases List.mem_cons.mp h with h | h
      · exact h ▸ List.mem_cons_self ..
      · exact List.mem_cons_of_mem _ (ih h)

theorem SMap.wf_put {m : SMap α} (hm : SMap.wf d m = true) {k : Nat} {v : α} (hv : v ≠ d k) :
    SMap.wf d (m.put k v) = true := by
  induction m with
  | nil => simp [SMap.put, SMap.wf, hv]
  | cons x m ih =>
    obtain ⟨i, w⟩ := x
    obtain ⟨h1, h2, h3⟩ := (SMap.wf_cons d i w m).mp hm
    simp only [SMap.put]
    split
    · rename_i hk
      rw [SMap.wf_cons]
      refine ⟨hv, fun e he => ?_, hm⟩
      rcases List.mem_cons.mp he with rfl | he
      · exact hk
      · exact lt_trans hk (h2 e he)
    · split
      · subst_vars; rw [SMap.wf_cons]; exact ⟨hv, h2, h3⟩
      · rw [SMap.wf_cons]
        refine ⟨h1, fun e he => ?_, ih h3⟩
        rcases SMap.mem_put he with rfl | he
        · simp only; omega
        · exact h2 e he

theorem SMap.wf_drop {m : SMap α} (hm : SMap.wf d m = true) (k : Nat) : SMap.wf d (m.drop k) = true := by
  induction m with
  | nil => rfl
  | cons x m ih =>
    obtain ⟨i, w⟩ := x
    obtain ⟨h1, h2, h3⟩ := (SMap.wf_cons d i w m).mp hm
    simp only [SMap.drop]
    split
    · exact ih h3
    · rw [SMap.wf_cons]; exact ⟨h1, fun e he => h2 e (SMap.mem_drop he), ih h3⟩

/-- A write keeps the canonical form. -/
theorem SMap.wf_set {m : SMap α} (hm : SMap.wf d m = true) (k : Nat) (v : α) : SMap.wf d (m.set d k v) = true := by
  unfold SMap.set
  split
  · exact SMap.wf_drop d hm k
  · exact SMap.wf_put d hm ‹_›

/-- A write of consecutive values keeps the canonical form. -/
theorem SMap.wf_setMany {m : SMap α} (hm : SMap.wf d m = true) (k : Nat) (vs : List α) :
    SMap.wf d (m.setMany d k vs) = true := by
  induction vs generalizing m k with
  | nil => exact hm
  | cons v vs ih => exact ih (SMap.wf_set d hm k v) (k + 1)

/-- Dropping entries by key keeps the canonical form. -/
theorem SMap.wf_keep {m : SMap α} (hm : SMap.wf d m = true) (p : Nat → Bool) : SMap.wf d (m.keep p) = true := by
  induction m with
  | nil => rfl
  | cons x m ih =>
    obtain ⟨i, w⟩ := x
    obtain ⟨h1, h2, h3⟩ := (SMap.wf_cons d i w m).mp hm
    simp only [SMap.keep, List.filter_cons]
    split
    · rw [SMap.wf_cons]; exact ⟨h1, fun e he => h2 e (List.mem_filter.mp he).1, ih h3⟩
    · exact ih h3

theorem SMap.mem_mapVals {m : SMap α} {f : Nat → α → α} {e : Nat × α} (h : e ∈ m.mapVals d f) :
    ∃ v, (e.1, v) ∈ m := by
  induction m with
  | nil => simp [SMap.mapVals] at h
  | cons x m ih =>
    obtain ⟨i, w⟩ := x
    simp only [SMap.mapVals] at h
    split at h
    · obtain ⟨v, hv⟩ := ih h; exact ⟨v, List.mem_cons_of_mem _ hv⟩
    · rcases List.mem_cons.mp h with rfl | h
      · exact ⟨w, List.mem_cons_self ..⟩
      · obtain ⟨v, hv⟩ := ih h; exact ⟨v, List.mem_cons_of_mem _ hv⟩

/-- A change of every value keeps the canonical form. -/
theorem SMap.wf_mapVals {m : SMap α} (hm : SMap.wf d m = true) (f : Nat → α → α) :
    SMap.wf d (m.mapVals d f) = true := by
  induction m with
  | nil => rfl
  | cons x m ih =>
    obtain ⟨i, w⟩ := x
    obtain ⟨_, h2, h3⟩ := (SMap.wf_cons d i w m).mp hm
    simp only [SMap.mapVals]
    split
    · exact ih h3
    · rw [SMap.wf_cons]
      refine ⟨‹_›, fun e he => ?_, ih h3⟩
      obtain ⟨v, hv⟩ := SMap.mem_mapVals d he
      exact h2 (e.1, v) hv

end Sys2Proof.Machine
end

