-- ==== Sys2Proof/Laws/State.lean ====
section
/-! SUPPORT. What each operation on the block leaves of each field, and the laws of registers, engines, stacks, flow
contexts and module memory: a read after a write. -/

namespace Sys2Proof.Machine

variable (b : Block)

/-! ## Fields that an operation does not touch -/

@[simp] theorem Block.wr_mem (o : Nat) (v : Word) : (b.wr o v).mem = b.mem := rfl
@[simp] theorem Block.wr_hbmGen (o : Nat) (v : Word) : (b.wr o v).hbmGen = b.hbmGen := rfl
@[simp] theorem Block.wr_grade (o : Nat) (v : Word) : (b.wr o v).grade = b.grade := rfl
@[simp] theorem Block.wr_up (o : Nat) (v : Word) : (b.wr o v).up = b.up := rfl
@[simp] theorem Block.wr_time (o : Nat) (v : Word) : (b.wr o v).time = b.time := rfl
@[simp] theorem Block.wr_aon (o : Nat) (v : Word) : (b.wr o v).aon = b.aon := rfl
@[simp] theorem Block.wr_aonFrac (o : Nat) (v : Word) : (b.wr o v).aonFrac = b.aonFrac := rfl
@[simp] theorem Block.wr_pw (o : Nat) (v : Word) : (b.wr o v).pw = b.pw := rfl
@[simp] theorem Block.wr_host (o : Nat) (v : Word) : (b.wr o v).host = b.host := rfl
@[simp] theorem Block.wr_engs (o : Nat) (v : Word) : (b.wr o v).engs = b.engs := rfl
@[simp] theorem Block.wr_stks (o : Nat) (v : Word) : (b.wr o v).stks = b.stks := rfl
@[simp] theorem Block.wr_frm (o : Nat) (v : Word) : (b.wr o v).frm = b.frm := rfl
@[simp] theorem Block.wr_startQ (o : Nat) (v : Word) : (b.wr o v).startQ = b.startQ := rfl
@[simp] theorem Block.wr_lastId (o : Nat) (v : Word) : (b.wr o v).lastId = b.lastId := rfl
@[simp] theorem Block.wr_vyv (o : Nat) (v : Word) : (b.wr o v).vyv = b.vyv := rfl
@[simp] theorem Block.wr_rol (o : Nat) (v : Word) : (b.wr o v).rol = b.rol := rfl
@[simp] theorem Block.wr_thm (o : Nat) (v : Word) : (b.wr o v).thm = b.thm := rfl
@[simp] theorem Block.wr_hk (o : Nat) (v : Word) : (b.wr o v).hk = b.hk := rfl
@[simp] theorem Block.wr_pins (o : Nat) (v : Word) : (b.wr o v).pins = b.pins := rfl
@[simp] theorem Block.wr_vlt (o : Nat) (v : Word) : (b.wr o v).vlt = b.vlt := rfl
@[simp] theorem Block.wr_wakes (o : Nat) (v : Word) : (b.wr o v).wakes = b.wakes := rfl
@[simp] theorem Block.wr_nextWake (o : Nat) (v : Word) : (b.wr o v).nextWake = b.nextWake := rfl
@[simp] theorem Block.wr_free (o : Nat) (v : Word) : (b.wr o v).free = b.free := rfl
@[simp] theorem Block.wr_tail (o : Nat) (v : Word) : (b.wr o v).tail = b.tail := rfl
@[simp] theorem Block.wr_bnds (o : Nat) (v : Word) : (b.wr o v).bnds = b.bnds := rfl
@[simp] theorem Block.wr_gap (o : Nat) (v : Word) : (b.wr o v).gap = b.gap := rfl
@[simp] theorem Block.wr_evs (o : Nat) (v : Word) : (b.wr o v).evs = b.evs := rfl
@[simp] theorem Block.wr_out (o : Nat) (v : Word) : (b.wr o v).out = b.out := rfl

@[simp] theorem Block.wrF_mem (o l w x : Nat) : (b.wrF o l w x).mem = b.mem := rfl
@[simp] theorem Block.wrF_hbmGen (o l w x : Nat) : (b.wrF o l w x).hbmGen = b.hbmGen := rfl
@[simp] theorem Block.wrF_grade (o l w x : Nat) : (b.wrF o l w x).grade = b.grade := rfl
@[simp] theorem Block.wrF_up (o l w x : Nat) : (b.wrF o l w x).up = b.up := rfl
@[simp] theorem Block.wrF_time (o l w x : Nat) : (b.wrF o l w x).time = b.time := rfl
@[simp] theorem Block.wrF_aon (o l w x : Nat) : (b.wrF o l w x).aon = b.aon := rfl
@[simp] theorem Block.wrF_aonFrac (o l w x : Nat) : (b.wrF o l w x).aonFrac = b.aonFrac := rfl
@[simp] theorem Block.wrF_pw (o l w x : Nat) : (b.wrF o l w x).pw = b.pw := rfl
@[simp] theorem Block.wrF_host (o l w x : Nat) : (b.wrF o l w x).host = b.host := rfl
@[simp] theorem Block.wrF_engs (o l w x : Nat) : (b.wrF o l w x).engs = b.engs := rfl
@[simp] theorem Block.wrF_stks (o l w x : Nat) : (b.wrF o l w x).stks = b.stks := rfl
@[simp] theorem Block.wrF_frm (o l w x : Nat) : (b.wrF o l w x).frm = b.frm := rfl
@[simp] theorem Block.wrF_startQ (o l w x : Nat) : (b.wrF o l w x).startQ = b.startQ := rfl
@[simp] theorem Block.wrF_lastId (o l w x : Nat) : (b.wrF o l w x).lastId = b.lastId := rfl
@[simp] theorem Block.wrF_vyv (o l w x : Nat) : (b.wrF o l w x).vyv = b.vyv := rfl
@[simp] theorem Block.wrF_rol (o l w x : Nat) : (b.wrF o l w x).rol = b.rol := rfl
@[simp] theorem Block.wrF_thm (o l w x : Nat) : (b.wrF o l w x).thm = b.thm := rfl
@[simp] theorem Block.wrF_hk (o l w x : Nat) : (b.wrF o l w x).hk = b.hk := rfl
@[simp] theorem Block.wrF_pins (o l w x : Nat) : (b.wrF o l w x).pins = b.pins := rfl
@[simp] theorem Block.wrF_vlt (o l w x : Nat) : (b.wrF o l w x).vlt = b.vlt := rfl
@[simp] theorem Block.wrF_wakes (o l w x : Nat) : (b.wrF o l w x).wakes = b.wakes := rfl
@[simp] theorem Block.wrF_nextWake (o l w x : Nat) : (b.wrF o l w x).nextWake = b.nextWake := rfl
@[simp] theorem Block.wrF_free (o l w x : Nat) : (b.wrF o l w x).free = b.free := rfl
@[simp] theorem Block.wrF_tail (o l w x : Nat) : (b.wrF o l w x).tail = b.tail := rfl
@[simp] theorem Block.wrF_bnds (o l w x : Nat) : (b.wrF o l w x).bnds = b.bnds := rfl
@[simp] theorem Block.wrF_gap (o l w x : Nat) : (b.wrF o l w x).gap = b.gap := rfl
@[simp] theorem Block.wrF_evs (o l w x : Nat) : (b.wrF o l w x).evs = b.evs := rfl
@[simp] theorem Block.wrF_out (o l w x : Nat) : (b.wrF o l w x).out = b.out := rfl

@[simp] theorem Block.wrB_mem (o i : Nat) (x : Bool) : (b.wrB o i x).mem = b.mem := rfl
@[simp] theorem Block.wrB_hbmGen (o i : Nat) (x : Bool) : (b.wrB o i x).hbmGen = b.hbmGen := rfl
@[simp] theorem Block.wrB_grade (o i : Nat) (x : Bool) : (b.wrB o i x).grade = b.grade := rfl
@[simp] theorem Block.wrB_up (o i : Nat) (x : Bool) : (b.wrB o i x).up = b.up := rfl
@[simp] theorem Block.wrB_time (o i : Nat) (x : Bool) : (b.wrB o i x).time = b.time := rfl
@[simp] theorem Block.wrB_aon (o i : Nat) (x : Bool) : (b.wrB o i x).aon = b.aon := rfl
@[simp] theorem Block.wrB_aonFrac (o i : Nat) (x : Bool) : (b.wrB o i x).aonFrac = b.aonFrac := rfl
@[simp] theorem Block.wrB_pw (o i : Nat) (x : Bool) : (b.wrB o i x).pw = b.pw := rfl
@[simp] theorem Block.wrB_host (o i : Nat) (x : Bool) : (b.wrB o i x).host = b.host := rfl
@[simp] theorem Block.wrB_engs (o i : Nat) (x : Bool) : (b.wrB o i x).engs = b.engs := rfl
@[simp] theorem Block.wrB_stks (o i : Nat) (x : Bool) : (b.wrB o i x).stks = b.stks := rfl
@[simp] theorem Block.wrB_frm (o i : Nat) (x : Bool) : (b.wrB o i x).frm = b.frm := rfl
@[simp] theorem Block.wrB_startQ (o i : Nat) (x : Bool) : (b.wrB o i x).startQ = b.startQ := rfl
@[simp] theorem Block.wrB_lastId (o i : Nat) (x : Bool) : (b.wrB o i x).lastId = b.lastId := rfl
@[simp] theorem Block.wrB_vyv (o i : Nat) (x : Bool) : (b.wrB o i x).vyv = b.vyv := rfl
@[simp] theorem Block.wrB_rol (o i : Nat) (x : Bool) : (b.wrB o i x).rol = b.rol := rfl
@[simp] theorem Block.wrB_thm (o i : Nat) (x : Bool) : (b.wrB o i x).thm = b.thm := rfl
@[simp] theorem Block.wrB_hk (o i : Nat) (x : Bool) : (b.wrB o i x).hk = b.hk := rfl
@[simp] theorem Block.wrB_pins (o i : Nat) (x : Bool) : (b.wrB o i x).pins = b.pins := rfl
@[simp] theorem Block.wrB_vlt (o i : Nat) (x : Bool) : (b.wrB o i x).vlt = b.vlt := rfl
@[simp] theorem Block.wrB_wakes (o i : Nat) (x : Bool) : (b.wrB o i x).wakes = b.wakes := rfl
@[simp] theorem Block.wrB_nextWake (o i : Nat) (x : Bool) : (b.wrB o i x).nextWake = b.nextWake := rfl
@[simp] theorem Block.wrB_free (o i : Nat) (x : Bool) : (b.wrB o i x).free = b.free := rfl
@[simp] theorem Block.wrB_tail (o i : Nat) (x : Bool) : (b.wrB o i x).tail = b.tail := rfl
@[simp] theorem Block.wrB_bnds (o i : Nat) (x : Bool) : (b.wrB o i x).bnds = b.bnds := rfl
@[simp] theorem Block.wrB_gap (o i : Nat) (x : Bool) : (b.wrB o i x).gap = b.gap := rfl
@[simp] theorem Block.wrB_evs (o i : Nat) (x : Bool) : (b.wrB o i x).evs = b.evs := rfl
@[simp] theorem Block.wrB_out (o i : Nat) (x : Bool) : (b.wrB o i x).out = b.out := rfl

@[simp] theorem Block.setB_mem (o i : Nat) : (b.setB o i).mem = b.mem := rfl
@[simp] theorem Block.setB_hbmGen (o i : Nat) : (b.setB o i).hbmGen = b.hbmGen := rfl
@[simp] theorem Block.setB_grade (o i : Nat) : (b.setB o i).grade = b.grade := rfl
@[simp] theorem Block.setB_up (o i : Nat) : (b.setB o i).up = b.up := rfl
@[simp] theorem Block.setB_time (o i : Nat) : (b.setB o i).time = b.time := rfl
@[simp] theorem Block.setB_aon (o i : Nat) : (b.setB o i).aon = b.aon := rfl
@[simp] theorem Block.setB_aonFrac (o i : Nat) : (b.setB o i).aonFrac = b.aonFrac := rfl
@[simp] theorem Block.setB_pw (o i : Nat) : (b.setB o i).pw = b.pw := rfl
@[simp] theorem Block.setB_host (o i : Nat) : (b.setB o i).host = b.host := rfl
@[simp] theorem Block.setB_engs (o i : Nat) : (b.setB o i).engs = b.engs := rfl
@[simp] theorem Block.setB_stks (o i : Nat) : (b.setB o i).stks = b.stks := rfl
@[simp] theorem Block.setB_frm (o i : Nat) : (b.setB o i).frm = b.frm := rfl
@[simp] theorem Block.setB_startQ (o i : Nat) : (b.setB o i).startQ = b.startQ := rfl
@[simp] theorem Block.setB_lastId (o i : Nat) : (b.setB o i).lastId = b.lastId := rfl
@[simp] theorem Block.setB_vyv (o i : Nat) : (b.setB o i).vyv = b.vyv := rfl
@[simp] theorem Block.setB_rol (o i : Nat) : (b.setB o i).rol = b.rol := rfl
@[simp] theorem Block.setB_thm (o i : Nat) : (b.setB o i).thm = b.thm := rfl
@[simp] theorem Block.setB_hk (o i : Nat) : (b.setB o i).hk = b.hk := rfl
@[simp] theorem Block.setB_pins (o i : Nat) : (b.setB o i).pins = b.pins := rfl
@[simp] theorem Block.setB_vlt (o i : Nat) : (b.setB o i).vlt = b.vlt := rfl
@[simp] theorem Block.setB_wakes (o i : Nat) : (b.setB o i).wakes = b.wakes := rfl
@[simp] theorem Block.setB_nextWake (o i : Nat) : (b.setB o i).nextWake = b.nextWake := rfl
@[simp] theorem Block.setB_free (o i : Nat) : (b.setB o i).free = b.free := rfl
@[simp] theorem Block.setB_tail (o i : Nat) : (b.setB o i).tail = b.tail := rfl
@[simp] theorem Block.setB_bnds (o i : Nat) : (b.setB o i).bnds = b.bnds := rfl
@[simp] theorem Block.setB_gap (o i : Nat) : (b.setB o i).gap = b.gap := rfl
@[simp] theorem Block.setB_evs (o i : Nat) : (b.setB o i).evs = b.evs := rfl
@[simp] theorem Block.setB_out (o i : Nat) : (b.setB o i).out = b.out := rfl

@[simp] theorem Block.clrB_mem (o i : Nat) : (b.clrB o i).mem = b.mem := rfl
@[simp] theorem Block.clrB_hbmGen (o i : Nat) : (b.clrB o i).hbmGen = b.hbmGen := rfl
@[simp] theorem Block.clrB_grade (o i : Nat) : (b.clrB o i).grade = b.grade := rfl
@[simp] theorem Block.clrB_up (o i : Nat) : (b.clrB o i).up = b.up := rfl
@[simp] theorem Block.clrB_time (o i : Nat) : (b.clrB o i).time = b.time := rfl
@[simp] theorem Block.clrB_aon (o i : Nat) : (b.clrB o i).aon = b.aon := rfl
@[simp] theorem Block.clrB_aonFrac (o i : Nat) : (b.clrB o i).aonFrac = b.aonFrac := rfl
@[simp] theorem Block.clrB_pw (o i : Nat) : (b.clrB o i).pw = b.pw := rfl
@[simp] theorem Block.clrB_host (o i : Nat) : (b.clrB o i).host = b.host := rfl
@[simp] theorem Block.clrB_engs (o i : Nat) : (b.clrB o i).engs = b.engs := rfl
@[simp] theorem Block.clrB_stks (o i : Nat) : (b.clrB o i).stks = b.stks := rfl
@[simp] theorem Block.clrB_frm (o i : Nat) : (b.clrB o i).frm = b.frm := rfl
@[simp] theorem Block.clrB_startQ (o i : Nat) : (b.clrB o i).startQ = b.startQ := rfl
@[simp] theorem Block.clrB_lastId (o i : Nat) : (b.clrB o i).lastId = b.lastId := rfl
@[simp] theorem Block.clrB_vyv (o i : Nat) : (b.clrB o i).vyv = b.vyv := rfl
@[simp] theorem Block.clrB_rol (o i : Nat) : (b.clrB o i).rol = b.rol := rfl
@[simp] theorem Block.clrB_thm (o i : Nat) : (b.clrB o i).thm = b.thm := rfl
@[simp] theorem Block.clrB_hk (o i : Nat) : (b.clrB o i).hk = b.hk := rfl
@[simp] theorem Block.clrB_pins (o i : Nat) : (b.clrB o i).pins = b.pins := rfl
@[simp] theorem Block.clrB_vlt (o i : Nat) : (b.clrB o i).vlt = b.vlt := rfl
@[simp] theorem Block.clrB_wakes (o i : Nat) : (b.clrB o i).wakes = b.wakes := rfl
@[simp] theorem Block.clrB_nextWake (o i : Nat) : (b.clrB o i).nextWake = b.nextWake := rfl
@[simp] theorem Block.clrB_free (o i : Nat) : (b.clrB o i).free = b.free := rfl
@[simp] theorem Block.clrB_tail (o i : Nat) : (b.clrB o i).tail = b.tail := rfl
@[simp] theorem Block.clrB_bnds (o i : Nat) : (b.clrB o i).bnds = b.bnds := rfl
@[simp] theorem Block.clrB_gap (o i : Nat) : (b.clrB o i).gap = b.gap := rfl
@[simp] theorem Block.clrB_evs (o i : Nat) : (b.clrB o i).evs = b.evs := rfl
@[simp] theorem Block.clrB_out (o i : Nat) : (b.clrB o i).out = b.out := rfl

@[simp] theorem Block.bumpF_mem (o l w n : Nat) : (b.bumpF o l w n).mem = b.mem := rfl
@[simp] theorem Block.bumpF_hbmGen (o l w n : Nat) : (b.bumpF o l w n).hbmGen = b.hbmGen := rfl
@[simp] theorem Block.bumpF_grade (o l w n : Nat) : (b.bumpF o l w n).grade = b.grade := rfl
@[simp] theorem Block.bumpF_up (o l w n : Nat) : (b.bumpF o l w n).up = b.up := rfl
@[simp] theorem Block.bumpF_time (o l w n : Nat) : (b.bumpF o l w n).time = b.time := rfl
@[simp] theorem Block.bumpF_aon (o l w n : Nat) : (b.bumpF o l w n).aon = b.aon := rfl
@[simp] theorem Block.bumpF_aonFrac (o l w n : Nat) : (b.bumpF o l w n).aonFrac = b.aonFrac := rfl
@[simp] theorem Block.bumpF_pw (o l w n : Nat) : (b.bumpF o l w n).pw = b.pw := rfl
@[simp] theorem Block.bumpF_host (o l w n : Nat) : (b.bumpF o l w n).host = b.host := rfl
@[simp] theorem Block.bumpF_engs (o l w n : Nat) : (b.bumpF o l w n).engs = b.engs := rfl
@[simp] theorem Block.bumpF_stks (o l w n : Nat) : (b.bumpF o l w n).stks = b.stks := rfl
@[simp] theorem Block.bumpF_frm (o l w n : Nat) : (b.bumpF o l w n).frm = b.frm := rfl
@[simp] theorem Block.bumpF_startQ (o l w n : Nat) : (b.bumpF o l w n).startQ = b.startQ := rfl
@[simp] theorem Block.bumpF_lastId (o l w n : Nat) : (b.bumpF o l w n).lastId = b.lastId := rfl
@[simp] theorem Block.bumpF_vyv (o l w n : Nat) : (b.bumpF o l w n).vyv = b.vyv := rfl
@[simp] theorem Block.bumpF_rol (o l w n : Nat) : (b.bumpF o l w n).rol = b.rol := rfl
@[simp] theorem Block.bumpF_thm (o l w n : Nat) : (b.bumpF o l w n).thm = b.thm := rfl
@[simp] theorem Block.bumpF_hk (o l w n : Nat) : (b.bumpF o l w n).hk = b.hk := rfl
@[simp] theorem Block.bumpF_pins (o l w n : Nat) : (b.bumpF o l w n).pins = b.pins := rfl
@[simp] theorem Block.bumpF_vlt (o l w n : Nat) : (b.bumpF o l w n).vlt = b.vlt := rfl
@[simp] theorem Block.bumpF_wakes (o l w n : Nat) : (b.bumpF o l w n).wakes = b.wakes := rfl
@[simp] theorem Block.bumpF_nextWake (o l w n : Nat) : (b.bumpF o l w n).nextWake = b.nextWake := rfl
@[simp] theorem Block.bumpF_free (o l w n : Nat) : (b.bumpF o l w n).free = b.free := rfl
@[simp] theorem Block.bumpF_tail (o l w n : Nat) : (b.bumpF o l w n).tail = b.tail := rfl
@[simp] theorem Block.bumpF_bnds (o l w n : Nat) : (b.bumpF o l w n).bnds = b.bnds := rfl
@[simp] theorem Block.bumpF_gap (o l w n : Nat) : (b.bumpF o l w n).gap = b.gap := rfl
@[simp] theorem Block.bumpF_evs (o l w n : Nat) : (b.bumpF o l w n).evs = b.evs := rfl
@[simp] theorem Block.bumpF_out (o l w n : Nat) : (b.bumpF o l w n).out = b.out := rfl

@[simp] theorem Block.bump_mem (o n : Nat) : (b.bump o n).mem = b.mem := rfl
@[simp] theorem Block.bump_hbmGen (o n : Nat) : (b.bump o n).hbmGen = b.hbmGen := rfl
@[simp] theorem Block.bump_grade (o n : Nat) : (b.bump o n).grade = b.grade := rfl
@[simp] theorem Block.bump_up (o n : Nat) : (b.bump o n).up = b.up := rfl
@[simp] theorem Block.bump_time (o n : Nat) : (b.bump o n).time = b.time := rfl
@[simp] theorem Block.bump_aon (o n : Nat) : (b.bump o n).aon = b.aon := rfl
@[simp] theorem Block.bump_aonFrac (o n : Nat) : (b.bump o n).aonFrac = b.aonFrac := rfl
@[simp] theorem Block.bump_pw (o n : Nat) : (b.bump o n).pw = b.pw := rfl
@[simp] theorem Block.bump_host (o n : Nat) : (b.bump o n).host = b.host := rfl
@[simp] theorem Block.bump_engs (o n : Nat) : (b.bump o n).engs = b.engs := rfl
@[simp] theorem Block.bump_stks (o n : Nat) : (b.bump o n).stks = b.stks := rfl
@[simp] theorem Block.bump_frm (o n : Nat) : (b.bump o n).frm = b.frm := rfl
@[simp] theorem Block.bump_startQ (o n : Nat) : (b.bump o n).startQ = b.startQ := rfl
@[simp] theorem Block.bump_lastId (o n : Nat) : (b.bump o n).lastId = b.lastId := rfl
@[simp] theorem Block.bump_vyv (o n : Nat) : (b.bump o n).vyv = b.vyv := rfl
@[simp] theorem Block.bump_rol (o n : Nat) : (b.bump o n).rol = b.rol := rfl
@[simp] theorem Block.bump_thm (o n : Nat) : (b.bump o n).thm = b.thm := rfl
@[simp] theorem Block.bump_hk (o n : Nat) : (b.bump o n).hk = b.hk := rfl
@[simp] theorem Block.bump_pins (o n : Nat) : (b.bump o n).pins = b.pins := rfl
@[simp] theorem Block.bump_vlt (o n : Nat) : (b.bump o n).vlt = b.vlt := rfl
@[simp] theorem Block.bump_wakes (o n : Nat) : (b.bump o n).wakes = b.wakes := rfl
@[simp] theorem Block.bump_nextWake (o n : Nat) : (b.bump o n).nextWake = b.nextWake := rfl
@[simp] theorem Block.bump_free (o n : Nat) : (b.bump o n).free = b.free := rfl
@[simp] theorem Block.bump_tail (o n : Nat) : (b.bump o n).tail = b.tail := rfl
@[simp] theorem Block.bump_bnds (o n : Nat) : (b.bump o n).bnds = b.bnds := rfl
@[simp] theorem Block.bump_gap (o n : Nat) : (b.bump o n).gap = b.gap := rfl
@[simp] theorem Block.bump_evs (o n : Nat) : (b.bump o n).evs = b.evs := rfl
@[simp] theorem Block.bump_out (o n : Nat) : (b.bump o n).out = b.out := rfl

@[simp] theorem Block.raise_mem (p i : Nat) : (b.raise p i).mem = b.mem := rfl
@[simp] theorem Block.raise_hbmGen (p i : Nat) : (b.raise p i).hbmGen = b.hbmGen := rfl
@[simp] theorem Block.raise_grade (p i : Nat) : (b.raise p i).grade = b.grade := rfl
@[simp] theorem Block.raise_up (p i : Nat) : (b.raise p i).up = b.up := rfl
@[simp] theorem Block.raise_time (p i : Nat) : (b.raise p i).time = b.time := rfl
@[simp] theorem Block.raise_aon (p i : Nat) : (b.raise p i).aon = b.aon := rfl
@[simp] theorem Block.raise_aonFrac (p i : Nat) : (b.raise p i).aonFrac = b.aonFrac := rfl
@[simp] theorem Block.raise_pw (p i : Nat) : (b.raise p i).pw = b.pw := rfl
@[simp] theorem Block.raise_host (p i : Nat) : (b.raise p i).host = b.host := rfl
@[simp] theorem Block.raise_engs (p i : Nat) : (b.raise p i).engs = b.engs := rfl
@[simp] theorem Block.raise_stks (p i : Nat) : (b.raise p i).stks = b.stks := rfl
@[simp] theorem Block.raise_frm (p i : Nat) : (b.raise p i).frm = b.frm := rfl
@[simp] theorem Block.raise_startQ (p i : Nat) : (b.raise p i).startQ = b.startQ := rfl
@[simp] theorem Block.raise_lastId (p i : Nat) : (b.raise p i).lastId = b.lastId := rfl
@[simp] theorem Block.raise_vyv (p i : Nat) : (b.raise p i).vyv = b.vyv := rfl
@[simp] theorem Block.raise_rol (p i : Nat) : (b.raise p i).rol = b.rol := rfl
@[simp] theorem Block.raise_thm (p i : Nat) : (b.raise p i).thm = b.thm := rfl
@[simp] theorem Block.raise_hk (p i : Nat) : (b.raise p i).hk = b.hk := rfl
@[simp] theorem Block.raise_pins (p i : Nat) : (b.raise p i).pins = b.pins := rfl
@[simp] theorem Block.raise_vlt (p i : Nat) : (b.raise p i).vlt = b.vlt := rfl
@[simp] theorem Block.raise_wakes (p i : Nat) : (b.raise p i).wakes = b.wakes := rfl
@[simp] theorem Block.raise_nextWake (p i : Nat) : (b.raise p i).nextWake = b.nextWake := rfl
@[simp] theorem Block.raise_free (p i : Nat) : (b.raise p i).free = b.free := rfl
@[simp] theorem Block.raise_tail (p i : Nat) : (b.raise p i).tail = b.tail := rfl
@[simp] theorem Block.raise_bnds (p i : Nat) : (b.raise p i).bnds = b.bnds := rfl
@[simp] theorem Block.raise_gap (p i : Nat) : (b.raise p i).gap = b.gap := rfl
@[simp] theorem Block.raise_evs (p i : Nat) : (b.raise p i).evs = b.evs := rfl
@[simp] theorem Block.raise_out (p i : Nat) : (b.raise p i).out = b.out := rfl

@[simp] theorem Block.ev_regs (c i : Nat) (l : List (Nat × Nat)) : (b.ev c i l).regs = b.regs := rfl
@[simp] theorem Block.ev_mem (c i : Nat) (l : List (Nat × Nat)) : (b.ev c i l).mem = b.mem := rfl
@[simp] theorem Block.ev_hbmGen (c i : Nat) (l : List (Nat × Nat)) : (b.ev c i l).hbmGen = b.hbmGen := rfl
@[simp] theorem Block.ev_grade (c i : Nat) (l : List (Nat × Nat)) : (b.ev c i l).grade = b.grade := rfl
@[simp] theorem Block.ev_up (c i : Nat) (l : List (Nat × Nat)) : (b.ev c i l).up = b.up := rfl
@[simp] theorem Block.ev_time (c i : Nat) (l : List (Nat × Nat)) : (b.ev c i l).time = b.time := rfl
@[simp] theorem Block.ev_aon (c i : Nat) (l : List (Nat × Nat)) : (b.ev c i l).aon = b.aon := rfl
@[simp] theorem Block.ev_aonFrac (c i : Nat) (l : List (Nat × Nat)) : (b.ev c i l).aonFrac = b.aonFrac := rfl
@[simp] theorem Block.ev_pw (c i : Nat) (l : List (Nat × Nat)) : (b.ev c i l).pw = b.pw := rfl
@[simp] theorem Block.ev_host (c i : Nat) (l : List (Nat × Nat)) : (b.ev c i l).host = b.host := rfl
@[simp] theorem Block.ev_engs (c i : Nat) (l : List (Nat × Nat)) : (b.ev c i l).engs = b.engs := rfl
@[simp] theorem Block.ev_stks (c i : Nat) (l : List (Nat × Nat)) : (b.ev c i l).stks = b.stks := rfl
@[simp] theorem Block.ev_frm (c i : Nat) (l : List (Nat × Nat)) : (b.ev c i l).frm = b.frm := rfl
@[simp] theorem Block.ev_startQ (c i : Nat) (l : List (Nat × Nat)) : (b.ev c i l).startQ = b.startQ := rfl
@[simp] theorem Block.ev_lastId (c i : Nat) (l : List (Nat × Nat)) : (b.ev c i l).lastId = b.lastId := rfl
@[simp] theorem Block.ev_vyv (c i : Nat) (l : List (Nat × Nat)) : (b.ev c i l).vyv = b.vyv := rfl
@[simp] theorem Block.ev_rol (c i : Nat) (l : List (Nat × Nat)) : (b.ev c i l).rol = b.rol := rfl
@[simp] theorem Block.ev_thm (c i : Nat) (l : List (Nat × Nat)) : (b.ev c i l).thm = b.thm := rfl
@[simp] theorem Block.ev_hk (c i : Nat) (l : List (Nat × Nat)) : (b.ev c i l).hk = b.hk := rfl
@[simp] theorem Block.ev_pins (c i : Nat) (l : List (Nat × Nat)) : (b.ev c i l).pins = b.pins := rfl
@[simp] theorem Block.ev_vlt (c i : Nat) (l : List (Nat × Nat)) : (b.ev c i l).vlt = b.vlt := rfl
@[simp] theorem Block.ev_wakes (c i : Nat) (l : List (Nat × Nat)) : (b.ev c i l).wakes = b.wakes := rfl
@[simp] theorem Block.ev_nextWake (c i : Nat) (l : List (Nat × Nat)) : (b.ev c i l).nextWake = b.nextWake := rfl
@[simp] theorem Block.ev_free (c i : Nat) (l : List (Nat × Nat)) : (b.ev c i l).free = b.free := rfl
@[simp] theorem Block.ev_tail (c i : Nat) (l : List (Nat × Nat)) : (b.ev c i l).tail = b.tail := rfl
@[simp] theorem Block.ev_bnds (c i : Nat) (l : List (Nat × Nat)) : (b.ev c i l).bnds = b.bnds := rfl
@[simp] theorem Block.ev_gap (c i : Nat) (l : List (Nat × Nat)) : (b.ev c i l).gap = b.gap := rfl
@[simp] theorem Block.ev_out (c i : Nat) (l : List (Nat × Nat)) : (b.ev c i l).out = b.out := rfl

@[simp] theorem Block.evF_regs (c i : Nat) (l : List (Nat × Nat)) (w : Word) : (b.evF c i l w).regs = b.regs := rfl
@[simp] theorem Block.evF_mem (c i : Nat) (l : List (Nat × Nat)) (w : Word) : (b.evF c i l w).mem = b.mem := rfl
@[simp] theorem Block.evF_hbmGen (c i : Nat) (l : List (Nat × Nat)) (w : Word) : (b.evF c i l w).hbmGen = b.hbmGen := rfl
@[simp] theorem Block.evF_grade (c i : Nat) (l : List (Nat × Nat)) (w : Word) : (b.evF c i l w).grade = b.grade := rfl
@[simp] theorem Block.evF_up (c i : Nat) (l : List (Nat × Nat)) (w : Word) : (b.evF c i l w).up = b.up := rfl
@[simp] theorem Block.evF_time (c i : Nat) (l : List (Nat × Nat)) (w : Word) : (b.evF c i l w).time = b.time := rfl
@[simp] theorem Block.evF_aon (c i : Nat) (l : List (Nat × Nat)) (w : Word) : (b.evF c i l w).aon = b.aon := rfl
@[simp] theorem Block.evF_aonFrac (c i : Nat) (l : List (Nat × Nat)) (w : Word) : (b.evF c i l w).aonFrac = b.aonFrac := rfl
@[simp] theorem Block.evF_pw (c i : Nat) (l : List (Nat × Nat)) (w : Word) : (b.evF c i l w).pw = b.pw := rfl
@[simp] theorem Block.evF_host (c i : Nat) (l : List (Nat × Nat)) (w : Word) : (b.evF c i l w).host = b.host := rfl
@[simp] theorem Block.evF_engs (c i : Nat) (l : List (Nat × Nat)) (w : Word) : (b.evF c i l w).engs = b.engs := rfl
@[simp] theorem Block.evF_stks (c i : Nat) (l : List (Nat × Nat)) (w : Word) : (b.evF c i l w).stks = b.stks := rfl
@[simp] theorem Block.evF_frm (c i : Nat) (l : List (Nat × Nat)) (w : Word) : (b.evF c i l w).frm = b.frm := rfl
@[simp] theorem Block.evF_startQ (c i : Nat) (l : List (Nat × Nat)) (w : Word) : (b.evF c i l w).startQ = b.startQ := rfl
@[simp] theorem Block.evF_lastId (c i : Nat) (l : List (Nat × Nat)) (w : Word) : (b.evF c i l w).lastId = b.lastId := rfl
@[simp] theorem Block.evF_vyv (c i : Nat) (l : List (Nat × Nat)) (w : Word) : (b.evF c i l w).vyv = b.vyv := rfl
@[simp] theorem Block.evF_rol (c i : Nat) (l : List (Nat × Nat)) (w : Word) : (b.evF c i l w).rol = b.rol := rfl
@[simp] theorem Block.evF_thm (c i : Nat) (l : List (Nat × Nat)) (w : Word) : (b.evF c i l w).thm = b.thm := rfl
@[simp] theorem Block.evF_hk (c i : Nat) (l : List (Nat × Nat)) (w : Word) : (b.evF c i l w).hk = b.hk := rfl
@[simp] theorem Block.evF_pins (c i : Nat) (l : List (Nat × Nat)) (w : Word) : (b.evF c i l w).pins = b.pins := rfl
@[simp] theorem Block.evF_vlt (c i : Nat) (l : List (Nat × Nat)) (w : Word) : (b.evF c i l w).vlt = b.vlt := rfl
@[simp] theorem Block.evF_wakes (c i : Nat) (l : List (Nat × Nat)) (w : Word) : (b.evF c i l w).wakes = b.wakes := rfl
@[simp] theorem Block.evF_nextWake (c i : Nat) (l : List (Nat × Nat)) (w : Word) : (b.evF c i l w).nextWake = b.nextWake := rfl
@[simp] theorem Block.evF_free (c i : Nat) (l : List (Nat × Nat)) (w : Word) : (b.evF c i l w).free = b.free := rfl
@[simp] theorem Block.evF_tail (c i : Nat) (l : List (Nat × Nat)) (w : Word) : (b.evF c i l w).tail = b.tail := rfl
@[simp] theorem Block.evF_bnds (c i : Nat) (l : List (Nat × Nat)) (w : Word) : (b.evF c i l w).bnds = b.bnds := rfl
@[simp] theorem Block.evF_gap (c i : Nat) (l : List (Nat × Nat)) (w : Word) : (b.evF c i l w).gap = b.gap := rfl
@[simp] theorem Block.evF_out (c i : Nat) (l : List (Nat × Nat)) (w : Word) : (b.evF c i l w).out = b.out := rfl

@[simp] theorem Block.send_regs (x : Output) : (b.send x).regs = b.regs := rfl
@[simp] theorem Block.send_mem (x : Output) : (b.send x).mem = b.mem := rfl
@[simp] theorem Block.send_hbmGen (x : Output) : (b.send x).hbmGen = b.hbmGen := rfl
@[simp] theorem Block.send_grade (x : Output) : (b.send x).grade = b.grade := rfl
@[simp] theorem Block.send_up (x : Output) : (b.send x).up = b.up := rfl
@[simp] theorem Block.send_time (x : Output) : (b.send x).time = b.time := rfl
@[simp] theorem Block.send_aon (x : Output) : (b.send x).aon = b.aon := rfl
@[simp] theorem Block.send_aonFrac (x : Output) : (b.send x).aonFrac = b.aonFrac := rfl
@[simp] theorem Block.send_pw (x : Output) : (b.send x).pw = b.pw := rfl
@[simp] theorem Block.send_host (x : Output) : (b.send x).host = b.host := rfl
@[simp] theorem Block.send_engs (x : Output) : (b.send x).engs = b.engs := rfl
@[simp] theorem Block.send_stks (x : Output) : (b.send x).stks = b.stks := rfl
@[simp] theorem Block.send_frm (x : Output) : (b.send x).frm = b.frm := rfl
@[simp] theorem Block.send_startQ (x : Output) : (b.send x).startQ = b.startQ := rfl
@[simp] theorem Block.send_lastId (x : Output) : (b.send x).lastId = b.lastId := rfl
@[simp] theorem Block.send_vyv (x : Output) : (b.send x).vyv = b.vyv := rfl
@[simp] theorem Block.send_rol (x : Output) : (b.send x).rol = b.rol := rfl
@[simp] theorem Block.send_thm (x : Output) : (b.send x).thm = b.thm := rfl
@[simp] theorem Block.send_hk (x : Output) : (b.send x).hk = b.hk := rfl
@[simp] theorem Block.send_pins (x : Output) : (b.send x).pins = b.pins := rfl
@[simp] theorem Block.send_vlt (x : Output) : (b.send x).vlt = b.vlt := rfl
@[simp] theorem Block.send_wakes (x : Output) : (b.send x).wakes = b.wakes := rfl
@[simp] theorem Block.send_nextWake (x : Output) : (b.send x).nextWake = b.nextWake := rfl
@[simp] theorem Block.send_free (x : Output) : (b.send x).free = b.free := rfl
@[simp] theorem Block.send_tail (x : Output) : (b.send x).tail = b.tail := rfl
@[simp] theorem Block.send_bnds (x : Output) : (b.send x).bnds = b.bnds := rfl
@[simp] theorem Block.send_gap (x : Output) : (b.send x).gap = b.gap := rfl
@[simp] theorem Block.send_evs (x : Output) : (b.send x).evs = b.evs := rfl

@[simp] theorem Block.setEng_regs (e : Nat) (x : Eng) : (b.setEng e x).regs = b.regs := rfl
@[simp] theorem Block.setEng_mem (e : Nat) (x : Eng) : (b.setEng e x).mem = b.mem := rfl
@[simp] theorem Block.setEng_hbmGen (e : Nat) (x : Eng) : (b.setEng e x).hbmGen = b.hbmGen := rfl
@[simp] theorem Block.setEng_grade (e : Nat) (x : Eng) : (b.setEng e x).grade = b.grade := rfl
@[simp] theorem Block.setEng_up (e : Nat) (x : Eng) : (b.setEng e x).up = b.up := rfl
@[simp] theorem Block.setEng_time (e : Nat) (x : Eng) : (b.setEng e x).time = b.time := rfl
@[simp] theorem Block.setEng_aon (e : Nat) (x : Eng) : (b.setEng e x).aon = b.aon := rfl
@[simp] theorem Block.setEng_aonFrac (e : Nat) (x : Eng) : (b.setEng e x).aonFrac = b.aonFrac := rfl
@[simp] theorem Block.setEng_pw (e : Nat) (x : Eng) : (b.setEng e x).pw = b.pw := rfl
@[simp] theorem Block.setEng_host (e : Nat) (x : Eng) : (b.setEng e x).host = b.host := rfl
@[simp] theorem Block.setEng_stks (e : Nat) (x : Eng) : (b.setEng e x).stks = b.stks := rfl
@[simp] theorem Block.setEng_frm (e : Nat) (x : Eng) : (b.setEng e x).frm = b.frm := rfl
@[simp] theorem Block.setEng_startQ (e : Nat) (x : Eng) : (b.setEng e x).startQ = b.startQ := rfl
@[simp] theorem Block.setEng_lastId (e : Nat) (x : Eng) : (b.setEng e x).lastId = b.lastId := rfl
@[simp] theorem Block.setEng_vyv (e : Nat) (x : Eng) : (b.setEng e x).vyv = b.vyv := rfl
@[simp] theorem Block.setEng_rol (e : Nat) (x : Eng) : (b.setEng e x).rol = b.rol := rfl
@[simp] theorem Block.setEng_thm (e : Nat) (x : Eng) : (b.setEng e x).thm = b.thm := rfl
@[simp] theorem Block.setEng_hk (e : Nat) (x : Eng) : (b.setEng e x).hk = b.hk := rfl
@[simp] theorem Block.setEng_pins (e : Nat) (x : Eng) : (b.setEng e x).pins = b.pins := rfl
@[simp] theorem Block.setEng_vlt (e : Nat) (x : Eng) : (b.setEng e x).vlt = b.vlt := rfl
@[simp] theorem Block.setEng_wakes (e : Nat) (x : Eng) : (b.setEng e x).wakes = b.wakes := rfl
@[simp] theorem Block.setEng_nextWake (e : Nat) (x : Eng) : (b.setEng e x).nextWake = b.nextWake := rfl
@[simp] theorem Block.setEng_free (e : Nat) (x : Eng) : (b.setEng e x).free = b.free := rfl
@[simp] theorem Block.setEng_tail (e : Nat) (x : Eng) : (b.setEng e x).tail = b.tail := rfl
@[simp] theorem Block.setEng_bnds (e : Nat) (x : Eng) : (b.setEng e x).bnds = b.bnds := rfl
@[simp] theorem Block.setEng_gap (e : Nat) (x : Eng) : (b.setEng e x).gap = b.gap := rfl
@[simp] theorem Block.setEng_evs (e : Nat) (x : Eng) : (b.setEng e x).evs = b.evs := rfl
@[simp] theorem Block.setEng_out (e : Nat) (x : Eng) : (b.setEng e x).out = b.out := rfl

@[simp] theorem Block.updEng_regs (e : Nat) (f : Eng → Eng) : (b.updEng e f).regs = b.regs := rfl
@[simp] theorem Block.updEng_mem (e : Nat) (f : Eng → Eng) : (b.updEng e f).mem = b.mem := rfl
@[simp] theorem Block.updEng_hbmGen (e : Nat) (f : Eng → Eng) : (b.updEng e f).hbmGen = b.hbmGen := rfl
@[simp] theorem Block.updEng_grade (e : Nat) (f : Eng → Eng) : (b.updEng e f).grade = b.grade := rfl
@[simp] theorem Block.updEng_up (e : Nat) (f : Eng → Eng) : (b.updEng e f).up = b.up := rfl
@[simp] theorem Block.updEng_time (e : Nat) (f : Eng → Eng) : (b.updEng e f).time = b.time := rfl
@[simp] theorem Block.updEng_aon (e : Nat) (f : Eng → Eng) : (b.updEng e f).aon = b.aon := rfl
@[simp] theorem Block.updEng_aonFrac (e : Nat) (f : Eng → Eng) : (b.updEng e f).aonFrac = b.aonFrac := rfl
@[simp] theorem Block.updEng_pw (e : Nat) (f : Eng → Eng) : (b.updEng e f).pw = b.pw := rfl
@[simp] theorem Block.updEng_host (e : Nat) (f : Eng → Eng) : (b.updEng e f).host = b.host := rfl
@[simp] theorem Block.updEng_stks (e : Nat) (f : Eng → Eng) : (b.updEng e f).stks = b.stks := rfl
@[simp] theorem Block.updEng_frm (e : Nat) (f : Eng → Eng) : (b.updEng e f).frm = b.frm := rfl
@[simp] theorem Block.updEng_startQ (e : Nat) (f : Eng → Eng) : (b.updEng e f).startQ = b.startQ := rfl
@[simp] theorem Block.updEng_lastId (e : Nat) (f : Eng → Eng) : (b.updEng e f).lastId = b.lastId := rfl
@[simp] theorem Block.updEng_vyv (e : Nat) (f : Eng → Eng) : (b.updEng e f).vyv = b.vyv := rfl
@[simp] theorem Block.updEng_rol (e : Nat) (f : Eng → Eng) : (b.updEng e f).rol = b.rol := rfl
@[simp] theorem Block.updEng_thm (e : Nat) (f : Eng → Eng) : (b.updEng e f).thm = b.thm := rfl
@[simp] theorem Block.updEng_hk (e : Nat) (f : Eng → Eng) : (b.updEng e f).hk = b.hk := rfl
@[simp] theorem Block.updEng_pins (e : Nat) (f : Eng → Eng) : (b.updEng e f).pins = b.pins := rfl
@[simp] theorem Block.updEng_vlt (e : Nat) (f : Eng → Eng) : (b.updEng e f).vlt = b.vlt := rfl
@[simp] theorem Block.updEng_wakes (e : Nat) (f : Eng → Eng) : (b.updEng e f).wakes = b.wakes := rfl
@[simp] theorem Block.updEng_nextWake (e : Nat) (f : Eng → Eng) : (b.updEng e f).nextWake = b.nextWake := rfl
@[simp] theorem Block.updEng_free (e : Nat) (f : Eng → Eng) : (b.updEng e f).free = b.free := rfl
@[simp] theorem Block.updEng_tail (e : Nat) (f : Eng → Eng) : (b.updEng e f).tail = b.tail := rfl
@[simp] theorem Block.updEng_bnds (e : Nat) (f : Eng → Eng) : (b.updEng e f).bnds = b.bnds := rfl
@[simp] theorem Block.updEng_gap (e : Nat) (f : Eng → Eng) : (b.updEng e f).gap = b.gap := rfl
@[simp] theorem Block.updEng_evs (e : Nat) (f : Eng → Eng) : (b.updEng e f).evs = b.evs := rfl
@[simp] theorem Block.updEng_out (e : Nat) (f : Eng → Eng) : (b.updEng e f).out = b.out := rfl

@[simp] theorem Block.setStk_regs (s : Nat) (x : Stk) : (b.setStk s x).regs = b.regs := rfl
@[simp] theorem Block.setStk_mem (s : Nat) (x : Stk) : (b.setStk s x).mem = b.mem := rfl
@[simp] theorem Block.setStk_hbmGen (s : Nat) (x : Stk) : (b.setStk s x).hbmGen = b.hbmGen := rfl
@[simp] theorem Block.setStk_grade (s : Nat) (x : Stk) : (b.setStk s x).grade = b.grade := rfl
@[simp] theorem Block.setStk_up (s : Nat) (x : Stk) : (b.setStk s x).up = b.up := rfl
@[simp] theorem Block.setStk_time (s : Nat) (x : Stk) : (b.setStk s x).time = b.time := rfl
@[simp] theorem Block.setStk_aon (s : Nat) (x : Stk) : (b.setStk s x).aon = b.aon := rfl
@[simp] theorem Block.setStk_aonFrac (s : Nat) (x : Stk) : (b.setStk s x).aonFrac = b.aonFrac := rfl
@[simp] theorem Block.setStk_pw (s : Nat) (x : Stk) : (b.setStk s x).pw = b.pw := rfl
@[simp] theorem Block.setStk_host (s : Nat) (x : Stk) : (b.setStk s x).host = b.host := rfl
@[simp] theorem Block.setStk_engs (s : Nat) (x : Stk) : (b.setStk s x).engs = b.engs := rfl
@[simp] theorem Block.setStk_frm (s : Nat) (x : Stk) : (b.setStk s x).frm = b.frm := rfl
@[simp] theorem Block.setStk_startQ (s : Nat) (x : Stk) : (b.setStk s x).startQ = b.startQ := rfl
@[simp] theorem Block.setStk_lastId (s : Nat) (x : Stk) : (b.setStk s x).lastId = b.lastId := rfl
@[simp] theorem Block.setStk_vyv (s : Nat) (x : Stk) : (b.setStk s x).vyv = b.vyv := rfl
@[simp] theorem Block.setStk_rol (s : Nat) (x : Stk) : (b.setStk s x).rol = b.rol := rfl
@[simp] theorem Block.setStk_thm (s : Nat) (x : Stk) : (b.setStk s x).thm = b.thm := rfl
@[simp] theorem Block.setStk_hk (s : Nat) (x : Stk) : (b.setStk s x).hk = b.hk := rfl
@[simp] theorem Block.setStk_pins (s : Nat) (x : Stk) : (b.setStk s x).pins = b.pins := rfl
@[simp] theorem Block.setStk_vlt (s : Nat) (x : Stk) : (b.setStk s x).vlt = b.vlt := rfl
@[simp] theorem Block.setStk_wakes (s : Nat) (x : Stk) : (b.setStk s x).wakes = b.wakes := rfl
@[simp] theorem Block.setStk_nextWake (s : Nat) (x : Stk) : (b.setStk s x).nextWake = b.nextWake := rfl
@[simp] theorem Block.setStk_free (s : Nat) (x : Stk) : (b.setStk s x).free = b.free := rfl
@[simp] theorem Block.setStk_tail (s : Nat) (x : Stk) : (b.setStk s x).tail = b.tail := rfl
@[simp] theorem Block.setStk_bnds (s : Nat) (x : Stk) : (b.setStk s x).bnds = b.bnds := rfl
@[simp] theorem Block.setStk_gap (s : Nat) (x : Stk) : (b.setStk s x).gap = b.gap := rfl
@[simp] theorem Block.setStk_evs (s : Nat) (x : Stk) : (b.setStk s x).evs = b.evs := rfl
@[simp] theorem Block.setStk_out (s : Nat) (x : Stk) : (b.setStk s x).out = b.out := rfl

@[simp] theorem Block.updStk_regs (s : Nat) (f : Stk → Stk) : (b.updStk s f).regs = b.regs := rfl
@[simp] theorem Block.updStk_mem (s : Nat) (f : Stk → Stk) : (b.updStk s f).mem = b.mem := rfl
@[simp] theorem Block.updStk_hbmGen (s : Nat) (f : Stk → Stk) : (b.updStk s f).hbmGen = b.hbmGen := rfl
@[simp] theorem Block.updStk_grade (s : Nat) (f : Stk → Stk) : (b.updStk s f).grade = b.grade := rfl
@[simp] theorem Block.updStk_up (s : Nat) (f : Stk → Stk) : (b.updStk s f).up = b.up := rfl
@[simp] theorem Block.updStk_time (s : Nat) (f : Stk → Stk) : (b.updStk s f).time = b.time := rfl
@[simp] theorem Block.updStk_aon (s : Nat) (f : Stk → Stk) : (b.updStk s f).aon = b.aon := rfl
@[simp] theorem Block.updStk_aonFrac (s : Nat) (f : Stk → Stk) : (b.updStk s f).aonFrac = b.aonFrac := rfl
@[simp] theorem Block.updStk_pw (s : Nat) (f : Stk → Stk) : (b.updStk s f).pw = b.pw := rfl
@[simp] theorem Block.updStk_host (s : Nat) (f : Stk → Stk) : (b.updStk s f).host = b.host := rfl
@[simp] theorem Block.updStk_engs (s : Nat) (f : Stk → Stk) : (b.updStk s f).engs = b.engs := rfl
@[simp] theorem Block.updStk_frm (s : Nat) (f : Stk → Stk) : (b.updStk s f).frm = b.frm := rfl
@[simp] theorem Block.updStk_startQ (s : Nat) (f : Stk → Stk) : (b.updStk s f).startQ = b.startQ := rfl
@[simp] theorem Block.updStk_lastId (s : Nat) (f : Stk → Stk) : (b.updStk s f).lastId = b.lastId := rfl
@[simp] theorem Block.updStk_vyv (s : Nat) (f : Stk → Stk) : (b.updStk s f).vyv = b.vyv := rfl
@[simp] theorem Block.updStk_rol (s : Nat) (f : Stk → Stk) : (b.updStk s f).rol = b.rol := rfl
@[simp] theorem Block.updStk_thm (s : Nat) (f : Stk → Stk) : (b.updStk s f).thm = b.thm := rfl
@[simp] theorem Block.updStk_hk (s : Nat) (f : Stk → Stk) : (b.updStk s f).hk = b.hk := rfl
@[simp] theorem Block.updStk_pins (s : Nat) (f : Stk → Stk) : (b.updStk s f).pins = b.pins := rfl
@[simp] theorem Block.updStk_vlt (s : Nat) (f : Stk → Stk) : (b.updStk s f).vlt = b.vlt := rfl
@[simp] theorem Block.updStk_wakes (s : Nat) (f : Stk → Stk) : (b.updStk s f).wakes = b.wakes := rfl
@[simp] theorem Block.updStk_nextWake (s : Nat) (f : Stk → Stk) : (b.updStk s f).nextWake = b.nextWake := rfl
@[simp] theorem Block.updStk_free (s : Nat) (f : Stk → Stk) : (b.updStk s f).free = b.free := rfl
@[simp] theorem Block.updStk_tail (s : Nat) (f : Stk → Stk) : (b.updStk s f).tail = b.tail := rfl
@[simp] theorem Block.updStk_bnds (s : Nat) (f : Stk → Stk) : (b.updStk s f).bnds = b.bnds := rfl
@[simp] theorem Block.updStk_gap (s : Nat) (f : Stk → Stk) : (b.updStk s f).gap = b.gap := rfl
@[simp] theorem Block.updStk_evs (s : Nat) (f : Stk → Stk) : (b.updStk s f).evs = b.evs := rfl
@[simp] theorem Block.updStk_out (s : Nat) (f : Stk → Stk) : (b.updStk s f).out = b.out := rfl

@[simp] theorem Block.updFrm_regs (f : Frame → Frame) : (b.updFrm f).regs = b.regs := rfl
@[simp] theorem Block.updFrm_mem (f : Frame → Frame) : (b.updFrm f).mem = b.mem := rfl
@[simp] theorem Block.updFrm_hbmGen (f : Frame → Frame) : (b.updFrm f).hbmGen = b.hbmGen := rfl
@[simp] theorem Block.updFrm_grade (f : Frame → Frame) : (b.updFrm f).grade = b.grade := rfl
@[simp] theorem Block.updFrm_up (f : Frame → Frame) : (b.updFrm f).up = b.up := rfl
@[simp] theorem Block.updFrm_time (f : Frame → Frame) : (b.updFrm f).time = b.time := rfl
@[simp] theorem Block.updFrm_aon (f : Frame → Frame) : (b.updFrm f).aon = b.aon := rfl
@[simp] theorem Block.updFrm_aonFrac (f : Frame → Frame) : (b.updFrm f).aonFrac = b.aonFrac := rfl
@[simp] theorem Block.updFrm_pw (f : Frame → Frame) : (b.updFrm f).pw = b.pw := rfl
@[simp] theorem Block.updFrm_host (f : Frame → Frame) : (b.updFrm f).host = b.host := rfl
@[simp] theorem Block.updFrm_engs (f : Frame → Frame) : (b.updFrm f).engs = b.engs := rfl
@[simp] theorem Block.updFrm_stks (f : Frame → Frame) : (b.updFrm f).stks = b.stks := rfl
@[simp] theorem Block.updFrm_startQ (f : Frame → Frame) : (b.updFrm f).startQ = b.startQ := rfl
@[simp] theorem Block.updFrm_lastId (f : Frame → Frame) : (b.updFrm f).lastId = b.lastId := rfl
@[simp] theorem Block.updFrm_vyv (f : Frame → Frame) : (b.updFrm f).vyv = b.vyv := rfl
@[simp] theorem Block.updFrm_rol (f : Frame → Frame) : (b.updFrm f).rol = b.rol := rfl
@[simp] theorem Block.updFrm_thm (f : Frame → Frame) : (b.updFrm f).thm = b.thm := rfl
@[simp] theorem Block.updFrm_hk (f : Frame → Frame) : (b.updFrm f).hk = b.hk := rfl
@[simp] theorem Block.updFrm_pins (f : Frame → Frame) : (b.updFrm f).pins = b.pins := rfl
@[simp] theorem Block.updFrm_vlt (f : Frame → Frame) : (b.updFrm f).vlt = b.vlt := rfl
@[simp] theorem Block.updFrm_wakes (f : Frame → Frame) : (b.updFrm f).wakes = b.wakes := rfl
@[simp] theorem Block.updFrm_nextWake (f : Frame → Frame) : (b.updFrm f).nextWake = b.nextWake := rfl
@[simp] theorem Block.updFrm_free (f : Frame → Frame) : (b.updFrm f).free = b.free := rfl
@[simp] theorem Block.updFrm_tail (f : Frame → Frame) : (b.updFrm f).tail = b.tail := rfl
@[simp] theorem Block.updFrm_bnds (f : Frame → Frame) : (b.updFrm f).bnds = b.bnds := rfl
@[simp] theorem Block.updFrm_gap (f : Frame → Frame) : (b.updFrm f).gap = b.gap := rfl
@[simp] theorem Block.updFrm_evs (f : Frame → Frame) : (b.updFrm f).evs = b.evs := rfl
@[simp] theorem Block.updFrm_out (f : Frame → Frame) : (b.updFrm f).out = b.out := rfl

@[simp] theorem Block.flag_regs (x : Nat) : (b.flag x).regs = b.regs := rfl
@[simp] theorem Block.flag_mem (x : Nat) : (b.flag x).mem = b.mem := rfl
@[simp] theorem Block.flag_hbmGen (x : Nat) : (b.flag x).hbmGen = b.hbmGen := rfl
@[simp] theorem Block.flag_grade (x : Nat) : (b.flag x).grade = b.grade := rfl
@[simp] theorem Block.flag_up (x : Nat) : (b.flag x).up = b.up := rfl
@[simp] theorem Block.flag_time (x : Nat) : (b.flag x).time = b.time := rfl
@[simp] theorem Block.flag_aon (x : Nat) : (b.flag x).aon = b.aon := rfl
@[simp] theorem Block.flag_aonFrac (x : Nat) : (b.flag x).aonFrac = b.aonFrac := rfl
@[simp] theorem Block.flag_pw (x : Nat) : (b.flag x).pw = b.pw := rfl
@[simp] theorem Block.flag_host (x : Nat) : (b.flag x).host = b.host := rfl
@[simp] theorem Block.flag_engs (x : Nat) : (b.flag x).engs = b.engs := rfl
@[simp] theorem Block.flag_stks (x : Nat) : (b.flag x).stks = b.stks := rfl
@[simp] theorem Block.flag_startQ (x : Nat) : (b.flag x).startQ = b.startQ := rfl
@[simp] theorem Block.flag_lastId (x : Nat) : (b.flag x).lastId = b.lastId := rfl
@[simp] theorem Block.flag_vyv (x : Nat) : (b.flag x).vyv = b.vyv := rfl
@[simp] theorem Block.flag_rol (x : Nat) : (b.flag x).rol = b.rol := rfl
@[simp] theorem Block.flag_thm (x : Nat) : (b.flag x).thm = b.thm := rfl
@[simp] theorem Block.flag_hk (x : Nat) : (b.flag x).hk = b.hk := rfl
@[simp] theorem Block.flag_pins (x : Nat) : (b.flag x).pins = b.pins := rfl
@[simp] theorem Block.flag_vlt (x : Nat) : (b.flag x).vlt = b.vlt := rfl
@[simp] theorem Block.flag_wakes (x : Nat) : (b.flag x).wakes = b.wakes := rfl
@[simp] theorem Block.flag_nextWake (x : Nat) : (b.flag x).nextWake = b.nextWake := rfl
@[simp] theorem Block.flag_free (x : Nat) : (b.flag x).free = b.free := rfl
@[simp] theorem Block.flag_tail (x : Nat) : (b.flag x).tail = b.tail := rfl
@[simp] theorem Block.flag_bnds (x : Nat) : (b.flag x).bnds = b.bnds := rfl
@[simp] theorem Block.flag_gap (x : Nat) : (b.flag x).gap = b.gap := rfl
@[simp] theorem Block.flag_evs (x : Nat) : (b.flag x).evs = b.evs := rfl
@[simp] theorem Block.flag_out (x : Nat) : (b.flag x).out = b.out := rfl

@[simp] theorem Block.updFlow_regs (f : Nat) (g : Flow → Flow) : (b.updFlow f g).regs = b.regs := rfl
@[simp] theorem Block.updFlow_mem (f : Nat) (g : Flow → Flow) : (b.updFlow f g).mem = b.mem := rfl
@[simp] theorem Block.updFlow_hbmGen (f : Nat) (g : Flow → Flow) : (b.updFlow f g).hbmGen = b.hbmGen := rfl
@[simp] theorem Block.updFlow_grade (f : Nat) (g : Flow → Flow) : (b.updFlow f g).grade = b.grade := rfl
@[simp] theorem Block.updFlow_up (f : Nat) (g : Flow → Flow) : (b.updFlow f g).up = b.up := rfl
@[simp] theorem Block.updFlow_time (f : Nat) (g : Flow → Flow) : (b.updFlow f g).time = b.time := rfl
@[simp] theorem Block.updFlow_aon (f : Nat) (g : Flow → Flow) : (b.updFlow f g).aon = b.aon := rfl
@[simp] theorem Block.updFlow_aonFrac (f : Nat) (g : Flow → Flow) : (b.updFlow f g).aonFrac = b.aonFrac := rfl
@[simp] theorem Block.updFlow_pw (f : Nat) (g : Flow → Flow) : (b.updFlow f g).pw = b.pw := rfl
@[simp] theorem Block.updFlow_host (f : Nat) (g : Flow → Flow) : (b.updFlow f g).host = b.host := rfl
@[simp] theorem Block.updFlow_engs (f : Nat) (g : Flow → Flow) : (b.updFlow f g).engs = b.engs := rfl
@[simp] theorem Block.updFlow_stks (f : Nat) (g : Flow → Flow) : (b.updFlow f g).stks = b.stks := rfl
@[simp] theorem Block.updFlow_frm (f : Nat) (g : Flow → Flow) : (b.updFlow f g).frm = b.frm := rfl
@[simp] theorem Block.updFlow_startQ (f : Nat) (g : Flow → Flow) : (b.updFlow f g).startQ = b.startQ := rfl
@[simp] theorem Block.updFlow_lastId (f : Nat) (g : Flow → Flow) : (b.updFlow f g).lastId = b.lastId := rfl
@[simp] theorem Block.updFlow_rol (f : Nat) (g : Flow → Flow) : (b.updFlow f g).rol = b.rol := rfl
@[simp] theorem Block.updFlow_thm (f : Nat) (g : Flow → Flow) : (b.updFlow f g).thm = b.thm := rfl
@[simp] theorem Block.updFlow_hk (f : Nat) (g : Flow → Flow) : (b.updFlow f g).hk = b.hk := rfl
@[simp] theorem Block.updFlow_pins (f : Nat) (g : Flow → Flow) : (b.updFlow f g).pins = b.pins := rfl
@[simp] theorem Block.updFlow_vlt (f : Nat) (g : Flow → Flow) : (b.updFlow f g).vlt = b.vlt := rfl
@[simp] theorem Block.updFlow_wakes (f : Nat) (g : Flow → Flow) : (b.updFlow f g).wakes = b.wakes := rfl
@[simp] theorem Block.updFlow_nextWake (f : Nat) (g : Flow → Flow) : (b.updFlow f g).nextWake = b.nextWake := rfl
@[simp] theorem Block.updFlow_free (f : Nat) (g : Flow → Flow) : (b.updFlow f g).free = b.free := rfl
@[simp] theorem Block.updFlow_tail (f : Nat) (g : Flow → Flow) : (b.updFlow f g).tail = b.tail := rfl
@[simp] theorem Block.updFlow_bnds (f : Nat) (g : Flow → Flow) : (b.updFlow f g).bnds = b.bnds := rfl
@[simp] theorem Block.updFlow_gap (f : Nat) (g : Flow → Flow) : (b.updFlow f g).gap = b.gap := rfl
@[simp] theorem Block.updFlow_evs (f : Nat) (g : Flow → Flow) : (b.updFlow f g).evs = b.evs := rfl
@[simp] theorem Block.updFlow_out (f : Nat) (g : Flow → Flow) : (b.updFlow f g).out = b.out := rfl

@[simp] theorem Block.wrBytes_regs (a : Nat) (l : List Byte) : (b.wrBytes a l).regs = b.regs := rfl
@[simp] theorem Block.wrBytes_hbmGen (a : Nat) (l : List Byte) : (b.wrBytes a l).hbmGen = b.hbmGen := rfl
@[simp] theorem Block.wrBytes_grade (a : Nat) (l : List Byte) : (b.wrBytes a l).grade = b.grade := rfl
@[simp] theorem Block.wrBytes_up (a : Nat) (l : List Byte) : (b.wrBytes a l).up = b.up := rfl
@[simp] theorem Block.wrBytes_time (a : Nat) (l : List Byte) : (b.wrBytes a l).time = b.time := rfl
@[simp] theorem Block.wrBytes_aon (a : Nat) (l : List Byte) : (b.wrBytes a l).aon = b.aon := rfl
@[simp] theorem Block.wrBytes_aonFrac (a : Nat) (l : List Byte) : (b.wrBytes a l).aonFrac = b.aonFrac := rfl
@[simp] theorem Block.wrBytes_pw (a : Nat) (l : List Byte) : (b.wrBytes a l).pw = b.pw := rfl
@[simp] theorem Block.wrBytes_host (a : Nat) (l : List Byte) : (b.wrBytes a l).host = b.host := rfl
@[simp] theorem Block.wrBytes_engs (a : Nat) (l : List Byte) : (b.wrBytes a l).engs = b.engs := rfl
@[simp] theorem Block.wrBytes_stks (a : Nat) (l : List Byte) : (b.wrBytes a l).stks = b.stks := rfl
@[simp] theorem Block.wrBytes_frm (a : Nat) (l : List Byte) : (b.wrBytes a l).frm = b.frm := rfl
@[simp] theorem Block.wrBytes_startQ (a : Nat) (l : List Byte) : (b.wrBytes a l).startQ = b.startQ := rfl
@[simp] theorem Block.wrBytes_lastId (a : Nat) (l : List Byte) : (b.wrBytes a l).lastId = b.lastId := rfl
@[simp] theorem Block.wrBytes_vyv (a : Nat) (l : List Byte) : (b.wrBytes a l).vyv = b.vyv := rfl
@[simp] theorem Block.wrBytes_rol (a : Nat) (l : List Byte) : (b.wrBytes a l).rol = b.rol := rfl
@[simp] theorem Block.wrBytes_thm (a : Nat) (l : List Byte) : (b.wrBytes a l).thm = b.thm := rfl
@[simp] theorem Block.wrBytes_hk (a : Nat) (l : List Byte) : (b.wrBytes a l).hk = b.hk := rfl
@[simp] theorem Block.wrBytes_pins (a : Nat) (l : List Byte) : (b.wrBytes a l).pins = b.pins := rfl
@[simp] theorem Block.wrBytes_vlt (a : Nat) (l : List Byte) : (b.wrBytes a l).vlt = b.vlt := rfl
@[simp] theorem Block.wrBytes_wakes (a : Nat) (l : List Byte) : (b.wrBytes a l).wakes = b.wakes := rfl
@[simp] theorem Block.wrBytes_nextWake (a : Nat) (l : List Byte) : (b.wrBytes a l).nextWake = b.nextWake := rfl
@[simp] theorem Block.wrBytes_free (a : Nat) (l : List Byte) : (b.wrBytes a l).free = b.free := rfl
@[simp] theorem Block.wrBytes_tail (a : Nat) (l : List Byte) : (b.wrBytes a l).tail = b.tail := rfl
@[simp] theorem Block.wrBytes_bnds (a : Nat) (l : List Byte) : (b.wrBytes a l).bnds = b.bnds := rfl
@[simp] theorem Block.wrBytes_gap (a : Nat) (l : List Byte) : (b.wrBytes a l).gap = b.gap := rfl
@[simp] theorem Block.wrBytes_evs (a : Nat) (l : List Byte) : (b.wrBytes a l).evs = b.evs := rfl
@[simp] theorem Block.wrBytes_out (a : Nat) (l : List Byte) : (b.wrBytes a l).out = b.out := rfl

/-! ## Registers -/

theorem Block.rd_wr (o : Nat) (v : Word) (j : Nat) : (b.wr o v).rd j = if j = o then v else b.rd j :=
  SMap.get_set regDefault b.regs o v j
@[simp] theorem Block.rd_wr_same (o : Nat) (v : Word) : (b.wr o v).rd o = v := by rw [Block.rd_wr]; simp
theorem Block.rd_wr_ne {o j : Nat} (v : Word) (h : j ≠ o) : (b.wr o v).rd j = b.rd j := by rw [Block.rd_wr]; simp [h]
/-- Registers depend on nothing else. -/
theorem Block.rd_congr {b c : Block} (h : b.regs = c.regs) (o : Nat) : b.rd o = c.rd o := by simp [Block.rd, h]

theorem setFld_getLsbD (v : Word) (lo w x i : Nat) (h : lo + w ≤ 32) :
    (setFld v lo w x).getLsbD i = if lo ≤ i ∧ i < lo + w then x.testBit (i - lo) else v.getLsbD i := by
  have hm : ∀ i, ((2 ^ w - 1) * 2 ^ lo).testBit i = decide (lo ≤ i ∧ i < lo + w) := by
    intro i
    rw [Nat.testBit_mul_two_pow, Nat.testBit_two_pow_sub_one]
    by_cases h1 : lo ≤ i <;> simp [h1] <;> omega
  have hx : ∀ i, (x % 2 ^ w * 2 ^ lo).testBit i = (decide (lo ≤ i ∧ i < lo + w) && x.testBit (i - lo)) := by
    intro i
    rw [Nat.testBit_mul_two_pow, Nat.testBit_mod_two_pow]
    by_cases h1 : lo ≤ i
    · have : (i - lo < w) ↔ i < lo + w := by omega
      simp [h1, this]
    · simp [h1]
  unfold setFld
  by_cases hi : i < 32
  · simp only [BitVec.getLsbD_or, BitVec.getLsbD_and, BitVec.getLsbD_not, BitVec.getLsbD_ofNat, hi, hm, hx, decide_true,
      Bool.true_and]
    by_cases h1 : lo ≤ i ∧ i < lo + w <;> simp [h1]
  · have : ¬ (lo ≤ i ∧ i < lo + w) := by omega
    simp [this, BitVec.getLsbD_of_ge _ _ (Nat.le_of_not_lt hi)]

theorem fld_testBit (v : Word) (lo w i : Nat) : (fld v lo w).testBit i = (decide (i < w) && v.getLsbD (lo + i)) := by
  unfold fld bits
  rw [Nat.testBit_mod_two_pow, Nat.testBit_div_two_pow, BitVec.testBit_toNat, Nat.add_comm]

/-- A field just written. -/
theorem fld_setFld (v : Word) (lo w x : Nat) (h : lo + w ≤ 32) : fld (setFld v lo w x) lo w = x % 2 ^ w := by
  apply Nat.eq_of_testBit_eq
  intro i
  rw [fld_testBit, setFld_getLsbD v lo w x (lo + i) h, Nat.testBit_mod_two_pow]
  by_cases hi : i < w <;> simp [hi]

/-- A field beside the one written. -/
theorem fld_setFld_ne (v : Word) (lo w x l n : Nat) (h : lo + w ≤ 32) (hd : l + n ≤ lo ∨ lo + w ≤ l) :
    fld (setFld v lo w x) l n = fld v l n := by
  apply Nat.eq_of_testBit_eq
  intro i
  rw [fld_testBit, fld_testBit, setFld_getLsbD v lo w x (l + i) h]
  by_cases hi : i < n
  · have : ¬ (lo ≤ l + i ∧ l + i < lo + w) := by omega
    simp [this]
  · simp [hi]

@[simp] theorem Block.rd_wrF (o lo w x : Nat) : (b.wrF o lo w x).rd o = setFld (b.rd o) lo w x := b.rd_wr_same o _
theorem Block.rd_wrF_ne {o j : Nat} (lo w x : Nat) (h : j ≠ o) : (b.wrF o lo w x).rd j = b.rd j := b.rd_wr_ne _ h
theorem Block.rdF_wrF (o lo w x : Nat) (h : lo + w ≤ 32) : (b.wrF o lo w x).rdF o lo w = x % 2 ^ w := by
  simp [Block.rdF, fld_setFld _ _ _ _ h]
theorem Block.rd_wrB_ne {o j : Nat} (i : Nat) (x : Bool) (h : j ≠ o) : (b.wrB o i x).rd j = b.rd j := b.rd_wr_ne _ h
theorem Block.rd_setB_ne {o j : Nat} (i : Nat) (h : j ≠ o) : (b.setB o i).rd j = b.rd j := b.rd_wr_ne _ h
theorem Block.rd_clrB_ne {o j : Nat} (i : Nat) (h : j ≠ o) : (b.clrB o i).rd j = b.rd j := b.rd_wr_ne _ h
theorem Block.rd_bump_ne {o j : Nat} (n : Nat) (h : j ≠ o) : (b.bump o n).rd j = b.rd j := b.rd_wr_ne _ h
theorem Block.rd_raise_ne {p j : Nat} (i : Nat) (h : j ≠ PG_ISTAT p) : (b.raise p i).rd j = b.rd j := b.rd_wr_ne _ h

theorem Block.rdB_wrB (o i : Nat) (x : Bool) (h : i < 32) : (b.wrB o i x).rdB o i = x := by
  have h2 := setFld_getLsbD (b.rd o) i 1 (b2n x) i (by omega)
  simp only [Block.rdB, Block.wrB, bit, Block.rd_wrF, h2]
  cases x <;> simp [b2n]
@[simp] theorem Block.rdB_setB (o i : Nat) (h : i < 32) : (b.setB o i).rdB o i = true := b.rdB_wrB o i true h
@[simp] theorem Block.rdB_clrB (o i : Nat) (h : i < 32) : (b.clrB o i).rdB o i = false := b.rdB_wrB o i false h
/-- Another bit of a register of which one bit was written. -/
theorem Block.rdB_wrB_ne (o i j : Nat) (x : Bool) (h : i < 32) (hj : j ≠ i) : (b.wrB o i x).rdB o j = b.rdB o j := by
  have h2 := setFld_getLsbD (b.rd o) i 1 (b2n x) j (by omega)
  have h3 : ¬ (i ≤ j ∧ j < i + 1) := by omega
  simp only [Block.rdB, Block.wrB, bit, Block.rd_wrF, h2, h3, if_false]
/-- A saturating counter. -/
theorem Block.rd_bump (o n : Nat) : ((b.bump o n).rd o).toNat = min ((b.rd o).toNat + n) (2 ^ 32 - 1) := by
  have h := b.rdF_wrF o 0 32 (min (b.rdF o 0 32 + n) (2 ^ 32 - 1)) (by omega)
  have h32 : ∀ v : Word, fld v 0 32 = v.toNat := fun v => by simp [fld, bits]; exact v.isLt
  simp only [Block.rdF, h32] at h
  simp only [Block.bump, Block.bumpF, Block.rdF, h32, h]
  omega

@[simp] theorem Block.rd_ev (c i : Nat) (l : List (Nat × Nat)) (j : Nat) : (b.ev c i l).rd j = b.rd j := rfl
@[simp] theorem Block.rd_evF (c i : Nat) (l : List (Nat × Nat)) (w : Word) (j : Nat) : (b.evF c i l w).rd j = b.rd j := rfl
@[simp] theorem Block.rd_send (x : Output) (j : Nat) : (b.send x).rd j = b.rd j := rfl
@[simp] theorem Block.rd_setEng (e : Nat) (x : Eng) (j : Nat) : (b.setEng e x).rd j = b.rd j := rfl
@[simp] theorem Block.rd_updEng (e : Nat) (f : Eng → Eng) (j : Nat) : (b.updEng e f).rd j = b.rd j := rfl
@[simp] theorem Block.rd_setStk (s : Nat) (x : Stk) (j : Nat) : (b.setStk s x).rd j = b.rd j := rfl
@[simp] theorem Block.rd_updStk (s : Nat) (f : Stk → Stk) (j : Nat) : (b.updStk s f).rd j = b.rd j := rfl
@[simp] theorem Block.rd_updFrm (f : Frame → Frame) (j : Nat) : (b.updFrm f).rd j = b.rd j := rfl
@[simp] theorem Block.rd_flag (x j : Nat) : (b.flag x).rd j = b.rd j := rfl
@[simp] theorem Block.rd_updFlow (f : Nat) (g : Flow → Flow) (j : Nat) : (b.updFlow f g).rd j = b.rd j := rfl
@[simp] theorem Block.rd_wrBytes (a : Nat) (l : List Byte) (j : Nat) : (b.wrBytes a l).rd j = b.rd j := rfl

/-! ## Engines, stacks, flow contexts, memory -/

theorem Block.eng_updEng (e : Nat) (f : Eng → Eng) (j : Nat) :
    (b.updEng e f).eng j = if j = e then f (b.eng e) else b.eng j := SMap.get_set _ b.engs e _ j
@[simp] theorem Block.eng_updEng_same (e : Nat) (f : Eng → Eng) : (b.updEng e f).eng e = f (b.eng e) := by
  rw [Block.eng_updEng]; simp
theorem Block.stk_updStk (s : Nat) (f : Stk → Stk) (j : Nat) :
    (b.updStk s f).stk j = if j = s then f (b.stk s) else b.stk j := SMap.get_set _ b.stks s _ j
@[simp] theorem Block.stk_updStk_same (s : Nat) (f : Stk → Stk) : (b.updStk s f).stk s = f (b.stk s) := by
  rw [Block.stk_updStk]; simp
theorem Block.flow_updFlow (f : Nat) (g : Flow → Flow) (j : Nat) :
    (b.updFlow f g).flow j = if j = f then g (b.flow f) else b.flow j := SMap.get_set _ b.vyv.flows f _ j
@[simp] theorem Block.flow_updFlow_same (f : Nat) (g : Flow → Flow) : (b.updFlow f g).flow f = g (b.flow f) := by
  rw [Block.flow_updFlow]; simp

/-- A byte of module memory after a write of bytes. -/
theorem Block.rd8_wrBytes (a : Nat) (l : List Byte) (j : Nat) :
    (b.wrBytes a l).rd8 j = if h : a ≤ j ∧ j < a + l.length then l[j - a]'(by omega) else b.rd8 j :=
  SMap.get_setMany b.memDef l b.mem a j

/-! ## Conditional and repeated effects -/

@[simp] theorem Block.when_true (f : Block → Block) : b.when true f = f b := rfl
@[simp] theorem Block.when_false (f : Block → Block) : b.when false f = b := rfl
/-- What a conditional effect keeps. -/
theorem Block.when_keep {γ : Type} (g : Block → γ) (c : Bool) (f : Block → Block) (h : g (f b) = g b) :
    g (b.when c f) = g b := by cases c <;> simp [h]
@[simp] theorem Block.each_nil {α : Type} (f : Block → α → Block) : b.each [] f = b := rfl
@[simp] theorem Block.each_cons {α : Type} (x : α) (xs : List α) (f : Block → α → Block) :
    b.each (x :: xs) f = (f b x).each xs f := rfl
/-- What a repeated effect keeps. -/
theorem Block.each_keep {α γ : Type} (g : Block → γ) (xs : List α) (f : Block → α → Block)
    (h : ∀ b x, g (f b x) = g b) : g (b.each xs f) = g b := by
  induction xs generalizing b with
  | nil => rfl
  | cons x xs ih => rw [Block.each_cons, ih, h]

end Sys2Proof.Machine
end

