-- ==== Sys2Proof/Laws/Run.lean ====
section
/-! SUPPORT. What ends every command (`settle`, `State.run`) does: it enters events in the Daybook and signals vectors, and
touches nothing of the block but the Daybook's own registers, the vectors' state and the outputs. -/

namespace Sys2Proof.Machine

/-- `c` is `b` but for the Daybook's registers, the arming and pending bits of the vectors, `out` and `evs`. -/
structure LogOnly (b c : Block) : Prop where
  rest : c = { b with
    regs := c.regs, host := { b.host with armed := c.host.armed, pend := c.host.pend }, out := c.out, evs := c.evs }
  rd : ∀ o, o ∉ logRegs → c.rd o = b.rd o

theorem LogOnly.refl (b : Block) : LogOnly b b := ⟨rfl, fun _ _ => rfl⟩
theorem LogOnly.trans {a b c : Block} (h : LogOnly a b) (k : LogOnly b c) : LogOnly a c := by
  refine ⟨?_, fun o ho => (k.rd o ho).trans (h.rd o ho)⟩
  rw [k.rest, h.rest]

theorem LogOnly.wr {b : Block} {o : Nat} (ho : o ∈ logRegs) (v : Word) : LogOnly b (b.wr o v) :=
  ⟨rfl, fun _ hj => b.rd_wr_ne v (fun h => hj (h ▸ ho))⟩

theorem enter_logOnly (d : Daybook) (b : Block) (mk : BitVec 32 → LogEnt) : LogOnly b (enter d b mk).2 := by
  have hw : ∀ (c : Bool) (b : Block), LogOnly b (b.when c fun b => b.raise P_DBK 0) := fun c b => by
    cases c
    · exact .refl b
    · exact LogOnly.wr (by simp [logRegs]) _
  unfold enter
  simp only
  split
  · exact hw _ b
  · split
    · exact (LogOnly.wr (o := DBK_OVWCNT) (by simp [logRegs]) _).trans (hw _ _)
    · exact ((LogOnly.wr (o := DBK_DROPCNT) (by simp [logRegs]) _).trans
        (LogOnly.wr (o := DBK_DROPSEV) (by simp [logRegs]) _)).trans (LogOnly.wr (by simp [logRegs]) _)

theorem logEv_logOnly (d : Daybook) (b : Block) (v : Ev) : LogOnly b (logEv d b v).2 := by
  unfold logEv
  simp only
  split
  · exact enter_logOnly ..
  · have hw : LogOnly b (b.bump DBK_SUPPCNT) := LogOnly.wr (o := DBK_SUPPCNT) (by simp [logRegs]) _
    repeat' split
    all_goals first | exact hw | exact enter_logOnly ..

theorem logAll_logOnly (d : Daybook) (b : Block) (evs : List Ev) : LogOnly b (logAll d b evs).2 := by
  unfold logAll
  generalize evs.foldl (fun l v => evInsert v l) [] = l
  induction l generalizing d b with
  | nil => exact .refl b
  | cons v l ih =>
    simp only [List.foldl_cons]
    exact (logEv_logOnly d b v).trans (ih _ _)

theorem signal_logOnly (b : Block) (v : Nat) : LogOnly b (b.signal v) := by
  unfold Block.signal
  split
  · exact .refl b
  · simp only; split <;> exact ⟨rfl, fun _ _ => rfl⟩

theorem signalAll_logOnly (b : Block) : LogOnly b b.signalAll := by
  unfold Block.signalAll
  generalize b.conditions = l
  induction l generalizing b with
  | nil => exact .refl b
  | cons v l ih => exact (signal_logOnly b v).trans (ih _)

theorem settle_logOnly (d : Daybook) (b : Block) : LogOnly b (settle d b).2 := by
  unfold settle
  simp only
  have h : LogOnly b { b with evs := [] } := ⟨rfl, fun _ _ => rfl⟩
  exact (h.trans (logAll_logOnly ..)).trans (signalAll_logOnly _)

/-- What a command leaves is what its effect leaves, but for the Daybook's registers, the vectors and the outputs. -/
theorem run_logOnly (s : State) (f : Block → Block) : LogOnly (f s.b.fresh) (s.run f).b := settle_logOnly ..

/-- Registers after a command. -/
theorem run_rd (s : State) (f : Block → Block) {o : Nat} (h : o ∉ logRegs) : (s.run f).b.rd o = (f s.b.fresh).rd o :=
  (run_logOnly s f).rd o h

@[simp] theorem run_pending (s : State) (f : Block → Block) : (s.run f).pending = s.pending := rfl

theorem evs_enter (d : Daybook) (b : Block) (mk : BitVec 32 → LogEnt) : (enter d b mk).2.evs = b.evs := by
  unfold enter
  simp only
  split
  · exact Block.when_keep _ (·.evs) _ _ rfl
  · split
    · exact Block.when_keep _ (·.evs) _ _ rfl
    · rfl

theorem evs_logEv (d : Daybook) (b : Block) (v : Ev) : (logEv d b v).2.evs = b.evs := by
  unfold logEv
  simp only
  split
  · exact evs_enter ..
  · repeat' split
    all_goals first | exact evs_enter .. | rfl

theorem evs_logAll (d : Daybook) (b : Block) (evs : List Ev) : (logAll d b evs).2.evs = b.evs := by
  unfold logAll
  generalize evs.foldl (fun l v => evInsert v l) [] = l
  induction l generalizing d b with
  | nil => rfl
  | cons v l ih => simp only [List.foldl_cons]; rw [ih]; exact evs_logEv ..

theorem evs_signalAll (b : Block) : b.signalAll.evs = b.evs := by
  unfold Block.signalAll
  refine Block.each_keep b (·.evs) _ _ fun b v => ?_
  unfold Block.signal
  split
  · rfl
  · simp only; split <;> rfl

/-- No event is left behind. -/
@[simp] theorem run_evs (s : State) (f : Block → Block) : (s.run f).b.evs = [] := by
  unfold State.run settle
  simp only
  rw [evs_signalAll, evs_logAll]

/-! ## Each field after a command -/

theorem run_mem (s : State) (f : Block → Block) : (s.run f).b.mem = (f s.b.fresh).mem := by rw [(run_logOnly s f).rest]
theorem run_hbmGen (s : State) (f : Block → Block) : (s.run f).b.hbmGen = (f s.b.fresh).hbmGen := by rw [(run_logOnly s f).rest]
theorem run_grade (s : State) (f : Block → Block) : (s.run f).b.grade = (f s.b.fresh).grade := by rw [(run_logOnly s f).rest]
theorem run_up (s : State) (f : Block → Block) : (s.run f).b.up = (f s.b.fresh).up := by rw [(run_logOnly s f).rest]
theorem run_time (s : State) (f : Block → Block) : (s.run f).b.time = (f s.b.fresh).time := by rw [(run_logOnly s f).rest]
theorem run_aon (s : State) (f : Block → Block) : (s.run f).b.aon = (f s.b.fresh).aon := by rw [(run_logOnly s f).rest]
theorem run_aonFrac (s : State) (f : Block → Block) : (s.run f).b.aonFrac = (f s.b.fresh).aonFrac := by rw [(run_logOnly s f).rest]
theorem run_pw (s : State) (f : Block → Block) : (s.run f).b.pw = (f s.b.fresh).pw := by rw [(run_logOnly s f).rest]
theorem run_engs (s : State) (f : Block → Block) : (s.run f).b.engs = (f s.b.fresh).engs := by rw [(run_logOnly s f).rest]
theorem run_stks (s : State) (f : Block → Block) : (s.run f).b.stks = (f s.b.fresh).stks := by rw [(run_logOnly s f).rest]
theorem run_frm (s : State) (f : Block → Block) : (s.run f).b.frm = (f s.b.fresh).frm := by rw [(run_logOnly s f).rest]
theorem run_startQ (s : State) (f : Block → Block) : (s.run f).b.startQ = (f s.b.fresh).startQ := by rw [(run_logOnly s f).rest]
theorem run_lastId (s : State) (f : Block → Block) : (s.run f).b.lastId = (f s.b.fresh).lastId := by rw [(run_logOnly s f).rest]
theorem run_vyv (s : State) (f : Block → Block) : (s.run f).b.vyv = (f s.b.fresh).vyv := by rw [(run_logOnly s f).rest]
theorem run_rol (s : State) (f : Block → Block) : (s.run f).b.rol = (f s.b.fresh).rol := by rw [(run_logOnly s f).rest]
theorem run_thm (s : State) (f : Block → Block) : (s.run f).b.thm = (f s.b.fresh).thm := by rw [(run_logOnly s f).rest]
theorem run_hk (s : State) (f : Block → Block) : (s.run f).b.hk = (f s.b.fresh).hk := by rw [(run_logOnly s f).rest]
theorem run_pins (s : State) (f : Block → Block) : (s.run f).b.pins = (f s.b.fresh).pins := by rw [(run_logOnly s f).rest]
theorem run_vlt (s : State) (f : Block → Block) : (s.run f).b.vlt = (f s.b.fresh).vlt := by rw [(run_logOnly s f).rest]
theorem run_wakes (s : State) (f : Block → Block) : (s.run f).b.wakes = (f s.b.fresh).wakes := by rw [(run_logOnly s f).rest]
theorem run_nextWake (s : State) (f : Block → Block) : (s.run f).b.nextWake = (f s.b.fresh).nextWake := by rw [(run_logOnly s f).rest]
theorem run_free (s : State) (f : Block → Block) : (s.run f).b.free = (f s.b.fresh).free := by rw [(run_logOnly s f).rest]
theorem run_tail (s : State) (f : Block → Block) : (s.run f).b.tail = (f s.b.fresh).tail := by rw [(run_logOnly s f).rest]
theorem run_bnds (s : State) (f : Block → Block) : (s.run f).b.bnds = (f s.b.fresh).bnds := by rw [(run_logOnly s f).rest]
theorem run_gap (s : State) (f : Block → Block) : (s.run f).b.gap = (f s.b.fresh).gap := by rw [(run_logOnly s f).rest]
@[simp] theorem Block.fresh_regs (b : Block) : b.fresh.regs = b.regs := rfl
@[simp] theorem Block.fresh_mem (b : Block) : b.fresh.mem = b.mem := rfl
@[simp] theorem Block.fresh_hbmGen (b : Block) : b.fresh.hbmGen = b.hbmGen := rfl
@[simp] theorem Block.fresh_grade (b : Block) : b.fresh.grade = b.grade := rfl
@[simp] theorem Block.fresh_up (b : Block) : b.fresh.up = b.up := rfl
@[simp] theorem Block.fresh_time (b : Block) : b.fresh.time = b.time := rfl
@[simp] theorem Block.fresh_aon (b : Block) : b.fresh.aon = b.aon := rfl
@[simp] theorem Block.fresh_aonFrac (b : Block) : b.fresh.aonFrac = b.aonFrac := rfl
@[simp] theorem Block.fresh_pw (b : Block) : b.fresh.pw = b.pw := rfl
@[simp] theorem Block.fresh_host (b : Block) : b.fresh.host = b.host := rfl
@[simp] theorem Block.fresh_engs (b : Block) : b.fresh.engs = b.engs := rfl
@[simp] theorem Block.fresh_stks (b : Block) : b.fresh.stks = b.stks := rfl
@[simp] theorem Block.fresh_frm (b : Block) : b.fresh.frm = b.frm := rfl
@[simp] theorem Block.fresh_startQ (b : Block) : b.fresh.startQ = b.startQ := rfl
@[simp] theorem Block.fresh_lastId (b : Block) : b.fresh.lastId = b.lastId := rfl
@[simp] theorem Block.fresh_vyv (b : Block) : b.fresh.vyv = b.vyv := rfl
@[simp] theorem Block.fresh_rol (b : Block) : b.fresh.rol = b.rol := rfl
@[simp] theorem Block.fresh_thm (b : Block) : b.fresh.thm = b.thm := rfl
@[simp] theorem Block.fresh_hk (b : Block) : b.fresh.hk = b.hk := rfl
@[simp] theorem Block.fresh_pins (b : Block) : b.fresh.pins = b.pins := rfl
@[simp] theorem Block.fresh_vlt (b : Block) : b.fresh.vlt = b.vlt := rfl
@[simp] theorem Block.fresh_wakes (b : Block) : b.fresh.wakes = b.wakes := rfl
@[simp] theorem Block.fresh_nextWake (b : Block) : b.fresh.nextWake = b.nextWake := rfl
@[simp] theorem Block.fresh_free (b : Block) : b.fresh.free = b.free := rfl
@[simp] theorem Block.fresh_tail (b : Block) : b.fresh.tail = b.tail := rfl
@[simp] theorem Block.fresh_bnds (b : Block) : b.fresh.bnds = b.bnds := rfl
@[simp] theorem Block.fresh_gap (b : Block) : b.fresh.gap = b.gap := rfl
@[simp] theorem Block.fresh_evs (b : Block) : b.fresh.evs = [] := rfl
@[simp] theorem Block.fresh_out (b : Block) : b.fresh.out = [] := rfl
@[simp] theorem Block.fresh_rd (b : Block) (o : Nat) : b.fresh.rd o = b.rd o := rfl
/-! ## Fetching (R281) -/

/-- Fetching a frame's descriptors changes its queues and the index fetched next, and nothing else of the frame. -/
theorem Frame.fetch_keeps (prog : Frame → Nat → Desc) (n : Nat) (f : Frame) :
    Frame.fetch prog n f = { f with pc := (Frame.fetch prog n f).pc, queue := (Frame.fetch prog n f).queue } := by
  induction n generalizing f with
  | zero => rfl
  | succ n ih =>
    unfold Frame.fetch
    split
    · rfl
    · split
      · rfl
      · simp only
        split
        · rfl
        · rw [ih]

/-- What was queued stays queued, in order. -/
theorem Frame.fetch_queue (prog : Frame → Nat → Desc) (n : Nat) (f : Frame) :
    ∃ l, (Frame.fetch prog n f).queue = f.queue ++ l := by
  induction n generalizing f with
  | zero => exact ⟨[], (List.append_nil _).symm⟩
  | succ n ih =>
    unfold Frame.fetch
    split
    · exact ⟨[], (List.append_nil _).symm⟩
    · split
      · exact ⟨_, rfl⟩
      · simp only
        split
        · exact ⟨[], (List.append_nil _).symm⟩
        · obtain ⟨l, h⟩ := ih { f with
            queue := f.queue ++ [⟨min (dTgt (prog f f.pc)) 4, f.pc, prog f f.pc⟩], pc := f.pc + 1 }
          exact ⟨_, h.trans (List.append_assoc ..)⟩

/-- Fetching changes no field of the block but the frame in progress. -/
theorem Block.fetch_rest (b : Block) : b.fetch = { b with frm := b.fetch.frm } := rfl

/-! ## Engines, stacks and flow contexts after a command -/

theorem run_eng (s : State) (f : Block → Block) (e : Nat) : (s.run f).b.eng e = (f s.b.fresh).eng e := by
  simp only [Block.eng, run_engs]
theorem run_stk (s : State) (f : Block → Block) (k : Nat) : (s.run f).b.stk k = (f s.b.fresh).stk k := by
  simp only [Block.stk, run_stks]
theorem run_flow (s : State) (f : Block → Block) (k : Nat) : (s.run f).b.flow k = (f s.b.fresh).flow k := by
  simp only [Block.flow, run_vyv]

end Sys2Proof.Machine
end

