-- ==== Sys2Proof/Laws/Gate.lean ====
section
/-! SUPPORT. What the path of a register write does (R426, R427, R433, R437, R438, R440, R463). -/

namespace Sys2Proof.Machine

/-- A write that reaches its register has the register's own effect and is counted when it acts. -/
theorem gate_accepts {b : Block} {m : Master} {off : Nat} (h : b.accepts m off = true) (eff : Block → Block × Bool) :
    b.gate m off eff = (eff b).1.counted off (eff b).2 := by
  simp only [Block.accepts, Bool.and_eq_true, Bool.not_eq_true', beq_iff_eq] at h
  obtain ⟨⟨⟨h1, h2⟩, h3⟩, h4⟩ := h
  simp [Block.gate, Block.writeAt, h1, h2, h3, h4]

theorem fresh_accepts (b : Block) (m : Master) (off : Nat) : b.fresh.accepts m off = b.accepts m off := by
  cases m <;> rfl

/-- Counting a write changes `PG_SEQ` of its page and nothing else. -/
theorem counted_rd (b : Block) (off : Nat) (a : Bool) {o : Nat} (h : o ≠ PG_SEQ (off / 0x1000 * 0x1000)) :
    (b.counted off a).rd o = b.rd o := by
  unfold Block.counted
  split
  · exact b.rd_wr_ne _ h
  · rfl

theorem counted_rest (b : Block) (off : Nat) (a : Bool) : b.counted off a = { b with regs := (b.counted off a).regs } := by
  unfold Block.counted
  split <;> rfl

/-- A register write that does not reach its register changes nothing but the error records of `GLB` (R433, R440), the
outputs and the events. -/
theorem gate_done (s : State) {m : Master} {off : Nat} (h : s.b.accepts m off = true) (eff : Block → Block × Bool) :
    s.done (fun b => b.gate m off eff) = s.done fun b => (eff b).1.counted off (eff b).2 := by
  simp only [State.done, State.run, gate_accepts ((fresh_accepts s.b m off).trans h)]

end Sys2Proof.Machine
end

