-- ==== Sys2Proof/Laws/Memory.lean ====
section
/-! SUPPORT. Every operation that writes the memory keeps its canonical form, and it has it after reset; a byte outside what
is written reads as before. -/

namespace Sys2Proof.Machine

theorem reset_memory_wf : Memory.wf State.reset.b = true := rfl

theorem wrBytes_memory_wf {b : Block} (h : Memory.wf b = true) (a : Nat) (bs : List Byte) :
    Memory.wf (b.wrBytes a bs) = true := SMap.wf_setMany b.memDef h a bs

theorem wrLE_memory_wf {b : Block} (h : Memory.wf b = true) (a n v : Nat) : Memory.wf (b.wrLE a n v) = true :=
  wrBytes_memory_wf h a _

theorem wr32_memory_wf {b : Block} (h : Memory.wf b = true) (a : Nat) (v : Word) : Memory.wf (b.wr32 a v) = true :=
  wrBytes_memory_wf h a _

/-- A command keeps the form when its effect does. -/
theorem run_memory_wf (s : State) (f : Block → Block) (h : Memory.wf (f s.b.fresh) = true) : Memory.wf (s.run f).b = true := by
  unfold Memory.wf at *
  have e : (s.run f).b.memDef = (f s.b.fresh).memDef := by funext a; simp only [Block.memDef, run_hbmGen, run_grade]
  rw [e, run_mem]
  exact h

/-- Bytes outside those written read as before. -/
theorem rd8_wrBytes_out (b : Block) (a : Nat) (bs : List Byte) (j : Nat) (h : j < a ∨ a + bs.length ≤ j) :
    (b.wrBytes a bs).rd8 j = b.rd8 j := SMap.get_setMany_out b.memDef bs b.mem a j (by omega)

/-- A byte written reads as written. -/
theorem rd8_wrBytes_in (b : Block) (a : Nat) (bs : List Byte) (i : Nat) (h : i < bs.length) :
    (b.wrBytes a bs).rd8 (a + i) = bs[i] := by
  unfold Block.rd8 Block.wrBytes
  have := SMap.get_setMany b.memDef bs b.mem a (a + i)
  rw [dif_pos ⟨by omega, by omega⟩] at this
  simp only [Nat.add_sub_cancel_left] at this
  exact this

end Sys2Proof.Machine
end

