-- ==== Sys2Proof/Tests/Slice0.lean ====
section
/-! SUPPORT. Checks of the model on fixed values: an ill-formed command for every check of `WellFormed`, and worked examples
of the spec, each named by its rule. -/

namespace Sys2Proof.Tests.Slice0

set_option maxRecDepth 20000

open Sys2Proof Sys2Proof.Machine

/-! ## WellFormed -/

/-- Sixteen words of zero. -/
def zeroDesc : Desc := ⟨List.replicate 16 0⟩
/-- A PASS of two symbols. -/
def twoSyms : Desc := ⟨[0x10, 0, 2] ++ List.replicate 13 0⟩
/-- A DSCORE of one symbol. -/
def oneDyn : Desc := ⟨[0x12, 0, 0, 0, 0, 0, 1] ++ List.replicate 9 0⟩
/-- A datagram's arrival on port 0 over IPv4. -/
def arr : Arrival := ⟨0, false, 0, false, [0, 0, 0, 0xC0A80002], 4791, 60⟩
/-- An ACK. -/
def ackMsg : Msg := ⟨1, 1, 3, 0, 0, 0, 0, 0, 0, 0, 0, 0, [], 0⟩

theorem test_wf_ok : (Instr.dEnd 0 zeroDesc).wellFormed = true ∧ (Instr.rxAck arr ackMsg).wellFormed = true ∧
    (Instr.dPass 0 twoSyms (List.replicate 2 (List.replicate 512 0))).wellFormed = true := by decide
theorem test_wf_desc : (Instr.dEnd 0 ⟨[0]⟩).wellFormed = false := by decide
theorem test_wf_pass_symbols : (Instr.dPass 0 twoSyms [List.replicate 512 0]).wellFormed = false := by decide
theorem test_wf_pass_rows : (Instr.dPass 0 twoSyms [[], []]).wellFormed = false := by decide
theorem test_wf_dyn : (Instr.dDscore 0 oneDyn [[1]] ⟨[], []⟩).wellFormed = false := by decide
theorem test_wf_ecc : (Instr.dHbm 0 zeroDesc ⟨[2 ^ 37], []⟩).wellFormed = false := by decide
theorem test_wf_msg : (Instr.rxAck arr { ackMsg with cls := 16 }).wellFormed = false := by decide
theorem test_wf_arrival : (Instr.rxAck { arr with ip := [1] } ackMsg).wellFormed = false := by decide
theorem test_wf_lanes : (Instr.ledgerWindowWrite .pf0 0 0 [] ⟨[], []⟩).wellFormed = false := by decide
theorem test_wf_peaks : (Instr.sweepEnd 3 [⟨512, 0, 0, 0, []⟩]).wellFormed = false := by decide
theorem test_wf_peak_ring : (Instr.sweepEnd 3 [⟨0, 0, 68, 0, []⟩]).wellFormed = false ∧
    (Instr.sweepEnd 3 [⟨0, 0, 67, 71, []⟩]).wellFormed = true := by decide
theorem test_wf_fails : (Instr.searchComplete 3 [(0, 32)] []).wellFormed = false := by decide
theorem test_wf_scan : (Instr.refreshRowWrite 3 102 [0]).wellFormed = false := by decide
theorem test_wf_ip : (Instr.neighbourSolicitation 0 [1]).wellFormed = false ∧
    (Instr.echoRequest 0 false [1, 2]).wellFormed = false := by decide
theorem test_wf_bar2 : (Instr.bar2Read 0 0 ⟨[], []⟩).wellFormed = false ∧ (Instr.bar2Write 0 []).wellFormed = false := by decide
theorem test_wf_smb : (Instr.smbBlockWrite (List.replicate 256 0) none).wellFormed = false := by decide
theorem test_wf_temps : (Instr.thermalSample [0]).wellFormed = false ∧ (Instr.hbmTemperatureRead []).wellFormed = false := by
  decide
theorem test_wf_stream : (Instr.loopSample 0 0 []).wellFormed = false := by decide
theorem test_wf_probe : (Instr.probePointComplete 0 [[]]).wellFormed = false := by decide

/-! ## Worked examples of the spec -/

/-- 02 "one row, one symbol": code 106 at SHIFT 19 with WSUM 262,144 gives 38,797,312. -/
theorem test_row_one_symbol :
    rowY { Half.empty with wsum := [(0, 262144)] } 19 0 106 ⟨0, [105, 34, 83, 0], true, 0⟩ = 38797312 := by decide

/-- 06 "one row, two profiles", profile X: the codes, and two of them clipped. -/
theorem test_mint_profile_x :
    (convRow ⟨0, 0, 0, false, false, 0, true, 49152⟩ [] []
      [0x3F000000, 0xBFA00000, 0x40400000, 0xBD800000, 0x41280000, 0x3F400000, 0xC0200000, 0xC1040000]).codes
      = [4, -10, 24, 0, 63, 6, -20, -64] := by decide +kernel
theorem test_mint_profile_x_scale :
    (convRow ⟨0, 0, 0, false, false, 0, true, 49152⟩ [] [] [0x41280000, 0xC1040000]).scale = 0x3E000000 := by decide +kernel

/-- 12 "a stride that defeats H0": the groups of granule 17 j. -/
theorem test_hash_h0 : (List.range 16).map (fun j => hbmHash 0 (17 * j)) = List.replicate 16 0 := by decide +kernel
theorem test_hash_h1 : (List.range 16).map (fun j => hbmHash 1 (17 * j))
    = [0, 3, 6, 5, 12, 15, 10, 9, 9, 10, 15, 12, 5, 6, 3, 0] := by decide +kernel
theorem test_hash_h2 : (List.range 16).map (fun j => hbmHash 2 (17 * j))
    = [0, 9, 6, 15, 6, 15, 0, 9, 9, 0, 15, 6, 15, 6, 9, 0] := by decide +kernel

/-- 14 "a sensor hovering on THROTTLE": nine samples at the threshold leave it, the tenth reaches it. -/
theorem test_throttle_tenth : (({ up := 8 } : Dwell).sample 25600 25600 true).on = false ∧
    (({ up := 9 } : Dwell).sample 25600 25600 true).on = true := by decide
/-- Between the threshold and 2 K below it nothing changes; the tenth sample further down leaves it. -/
theorem test_throttle_hysteresis : (({ up := 0, dn := 9, on := true } : Dwell).sample 25344 25600 true).on = true ∧
    (({ up := 0, dn := 9, on := true } : Dwell).sample 25037 25600 true).on = false := by decide

/-- 15 "a full Daybook": the entry replaced by one of severity 3, and none to replace for severity 1. -/
def held : List LogEnt :=
  [⟨70001, 0x3A04, 6, false, 0, 0, 0, 0, 0, []⟩, ⟨70002, 0x9006, 7, false, 0, 0, 0, 0, 0, []⟩, ⟨70412, 0x4502, 2, false, 0, 0, 0, 0, 0, []⟩]
theorem test_daybook_victim : (victim held 3).map (·.seq) = some 70412 ∧ victim held 1 = none ∧
    (victim held 6).map (·.seq) = some 70001 := by decide

/-- The pilot codes are balanced and mutually orthogonal, as R107 says. -/
theorem test_pilots : ∀ p q : Fin 4, ((List.range 16).map fun k => pilotChip p k).sum = 0 ∧
    (p ≠ q → ((List.range 16).map fun k => pilotChip p k * pilotChip q k).sum = 0) := by decide

/-- CRC-32C of "123456789" is the check value 0xE3069283 of the Castagnoli polynomial that R527 and R379 name. -/
theorem test_crc32c : crc32c [0x31, 0x32, 0x33, 0x34, 0x35, 0x36, 0x37, 0x38, 0x39] = 0xE3069283 := by decide +kernel

/-! ## One step -/

/-- The state after reset with one command waiting. -/
def waiting (c : Instr) : State := { State.reset with pending := [c] }

/-- The first command of a machine just reset runs: the island alone takes a register write, the stacks are down. -/
theorem test_step_first : ∃ t, step (waiting (.registerWrite .pf0 0x2050 0 15 ⟨[], []⟩)) = .next t ∧ t.pending = [] := ⟨_, rfl, rfl⟩
theorem test_step_idle : ∃ t, step State.reset = .next t ∧ t.b.up = 1 ∧ t.b.time = 0 := ⟨_, rfl, by decide +kernel⟩
/-- No word spells a command of this block. -/
theorem test_no_words : State.reset.withFetchWord 32 0 = State.reset := rfl

end Sys2Proof.Tests.Slice0
end

