-- ==== Sys2Proof/Tests/Witness.lean ====
section
/-! SUPPORT. States that meet the hypotheses of every statement. -/

namespace Sys2Proof.Tests

set_option maxRecDepth 20000
set_option Elab.async false

open Sys2Proof Sys2Proof.Machine

/-- A block with further registers. -/
def rg (b : Block) (l : List (Nat × Word)) : Block := { b with regs := l.foldl (fun m e => m.put e.1 e.2) b.regs }
/-- A block powered up, every rail good, Mionus running. -/
def tb : Block := rg { Block.reset with pw := { Power.reset with phase := .up, mionus := true } } [(PWR_RAIL, 0x7FF)]
/-- The block in another power phase. -/
def ph (p : Phase) (b : Block) : Block := { b with pw := { b.pw with phase := p } }
/-- The state around a block. -/
def st (b : Block) : State := { State.reset with b := b }
/-- A descriptor of the words given, the rest 0. -/
def ds (l : List Word) : Desc := ⟨l ++ List.replicate (16 - l.length) 0⟩
/-- A frame just begun, of a program of 4 KiB. -/
def fr0 : Frame :=
  { sr := { frame := 1, seed := 0, paddr := 0, plen := 4096, pbase := 0, ncand := 1 }, begun := 0, ended := false, irq := false,
    saddr := none, stopped := false, tlimit := false, abandon := false, byEnd := false, flags := 0, rej := false, nrej := 0,
    ridx := 0, rreason := 0, nlate := 0, nheld := 0, pc := 0, queue := [], infl := [], fences := [], lastIdx := 0, mint := none,
    mq := [], vops := [], vrecvs := [], engines := [], mOrd := 0, mConv := 0, mClip := 0, mNsat := 0, mWorst := 0, mWorstOrd := 0 }
/-- A block in Active in which that frame runs. -/
def fb : Block := { rg tb [(PWR_STATE, 3), (MSQ_CTRL, 1), (MSQ_FRAME, 1)] with frm := some fr0 }
/-- The frame, and a block with its frame, in which descriptor `d` of index `i` is the next of its sequencer. -/
def fqf (i : Nat) (d : Desc) (f : Frame) : Frame := { f with queue := [⟨f.seqOf i d, i, d⟩] }
def fq (i : Nat) (d : Desc) (b : Block) : Block := b.updFrm (fqf i d)
/-- An engine of a block changed. -/
def eb (e : Nat) (f : Eng → Eng) (b : Block) : Block := b.updEng e f
/-- A stack of a block changed. -/
def kb (k : Nat) (f : Stk → Stk) (b : Block) : Block := b.updStk k f
/-- A port of a block changed, a flow context changed. -/
def pb (p : Nat) (f : Port → Port) (b : Block) : Block := b.updPort p f
def ff (k : Nat) (f : Flow → Flow) (b : Block) : Block := b.updFlow k f
/-- A block in Active with Vyivim on, port 1 up, and flow context 3 in state `k`. -/
def nb (k : Nat) : Block :=
  ff 3 (fun x => x.setState k) (rg tb [(PWR_STATE, 3), (VYV_CTRL, 1), (LNK_CTRL, 3), (LNK_P_STAT 1, 0x101), (LNK_P_CFG 1, 4)])
/-- How the test messages arrive. -/
def av (n : Nat) : Arrival := { port := 1, ce := false, mac := 5, v6 := false, ip := [0, 0, 0, 9], sport := 600, ulen := n }
/-- A message to flow context 3 of the module, from the path it has at reset. -/
def mg (cls type : Nat) (seq : BitVec 32) (dflow : Nat) (p : List Byte) : Msg :=
  msgSeal { ver := 1, cls := cls, type := type, flags := 0, dpath := 0x800000000000000, spath := 0x800000000000000, frame := 5, seq := seq, dflow := dflow,
            plen := p.length, epoch := 0, hcrc := 0, payload := p, trailer := 0 }
/-- A block in which configuration `c` is applied to port `p`. -/
def cg (p : Nat) (c : Word) (b : Block) : Block := { b with vyv := { b.vyv with cfg := [(p, c)] } }
/-- A module that is member 3 and face of a roll of level 1 with members 3 and 4, to which flow context 3 leads. -/
def rb : Block :=
  let b := ff 3 (fun x => (x.setW 2 0x40000).setW 3 0x28000000) (rg (nb 2) [(ROL_CTRL, 3), (ROL_PATH_HI, 0x28000000), (ROL_PATH_LO, 0x30000),
    (ROL_L_INFO 0, 0x03030208), (ROL_L_VIEW0 0, 0x18)])
  { b with rol := { b.rol with mrec := [(4, (9, 3))], heard := [(4, { alive := true, reach := 8 })] } }
/-- A message of that member. -/
def rm (cls type : Nat) (seq : BitVec 32) (p : List Byte) : Msg :=
  msgSeal { ver := 1, cls := cls, type := type, flags := 0, dpath := 0x2800000000030000, spath := 0x2800000000040000, frame := 5, seq := seq,
            dflow := 3, plen := p.length, epoch := 0, hcrc := 0, payload := p, trailer := 0 }
/-- The bytes of a Vault header with two empty sections, without its CRC, and of a host set of one entry up to its CRC. -/
def vh : List Byte :=
  bytesLE 4 0x56414C54 ++ bytesLE 4 0 ++ bytesLE 4 9 ++ bytesLE 4 2 ++ bytesLE 4 1 ++ List.replicate 12 0 ++ bytesLE 4 2 ++ List.replicate 216 0
def vs : List Byte := bytesLE 4 0x56415354 ++ bytesLE 4 0 ++ bytesLE 4 1 ++ List.replicate 48 0
/-- The state around `tb` with a Daybook in which four occurrences are suppressed. -/
def sl : State :=
  { st tb with log := { ents := [], next := 5, bks := [(0x6101 * 256 + 2,
      { tokens := 0, stamp := 0, supp := 4, last := [], first := [], lastFrame := 0 })] } }

/-- A descriptor of vector operation `op` that is executed: one row of 4 elements, or the shape the operation needs. -/
def vopWit (op : Nat) : Desc :=
  let (ua, ub, uc) := vopUses op
  let f := if op = 11 ∨ op = 12 ∨ op = 36 ∨ op = 42 then 0x900 else 0x500
  ds [0x428, wd (f + 0x1000 + op), 1, if ua then 0x10000 else 0, 0, if ub then 0x20000 else 0, 0, if uc then 0x30000 else 0, 0,
    0x40000, 0, if op = 40 then 0x10040 else 0x10004, if op = 40 then 6 else if op = 14 then 2 else 1, 1, 1, 0]

/-- Detector means that carry the code of pilot `p`. -/
def mns (p n : Nat) : List (Nat × Nat) := (List.range n).map fun i => (if pilotChip p i = 1 then 100 else 0, i % 16)
theorem wit_PowerUpAndDown_1 : ∃ (s : State), (s.b.pw.phase ≠ .saving ∧ s.b.pw.phase ≠ .saved ∧ s.b.pw.phase ≠ .shut) :=
  ⟨st (tb), by decide⟩
theorem wit_PowerUpAndDown_2 : ∃ (s : State), (s.b.pw.phase.islandUp = true) :=
  ⟨st (tb), by decide⟩
theorem wit_PowerUpAndDown_3 : ∃ (s : State), (s.b.pw.phase = .island) :=
  ⟨st (ph .island tb), by decide⟩
theorem wit_PowerUpAndDown_4 : ∃ (s : State), (s.b.pw.phase = .island) :=
  ⟨st (ph .island tb), by decide⟩
theorem wit_PowerUpAndDown_5 : ∃ (s : State), (s.b.pw.phase = .released) :=
  ⟨st (ph .released tb), by decide⟩
theorem wit_PowerUpAndDown_6 : ∃ (s : State), (s.b.pw.mionus = false) ∧ (s.b.pw.phase = .up) ∧ (s.b.pw.drain = false ∧ s.b.pw.inMr = false) :=
  ⟨st ({ tb with pw := { tb.pw with mionus := false } }), by decide⟩
theorem wit_PowerUpAndDown_7 : ∃ (s : State), (s.b.pw.phase = .up) :=
  ⟨st (tb), by decide⟩
theorem wit_PowerUpAndDown_8 : ∃ (s : State), (s.b.pw.phase = .saving) ∧ (s.b.pw.saving.isSome) ∧ (s.b.pw.latchArmed = false ∧ s.b.pw.bySave = true) :=
  ⟨st ({ tb with pw := { tb.pw with phase := .saving, bySave := true, saving := some tb.stagingCopy } }), by decide⟩
theorem wit_PowerUpAndDown_9 : ∃ (s : State), (s.b.pw.phase ≠ .dark) :=
  ⟨st (tb), by decide⟩
theorem wit_PowerUpAndDown_10 : ∃ (s : State), (s.b.pw.phase ≠ .saving) :=
  ⟨st (tb), by decide⟩
theorem wit_SupplyEvents_1 : ∃ (s : State) (rail : Fin 11), (rail.val ≠ 0 ∧ s.rdB PWR_RAIL rail.val = true) ∧ (s.b.pw.phase.diesUp = true) ∧ (s.b.lightOn = false ∧ s.b.pw.startup = none) :=
  ⟨st (tb), 8, by decide⟩
theorem wit_SupplyEvents_2 : ∃ (s : State) (margin : BitVec 8), (s.b.pw.mionus = true ∧ s.b.pw.vreqAt = none) ∧ (margin.toNat < 8 ∧ s.rdF PWR_VREQ 0 10 < 820) :=
  ⟨st (tb), 7, by decide⟩
theorem wit_SupplyEvents_3 : ∃ (s : State), (s.rdF PWR_VMEAS 0 10 + 20 < s.rdF PWR_VREQ 0 10) :=
  ⟨st (rg tb [(PWR_VREQ, 750), (PWR_VMEAS, 700)]), by decide⟩
theorem wit_SupplyEvents_4 : ∃ (margin : BitVec 8), (margin.toNat < 3) :=
  ⟨2, by decide⟩
theorem wit_SupplyEvents_5 : ∃ (s : State), (s.rdB CLK_STAT 1 = true) :=
  ⟨st (rg tb [(CLK_STAT, 0xF)]), by decide⟩
theorem wit_SupplyEvents_6 : ∃ (s : State), (s.rdB CLK_STAT 1 = false) :=
  ⟨st (rg tb [(CLK_STAT, 0x1D)]), by decide⟩
theorem wit_SupplyEvents_7 : ∃ (s : State), (s.rdB CLK_STAT 2 = true) :=
  ⟨st (rg tb [(CLK_STAT, 0xF)]), by decide⟩
theorem wit_SupplyEvents_9 : ∃ (s : State), (s.rdB CLK_STAT 0 = true) :=
  ⟨st (rg tb [(CLK_STAT, 0xF)]), by decide⟩
theorem wit_SupplyEvents_11 : ∃ (s : State) (p : Fin 5), (s.b.pllLocked p.val = true) ∧ (s.b.frm = none) :=
  ⟨st (rg tb [(PWR_STATE, 3)]), 4, by decide⟩
theorem wit_ModuleStates_1 : ∃ (s : State) (m : Master) (v : Word), (s.b.accepts m PWR_REQ = true) ∧ (fld v 0 2 = stHold ∧ s.b.modState = stStow) ∧ (s.b.mayLight = true ∧ s.b.reqHeld = false ∧ s.b.replaceable = true) :=
  ⟨st (rg tb [(PWR_STATE, 1)]), .pf0, 2, by decide⟩
theorem wit_ModuleStates_2 : ∃ (s : State) (m : Master) (v : Word), (s.b.accepts m PWR_REQ = true) ∧ ((fld v 0 2 = stActive ∨ fld v 0 2 = stStow) ∧ s.b.modState = stHold) ∧ (s.b.reqHeld = false ∧ s.b.replaceable = true) :=
  ⟨st (rg tb [(PWR_STATE, 2)]), .pf0, 3, by decide⟩
theorem wit_ModuleStates_3 : ∃ (s : State) (m : Master) (v : Word), (s.b.accepts m PWR_REQ = true) ∧ ((fld v 0 2 = stHold ∨ fld v 0 2 = stStow) ∧ s.b.modState = stActive) ∧ (s.b.reqHeld = false ∧ s.b.replaceable = true) :=
  ⟨st (rg tb [(PWR_STATE, 3)]), .pf0, 2, by decide⟩
theorem wit_ModuleStates_4 : ∃ (s : State) (m : Master) (v : Word), (s.b.accepts m PWR_REQ = true) ∧ (s.b.modState = fld v 0 2 ∨ s.b.modState = stStow ∧ (fld v 0 2 ≠ stHold ∨ s.b.mayLight = false)) ∧ (s.b.reqHeld = false ∧ s.b.replaceable = true) :=
  ⟨st (rg tb [(PWR_STATE, 2)]), .pf0, 2, by decide⟩
theorem wit_ModuleStates_5 : ∃ (s : State) (m : Master), (s.b.accepts m PWR_REQ = true) ∧ (s.b.pw.phase ≠ .saving) ∧ (s.b.reqHeld = true ∨ s.b.replaceable = false) :=
  ⟨st (rg { tb with pw := { tb.pw with startup := some .light, now := some stHold } } [(PWR_STATE, 1)]), .pf0, by decide⟩
theorem wit_ModuleStates_6 : ∃ (s : State), (s.b.pw.startup = some .dead) :=
  ⟨st ({ tb with pw := { tb.pw with startup := some .dead } }), by decide⟩
theorem wit_ModuleStates_7 : ∃ (s : State), (s.b.pw.startup = some .light) :=
  ⟨st ({ tb with pw := { tb.pw with startup := some .light } }), by decide⟩
theorem wit_ModuleStates_8 : ∃ (s : State), (s.b.pw.startup = some .warm) ∧ (∀ e ∈ s.b.startEngs, ∀ q ∈ regionsOf e, s.b.loopEn e q = true → s.b.atSetpoint e q = true) :=
  ⟨st ({ tb with pw := { tb.pw with startup := some .warm, dark := List.range 16 } }), by decide⟩
theorem wit_ModuleStates_9 : ∃ (s : State) (e : Nat) (q : Nat), (s.b.pw.startup = some .warm) ∧ (e ∈ s.b.startEngs ∧ q ∈ regionsOf e) ∧ (s.b.loopEn e q = true ∧ s.b.atSetpoint e q = false) :=
  ⟨st (rg { tb with pw := { tb.pw with startup := some .warm } } [(LCK_CTRL 5, 1), (LCK_R_CFG 5 9, 1)]), 5, 9, by decide⟩
theorem wit_ModuleStates_10 : ∃ (s : State), (s.b.pw.startup = some .acquire ∧ s.b.pw.behind = none) ∧ (∀ (e : Fin 72) (r : Search), (s.b.eng e).search = some r → r.startup = false) :=
  ⟨st (rg { tb with pw := { tb.pw with startup := some .acquire, now := some stHold } } [(PWR_STATE, 1)]), by decide⟩
theorem wit_ModuleStates_11 : ∃ (s : State), (s.b.pw.now = some stActive ∧ s.b.pw.behind = none) :=
  ⟨st (rg { tb with pw := { tb.pw with now := some stActive } } [(PWR_STATE, 2)]), by decide⟩
theorem wit_ModuleStates_12 : ∃ (s : State), (s.b.pw.now = some stStow ∧ s.b.pw.behind = none) ∧ (s.b.frm = none) :=
  ⟨st (rg { tb with pw := { tb.pw with now := some stStow } } [(PWR_STATE, 2)]), by decide⟩
theorem wit_ModuleStates_13 : ∃ (s : State), (s.b.pw.phase = .up) ∧ (s.b.lightOn = false ∧ s.b.pw.startup = none) :=
  ⟨st (rg tb [(PWR_STATE, 1)]), by decide⟩
theorem wit_ModuleStates_14 : ∃ (s : State), (s.b.pw.phase = .up ∧ s.b.lightOn = true) ∧ (s.b.pw.drain = false ∧ s.b.pw.inMr = false ∧ s.b.pw.mionus = true) :=
  ⟨st (rg tb [(PWR_STATE, 2)]), by decide⟩
theorem wit_ModuleStates_15 : ∃ (s : State), (s.b.pw.phase = .up ∧ s.b.pw.startup = some .dead) :=
  ⟨st { tb with pw := { tb.pw with startup := some .dead } }, by decide⟩
theorem wit_ModuleStates_17 : ∃ (s : State) (m : Master), (s.b.accepts m LCO_LCMD = true) ∧ (s.rdB LCO_LSTAT 5 = false) :=
  ⟨st (tb), .pf0, by decide⟩
theorem wit_Resets_1 : ∃ (s : State), (s.b.pw.phase = .up) ∧ (s.b.pw.drain = false ∧ s.b.pw.inMr = false) :=
  ⟨st (tb), by decide⟩
theorem wit_Resets_2 : ∃ (s : State) (m : Master) (v : Word), (s.b.accepts m RST_CMD = true) ∧ ((m = .pf0 ∨ m = .mionus) ∧ fld v 16 16 = 0xA55A) ∧ (s.b.pw.phase = .up ∧ s.b.pw.drain = false ∧ s.b.pw.inMr = false) :=
  ⟨st (tb), .pf0, 0xA55A0001, by decide⟩
theorem wit_Resets_3 : ∃ (s : State) (m : Master) (v : Word), (s.b.accepts m RST_CMD = true) ∧ ((m = .pf0 ∨ m = .mionus) ∧ fld v 16 16 = 0xA55A) ∧ (s.b.pw.phase = .up ∧ s.b.pw.mionus = true) :=
  ⟨st (tb), .pf0, 0xA55A0002, by decide⟩
theorem wit_Resets_4 : ∃ (s : State), (s.b.pw.drain = true) ∧ (s.b.frm = none ∧ s.b.tail = false) :=
  ⟨st ({ tb with pw := { tb.pw with drain := true } }), by decide⟩
theorem wit_Resets_5 : ∃ (s : State), (s.b.pw.inMr = true) ∧ (s.b.pw.drain = false ∧ s.b.pw.mionus = false) :=
  ⟨st ({ tb with pw := { tb.pw with inMr := true, mionus := false } }), by decide⟩
theorem wit_Resets_6 : ∃ (s : State), (s.rdB RST_WDT 31 = true) ∧ (s.b.pw.mionus = true) :=
  ⟨st (rg tb [(RST_WDT, 0x80000001)]), by decide⟩
theorem wit_PcieFunctions_1 : ∃ (s : State), (s.rdB RST_STAT 3 = false) :=
  ⟨st ({ tb with host := { tb.host with pf0D3 := true } }), by decide⟩
theorem wit_PcieFunctions_3 : ∃ (s : State), (s.b.cutOff .pf0 = false) :=
  ⟨st (tb), by decide⟩
theorem wit_PcieFunctions_4 : ∃ (s : State), (s.b.cutOff .pf0 = false) :=
  ⟨st (tb), by decide⟩
theorem wit_PcieFunctions_5 : ∃ (s : State), (s.b.cutOff .pf0 = false) :=
  ⟨st (tb), by decide⟩
theorem wit_PcieFunctions_6 : ∃ (s : State), (s.b.cutOff .pf0 = false) :=
  ⟨st (tb), by decide⟩
theorem wit_PcieFunctions_7 : ∃ (s : State), (s.b.cutOff .pf0 = false) :=
  ⟨st (tb), by decide⟩
theorem wit_PcieFunctions_8 : ∃ (s : State), (s.b.cutOff .pf0 = false) :=
  ⟨st (tb), by decide⟩
theorem wit_PcieFunctions_9 : ∃ (s : State) (vec : Fin 64), (s.b.accepts .pf0 (GLB_MSIX_CTL vec) = true) :=
  ⟨st (tb), 5, by decide⟩
theorem wit_PcieFunctions_10 : ∃ (s : State) (m : Master) (hi : Bool), (s.b.accepts m (if hi then GLB_IACK_HI else GLB_IACK_LO) = true) :=
  ⟨st (tb), .pf0, true, by decide⟩
theorem wit_PageHeader_1 : ∃ (s : State) (m : Master) (off : BitVec 26), (s.b.accepts m (PG_CTRL (off.toNat / 0x1000 * 0x1000)) = true ∧ (pageAt (off.toNat / 0x1000 * 0x1000)).isSome = true) :=
  ⟨st (rg tb [(PG_ISTAT P_THM, 1)]), .pf0, BitVec.ofNat 26 (P_THM + 4), by decide⟩
theorem wit_PageHeader_2 : ∃ (s : State) (m : Master) (off : BitVec 26) (k : PageKind) (i : Nat), (s.b.accepts m (PG_ISET (off.toNat / 0x1000 * 0x1000)) = true) ∧ (pageAt (off.toNat / 0x1000 * 0x1000) = some (k, i)) :=
  ⟨st (tb), .pf0, BitVec.ofNat 26 P_THM, .thm, 0, by decide⟩
theorem wit_PageHeader_3 : ∃ (s : State) (m : Master) (off : BitVec 26), (s.b.accepts m (PG_LOCK (off.toNat / 0x1000 * 0x1000)) = true ∧ (pageAt (off.toNat / 0x1000 * 0x1000)).isSome = true) :=
  ⟨st (tb), .pf0, BitVec.ofNat 26 P_MBX, by decide⟩
theorem wit_PageHeader_4 : ∃ (s : State) (m : Master) (off : BitVec 26), (s.b.accepts m (PG_COMMIT P_LCO) = true ∧ off.toNat / 0x1000 * 0x1000 = P_LCO) :=
  ⟨st ({ tb with pins := [(2, { set := 9 })] }), .pf0, BitVec.ofNat 26 P_LCO, by decide⟩
theorem wit_Mailboxes_1 : ∃ (s : State) (m : Master) (c : Fin 32), (s.b.answers m (MBX_POST c) = true) ∧ (s.b.isSender m c = true ∧ (s.b.bind c).2.2 = true) ∧ (s.b.domUp (masterDom (s.b.bind c).2.1) = true ∧ (s.b.chan c).queue.length < 4) :=
  ⟨st (rg tb [(PG_LOCK P_MBX, 1), (MBX_BIND 4, 0x130)]), .pf0, 4, by decide⟩
theorem wit_Mailboxes_2 : ∃ (s : State) (m : Master) (c : Fin 32), (s.b.accepts m (MBX_RXCTL c) = true) ∧ (s.b.isReceiver m c = true ∧ (s.b.chan c).queue ≠ []) :=
  ⟨st ((rg tb [(MBX_BIND 4, 0x130)]).setChan 4 ⟨[(0, [])], 1, 0⟩), .mionus, 4, by decide⟩
theorem wit_Mailboxes_3 : ∃ (s : State) (d : Dom), (s.b.domUp d = true) :=
  ⟨st ((rg tb [(MBX_BIND 4, 0x130)]).setChan 4 ⟨[(0, [])], 1, 0⟩), .island, by decide⟩
theorem wit_FrameBegin_1 : ∃ (s : State) (m : Master) (r : Start), (s.b.accepts m MSQ_SPUSH = true) ∧ (s.b.startQ.length < 8 ∧ startOf ((List.range 8).map fun k => s.rd (MSQ_SREC k)) = some r) ∧ (s.b.refuses = false ∧ (s.b.lastId.all fun l => seqGT r.frame l) = true) :=
  ⟨st (rg tb [(PWR_STATE, 3), (MSQ_CTRL, 1), (MSQ_SREC 0, 7), (MSQ_SREC 4, 64), (MSQ_SREC 6, 1)]), .pf0, { frame := 7, seed := 0, paddr := 0, plen := 64, pbase := 0, ncand := 1 }, by decide⟩
theorem wit_FrameBegin_2 : ∃ (s : State) (m : Master), (s.b.accepts m MSQ_CTRL = true) :=
  ⟨st (tb), .pf0, by decide⟩
theorem wit_FrameBegin_3 : ∃ (s : State) (r : Start) (rest : List Start), (s.b.startQ = r :: rest ∧ s.b.frm = none ∧ s.b.tail = false) ∧ (s.b.refuses = false ∧ s.b.pw.wait = none ∧ s.b.pw.now = none ∧ s.b.gap ≤ s.b.time.toNat) ∧ (s.b.vyv.held = []) :=
  ⟨st ({ fb with frm := none, startQ := [fr0.sr] }), fr0.sr, [], by decide⟩
theorem wit_FrameFlow_1 : ∃ (s : State) (idx : Nat) (d : Desc), (s.b.takes idx d 0x01 false [0xFFFFFFFF, 0xFF, 1] = true) ∧ (dAddr d 1 % 32 = 0 ∧ (dAddr d 1 = 0 ∨ (opSpan s.b.grade (dAddr d 1) 32).isNone = true)) :=
  ⟨st (fq 3 (ds [0x401, 64, 0x80, 1]) (fb)), 3, ds [0x401, 64, 0x80, 1], by decide⟩
theorem wit_FrameFlow_2 : ∃ (s : State) (idx : Nat) (d : Desc), (s.b.takes idx d 0x02 false [0x1000F, 0xFFFF] = true) :=
  ⟨st (fq 3 (ds [0x402, 3, 5]) (fb)), 3, ds [0x402, 3, 5], by decide⟩
theorem wit_FrameFlow_3 : ∃ (s : State) (tgt : Fin 5) (f : Frame) (w : FenceW), (s.b.frm = some f ∧ f.fences.find? (fun w => w.tgt == tgt.val) = some w) ∧ (s.b.fencePasses f w = true) :=
  ⟨st ({ fb with frm := some { fr0 with fences := [⟨4, 1, 0, 0, false⟩] } }), 4, { fr0 with fences := [⟨4, 1, 0, 0, false⟩] }, ⟨4, 1, 0, 0, false⟩, by decide⟩
theorem wit_FrameFlow_4 : ∃ (s : State) (idx : Nat) (f : Frame) (i : Infl), (s.b.frm = some f ∧ f.infl.find? (fun i => i.idx == idx && i.reached) = some i) :=
  ⟨st ({ fb with frm := some { fr0 with infl := [⟨9, 4, true, 2, true⟩] } }), 9, { fr0 with infl := [⟨9, 4, true, 2, true⟩] }, ⟨9, 4, true, 2, true⟩, by decide⟩
theorem wit_FrameFlow_5 : ∃ (s : State) (f : Frame), (s.b.frm = some f) ∧ (f.tlimit = false ∧ f.abandon = false) :=
  ⟨st (fb), fr0, by decide⟩
theorem wit_FrameBoundary_1 : ∃ (s : State) (f : Frame), (s.b.frm = some f) ∧ (f.tlimit = true ∨ f.ended = true ∧ f.queue = [] ∧ f.infl = []) :=
  ⟨st ({ fb with frm := some { fr0 with ended := true } }), { fr0 with ended := true }, by decide⟩
theorem wit_FrameBoundary_2 : ∃ (s : State), (s.b.frm = none ∧ s.b.tail = false) :=
  ⟨st (rg tb [(TLY_CTRL 2, 1)]), by decide⟩
theorem wit_FrameBoundary_3 : ∃ (s : State) (st : Fin 4) (g : Fin 18), ((s.b.stk st).swapping.contains g.val = true ∧ (s.b.stk st).swapping.any (· != g.val) = true) :=
  ⟨st (kb 1 (fun k => { k with swapping := [2, 3] }) tb), 1, 2, by decide⟩
theorem wit_EnginePower_1 : ∃ (s : State) (m : Master) (e : Fin 64), (s.b.accepts m (ENG_WAKE e) = true ∧ s.b.modState = stActive) :=
  ⟨st (eb 5 (fun x => { x with ps := .doze }) (rg tb [(PWR_STATE, 3)])), .pf0, 5, by decide⟩
theorem wit_EnginePower_2 : ∃ (s : State) (m : Master) (e : Fin 64) (v : Word), (s.b.accepts m (ENG_WAKE e) = true ∧ s.b.modState = stActive ∧ v.getLsbD 0 = false ∧ (s.b.eng e).ps = .nap) :=
  ⟨st (eb 5 (fun x => { x with ps := .doze }) (rg tb [(PWR_STATE, 3)])), .pf0, 6, 2, by decide⟩
theorem wit_EnginePower_3 : ∃ (s : State) (m : Master) (e : Fin 64) (v : Word), (s.b.accepts m (ENG_WAKE e) = true ∧ s.b.modState = stActive ∧ v.getLsbD 0 = false ∧ (s.b.eng e).ps = .toNap) :=
  ⟨st (eb 6 (fun x => { x with ps := .toNap }) (rg tb [(PWR_STATE, 3)])), .pf0, 6, 2, by decide⟩
theorem wit_EnginePower_4 : ∃ (s : State) (m : Master) (n : Fin 8), (s.b.accepts m (DEN_WAKE (64 + n)) = true ∧ s.b.modState = stActive) :=
  ⟨st (eb 5 (fun x => { x with ps := .doze }) (rg tb [(PWR_STATE, 3)])), .pf0, 5, by decide⟩
theorem wit_EnginePower_5 : ∃ (s : State) (m : Master) (n : Fin 8) (v : Word), (s.b.accepts m (DEN_WAKE (64 + n)) = true ∧ s.b.modState = stActive ∧ v.getLsbD 0 = false ∧ (s.b.eng (64 + n)).ps = .nap) :=
  ⟨st (eb 5 (fun x => { x with ps := .doze }) (rg tb [(PWR_STATE, 3)])), .pf0, 6, 2, by decide⟩
theorem wit_EnginePower_6 : ∃ (s : State) (e : Fin 72), ((s.b.eng e).ps = .run ∧ (s.b.eng e).hold = 0 ∧ (s.b.eng e).calRun = false) ∧ ((s.b.eng e).passes = [] ∧ (s.b.eng e).dyn.jobs = []) ∧ ((if e.val < 64 then s.rdB (ENG_CFG e) 0 else s.rdB (DEN_CFG e) 0) = true) :=
  ⟨st (eb 5 (fun x => { x with ps := .run }) (rg tb [(ENG_CFG 5, 1)])), 5, by decide⟩
theorem wit_EnginePower_7 : ∃ (s : State) (e : Fin 72), ((s.b.eng e).ps = .doze) ∧ ((if e.val < 64 then s.rdB (ENG_CFG e) 1 else s.rdB (DEN_CFG e) 1) = true) :=
  ⟨st (eb 70 (fun x => { x with ps := .doze }) (rg tb [(DEN_CFG 70, 2)])), 70, by decide⟩
theorem wit_EnginePower_8 : ∃ (s : State) (e : Fin 72), ((s.b.eng e).ps = .toDoze) :=
  ⟨st (eb 5 (fun x => { x with ps := .toDoze }) tb), 5, by decide⟩
theorem wit_EnginePower_9 : ∃ (s : State) (e : Fin 72), ((s.b.eng e).ps = .toNap) :=
  ⟨st (eb 5 (fun x => { x with ps := .toNap }) tb), 5, by decide⟩
theorem wit_EnginePower_10 : ∃ (s : State) (e : Fin 72) (r : Bool), ((s.b.eng e).ps = .pllStart r) :=
  ⟨st (eb 5 (fun x => { x with ps := .pllStart true }) tb), 5, true, by decide⟩
theorem wit_EnginePower_11 : ∃ (s : State) (e : Fin 72), ((s.b.eng e).ps = .redoze) :=
  ⟨st (eb 5 (fun x => { x with ps := .redoze }) tb), 5, by decide⟩
theorem wit_EnginePower_13 : ∃ (s : State) (idx : Nat) (d : Desc), (s.b.takes idx d 0x03 true [0x0103FFFF, 0xFFFFFFFF] = true) ∧ (dF d 2 0 16 ≠ 0) :=
  ⟨st (fq 3 (ds [0x103, 0x01000020, 7]) (fb)), 3, ds [0x103, 0x01000020, 7], by decide⟩
theorem wit_EnginePower_14 : ∃ (s : State) (idx : Nat) (d : Desc) (k : Fin 16), (s.b.takes idx d 0x03 true [0x0103FFFF, 0xFFFFFFFF] = true) ∧ (dF d 2 0 16 = 0 ∧ dB d 1 24 = true ∧ dB d 1 k = true ∧ s.b.modState = stActive) :=
  ⟨st (fq 3 (ds [0x103, 0x01000020, 0]) (fb)), 3, ds [0x103, 0x01000020, 0], 5, by decide⟩
theorem wit_EnginePower_15 : ∃ (s : State) (hint : Nat) (w : WakeW), (s.b.wakes.find? (fun w => w.id == hint) = some w) ∧ (w.toRun = true ∧ s.b.modState = stActive) :=
  ⟨st ({ fb with wakes := [⟨4, [5, 6], true, 0⟩] }), 4, ⟨4, [5, 6], true, 0⟩, by decide⟩
theorem wit_TileRecords_1 : ∃ (s : State) (idx : Nat) (d : Desc), (s.b.takes idx d 0x18 true [0x3FF, 0xFFFFFFFF, 0xFFFFFFFF, 0xFFFFFFFF, 0xFFFFFFFF, 0xFFFFFFFF, 0xFFFFFFFF, 0xFFFFFFFF, 0xFFFFFFFF] = true) ∧ ((s.b.tile (dTgt d) (dF d 1 0 10)).st = .empty ∨ (s.b.tile (dTgt d) (dF d 1 0 10)).st = .closed ∨ (s.b.tile (dTgt d) (dF d 1 0 10)).st = .err) ∧ (recValid ((List.range 8).map fun i => d.word (2 + i)) = true) :=
  ⟨st (fq 3 (ds [0x118, 5, 0, 0x402, 0x10001]) (fb)), 3, ds [0x118, 5, 0, 0x402, 0x10001], by decide⟩
theorem wit_TileRecords_2 : ∃ (s : State) (st : Fin 4) (slot : Fin 1024), ((s.b.tile st slot).st = .filling ∧ tNcon (s.b.tile st slot).trec ≠ 0 ∧ tChin (s.b.tile st slot).trec = false) :=
  ⟨st (kb 1 (fun k => { k with tiles := [(5, { Tile.reset with st := .filling, trec := [0, 0x402, 0x10001, 0, 0, 0, 0, 0] })] }) fb), 1, 5, by decide⟩
theorem wit_TileRecords_3 : ∃ (s : State) (st : Fin 4) (slot : Fin 1024), ((s.b.tile st slot).st = .filling ∧ tNcon (s.b.tile st slot).trec = 0) :=
  ⟨st (kb 1 (fun k => { k with tiles := [(5, { Tile.reset with st := .filling, trec := [0, 0x402, 0x10000, 0, 0, 0, 0, 0] })] }) fb), 1, 5, by decide⟩
theorem wit_TileRecords_4 : ∃ (s : State) (m : Master) (st : Fin 4) (i : Fin 8), (s.b.accepts m (LDG_TREC st i) = true) ∧ (s.b.frm = none ∧ i.val < 7) :=
  ⟨st (tb), .pf0, 1, 2, by decide⟩
theorem wit_TileRecords_5 : ∃ (s : State) (m : Master) (st : Fin 4) (i : Fin 8), (s.b.accepts m (LDG_TREC st i) = true) ∧ (s.b.frm = none ∧ i.val = 7) ∧ ((s.b.tile st (s.rdF (LDG_TSEL st) 0 10)).st = .empty ∨ (s.b.tile st (s.rdF (LDG_TSEL st) 0 10)).st = .closed ∨ (s.b.tile st (s.rdF (LDG_TSEL st) 0 10)).st = .err) :=
  ⟨st (tb), .pf0, 1, 7, by decide⟩
theorem wit_TileRecords_6 : ∃ (s : State) (m : Master) (st : Fin 4) (i : Fin 8), (s.b.accepts m (LDG_TREC st i) = true) ∧ (s.b.frm = none ∧ i.val = 7) ∧ ((s.b.tile st (s.rdF (LDG_TSEL st) 0 10)).st = .filling ∨ (s.b.tile st (s.rdF (LDG_TSEL st) 0 10)).st = .opn ∨ (s.b.tile st (s.rdF (LDG_TSEL st) 0 10)).st = .wait) :=
  ⟨st (kb 1 (fun k => { k with tiles := [(0, { Tile.reset with st := .opn })] }) tb), .pf0, 1, 7, by decide⟩
theorem wit_TileRecords_7 : ∃ (s : State) (m : Master) (st : Fin 4), (s.b.accepts m (LDG_TSEL st) = true) :=
  ⟨st (tb), .pf0, 1, by decide⟩
theorem wit_TileRecords_8 : ∃ (s : State) (m : Master) (st : Fin 4) (v : Word), (s.b.accepts m (TLY_CTRL st) = true) ∧ (v.getLsbD 0 = true) :=
  ⟨st (tb), .pf0, 1, 1, by decide⟩
theorem wit_TileRecords_9 : ∃ (s : State) (m : Master) (st : Fin 4) (k : Fin 256) (v : Word), (s.b.accepts m (TLY_SCALE_P st k) = true) ∧ (s.rdB (TLY_CTRL st) 0 = false ∧ scaleOk v = true) :=
  ⟨st (tb), .pf0, 1, 7, 0x3F800000, by decide⟩
theorem wit_Accumulation_1 : ∃ (s : State) (st : Fin 4) (con : Nat) (c : Con), (s.b.mintQ = []) ∧ ((s.b.stk st).cons.find? (fun c => c.id == con) = some c ∧ c.ready = true) :=
  ⟨st (kb 1 (fun k => { k with cons := [{ id := 3, place := some 0, slot := 5, col0 := 0, ncol := 1, a13 := false, gnode := 24, mask := 1, dyn := none, idxs := [2], mem := [{ leaf := 0, idx := 2, sid := some 0, cols := [[1, 2]] }], res := [], flags := 0 }] }) fb), 1, 3, { id := 3, place := some 0, slot := 5, col0 := 0, ncol := 1, a13 := false, gnode := 24, mask := 1, dyn := none, idxs := [2], mem := [{ leaf := 0, idx := 2, sid := some 0, cols := [[1, 2]] }], res := [], flags := 0 }, by decide⟩
theorem wit_Accumulation_2 : ∃ (s : State) (st : Fin 4) (slot : Fin 1024) (c : Con), ((s.b.stk st).nextFor slot = some c ∧ c.ncol ≤ c.res.length ∧ c.link = .plain) ∧ ((s.b.tile st slot).st = .opn ∧ (mixes (s.b.tile st slot).trec c.res).isNone = true ∧ (s.b.tile st slot).nappl + 1 < tNcon (s.b.tile st slot).trec) :=
  ⟨st (kb 1 (fun k => { k with cons := [{ id := 3, place := some 0, slot := 5, col0 := 0, ncol := 1, a13 := false, gnode := 24, mask := 1, dyn := none, idxs := [2], mem := [{ leaf := 0, idx := 2, sid := some 0, cols := [[1, 2]] }], res := [.int [1] 0], flags := 0 }], tiles := [(5, { Tile.reset with st := .opn, trec := [0, 0x402, 0x10003, 0, 0, 0, 0, 0] })] }) fb), 1, 5, { id := 3, place := some 0, slot := 5, col0 := 0, ncol := 1, a13 := false, gnode := 24, mask := 1, dyn := none, idxs := [2], mem := [{ leaf := 0, idx := 2, sid := some 0, cols := [[1, 2]] }], res := [.int [1] 0], flags := 0 }, by decide⟩
theorem wit_Accumulation_3 : ∃ (s : State) (st : Fin 4) (slot : Fin 1024), ((s.b.tile st slot).st = .wait ∧ (s.b.tile st slot).rsComplete = true) ∧ ((s.b.stk st).trecQ = []) :=
  ⟨st (kb 1 (fun k => { k with tiles := [(5, { Tile.reset with st := .wait, rsEnded := true, trec := [0x400000, 0x402, 0x10000, 0, 64, 0, 0, 0] })] }) fb), 1, 5, by decide⟩
theorem wit_Accumulation_4 : ∃ (s : State) (st : Fin 4) (slot : Fin 1024), ((s.b.tile st slot).st = .wait ∧ (s.b.tile st slot).rsComplete = false) ∧ ((s.b.stk st).trecQ = []) :=
  ⟨st (kb 1 (fun k => { k with tiles := [(5, { Tile.reset with st := .wait, trec := [0x400000, 0x402, 0x10000, 0, 64, 0, 0, 0] })] }) fb), 1, 5, by decide⟩
theorem wit_Accumulation_5 : ∃ (s : State) (st : Fin 4) (slot : Fin 1024), ((s.b.tile st slot).st = .opn ∧ tChin (s.b.tile st slot).trec = true) :=
  ⟨st (kb 1 (fun k => { k with tiles := [(5, { Tile.reset with st := .opn, trec := [0x400000, 0x402, 0x10000, 0, 64, 0, 0, 0] })], store := [⟨5, 1, 0, 0, 0, 0, 1, 0, 1, 0, 5, false, [1, 2, 3, 4, 5], 0, 0, false⟩] }) fb), 1, 5, by decide⟩
theorem wit_Accumulation_6 : ∃ (s : State) (st : Fin 4) (hop : Nat) (h : HopFly), ((s.b.stk st).fly.find? (fun h => h.idx == hop) = some h) ∧ ((s.b.tile h.dstk h.dslot).st = .opn ∧ tTag (s.b.tile h.dstk h.dslot).trec = h.dtag ∧ tChin (s.b.tile h.dstk h.dslot).trec = true ∧ tallyFault (s.b.tile h.dstk h.dslot) h.msg = none) :=
  ⟨st (kb 0 (fun k => { k with tiles := [(5, { Tile.reset with st := .opn, trec := [0x400000, 0x402, 0x10000, 0, 64, 0, 0, 0] })] }) (kb 1 (fun k => { k with fly := [⟨2, 0, 5, 1, [0, 0x402, 0x10000, 0, 64, 0, 0, 0], List.replicate 10 1, 0, 3⟩] }) fb)), 1, 2, ⟨2, 0, 5, 1, [0, 0x402, 0x10000, 0, 64, 0, 0, 0], List.replicate 10 1, 0, 3⟩, by decide⟩
theorem wit_Accumulation_7 : ∃ (s : State) (idx : Nat) (d : Desc), (s.b.takes idx d 0x19 true [0x303FF, 0xFFFFFFFF, 0xFF, 0x1FFF0FFF] = true) ∧ (dF d 1 16 2 ≠ 3 ∧ mspace s.b.grade (dAddr d 2) = .vsram) ∧ ((s.b.tile (dTgt d) (dF d 1 0 10)).st ≠ .closed) :=
  ⟨st (fq 3 (ds [0x119, 5, 0, 0x80, 0]) (fb)), 3, ds [0x119, 5, 0, 0x80, 0], by decide⟩
theorem wit_Accumulation_8 : ∃ (s : State) (idx : Nat) (d : Desc), (s.b.takes idx d 0x19 true [0x303FF, 0xFFFFFFFF, 0xFF, 0x1FFF0FFF] = true) ∧ (dF d 1 16 2 = 0 ∧ mspace s.b.grade (dAddr d 2) = .vsram) ∧ ((s.b.tile (dTgt d) (dF d 1 0 10)).st = .closed) ∧ (dF d 4 0 12 + dF d 4 16 13 ≤ stCols (s.b.tile (dTgt d) (dF d 1 0 10)).trec) :=
  ⟨st (fq 3 (ds [0x119, 5, 0, 0x80, 0x10000]) (kb 1 (fun k => { k with tiles := [(5, { Tile.reset with st := .closed, trec := [0, 0x402, 0x10001, 0, 0, 0, 0, 0] })] }) fb)), 3, ds [0x119, 5, 0, 0x80, 0x10000], by decide⟩
theorem wit_Accumulation_9 : ∃ (s : State) (idx : Nat) (d : Desc), (s.b.takes idx d 0x1A true [0x3103FF, 0x3FFF03FF, 0xFF0FFF] = true) ∧ (if dB d 1 16 then s.b.flowState (dF d 3 0 12) = 2 else dF d 1 20 2 ≠ dTgt d) :=
  ⟨st (fq 3 (ds [0x11A, 5, 5, 0]) (fb)), 3, ds [0x11A, 5, 5, 0], by decide⟩
theorem wit_ResidentPass_1 : ∃ (s : State) (idx : Nat) (d : Desc) (adc : List (List (BitVec 8))), (s.b.takes idx d 0x10 true [0xFFFF077F, 0x03FF1FFF, 0xFFF] = true) ∧ (passShape d adc = true ∧ 1 ≤ dF d 2 0 13 ∧ dF d 2 0 13 ≤ 4096 ∧ (dB d 1 6 = true → dF d 2 0 13 % 2 = 0)) ∧ (dF d 1 8 3 ≠ 7 ∧ s.rdB (ENG_STATE (16 * dTgt d + dF d 1 0 4)) 2 = true ∧ groupOk (dF d 1 8 3) (dF d 1 16 16) (dF d 1 0 4) = true) ∧ (s.b.beyondCols (dTgt d) (dF d 2 16 10) (dF d 3 0 12 + if dB d 1 6 then dF d 2 0 13 / 2 else dF d 2 0 13) = false) ∧ (s.b.mintQ = [] ∧ ((s.b.stk (dTgt d)).cons.any fun c => c.dyn.isNone && c.gnode == 24 + dF d 1 8 3 && c.mask == dF d 1 16 16 && !c.formed) = false) :=
  ⟨st (fq 3 (ds [0x110, 0x10000, 1, 0]) (rg fb [(ENG_STATE 16, 4)])), 3, ds [0x110, 0x10000, 1, 0], [List.replicate 512 0], by decide⟩
theorem wit_ResidentPass_2 : ∃ (s : State) (idx : Nat) (d : Desc) (adc : List (List (BitVec 8))) (c : Con), (s.b.takes idx d 0x10 true [0xFFFF077F, 0x03FF1FFF, 0xFFF] = true) ∧ (passShape d adc = true ∧ 1 ≤ dF d 2 0 13 ∧ dF d 2 0 13 ≤ 4096 ∧ (dB d 1 6 = true → dF d 2 0 13 % 2 = 0)) ∧ (dF d 1 8 3 ≠ 7 ∧ s.rdB (ENG_STATE (16 * dTgt d + dF d 1 0 4)) 2 = true ∧ groupOk (dF d 1 8 3) (dF d 1 16 16) (dF d 1 0 4) = true) ∧ (s.b.beyondCols (dTgt d) (dF d 2 16 10) (dF d 3 0 12 + if dB d 1 6 then dF d 2 0 13 / 2 else dF d 2 0 13) = false) ∧ (s.b.mintQ = [] ∧ ((s.b.stk (dTgt d)).cons.find? fun c => c.dyn.isNone && c.gnode == 24 + dF d 1 8 3 && c.mask == dF d 1 16 16 && !c.formed) = some c) ∧ (c.slot = dF d 2 16 10 ∧ c.col0 = dF d 3 0 12 ∧ c.a13 = dB d 1 6 ∧ (c.ncol = if dB d 1 6 then dF d 2 0 13 / 2 else dF d 2 0 13) ∧ (c.mem.any fun m => m.leaf == dF d 1 0 4) = false) :=
  ⟨st (fq 3 (ds [0x110, 0x30000, 0x10001, 0]) (rg (kb 1 (fun k => { k with cons := [{ id := 3, place := none, slot := 1, col0 := 0, ncol := 1, a13 := false, gnode := 24, mask := 3, dyn := none, idxs := [2], mem := [{ leaf := 1, idx := 2, sid := none, cols := [] }], res := [], flags := 0 }] }) fb) [(ENG_STATE 16, 4)])), 3,
    ds [0x110, 0x30000, 0x10001, 0], [List.replicate 512 0], { id := 3, place := none, slot := 1, col0 := 0, ncol := 1, a13 := false, gnode := 24, mask := 3, dyn := none, idxs := [2], mem := [{ leaf := 1, idx := 2, sid := none, cols := [] }], res := [], flags := 0 }, by decide⟩
theorem wit_ResidentPass_3 : ∃ (s : State) (e : Fin 72), ((s.b.eng e).ps = .waking) ∧ (s.b.mintQ = [] ∧ (s.b.stk (stackOf e)).cal = none) ∧ ((s.b.eng (64 + 2 * stackOf e)).dyn.jobs = [] ∧ (s.b.eng (65 + 2 * stackOf e)).dyn.jobs = []) :=
  ⟨st (eb 5 (fun x => { x with ps := .waking }) fb), 5, by decide⟩
theorem wit_MintDescriptors_1 : ∃ (s : State) (m : Master) (p : Fin 16) (hi : Bool) (v : Word), (s.b.accepts m (if hi then MNT_PROF_W1 p else MNT_PROF_W0 p) = true) ∧ (s.b.frm = none ∧ profValid (if hi then s.rd (MNT_PROF_W0 p) else v) (if hi then v else s.rd (MNT_PROF_W1 p)) = true) :=
  ⟨st (tb), .pf0, 2, true, 0x8000, by decide⟩
theorem wit_MintDescriptors_2 : ∃ (s : State) (idx : Nat) (d : Desc) (ecc : Ecc) (f : Frame) (j : MintJob) (p : MProf), (s.b.frm = some f ∧ s.b.takes idx d 0x20 false mintMasks = true) ∧ (j = MintJob.of idx f.mOrd d ecc ∧ p = s.b.mprof (dF d 1 0 4)) ∧ (j.mop = 0 ∧ j.needsX p = false ∧ f.mq = [] ∧ s.b.pairs idx = false ∧ s.b.mintFieldsBad j = false) ∧ ((s.b.mintReason j p).isNone = true ∧ (firstSpanErr s.b.grade (j.spans p)).isNone = true) ∧ (j.dbus = true ∧ j.feeds = true) ∧ (s.b.noPass 0 = true ∧ s.b.noPass 1 = true ∧ s.b.noPass 2 = true ∧ s.b.noPass 3 = true) :=
  ⟨st (fq 3 (ds [0x420, 0x00010280, 0x10004, 0x1000, 0, 0, 0, 0, 3]) (rg fb [(MNT_PROF_W1 0, 0x8000)])), 3, ds [0x420, 0x00010280, 0x10004, 0x1000, 0, 0, 0, 0, 3], ⟨[], []⟩, fqf 3 (ds [0x420, 0x00010280, 0x10004, 0x1000, 0, 0, 0, 0, 3]) fr0,
    MintJob.of 3 0 (ds [0x420, 0x00010280, 0x10004, 0x1000, 0, 0, 0, 0, 3]) ⟨[], []⟩, (rg fb [(MNT_PROF_W1 0, 0x8000)]).mprof 0, by decide, ⟨rfl, rfl⟩, by decide⟩
theorem wit_MintDescriptors_3 : ∃ (s : State) (idx : Nat) (d : Desc) (ecc : Ecc) (f : Frame), (s.b.frm = some f ∧ s.b.takes idx d 0x20 false mintMasks = true) ∧ (MintJob.mop (MintJob.of idx f.mOrd d ecc) = 1 ∧ s.b.pairs idx = true) :=
  ⟨st (fq 3 (ds [0x420, 0x00010290, 0x10004, 0x1000, 0, 0, 0, 0, 3]) { rg fb [(MNT_PROF_W1 0, 0x8000)] with mem := [(fpBase + 256, 0x21), (fpBase + 257, 4)] }), 3, ds [0x420, 0x00010290, 0x10004, 0x1000, 0, 0, 0, 0, 3], ⟨[], []⟩, fqf 3 (ds [0x420, 0x00010290, 0x10004, 0x1000, 0, 0, 0, 0, 3]) fr0, by decide⟩
theorem wit_MintDescriptors_4 : ∃ (s : State) (idx : Nat) (d : Desc) (f : Frame), (s.b.frm = some f ∧ s.b.takes idx d 0x20 false mintMasks = true) ∧ (MintJob.mop (MintJob.of idx f.mOrd d ⟨[], []⟩) = 2 ∧ s.b.pairs idx = true) :=
  ⟨st (fq 3 (ds [0x420, 0x000102A0, 0x10004, 0x1000, 0, 0, 0, 0, 3]) { rg fb [(MNT_PROF_W1 0, 0x8000)] with mem := [(fpBase + 256, 0x21), (fpBase + 257, 4)] }), 3, ds [0x420, 0x000102A0, 0x10004, 0x1000, 0, 0, 0, 0, 3], fqf 3 (ds [0x420, 0x000102A0, 0x10004, 0x1000, 0, 0, 0, 0, 3]) fr0, by decide⟩
theorem wit_MintDescriptors_5 : ∃ (s : State) (idx : Nat) (d : Desc) (ecc : Ecc) (f : Frame) (i : MintJob) (j : MintJob) (p : MProf), (s.b.frm = some f ∧ f.mint = some i ∧ s.inFlight i.idx = true ∧ s.b.takes idx d 0x21 false mintxMasks = true) ∧ (j = i.withX d ecc ∧ p = s.b.mprof (dF i.d 1 0 4)) ∧ (f.mq = [] ∧ s.b.mintFieldsBad j = false ∧ j.mop = 0 ∧ j.dmem = true ∧ j.dbus = false) ∧ ((s.b.mintReason j p).isNone = true ∧ (firstSpanErr s.b.grade (j.spans p)).isNone = true ∧ p.fmt < 4) :=
  ⟨st (fq 4 (ds [0x421, 0x3000, 0, 0x4000]) { rg fb [(MNT_PROF_W1 0, 0x8000)] with frm := some { fr0 with mint := some (MintJob.of 3 0 (ds [0x420, 0x00010100, 0x10004, 0x1000, 0, 0x2000]) ⟨[], []⟩), infl := [⟨3, 4, false, 0, false⟩] } }), 4, ds [0x421, 0x3000, 0, 0x4000], ⟨[], []⟩,
    fqf 4 (ds [0x421, 0x3000, 0, 0x4000]) { fr0 with mint := some (MintJob.of 3 0 (ds [0x420, 0x00010100, 0x10004, 0x1000, 0, 0x2000]) ⟨[], []⟩), infl := [⟨3, 4, false, 0, false⟩] }, (MintJob.of 3 0 (ds [0x420, 0x00010100, 0x10004, 0x1000, 0, 0x2000]) ⟨[], []⟩), MintJob.withX (MintJob.of 3 0 (ds [0x420, 0x00010100, 0x10004, 0x1000, 0, 0x2000]) ⟨[], []⟩) (ds [0x421, 0x3000, 0, 0x4000]) ⟨[], []⟩, (rg fb [(MNT_PROF_W1 0, 0x8000)]).mprof 0, by decide, ⟨rfl, rfl⟩, by decide⟩
theorem wit_MintDescriptors_6 : ∃ (s : State) (idx : Nat) (d : Desc) (ecc : Ecc) (f : Frame) (i : MintJob) (j : MintJob), (s.b.frm = some f ∧ f.mint = some i ∧ s.inFlight i.idx = true ∧ s.b.takes idx d 0x21 false mintxMasks = true) ∧ (j = i.withX d ecc ∧ f.mq = [] ∧ s.b.mintFieldsBad j = false ∧ j.mop = 1) ∧ (s.b.replayOk j = true ∧ j.feeds = true) ∧ (s.b.noPass 0 = true ∧ s.b.noPass 1 = true ∧ s.b.noPass 2 = true ∧ s.b.noPass 3 = true) :=
  ⟨st (fq 4 (ds [0x421, 0x3000, 0, 0x4000]) { rg fb [(MNT_PROF_W1 0, 0x8000)] with frm := some { fr0 with mint := some (MintJob.of 3 0 (ds [0x420, 0x00010290, 0x10004, 0x1000, 0, 0, 0, 0, 3]) ⟨[], []⟩), infl := [⟨3, 4, false, 0, false⟩] }, mem := [(0x4008, 1)] }), 4, ds [0x421, 0x3000, 0, 0x4000], ⟨[], []⟩,
    fqf 4 (ds [0x421, 0x3000, 0, 0x4000]) { fr0 with mint := some (MintJob.of 3 0 (ds [0x420, 0x00010290, 0x10004, 0x1000, 0, 0, 0, 0, 3]) ⟨[], []⟩), infl := [⟨3, 4, false, 0, false⟩] }, (MintJob.of 3 0 (ds [0x420, 0x00010290, 0x10004, 0x1000, 0, 0, 0, 0, 3]) ⟨[], []⟩), MintJob.withX (MintJob.of 3 0 (ds [0x420, 0x00010290, 0x10004, 0x1000, 0, 0, 0, 0, 3]) ⟨[], []⟩) (ds [0x421, 0x3000, 0, 0x4000]) ⟨[], []⟩, by decide⟩
theorem wit_DynamicEngines_1 : ∃ (s : State) (idx : Nat) (d : Desc), (s.b.takes idx d 0x11 true [0x7F07, 0xFFFFFFFF, 0xFFFF00FF, 0xFFFFFFFF, 0xFFFFFFFF, 3, 0x1FFFFFF] = true) ∧ ((s.b.eng (dynEng d)).dyn.jobs = [] ∧ (s.b.eng (dynEng d)).dyn.shadow = [] ∧ s.b.dynHeld (dynEng d) = false ∧ s.b.modState = stActive) ∧ (dB d 1 1 = false ∧ 1 ≤ dF d 1 8 7 ∧ dF d 1 8 7 ≤ 64 ∧ (firstSpanErr s.b.grade [(dSrc d, spanOf (dF d 1 8 7) 128 (dStride d))]).isNone = true) :=
  ⟨st (fq 3 (ds [0x111, 0x201, 0x1000, 0x800000]) (fb)), 3, ds [0x111, 0x201, 0x1000, 0x800000], by decide⟩
theorem wit_DynamicEngines_2 : ∃ (s : State) (idx : Nat) (d : Desc) (p : Nat) (n : Nat), (s.b.takes idx d 0x11 true [0x7F07, 0xFFFFFFFF, 0xFFFF00FF, 0xFFFFFFFF, 0xFFFFFFFF, 3, 0x1FFFFFF] = true) ∧ ((s.b.eng (dynEng d)).dyn.jobs = [] ∧ (s.b.eng (dynEng d)).dyn.shadow = [] ∧ s.b.dynHeld (dynEng d) = false ∧ s.b.modState = stActive) ∧ (dB d 1 1 = true ∧ dB d 1 2 = false ∧ dF d 1 8 7 = 64) ∧ (p = s.b.dynPos d 4 (dB d 6 1) ∧ n = min 128 (s.b.dynPos d 5 (dB d 6 1) - p) ∧ p + 128 ≤ 2 ^ 32) ∧ (n = 0 ∨ (firstSpanErr s.b.grade [(dSrc d + p * dStride d, spanOf n 128 (dStride d))]).isNone = true) :=
  ⟨st (fq 3 (ds [0x111, 0x4003, 0x1000, 0x800000, 0, 128, 0]) fb), 3, ds [0x111, 0x4003, 0x1000, 0x800000, 0, 128, 0], 0, 128, by decide⟩
theorem wit_DynamicEngines_3 : ∃ (s : State) (n : Fin 8), ((s.b.eng (64 + n)).dyn.shadow ≠ [] ∧ s.b.dynHeld (64 + n) = false) ∧ ((s.b.eng (64 + n)).dyn.jobs = []) :=
  ⟨st (eb 66 (fun x => { x with dyn := { x.dyn with shadow := [(3, { v := [1] })] } }) fb), 2, by decide⟩
theorem wit_DynamicEngines_4 : ∃ (s : State) (idx : Nat) (d : Desc) (adc : List (List (BitVec 8))), (s.b.takes idx d 0x12 true [0x3F7F1F, 0xFFFFFFFF, 0xFFFF00FF, 0xFFFFFFFF, 0xFFFFFFFF, 0x03FF1FFF, 0x0FFF01FF, 0x800003FF, 0x1FFFFFF, 0x1FFFFFF, 0xFFFFFFFF, 0xFF] = true ∧ dynShape d adc = true) ∧ ((s.b.eng (dynEng d)).dyn.jobs = [] ∧ s.b.dynHeld (dynEng d) = false ∧ s.b.modState = stActive) ∧ ((s.b.eng (dynEng d)).ps = .run ∧ (s.b.eng (dynEng d)).dyn.shadow = []) ∧ (1 ≤ dF d 1 16 6 ∧ 1 ≤ dF d 1 8 7 ∧ dF d 1 8 7 ≤ 64 / dF d 1 16 6 * dF d 1 16 6 ∧ 1 ≤ dF d 6 0 13 ∧ dF d 6 0 13 ≤ 4096) ∧ (dB d 8 31 = true → s.b.beyondTile (dTgt d) (dF d 8 0 10) (dF d 7 0 9 + dF d 1 8 7) 0 = false ∧ ∀ tr, s.b.recordFor (dTgt d) (dF d 8 0 10) = some tr → tOp tr = 3 ∨ tOp tr = 4) ∧ (dB d 1 3 = true → bookOk (s.b.dynBook (dF d 9 0 25)) = true) ∧ (s.b.beyondTile (dTgt d) (dF d 6 16 10) (dF d 7 0 9 + dF d 1 8 7) (dF d 7 16 12 + dF d 6 0 13) = false ∧ s.b.rowsFilled (dynEng d) (dF d 1 8 7) 1 = true) ∧ ((firstSpanErr s.b.grade ([(dSrc d + s.b.dynPos d 4 (dB d 1 4) * dStride d, spanOf (dF d 6 0 13) (if dB d 1 3 then 64 else 128) (dStride d)), (dAddr d 11 + 4 * s.b.dynPos d 4 (dB d 1 4), 4 * dF d 6 0 13), (vsBase + dF d 10 0 25, 4 * dF d 6 0 13)] ++ if dB d 1 3 then [(vsBase + dF d 9 0 25, 16)] else [])).isNone = true) :=
  ⟨st (fq 3 (ds [0x112, 0x10201, 0x1000, 0x800000, 0, 0, 1]) (eb 67 (fun x => { x with ps := .run, dyn := { x.dyn with plan := [(0, 1), (1, 1)] } }) fb)), 3, ds [0x112, 0x10201, 0x1000, 0x800000, 0, 0, 1], [List.replicate 64 0],
    by decide, by decide, by decide, by decide, fun h => absurd h (by decide), by decide⟩
theorem wit_DynamicEngines_5 : ∃ (s : State) (idx : Nat) (d : Desc) (adc : List (List (BitVec 8))), (s.b.takes idx d 0x13 true [3, 0xFFFFFFFF, 0xFFFF00FF, 0xFFFFFFFF, 0xFF, 0x03FF1FFF, 0x0FFF01FF, 0xFFFF] = true ∧ dynShape d adc = true) ∧ ((s.b.eng (dynEng d)).dyn.jobs = [] ∧ s.b.dynHeld (dynEng d) = false ∧ s.b.modState = stActive) ∧ ((s.b.eng (dynEng d)).ps = .run ∧ (s.b.eng (dynEng d)).dyn.shadow = []) ∧ (1 ≤ dF d 6 0 13 ∧ dF d 6 0 13 ≤ 4096 ∧ s.b.beyondTile (dTgt d) (dF d 6 16 10) (dF d 7 0 9 + 64) (dF d 7 16 12 + dF d 6 0 13) = false ∧ s.b.rowsFilled (dynEng d) 64 2 = true) ∧ ((firstSpanErr s.b.grade [(dSrc d + 128 * dF d 8 0 16, spanOf (dF d 6 0 13) 128 (dStride d)), (dAddr d 4, 16)]).isNone = true ∧ s.b.rdLE (dAddr d 4 + 12) 4 % 16 = 0 ∧ bit (s.b.rd32 (dAddr d 4 + 8)) 0 = true) :=
  ⟨st (fq 3 (ds [0x113, 1, 0x1000, 0x800000, 0x2000, 0, 1]) ({ eb 67 (fun x => { x with ps := .run, dyn := { x.dyn with plan := (List.range 64).map fun r => (r, 2) } }) fb with mem := [(0x2008, 1)] })), 3, ds [0x113, 1, 0x1000, 0x800000, 0x2000, 0, 1], [List.replicate 64 0], by decide⟩
theorem wit_DynamicEngines_6 : ∃ (s : State) (m : Master) (n : Fin 8), (s.b.accepts m (DEN_TBL_CTRL (64 + n)) = true) ∧ ((tblBad (s.b.eng (64 + n)).dyn.tblP).isNone = true) :=
  ⟨st (tb), .pf0, 3, by decide⟩
theorem wit_DynamicEngines_7 : ∃ (s : State) (m : Master) (n : Fin 8), (s.b.accepts m (DEN_TBL_DATA (64 + n)) = true) ∧ (s.rdB (DEN_TBL_CTRL (64 + n)) 0 = false) :=
  ⟨st (tb), .pf0, 3, by decide⟩
theorem wit_DynamicEngines_8 : ∃ (s : State) (m : Master) (n : Fin 8), (s.b.answers m (DEN_TBL_DATA (64 + n)) = true) :=
  ⟨st (rg tb [(DEN_TBL_ADDR 67, 0x800000FF)]), .pf0, 3, by decide⟩
theorem wit_DynamicEngines_9 : ∃ (s : State) (m : Master) (n : Fin 8), (s.b.accepts m (DEN_OSCALE (64 + n)) = true) :=
  ⟨st (tb), .pf0, 3, by decide⟩
theorem wit_CounterClears_1 : ∃ (s : State) (m : Master) (e : Fin 64), (s.b.accepts m (P_ENG e + 0x088) = true) :=
  ⟨st (rg tb [(P_ENG 3 + 0x50, 5)]), .pf0, 3, by decide⟩
theorem wit_CounterClears_2 : ∃ (s : State) (m : Master) (st : Fin 4), (s.b.accepts m (P_HTR st + 0x05C) = true) :=
  ⟨st (rg tb [(P_HTR 3 + 0x50, 5)]), .pf0, 3, by decide⟩
theorem wit_CounterClears_3 : ∃ (s : State) (m : Master) (st : Fin 4), (s.b.accepts m (P_CE st + 0x074) = true) :=
  ⟨st (rg tb [(P_CE 3 + 0x50, 5)]), .pf0, 3, by decide⟩
theorem wit_CounterClears_4 : ∃ (s : State) (m : Master) (st : Fin 4), (s.b.accepts m (P_LDG st + 0x084) = true) :=
  ⟨st (rg tb [(P_LDG 3 + 0x50, 5)]), .pf0, 3, by decide⟩
theorem wit_CounterClears_5 : ∃ (s : State) (m : Master) (st : Fin 4), (s.b.accepts m (P_TLY st + 0x074) = true) :=
  ⟨st (rg tb [(P_TLY 3 + 0x50, 5)]), .pf0, 3, by decide⟩
theorem wit_CounterClears_6 : ∃ (s : State) (m : Master), (s.b.accepts m (P_MNT + 0x048) = true) :=
  ⟨st (rg tb [(P_MNT + 0x50, 5)]), .pf0, by decide⟩
theorem wit_CounterClears_7 : ∃ (s : State) (m : Master) (n : Fin 8), (s.b.accepts m (P_DEN (64 + n) + 0x078) = true) :=
  ⟨st (rg tb [(P_DEN (64 + 3) + 0x50, 5)]), .pf0, 3, by decide⟩
theorem wit_CounterClears_8 : ∃ (s : State) (m : Master) (st : Fin 4), (s.b.accepts m (P_SEQ st + 0x064) = true) :=
  ⟨st (rg tb [(P_SEQ 3 + 0x50, 5)]), .pf0, 3, by decide⟩
theorem wit_CounterClears_9 : ∃ (s : State) (m : Master), (s.b.accepts m (P_MSQ + 0x090) = true) :=
  ⟨st (rg tb [(P_MSQ + 0x50, 5)]), .pf0, by decide⟩
theorem wit_CounterClears_10 : ∃ (s : State) (m : Master), (s.b.accepts m (P_VEC + 0x058) = true) :=
  ⟨st (rg tb [(P_VEC + 0x50, 5)]), .pf0, by decide⟩
theorem wit_CounterClears_11 : ∃ (s : State) (m : Master) (st : Fin 4), (s.b.accepts m (P_ASY st + 0x07C) = true) :=
  ⟨st (rg tb [(P_ASY 3 + 0x50, 5)]), .pf0, 3, by decide⟩
theorem wit_CounterClears_12 : ∃ (s : State) (m : Master) (st : Fin 4), (s.b.accepts m (P_PLT st + 0x058) = true) :=
  ⟨st (rg tb [(P_PLT 3 + 0x50, 5)]), .pf0, 3, by decide⟩
theorem wit_CounterClears_13 : ∃ (s : State) (m : Master), (s.b.accepts m (P_LNK + 0x05C) = true) :=
  ⟨st (rg tb [(P_LNK + 0x50, 5)]), .pf0, by decide⟩
theorem wit_CounterClears_14 : ∃ (s : State) (m : Master), (s.b.accepts m (P_VYV + 0x09C) = true) :=
  ⟨st (rg tb [(P_VYV + 0x50, 5)]), .pf0, by decide⟩
theorem wit_CounterClears_15 : ∃ (s : State) (m : Master), (s.b.accepts m (P_ROL + 0x064) = true) :=
  ⟨st (rg tb [(P_ROL + 0x50, 5)]), .pf0, by decide⟩
theorem wit_CounterClears_16 : ∃ (s : State) (m : Master), (s.b.accepts m (P_HBM + 0x084) = true) :=
  ⟨st (rg tb [(P_HBM + 0x50, 5)]), .pf0, by decide⟩
theorem wit_CounterClears_17 : ∃ (s : State) (m : Master), (s.b.accepts m (P_MBX + 0x05C) = true) :=
  ⟨st (rg tb [(P_MBX + 0x50, 5)]), .pf0, by decide⟩
theorem wit_CounterClears_18 : ∃ (s : State) (m : Master), (s.b.accepts m (P_SMB + 0x054) = true) :=
  ⟨st (rg tb [(P_SMB + 0x50, 5)]), .pf0, by decide⟩
theorem wit_CounterClears_19 : ∃ (s : State) (m : Master), (s.b.accepts m (P_GLB + 0x070) = true) :=
  ⟨st (rg tb [(P_GLB + 0x50, 5)]), .pf0, by decide⟩
theorem wit_CounterClears_20 : ∃ (s : State) (m : Master), (s.b.accepts m (P_PWR + 0x06C) = true) :=
  ⟨st (rg tb [(P_PWR + 0x50, 5)]), .pf0, by decide⟩
theorem wit_CounterClears_21 : ∃ (s : State) (m : Master), (s.b.accepts m (P_CLK + 0x058) = true) :=
  ⟨st (rg tb [(P_CLK + 0x50, 5)]), .pf0, by decide⟩
theorem wit_CounterClears_22 : ∃ (s : State) (m : Master), (s.b.accepts m (P_RST + 0x05C) = true) :=
  ⟨st (rg tb [(P_RST + 0x50, 5)]), .pf0, by decide⟩
theorem wit_CounterClears_23 : ∃ (s : State) (m : Master), (s.b.accepts m (P_THM + 0x070) = true) :=
  ⟨st (rg tb [(P_THM + 0x50, 5)]), .pf0, by decide⟩
theorem wit_CounterClears_24 : ∃ (s : State) (m : Master), (s.b.accepts m (P_HK + 0x090) = true) :=
  ⟨st (rg tb [(P_HK + 0x50, 5)]), .pf0, by decide⟩
theorem wit_CounterClears_25 : ∃ (s : State) (m : Master), (s.b.accepts m (P_LCO + 0x064) = true) :=
  ⟨st (rg tb [(P_LCO + 0x50, 5)]), .pf0, by decide⟩
theorem wit_CounterClears_26 : ∃ (s : State) (m : Master), (s.b.accepts m (P_DBK + 0x070) = true) :=
  ⟨st (rg tb [(P_DBK + 0x50, 5)]), .pf0, by decide⟩
theorem wit_LoadsAndScans_1 : ∃ (s : State) (m : Master) (e : Fin 64) (v : Word), (s.b.accepts m (ENG_LOAD_CTRL e) = true ∧ fld v 1 2 = 0) ∧ (s.rdB (ENG_STATE e) 4 = false ∧ (s.b.stk (stackOf e)).builder ≠ []) ∧ ((s.b.modState = stHold ∨ s.b.modState = stActive) ∧ s.rdB (ASG_STAT e) 1 = true) ∧ ((s.b.stk (stackOf e)).cal = none) :=
  ⟨st (kb 0 (fun k => { k with builder := [7] }) (rg fb [(ENG_STATE 5, 4), (ASG_STAT 5, 2)])), .pf0, 5, 1, by decide⟩
theorem wit_LoadsAndScans_2 : ∃ (s : State) (m : Master) (e : Fin 64) (v : Word), (s.b.accepts m (ENG_LOAD_CTRL e) = true ∧ fld v 0 1 = 0 ∧ fld v 2 1 = 0) ∧ (s.rdB (ENG_STATE e) 4 = false ∧ (s.b.stk (stackOf e)).builder ≠ []) ∧ (s.rdB (ENG_STATE e) 2 = true) :=
  ⟨st (kb 0 (fun k => { k with builder := [7] }) (rg fb [(ENG_STATE 5, 4), (ASG_STAT 5, 2)])), .pf0, 5, 2, by decide⟩
theorem wit_LoadsAndScans_3 : ∃ (s : State) (m : Master) (e : Fin 64) (v : Word), (s.b.accepts m (ENG_LOAD_CTRL e) = true ∧ fld v 0 2 = 0) ∧ (s.rdB (ENG_STATE e) 4 = true) :=
  ⟨st (rg fb [(ENG_STATE 5, 0x10)]), .pf0, 5, 0, by decide⟩
theorem wit_LoadsAndScans_4 : ∃ (s : State) (st : Fin 4) (e : Fin 64) (q : Build), ((s.b.stk st).builder.head? = some e.val ∧ stackOf e = st.val) ∧ ((s.b.eng e).build = some q ∧ q.waiting = true ∧ s.b.host.rehash = none) :=
  ⟨st (eb 5 (fun x => { x with build := some { rebuild := true, addr := 0, waiting := true, cal := false, ntrim := 0, more := [], asg := {}, half := Half.empty, delta := 0 } }) (kb 0 (fun k => { k with builder := [5] }) fb)), 0, 5, { rebuild := true, addr := 0, waiting := true, cal := false, ntrim := 0, more := [], asg := {}, half := Half.empty, delta := 0 }, by decide⟩
theorem wit_LoadsAndScans_5 : ∃ (s : State) (e : Fin 64) (q : Build), ((s.b.eng e).build = some q ∧ q.waiting = false ∧ q.cal = false) ∧ ((s.b.stk (stackOf e)).calDone = []) :=
  ⟨st (eb 5 (fun x => { x with build := some { rebuild := true, addr := 0, waiting := false, cal := false, ntrim := 0, more := [], asg := {}, half := Half.empty, delta := 0 } }) fb), 5, { rebuild := true, addr := 0, waiting := false, cal := false, ntrim := 0, more := [], asg := {}, half := Half.empty, delta := 0 }, by decide⟩
theorem wit_LoadsAndScans_6 : ∃ (s : State) (e : Fin 64), (s.rdB (ENG_STATE e) 5 = true ∧ 512 ≤ (s.b.eng e).scanNext) ∧ (s.b.mintQ = []) :=
  ⟨st (rg fb [(ENG_STATE 5, 0x20)]), 5, by decide⟩
theorem wit_LoadsAndScans_7 : ∃ (s : State) (e : Fin 64), (s.b.modState = stHold ∨ s.b.modState = stActive) ∧ (s.rdB (ENG_SCAN e) 9 = false ∧ ((s.b.eng e).search.any fun q => !q.waiting) = false) :=
  ⟨st (fb), 5, by decide⟩
theorem wit_LoadsAndScans_8 : ∃ (s : State) (e : Fin 64), (s.rdB (ENG_SCAN e) 9 = true ∧ ((s.b.eng e).search.any fun q => !q.waiting) = false) ∧ ((s.b.eng e).scanNext < 512) :=
  ⟨st (eb 5 (fun x => { x with scanNext := 3 }) (rg fb [(ENG_SCAN 5, 0x200)])), 5, by decide⟩
theorem wit_TrimsAndWindows_1 : ∃ (s : State) (m : Master) (e : Fin 72), (s.b.accepts m (TRM_RDATA e) = true) ∧ ((s.rdF (TRM_RADDR e) 0 19) < ringsOf e ∧ s.b.trimsNow e = true) ∧ ((s.b.stk (stackOf e)).cal = none) :=
  ⟨st (tb), .pf0, 5, by decide⟩
theorem wit_TrimsAndWindows_2 : ∃ (s : State) (m : Master) (e : Fin 72), (s.b.answers m (TRM_RDATA e) = true) :=
  ⟨st (tb), .pf0, 5, by decide⟩
theorem wit_TrimsAndWindows_3 : ∃ (s : State) (m : Master) (e : Fin 72), (s.b.accepts m (TRM_CTRL e) = true) :=
  ⟨st (tb), .pf0, 5, by decide⟩
theorem wit_TrimsAndWindows_4 : ∃ (s : State) (m : Master) (e : Fin 72), (s.b.accepts m (TRM_CTRL e) = true) :=
  ⟨st (tb), .pf0, 5, by decide⟩
theorem wit_TrimsAndWindows_5 : ∃ (s : State) (m : Master) (e : Fin 64), (s.b.accepts m (ENG_OSCALE e) = true) :=
  ⟨st (tb), .pf0, 5, by decide⟩
theorem wit_TrimsAndWindows_6 : ∃ (s : State) (m : Master) (a : Fin 524288) (e : Nat) (k : Nat), (s.b.accepts m (0x1000000 + 4 * a) = true) ∧ (s.b.target (0x1000000 + 4 * a) = .trim e k ∧ k / 4 < ringsOf e ∧ s.b.trimsNow e = true) ∧ ((s.b.stk (stackOf e)).cal = none) :=
  ⟨st (rg tb [(GLB_WSEL, 5)]), .pf0, 2, 5, 8, by decide⟩
theorem wit_TrimsAndWindows_7 : ∃ (s : State) (m : Master) (a : Fin 8388608) (e : Nat) (k : Nat), (s.b.accepts m (0x1800000 + a) = true) ∧ (s.b.target (0x1800000 + a) = .plate e k ∧ 0x67000 ≤ k ∧ k < 0x68000) ∧ (s.rdB (ENG_STATE e) 4 = false) :=
  ⟨st (tb), .pf0, 0xE7003, 1, 0x67003, by decide⟩
theorem wit_TrimsAndWindows_8 : ∃ (s : State) (m : Master) (st : Fin 4) (a : Fin 8388608), (s.b.accepts m (0x2000000 + 0x800000 * st + a) = true) ∧ (s.b.frm = none) :=
  ⟨st (tb), .pf0, 1, 7, by decide⟩
theorem wit_AssignmentSearch_1 : ∃ (s : State) (m : Master) (e : Fin 72) (v : Word), (s.b.accepts m (ASG_CTRL e) = true ∧ fld v 3 2 = 0) ∧ (s.b.asgRefused e (some (fld v 1 2)) = false) :=
  ⟨st (fb), .pf0, 5, 0, by decide⟩
theorem wit_AssignmentSearch_2 : ∃ (s : State) (m : Master) (e : Fin 72) (v : Word), (s.b.accepts m (ASG_CTRL e) = true ∧ v.getLsbD 0 = false ∧ v.getLsbD 4 = false) ∧ (s.b.asgRefused e none = false) :=
  ⟨st (rg fb [(LCK_R_STATE 5 0, 3)]), .pf0, 5, 0, by decide⟩
theorem wit_AssignmentSearch_3 : ∃ (s : State) (m : Master) (e : Fin 72) (v : Word), (s.b.accepts m (ASG_CTRL e) = true ∧ v.getLsbD 0 = false ∧ v.getLsbD 3 = false) ∧ ((s.b.eng e).search.isSome) ∧ (s.b.mintQ = [] ∧ (s.b.eng (64 + 2 * stackOf e)).dyn.jobs = [] ∧ (s.b.eng (65 + 2 * stackOf e)).dyn.jobs = []) :=
  ⟨st (eb 5 (fun x => { x with search := some { scope := 0, row := 0, group := 0, waiting := true, todo := [0], sweeping := none, swept := [], peaks := [], bad := [], startup := false, start := 0, step := 1, dwell := 1, bofs := 0, failed := [] } }) fb), .pf0, 5, 0, by decide⟩
theorem wit_AssignmentSearch_4 : ∃ (s : State) (e : Fin 72) (r : Search), ((s.b.eng e).search = some r ∧ r.waiting = true ∧ r.startup = false) ∧ (s.b.bankFree e = true) :=
  ⟨st (eb 5 (fun x => { x with search := some { scope := 0, row := 0, group := 0, waiting := true, todo := [0], sweeping := none, swept := [], peaks := [], bad := [], startup := false, start := 0, step := 1, dwell := 1, bofs := 0, failed := [] } }) fb), 5, { scope := 0, row := 0, group := 0, waiting := true, todo := [0], sweeping := none, swept := [], peaks := [], bad := [], startup := false, start := 0, step := 1, dwell := 1, bofs := 0, failed := [] }, by decide⟩
theorem wit_AssignmentSearch_5 : ∃ (s : State) (e : Fin 72) (r : Search) (g : Nat) (rest : List Nat), ((s.b.eng e).search = some r ∧ r.waiting = false ∧ r.sweeping = none ∧ r.todo = g :: rest) ∧ (((sweepRegions e g).all fun q => s.b.lockSt e q == 3) = true ∧ (s.b.stk (stackOf e)).cal = none) :=
  ⟨st (rg (eb 70 (fun x => { x with search := some { scope := 0, row := 0, group := 0, waiting := false, todo := [0], sweeping := none, swept := [], peaks := [], bad := [], startup := false, start := 0, step := 1, dwell := 1, bofs := 0, failed := [] } }) fb) [(LCK_R_STATE 70 0, 3), (LCK_R_STATE 70 2, 3)]), 70, { scope := 0, row := 0, group := 0, waiting := false, todo := [0], sweeping := none, swept := [], peaks := [], bad := [], startup := false, start := 0, step := 1, dwell := 1, bofs := 0, failed := [] }, 0, [], by decide⟩
theorem wit_AssignmentSearch_6 : ∃ (s : State) (e : Fin 72) (r : Search) (g : Nat), ((s.b.eng e).search = some r ∧ r.sweeping = some g) :=
  ⟨st (eb 5 (fun x => { x with search := some { scope := 0, row := 0, group := 0, waiting := false, todo := [], sweeping := some 0, swept := [], peaks := [], bad := [], startup := false, start := 0, step := 1, dwell := 1, bofs := 0, failed := [] } }) fb), 5, { scope := 0, row := 0, group := 0, waiting := false, todo := [], sweeping := some 0, swept := [], peaks := [], bad := [], startup := false, start := 0, step := 1, dwell := 1, bofs := 0, failed := [] }, 0, by decide⟩
theorem wit_AssignmentSearch_7 : ∃ (s : State) (e : Fin 72) (r : Search), ((s.b.eng e).search = some r ∧ r.waiting = false ∧ r.sweeping = none ∧ r.todo = []) ∧ (s.b.mintQ = [] ∧ (s.b.eng (64 + 2 * stackOf e)).dyn.jobs = [] ∧ (s.b.eng (65 + 2 * stackOf e)).dyn.jobs = []) :=
  ⟨st (eb 70 (fun x => { x with search := some { scope := 0, row := 0, group := 0, waiting := false, todo := [], sweeping := none, swept := [], peaks := [], bad := [], startup := false, start := 0, step := 1, dwell := 1, bofs := 0, failed := [] } }) fb), 70, { scope := 0, row := 0, group := 0, waiting := false, todo := [], sweeping := none, swept := [], peaks := [], bad := [], startup := false, start := 0, step := 1, dwell := 1, bofs := 0, failed := [] }, by decide⟩
theorem wit_AssignmentSearch_8 : ∃ (s : State) (m : Master) (e : Fin 72), (s.b.accepts m (ASG_DATA e) = true) ∧ (s.rdF (ASG_ADDR e) 0 19 < ringsOf e) :=
  ⟨st (tb), .pf0, 5, by decide⟩
theorem wit_AssignmentSearch_9 : ∃ (s : State) (m : Master) (e : Fin 72), (s.b.answers m (ASG_DATA e) = true) :=
  ⟨st (tb), .pf0, 5, by decide⟩
theorem wit_RegionLock_1 : ∃ (s : State) (e : Fin 72) (q : Fin 64) (p : Int) (h : Int), ((regionsOf e).contains q.val = true ∧ s.b.lockSt e q = 1) ∧ (excluded (s.b.region e q) p = false ∧ -32768 ≤ p ∧ p ≤ 32767 ∧ 0 ≤ h ∧ h ≤ 32767) :=
  ⟨st (rg fb [(LCK_R_STATE 5 9, 1)]), 5, 9, 100, 200, by decide⟩
theorem wit_RegionLock_2 : ∃ (s : State) (e : Fin 72) (q : Fin 64), ((regionsOf e).contains q.val = true ∧ s.b.lockSt e q = 1) ∧ ((s.b.region e q).wide + 1 < s.rdF (LCK_RETRY e) 0 4) :=
  ⟨st (rg fb [(LCK_R_STATE 5 9, 1)]), 5, 9, by decide⟩
theorem wit_RegionLock_3 : ∃ (s : State) (e : Fin 72) (q : Fin 64), ((regionsOf e).contains q.val = true ∧ s.b.lockSt e q = 1) ∧ (s.rdF (LCK_RETRY e) 0 4 ≤ (s.b.region e q).wide + 1) :=
  ⟨st (rg fb [(LCK_R_STATE 5 9, 1), (LCK_RETRY 5, 1)]), 5, 9, by decide⟩
theorem wit_RegionLock_4 : ∃ (s : State) (e : Fin 72) (q : Fin 64), ((regionsOf e).contains q.val = true ∧ s.b.lockSt e q = 2) ∧ (s.b.verifyLen e ≤ (s.b.region e q).means.length) ∧ ((s.b.codeJudge e q (s.b.correlate ((s.b.region e q).window (s.b.verifyLen e))).1).1 = true) :=
  ⟨st ((rg fb [(LCK_R_STATE 5 9, 2), (LCK_CORR 5, 0x12060)]).updRegion 5 9 fun r => { r with means := mns 0 16 }), 5, 9, by decide +kernel⟩
theorem wit_RegionLock_5 : ∃ (s : State) (e : Fin 72) (q : Fin 64), ((regionsOf e).contains q.val = true ∧ s.b.lockSt e q = 2) ∧ (s.b.verifyLen e ≤ (s.b.region e q).means.length) ∧ (s.b.codeJudge e q (s.b.correlate ((s.b.region e q).window (s.b.verifyLen e))).1 = (false, true)) :=
  ⟨st ((rg fb [(LCK_R_STATE 5 9, 2), (LCK_CORR 5, 0x12060)]).updRegion 5 9 fun r => { r with means := mns 1 16 }), 5, 9, by decide +kernel⟩
theorem wit_RegionLock_6 : ∃ (s : State) (e : Fin 72) (q : Fin 64), ((regionsOf e).contains q.val = true ∧ s.b.lockSt e q = 3) ∧ (1024 ≤ (s.b.region e q).means.length ∧ (s.b.stk (stackOf e)).cal = none) ∧ (s.b.codeJudge e q (s.b.correlate ((s.b.region e q).window 1024)).1 = (false, true)) :=
  ⟨st ((rg fb [(LCK_R_STATE 5 9, 3), (LCK_CORR 5, 0x12060)]).updRegion 5 9 fun r => { r with means := mns 1 1024 }), 5, 9, by decide +kernel⟩
theorem wit_RegionLock_7 : ∃ (s : State) (e : Fin 72) (q : Fin 64), ((regionsOf e).contains q.val = true ∧ s.b.lockSt e q = 3) ∧ (1024 ≤ (s.b.region e q).means.length) ∧ ((s.b.codeJudge e q (s.b.correlate ((s.b.region e q).window 1024)).1).1 = true) :=
  ⟨st ((rg fb [(LCK_R_STATE 5 9, 3), (LCK_CORR 5, 0x12060)]).updRegion 5 9 fun r => { r with means := mns 0 1024 }), 5, 9, by decide +kernel⟩
theorem wit_RegionLock_8 : ∃ (s : State) (e : Fin 72) (q : Fin 64), ((regionsOf e).contains q.val = true ∧ s.b.lockSt e q = 5) ∧ (s.rdB (LCK_R_STATE e q) 5 = false) :=
  ⟨st (rg fb [(LCK_R_STATE 5 9, 5)]), 5, 9, by decide⟩
theorem wit_RegionLock_9 : ∃ (s : State) (e : Fin 72) (q : Fin 64) (peaks : List Int) (p : Int), ((regionsOf e).contains q.val = true ∧ s.b.lockSt e q = 6) ∧ (nearestPeak (s.b.region e q) peaks = some p) :=
  ⟨st (rg fb [(LCK_R_STATE 5 9, 6)]), 5, 9, [900, 50], 50, by decide⟩
theorem wit_RegionLock_10 : ∃ (s : State) (e : Fin 72) (q : Fin 64), ((regionsOf e).contains q.val = true ∧ s.b.lockSt e q = 3) :=
  ⟨st (rg fb [(LCK_R_STATE 5 9, 3)]), 5, 9, by decide⟩
theorem wit_LockCommands_1 : ∃ (s : State) (m : Master) (e : Fin 72) (v : Word), (s.b.accepts m (LCK_CMD e) = true ∧ v.getLsbD 11 = false ∧ fld v 0 6 ∈ regionsOf e ∧ fld v 9 2 = 0) ∧ ((s.b.lockSt e (fld v 0 6) = 3 ∨ s.b.lockSt e (fld v 0 6) = 5) ∧ (s.b.stk (stackOf e)).cal = none) :=
  ⟨st (rg fb [(LCK_R_STATE 5 9, 3)]), .pf0, 5, 9, by decide⟩
theorem wit_LockCommands_2 : ∃ (s : State) (m : Master) (e : Fin 72) (v : Word), (s.b.accepts m (LCK_CMD e) = true ∧ v.getLsbD 11 = false ∧ fld v 0 6 ∈ regionsOf e ∧ v.getLsbD 8 = false ∧ v.getLsbD 10 = false) ∧ (s.b.lockSt e (fld v 0 6) = 7) :=
  ⟨st (rg fb [(LCK_R_STATE 5 9, 7)]), .pf0, 5, 9, by decide⟩
theorem wit_LockCommands_3 : ∃ (s : State) (m : Master) (e : Fin 72) (v : Word), (s.b.accepts m (LCK_CMD e) = true ∧ v.getLsbD 11 = false ∧ fld v 0 6 ∈ regionsOf e ∧ fld v 8 2 = 0) :=
  ⟨st (rg fb [(LCK_R_STATE 5 9, 7)]), .pf0, 5, 9, by decide⟩
theorem wit_LockCommands_4 : ∃ (s : State) (m : Master) (e : Fin 72) (q : Fin 64), (s.b.accepts m (LCK_R_SWORD e q) = true) ∧ ((regionsOf e).contains q.val = true) :=
  ⟨st (tb), .pf0, 5, 9, by decide⟩
theorem wit_LockCommands_5 : ∃ (s : State) (m : Master) (e : Fin 72) (q : Fin 64), (s.b.accepts m (LCK_R_CFG e q) = true) ∧ ((regionsOf e).contains q.val = true ∧ (s.b.stk (stackOf e)).cal = none) :=
  ⟨st (rg fb [(LCK_R_STATE 5 9, 3)]), .pf0, 5, 9, by decide⟩
theorem wit_LockCommands_6 : ∃ (s : State) (st : Fin 4), (((List.range 1032).map fun i => s.b.heaterDuty st i).foldl (· + ·) 0 * 33 ≤ (s.rd (HTR_ILIM st)).toNat * 655360) :=
  ⟨st (tb), 1, by decide⟩
theorem wit_LockCommands_7 : ∃ (s : State), (s.b.lit = false ∧ s.b.pw.startup = none) :=
  ⟨st (tb), by decide⟩
theorem wit_LockCommands_8 : ∃ (s : State) (m : Master) (st : Fin 4), (s.b.accepts m (HTR_TEST st) = true) :=
  ⟨st (tb), .pf0, 1, by decide⟩
theorem wit_LoopsAndBanks_1 : ∃ (s : State) (st : Fin 4) (i : Fin 1032) (stream : List (BitVec 12)) (e : Nat) (q : Nat) (err : Int) (mean : Nat), (loopOf st i = (e, q)) ∧ ((s.b.lockSt e q = 2 ∨ s.b.lockSt e q = 3) ∧ (s.b.region e q).held = false) ∧ ((s.b.measure e q stream).1 = (err, mean)) ∧ (s.rdF (LCK_RAIL e) 0 12 < mean ∧ mean < s.rdF (LCK_RAIL e) 16 12) ∧ (lowVar (((s.b.region e q).errs ++ [err]).drop ((s.b.region e q).errs.length + 1 - 64)) (s.rd (LCK_VFLOOR e)).toNat = false) :=
  ⟨st (rg fb [(LCK_R_STATE 5 9, 3), (LCK_RAIL 5, 0x0F000100)]), 0, 329, (List.replicate 64 0x800), 5, 9, ((rg fb [(LCK_R_STATE 5 9, 3), (LCK_RAIL 5, 0x0F000100)]).measure 5 9 (List.replicate 64 0x800)).1.1, 0x800,
    by decide, by decide, rfl, by decide, rfl⟩
theorem wit_LoopsAndBanks_2 : ∃ (st : Fin 4) (i : Fin 1032) (e : Nat) (q : Nat), (loopOf st i = (e, q)) :=
  ⟨0, 329, 5, 9, by decide⟩
theorem wit_LoopsAndBanks_3 : ∃ (s : State) (st : Fin 4) (i : Fin 1032) (e : Nat) (q : Nat), (loopOf st i = (e, q)) ∧ (s.b.lockSt e q ≠ 0 ∧ (s.b.region e q).held = false) ∧ (900 < (s.b.stk st).laneLoad (s.b.activeBank st) (laneOf i)) :=
  ⟨st (rg (kb 0 (fun k => { k with ceTab := (List.range 64).map fun i => (recAddr 0 (320 + i) 0 / 4, 0x77) }) fb) [(LCK_R_STATE 5 9, 3)]), 0, 329, 5, 9, by decide +kernel⟩
theorem wit_LoopsAndBanks_4 : ∃ (s : State) (st : Fin 4) (i : Fin 1032) (e : Nat) (q : Nat), (loopOf st i = (e, q)) ∧ ((s.b.stk st).laneLoad (s.b.activeBank st) (laneOf i) ≤ 900) :=
  ⟨st fb, 0, 329, 5, 9, by decide +kernel⟩
theorem wit_LoopsAndBanks_5 : ∃ (s : State) (m : Master) (st : Fin 4) (v : Word), (s.b.accepts m (CE_BANK_ARM st) = true) ∧ (fld v 0 18 ≠ 0) :=
  ⟨st (tb), .pf0, 1, 0x11, by decide⟩
theorem wit_LoopsAndBanks_6 : ∃ (s : State) (m : Master) (st : Fin 4), (s.b.accepts m (CE_BANK_DISARM st) = true) :=
  ⟨st (rg tb [(CE_BANK_ARM 1, 0x31)]), .pf0, 1, by decide⟩
theorem wit_LoopsAndBanks_7 : ∃ (s : State) (st : Fin 4), ((s.b.stk st).checking ≠ 0) :=
  ⟨st (kb 1 (fun k => { k with checking := 1 }) (rg tb [(CE_BANK_ARM 1, 1), (CE_BANK_STAT 1, 3)])), 1, by decide⟩
theorem wit_LoopsAndBanks_9 : ∃ (s : State) (m : Master) (st : Fin 4) (bank : Nat) (g : Nat) (loop : Option Nat), (s.b.accepts m (CE_TDATA st) = true ∧ s.rdB (CE_TADDR st) 30 = false) ∧ (bankAt (s.rdF (CE_TADDR st) 0 24 / 4 * 4) = some (bank, g, loop) ∧ s.b.bankRefuses st bank g = false) :=
  ⟨st (rg tb [(CE_TADDR 1, 0x80040210)]), .pf0, 1, 1, 0, some 4, by decide⟩
theorem wit_LoopsAndBanks_10 : ∃ (s : State) (m : Master) (st : Fin 4) (bank : Nat) (g : Nat) (loop : Option Nat), (s.b.accepts m (CE_TDATA st) = true) ∧ (bankAt (s.rdF (CE_TADDR st) 0 24 / 4 * 4) = some (bank, g, loop) ∧ s.b.bankRefuses st bank g = true) :=
  ⟨st (rg tb [(CE_TADDR 1, 0x80040210), (CE_BANK_ARM 1, 1)]), .pf0, 1, 1, 0, some 4, by decide⟩
theorem wit_LoopsAndBanks_11 : ∃ (s : State) (m : Master) (st : Fin 4), (s.b.answers m (CE_TDATA st) = true) :=
  ⟨st (rg tb [(CE_TADDR 1, 0x80040210)]), .pf0, 1, by decide⟩
theorem wit_TraceBuffers_1 : ∃ (s : State) (m : Master) (st : Fin 4) (n : Fin 4) (v : Word), (s.b.accepts m (CE_TRC_CTRL st n) = true ∧ v.getLsbD 5 = false ∧ v.getLsbD 6 = false) ∧ ((s.rdF (CE_TRC_STAT st n) 0 2 = 0 ∨ s.rdF (CE_TRC_STAT st n) 0 2 = 3) ∧ s.rdF (CE_TRC_TRIG st n) 0 4 < 12) :=
  ⟨st (tb), .pf0, 1, 2, 1, by decide⟩
theorem wit_TraceBuffers_2 : ∃ (s : State) (m : Master) (st : Fin 4) (n : Fin 4) (v : Word), (s.b.accepts m (CE_TRC_CTRL st n) = true ∧ v.getLsbD 4 = false ∧ v.getLsbD 6 = false) ∧ (s.rdF (CE_TRC_STAT st n) 0 2 = 1) :=
  ⟨st (rg tb [(CE_TRC_STAT 1 2, 0x00050001), (CE_TRC_TRIG 1 2, 0x00400000)]), .pf0, 1, 2, 1, by decide⟩
theorem wit_TraceBuffers_3 : ∃ (s : State) (m : Master) (st : Fin 4) (n : Fin 4) (v : Word), (s.b.accepts m (CE_TRC_CTRL st n) = true ∧ v.getLsbD 4 = false ∧ v.getLsbD 5 = false) ∧ (s.rdF (CE_TRC_STAT st n) 0 2 = 1 ∨ s.rdF (CE_TRC_STAT st n) 0 2 = 2) :=
  ⟨st (rg tb [(CE_TRC_STAT 1 2, 0x00050001)]), .pf0, 1, 2, 1, by decide⟩
theorem wit_TraceBuffers_4 : ∃ (s : State) (st : Fin 4) (n : Fin 4), (s.rdF (CE_TRC_STAT st n) 0 2 = 1 ∧ s.b.traceFires st n = false ∧ (s.b.trace st n).skip = 0) :=
  ⟨st (rg tb [(CE_TRC_STAT 1 2, 0x0FFF0001), (CE_TRC_TRIG 1 2, 0x00400500), (CE_TRC_NODE01 1 2, 0x81008005)]), 1, 2, by decide⟩
theorem wit_TraceBuffers_5 : ∃ (s : State) (st : Fin 4) (n : Fin 4), (s.rdF (CE_TRC_STAT st n) 0 2 = 2 ∧ (s.b.trace st n).left = 0) :=
  ⟨st (rg tb [(CE_TRC_STAT 1 2, 0x00050002)]), 1, 2, by decide⟩
theorem wit_CalibrationCourse_1 : ∃ (s : State) (m : Master) (st : Fin 4) (v : Word), (s.b.accepts m (ASY_REQ st) = true) ∧ (fld v 0 5 ≤ 17 ∧ fld v 5 6 ∈ regionsOf (engAt st (fld v 0 5)) ∧ fld v 12 2 ≠ 3) ∧ (s.b.lockSt (engAt st (fld v 0 5)) (fld v 5 6) ≠ 0 ∧ s.b.lockSt (engAt st (fld v 0 5)) (fld v 5 6) ≠ 7) :=
  ⟨st (rg fb [(LCK_R_STATE 21 9, 3)]), .pf0, 1, 0x125, by decide⟩
theorem wit_CalibrationCourse_2 : ∃ (s : State) (st : Fin 4) (n : Fin 18) (q : Nat), (s.b.lit = true ∧ s.rdB (ASY_CTRL st) 1 = true) ∧ (q ∈ regionsOf (engAt st n) ∧ s.b.beyond (engAt st n) q = true) ∧ (s.b.lockSt (engAt st n) q ≠ 0 ∧ s.b.lockSt (engAt st n) q ≠ 7 ∧ (s.b.region (engAt st n) q).backoff = false) ∧ ((((s.b.stk st).cal.toList ++ (s.b.stk st).calDone).any fun c => c.eng == engAt st n && c.regions.contains q) = false) :=
  ⟨st ((rg fb [(LCK_R_STATE 21 9, 3), (ASY_CTRL 1, 3), (LCK_R_RTEMP 21 9, 0x5000)]).updRegion 21 9 fun r => { r with tlast := some 0 }), 1, 5, 9, by decide⟩
theorem wit_CalibrationCourse_3 : ∃ (s : State) (st : Fin 4) (e : Nat) (q : Nat) (since : BitVec 64), ((s.b.stk st).cal = none ∧ s.b.lit = true ∧ s.b.mionusRuns = true) ∧ (s.b.calPick st = some (e, q, since) ∧ s.b.calReady st e since = true ∧ (s.b.eng e).rangeNew = false) :=
  ⟨st (fb.updRegion 21 9 fun r => { r with due := some (7, 0) }), 1, 21, 9, 7, by decide⟩
theorem wit_CalibrationCourse_4 : ∃ (s : State) (st : Fin 4) (c : Cal), ((s.b.stk st).cal = some c ∧ c.decoded = false) ∧ (s.b.calUndecodable c = false) :=
  ⟨st (kb 1 (fun k => { k with cal := some { eng := 21, scope := 0, regions := [9], first := 9, attempt := 1, decoded := false, hold := false, point := 0, broken := false, fitting := false, retry := false, res := none, armed := false } }) fb), 1, { eng := 21, scope := 0, regions := [9], first := 9, attempt := 1, decoded := false, hold := false, point := 0, broken := false, fitting := false, retry := false, res := none, armed := false }, by decide⟩
theorem wit_CalibrationCourse_5 : ∃ (s : State) (st : Fin 4) (c : Cal), ((s.b.stk st).cal = some c ∧ c.hold = true ∧ c.broken = false) ∧ (c.point + 1 < probePoints c.eng ∧ c.yields = false) :=
  ⟨st (kb 1 (fun k => { k with cal := some { eng := 21, scope := 0, regions := [9], first := 9, attempt := 1, decoded := true, hold := true, point := 0, broken := false, fitting := false, retry := false, res := none, armed := false } }) fb), 1, { eng := 21, scope := 0, regions := [9], first := 9, attempt := 1, decoded := true, hold := true, point := 0, broken := false, fitting := false, retry := false, res := none, armed := false }, by decide⟩
theorem wit_CalibrationCourse_6 : ∃ (s : State) (st : Fin 4) (c : Cal), ((s.b.stk st).cal = some c ∧ c.hold = true ∧ c.broken = false) ∧ (probePoints c.eng ≤ c.point + 1) ∧ (s.b.mintQ = [] ∧ (s.b.eng (64 + 2 * st)).dyn.jobs = [] ∧ (s.b.eng (65 + 2 * st)).dyn.jobs = []) :=
  ⟨st (kb 1 (fun k => { k with cal := some { eng := 21, scope := 0, regions := [9], first := 9, attempt := 1, decoded := true, hold := true, point := 5, broken := false, fitting := false, retry := false, res := none, armed := false } }) fb), 1, { eng := 21, scope := 0, regions := [9], first := 9, attempt := 1, decoded := true, hold := true, point := 5, broken := false, fitting := false, retry := false, res := none, armed := false }, by decide⟩
theorem wit_CalibrationCourse_7 : ∃ (s : State) (st : Fin 4) (c : Cal), ((s.b.stk st).cal = some c ∧ c.hold = true ∧ c.broken = true) ∧ ((s.b.eng c.eng).passes = [] ∧ (s.b.eng c.eng).dyn.jobs = []) :=
  ⟨st (kb 1 (fun k => { k with cal := some { eng := 21, scope := 0, regions := [9], first := 9, attempt := 1, decoded := true, hold := true, point := 0, broken := true, fitting := false, retry := false, res := none, armed := false } }) fb), 1, { eng := 21, scope := 0, regions := [9], first := 9, attempt := 1, decoded := true, hold := true, point := 0, broken := true, fitting := false, retry := false, res := none, armed := false }, by decide⟩
theorem wit_CalibrationCourse_8 : ∃ (s : State) (st : Fin 4) (c : Cal), ((s.b.stk st).cal = some c ∧ c.hold = true ∧ c.first < 64 ∧ c.scope < 3) ∧ (s.b.mintQ = [] ∧ (s.b.eng (64 + 2 * st)).dyn.jobs = [] ∧ (s.b.eng (65 + 2 * st)).dyn.jobs = []) :=
  ⟨st (kb 1 (fun k => { k with cal := some { eng := 21, scope := 0, regions := [9], first := 9, attempt := 1, decoded := true, hold := true, point := 0, broken := false, fitting := false, retry := false, res := none, armed := false } }) fb), 1, { eng := 21, scope := 0, regions := [9], first := 9, attempt := 1, decoded := true, hold := true, point := 0, broken := false, fitting := false, retry := false, res := none, armed := false }, by decide⟩
theorem wit_CalibrationCourse_9 : ∃ (s : State) (st : Fin 4) (c : Cal), ((s.b.stk st).cal = some c ∧ c.retry = true) :=
  ⟨st (kb 1 (fun k => { k with cal := some { eng := 21, scope := 0, regions := [9], first := 9, attempt := 1, decoded := true, hold := false, point := 0, broken := false, fitting := false, retry := true, res := none, armed := false } }) fb), 1, { eng := 21, scope := 0, regions := [9], first := 9, attempt := 1, decoded := true, hold := false, point := 0, broken := false, fitting := false, retry := true, res := none, armed := false }, by decide⟩
theorem wit_CalibrationFit_1 : ∃ (s : State) (st : Fin 4) (c : Cal), ((s.b.stk st).cal = some c ∧ c.fitting = true ∧ s.b.mionusRuns = true) ∧ (s.b.pairAgrees c (s.b.calFit c) = true) :=
  ⟨st (kb 1 (fun k => { k with cal := some { eng := 21, scope := 0, regions := [9], first := 9, attempt := 1, decoded := true, hold := false, point := 0, broken := false, fitting := true, retry := false, acc := [], res := none, armed := false } }) fb), 1, { eng := 21, scope := 0, regions := [9], first := 9, attempt := 1, decoded := true, hold := false, point := 0, broken := false, fitting := true, retry := false, acc := [], res := none, armed := false }, by decide +kernel⟩
theorem wit_CalibrationFit_2 : ∃ (s : State) (st : Fin 4) (c : Cal), ((s.b.stk st).cal = some c ∧ c.fitting = true ∧ s.b.mionusRuns = true) ∧ (s.b.pairAgrees c (s.b.calFit c) = false) ∧ (c.attempt ≤ s.rdF (ASY_TOL st) 24 4) :=
  ⟨st (kb 1 (fun k => { k with cal := some { eng := 21, scope := 0, regions := [0], first := 9, attempt := 1, decoded := true, hold := false, point := 0, broken := false, fitting := true, retry := false, acc := [(0, {}), (512, { sums := { se := 40960000, sxx := 4096 } })], res := none, armed := false } }) fb), 1, { eng := 21, scope := 0, regions := [0], first := 9, attempt := 1, decoded := true, hold := false, point := 0, broken := false, fitting := true, retry := false, acc := [(0, {}), (512, { sums := { se := 40960000, sxx := 4096 } })], res := none, armed := false }, by decide +kernel⟩
theorem wit_CalibrationFit_3 : ∃ (s : State) (st : Fin 4) (c : Cal), ((s.b.stk st).cal = some c ∧ c.fitting = true ∧ s.b.mionusRuns = true) ∧ (s.b.pairAgrees c (s.b.calFit c) = false ∧ c.first < 64 ∧ c.scope < 3) ∧ (s.rdF (ASY_TOL st) 24 4 < c.attempt) ∧ (s.b.mintQ = [] ∧ (s.b.eng (64 + 2 * st)).dyn.jobs = [] ∧ (s.b.eng (65 + 2 * st)).dyn.jobs = []) :=
  ⟨st (kb 1 (fun k => { k with cal := some { eng := 21, scope := 0, regions := [0], first := 9, attempt := 9, decoded := true, hold := false, point := 0, broken := false, fitting := true, retry := false, acc := [(0, {}), (512, { sums := { se := 40960000, sxx := 4096 } })], res := none, armed := false } }) fb), 1, { eng := 21, scope := 0, regions := [0], first := 9, attempt := 9, decoded := true, hold := false, point := 0, broken := false, fitting := true, retry := false, acc := [(0, {}), (512, { sums := { se := 40960000, sxx := 4096 } })], res := none, armed := false }, by decide +kernel⟩
theorem wit_AssaySamples_1 : ∃ (s : State) (e : Fin 72) (y : Sample) (rest : List Sample), ((s.b.eng e).samples = y :: rest ∧ s.b.sampleSkipped e y.row = false) ∧ ((s.b.stk (stackOf e)).asyQ.length < 32) :=
  ⟨st (rg (eb 21 (fun x => { x with samples := [⟨3, 5, [], false, false, 8, some 5⟩] }) fb) ((List.range 64).map fun q => (LCK_R_STATE 21 q, 3))), 21, ⟨3, 5, [], false, false, 8, some 5⟩, [], by decide⟩
theorem wit_AssaySamples_2 : ∃ (s : State) (st : Fin 4) (slot : Nat) (y : Sample) (rest : List (Nat × Sample)) (v : Int), ((s.b.stk st).asyQ = (slot, y) :: rest ∧ slot < 18) ∧ ((s.b.stk st).builder = [] ∧ y.exact = some v) :=
  ⟨st (kb 1 (fun k => { k with asyQ := [(5, ⟨3, 5, [], false, false, 8, some 5⟩)] }) fb), 1, 5, ⟨3, 5, [], false, false, 8, some 5⟩, [], 5, by decide⟩
theorem wit_AssaySamples_3 : ∃ (s : State) (st : Fin 4) (slot : Fin 18) (row : Fin 512) (w : Sums), ((s.b.stk st).win.get (fun _ => ({} : Sums)) (512 * slot + row) = w) ∧ (2 ^ s.rdF (ASY_CFG st) 8 5 ≤ w.n ∧ w.full = false) :=
  ⟨st (kb 1 (fun k => { k with win := [(2563, { n := 5000, sx := 7, se := 9, sxx := 80, see := 100, smx := 3 })] }) fb), 1, 5, 3, { n := 5000, sx := 7, se := 9, sxx := 80, see := 100, smx := 3 }, by decide⟩
theorem wit_AssaySamples_4 : ∃ (s : State) (e : Fin 72), (s.b.mionusRuns = true ∧ (s.b.eng e).ps = .run) ∧ (s.b.lockSt e ((s.b.eng e).lkNext % (regionsOf e).length) = 3 ∧ (s.b.eng e).lkN + 1 < 4096) :=
  ⟨st (rg (eb 21 (fun x => { x with ps := .run }) fb) [(LCK_R_STATE 21 0, 3)]), 21, by decide⟩
theorem wit_AssaySamples_5 : ∃ (s : State) (e : Fin 72), (s.b.mionusRuns = true ∧ 64 ≤ (s.b.eng e).lkN) :=
  ⟨st (eb 21 (fun x => { x with lkN := 100, lkSum := 40000 }) fb), 21, by decide⟩
theorem wit_AssaySamples_6 : ∃ (s : State) (e : Fin 72), (s.b.mionusRuns = true ∧ s.rdB (ebud e 3) 24 = true) :=
  ⟨st (rg tb [(ebud 21 3, 0x1000000), (ebud 21 0, 0x02000300)]), 21, by decide⟩
theorem wit_AssaySamples_7 : ∃ (s : State) (m : Master) (e : Fin 72), (s.b.answers m (ebud e 0) = true) :=
  ⟨st (rg tb [(ebud 21 3, 0x1000000), (ebud 21 0, 0x02000300)]), .pf0, 21, by decide⟩
theorem wit_AssaySamples_8 : ∃ (s : State) (m : Master) (st : Fin 4), (s.b.answers m (ASY_R_SUM st 9) = true) :=
  ⟨st (tb), .pf0, 1, by decide⟩
theorem wit_AssaySamples_9 : ∃ (s : State) (m : Master) (st : Fin 4), (s.b.accepts m (PLT_CURVE_CTRL st) = true ∧ s.rdB (PLT_CURVE_CTRL st) 0 = false) ∧ (s.b.curveBad st (s.b.curveOf (PLT_CURVE_P st)) = none) :=
  ⟨st (tb), .pf0, 1, by decide⟩
theorem wit_LinksAndPorts_1 : ∃ (s : State) (l : Fin 32) (cause : Fin 4), (s.rdB (LNK_L_STAT l) 3 = false ∧ s.b.domUp .link = true) ∧ (cause.val ≠ 2 ∨ s.b.laneInUse l = true) :=
  ⟨st (nb 2), 7, by decide⟩
theorem wit_LinksAndPorts_2 : ∃ (s : State) (p : Fin 32) (f : Nat × Nat), (s.rdB (LNK_P_STAT p) 0 = true ∧ s.b.laneLost p = true) ∧ (s.rdB (LNK_P_STAT p) 3 = true ∧ s.rdB LNK_CTRL 1 = true ∧ cfgWidth (s.b.portCfg p) ≠ 0) ∧ (s.b.bestForm p (cfgWidth (s.b.portCfg p) - 1) = some f) :=
  ⟨st (cg 2 5 (rg (nb 2) [(LNK_P_STAT 2, 0x30B), (LNK_L_STAT 3, 0x18)])), 2, (0, 1), by decide⟩
theorem wit_LinksAndPorts_3 : ∃ (s : State) (p : Fin 32), (s.rdB (LNK_P_STAT p) 0 = true ∧ s.b.laneLost p = true) ∧ (s.rdB (LNK_P_STAT p) 3 = false ∨ s.rdB LNK_CTRL 1 = false) :=
  ⟨st (rg (nb 2) [(LNK_P_STAT 2, 0x303), (LNK_L_STAT 3, 0x18)]), 2, by decide⟩
theorem wit_LinksAndPorts_4 : ∃ (s : State) (p : Fin 32) (k : Nat) (mask : Nat), ((s.b.port p).form = some (k, mask) ∧ cfgEn (s.b.portCfg p) = true) ∧ (s.rdB LNK_CTRL 0 = true ∧ s.b.domUp .link = true) ∧ (k < 4 ∧ mask < 256 ∧ ((List.range 8).all fun i => !mask.testBit i || (decide (p.val + i < 32) && s.b.laneGood (p + i))) = true) :=
  ⟨st (cg 4 5 (pb 4 (fun x => { x with form := some (1, 3) }) (nb 2))), 4, 1, 3, by decide⟩
theorem wit_LinksAndPorts_5 : ∃ (s : State) (p : Fin 32), ((s.b.port p).hello = true) :=
  ⟨st (pb 4 (fun x => { x with hello := true }) (nb 2)), 4, by decide⟩
theorem wit_LinksAndPorts_6 : ∃ (s : State) (m : Master) (p : Fin 32) (v : Word), (s.b.accepts m (LNK_P_CMD p) = true ∧ v.getLsbD 1 = false) ∧ (s.rdB (LNK_P_STAT p) 0 = true ∧ s.rdB (LNK_P_STAT p) 4 = true) :=
  ⟨st (rg (nb 2) [(LNK_P_STAT 4, 0x111)]), .pf0, 4, 1, by decide⟩
theorem wit_LinksAndPorts_7 : ∃ (s : State) (m : Master) (p : Fin 32) (v : Word), (s.b.accepts m (LNK_P_CMD p) = true ∧ v.getLsbD 0 = false) ∧ (cfgEn (s.b.portCfg p) = true) :=
  ⟨st (cg 4 5 (rg (nb 2) [(LNK_P_STAT 4, 0x111)])), .pf0, 4, 2, by decide⟩
theorem wit_LinksAndPorts_8 : ∃ (s : State) (m : Master) (p : Fin 32) (v : Word), (s.b.accepts m (LNK_P_CFG p) = true) ∧ (((List.range 32).all fun q => !cfgBad (fun q => if q = p.val then v &&& 0xFFF7001F else s.rd (LNK_P_CFG q)) q) = true) :=
  ⟨st (nb 2), .pf0, 4, 0x00100014, by decide⟩
theorem wit_LinksAndPorts_9 : ∃ (s : State) (m : Master) (v : Word), (s.b.accepts m LNK_STEER = true ∧ s.b.vyv.steer = none) ∧ (fld v 8 6 < 40 ∧ s.b.fibreUser (fld v 8 6) = none) :=
  ⟨st (nb 2), .pf0, 0x2205, by decide⟩
theorem wit_LinksAndPorts_10 : ∃ (s : State) (l : Nat) (old : Nat) (f : Nat), (s.b.vyv.steer = some (l, old, f) ∧ l < 32 ∧ f < 40) :=
  ⟨st ({ nb 2 with vyv := { (nb 2).vyv with steer := some (5, 5, 34) } }), 5, 5, 34, by decide⟩
theorem wit_LinksAndPorts_11 : ∃ (s : State) (l : Nat) (old : Nat) (f : Nat), (s.b.vyv.steer = some (l, old, f) ∧ l < 32) :=
  ⟨st ({ nb 2 with vyv := { (nb 2).vyv with steer := some (5, 5, 34) } }), 5, 5, 34, by decide⟩
theorem wit_PortTraffic_1 : ∃ (s : State) (p : Fin 32) (ip : Word), (s.b.portUp p = true ∧ 0 < (s.b.port p).tokens) ∧ (ip = s.rd (LNK_P_IPV4 p)) :=
  ⟨st (nb 2), 1, 0, by decide⟩
theorem wit_PortTraffic_2 : ∃ (s : State) (p : Fin 32) (ip : List Word), (s.b.portUp p = true ∧ 0 < (s.b.port p).tokens) ∧ (s.b.isV6 p ip = true) :=
  ⟨st (nb 2), 1, [0, 0, 0, 0], by decide⟩
theorem wit_PortTraffic_3 : ∃ (s : State) (p : Fin 32) (v6 : Bool) (ip : List Word), (s.b.portUp p = true ∧ 0 < (s.b.port p).tokens) ∧ ((if v6 then s.b.isV6 p ip else ip == [s.rd (LNK_P_IPV4 p)]) = true) :=
  ⟨st (nb 2), 1, true, [0, 0, 0, 0], by decide⟩
theorem wit_PortTraffic_4 : ∃ (s : State) (p : Fin 32), (s.b.portUp p = true) :=
  ⟨st (nb 2), 1, by decide⟩
theorem wit_FlowContexts_1 : ∃ (s : State) (m : Master) (v : Word), (s.b.accepts m VYV_FCMD = true ∧ v.getLsbD 1 = false ∧ v.getLsbD 2 = false) ∧ ((s.b.flow (s.rdF VYV_FSEL 0 12)).state = 0 ∧ (s.b.flow (s.rdF VYV_FSEL 0 12)).kind ≠ 1) :=
  ⟨st (rg (nb 0) [(VYV_FSEL, 3)]), .pf0, 1, by decide⟩
theorem wit_FlowContexts_2 : ∃ (s : State) (m : Master) (v : Word), (s.b.accepts m VYV_FCMD = true ∧ v.getLsbD 1 = false ∧ v.getLsbD 2 = false) ∧ ((s.b.flow (s.rdF VYV_FSEL 0 12)).state = 0 ∧ (s.b.flow (s.rdF VYV_FSEL 0 12)).kind = 1) ∧ (((s.b.flow (s.rdF VYV_FSEL 0 12)).members.any s.b.openUnicast) = true) :=
  ⟨st (ff 4 (fun x => { x with words := #v[8, 0, 0x8003, 0, 0, 0, 0, 0, 0, 0, 0, 0, 0, 0, 0, 0] }) (rg (nb 2) [(VYV_FSEL, 4)])), .pf0, 1, by decide⟩
theorem wit_FlowContexts_3 : ∃ (s : State) (m : Master) (v : Word), (s.b.accepts m VYV_FCMD = true ∧ v.getLsbD 0 = false ∧ v.getLsbD 2 = false) ∧ ((s.b.flow (s.rdF VYV_FSEL 0 12)).state = 2 ∧ (s.b.flow (s.rdF VYV_FSEL 0 12)).kind ≠ 1) :=
  ⟨st (rg (nb 2) [(VYV_FSEL, 3)]), .pf0, 2, by decide⟩
theorem wit_FlowContexts_4 : ∃ (s : State) (m : Master) (v : Word), (s.b.accepts m VYV_FCMD = true ∧ v.getLsbD 0 = false ∧ v.getLsbD 2 = false) ∧ ((s.b.flow (s.rdF VYV_FSEL 0 12)).state = 1 ∨ (s.b.flow (s.rdF VYV_FSEL 0 12)).state = 4 ∨ (s.b.flow (s.rdF VYV_FSEL 0 12)).state = 2 ∧ (s.b.flow (s.rdF VYV_FSEL 0 12)).kind = 1) :=
  ⟨st (rg (nb 4) [(VYV_FSEL, 3)]), .pf0, 2, by decide⟩
theorem wit_FlowContexts_5 : ∃ (s : State) (m : Master) (v : Word), (s.b.accepts m VYV_FCMD = true ∧ v.getLsbD 0 = false ∧ v.getLsbD 1 = false) :=
  ⟨st (rg (nb 2) [(VYV_FSEL, 3)]), .pf0, 4, by decide⟩
theorem wit_FlowContexts_6 : ∃ (s : State) (m : Master) (i : Fin 16), (s.b.accepts m (VYV_FREC i) = true) ∧ ((s.b.flow (s.rdF VYV_FSEL 0 12)).state = 0 ∧ i.val ≠ 0 ∧ frecMask (s.b.flow (s.rdF VYV_FSEL 0 12)).kind i ≠ 0) :=
  ⟨st (rg (nb 0) [(VYV_FSEL, 3)]), .pf0, 2, by decide⟩
theorem wit_FlowContexts_7 : ∃ (s : State) (f : Fin 4096), ((s.b.flow f).state ≠ 0 ∧ (s.b.flow f).kind ≠ 1) ∧ (fld ((s.b.flow f).w 7) 16 16 ≠ 0 ∧ s.b.rollFlow f = false) :=
  ⟨st (nb 2), 3, by decide⟩
theorem wit_FlowContexts_8 : ∃ (s : State) (f : Fin 4096) (seq : BitVec 32) (c : Ctl), ((s.b.flow f).out = [c] ∧ c.seq = seq) ∧ (c.tries < s.rdF VYV_RTO 16 4 ∧ s.b.vyvOn = true) :=
  ⟨st (ff 3 (fun x => { x with out := [⟨7, mg 2 0x18 7 3 (List.replicate 32 0), 1⟩] }) (nb 2)), 3, 7, ⟨7, mg 2 0x18 7 3 (List.replicate 32 0), 1⟩, by decide +kernel⟩
theorem wit_FlowContexts_9 : ∃ (s : State) (f : Fin 4096), (((s.b.flow f).out.any fun c => decide (s.rdF VYV_RTO 16 4 ≤ c.tries)) = true) :=
  ⟨st (rg (ff 3 (fun x => { x with out := [⟨7, mg 2 0x18 7 3 (List.replicate 32 0), 1⟩] }) (nb 2)) [(VYV_RTO, 0x00010010)]), 3, by decide +kernel⟩
theorem wit_FlowContexts_10 : ∃ (s : State) (f : Fin 4096), ((s.b.flow f).ce = true ∧ s.b.flowState f = 2) ∧ (s.b.vyvOn = true ∧ s.b.portUp (s.b.flow f).port = true) :=
  ⟨st (ff 3 (fun x => { x with ce := true }.setW 0 0x102) (nb 2)), 3, by decide⟩
theorem wit_FlowContexts_11 : ∃ (s : State) (f : Fin 4096), ((s.b.flow f).state = 2 ∧ (s.b.flow f).kind ≠ 1 ∧ s.b.eceRecent (s.b.flow f) = false) :=
  ⟨st (nb 2), 3, by decide⟩
theorem wit_FlowContexts_12 : ∃ (s : State) (f : Fin 4096) (x : FaultN), (s.b.vyv.faults.find? (fun x => x.flow == f.val) = some x ∧ s.b.flowState f = 2) :=
  ⟨st ({ nb 2 with vyv := { (nb 2).vyv with faults := [⟨3, 5, 6, 0, 1, 9, 1, 2⟩] } }), 3, ⟨3, 5, 6, 0, 1, 9, 1, 2⟩, by decide⟩
theorem wit_NetworkDescriptors_1 : ∃ (s : State) (idx : Nat) (d : Desc), (s.b.takes idx d 0x38 false [0x10FFF, mLo, mHi, 0x1FFFFFF, mLo, 0xFFFF] = true ∧ dB d 1 16 = false) ∧ (s.b.flowState (dF d 1 0 12) = 2 ∧ (s.b.flow (dF d 1 0 12)).kind ≠ 1 ∧ (opSpan s.b.grade (dAddr d 2) (dF d 4 0 25)).isNone = true) :=
  ⟨st (fq 3 (ds [0x438, 3, 64, 0, 100, 0, 7]) ({ nb 2 with frm := some fr0 })), 3, ds [0x438, 3, 64, 0, 100, 0, 7], by decide⟩
theorem wit_NetworkDescriptors_2 : ∃ (s : State) (idx : Nat) (d : Desc), (s.b.takes idx d 0x38 false [0x10FFF, mLo, mHi, 0x1FFFFFF, mLo, 0xFFFF] = true ∧ dB d 1 16 = true ∧ dF d 4 0 25 = 32) ∧ (s.b.flowState (dF d 1 0 12) = 2 ∧ (s.b.flow (dF d 1 0 12)).kind ≠ 1 ∧ (opSpan s.b.grade (dAddr d 2) (dF d 4 0 25)).isNone = true) :=
  ⟨st (fq 3 (ds [0x438, 0x10003, 64, 0, 32, 0, 7]) ({ nb 2 with frm := some fr0 })), 3, ds [0x438, 0x10003, 64, 0, 32, 0, 7], by decide⟩
theorem wit_NetworkDescriptors_3 : ∃ (s : State) (idx : Nat) (d : Desc) (f : Frame), (s.b.frm = some f ∧ s.b.takes idx d 0x39 false [0xFFF, mLo, mHi, 0x1FFFFFF, mLo] = true) ∧ (s.b.flowState (dF d 1 0 12) = 2 ∧ (s.b.flow (dF d 1 0 12)).kind ≠ 1 ∧ (opSpan s.b.grade (dAddr d 2) (dF d 4 0 25)).isNone = true ∧ dF d 4 0 25 ≠ 0) ∧ (s.b.vyv.held = [] ∧ s.b.pw.drain = false ∧ f.mq = []) :=
  ⟨st (fq 3 (ds [0x439, 3, 64, 0, 100, 7]) ({ nb 2 with frm := some fr0 })), 3, ds [0x439, 3, 64, 0, 100, 7], (fqf 3 (ds [0x439, 3, 64, 0, 100, 7]) fr0), by decide⟩
theorem wit_NetworkDescriptors_4 : ∃ (s : State) (idx : Nat) (f : Frame) (v : Vrecv), (s.b.frm = some f ∧ f.vrecvs = [v] ∧ f.mq = []) ∧ (v.idx = idx ∧ v.done = false) :=
  ⟨st ({ nb 2 with frm := some { fr0 with vrecvs := [{ idx := 3, flow := 3, rtag := 7, dst := 64, len := 8, spans := [(0, 5)], done := false }] } }), 3, { fr0 with vrecvs := [{ idx := 3, flow := 3, rtag := 7, dst := 64, len := 8, spans := [(0, 5)], done := false }] }, { idx := 3, flow := 3, rtag := 7, dst := 64, len := 8, spans := [(0, 5)], done := false }, by decide⟩
theorem wit_NetworkDescriptors_5 : ∃ (s : State) (st : Fin 4) (hop : Nat) (h : Hop) (trec : List Word) (bytes : List Byte) (flags : Nat), ((s.b.stk st).hopQ = [h] ∧ h.idx = hop) ∧ (h.ready = some (trec, bytes, flags) ∧ h.remote = false) :=
  ⟨st (kb 2 (fun k => { k with hopQ := [{ idx := 5, slot := 4, remote := false, dstk := 1, dslot := 2, dtag := 9, flow := 0, link := 0, ready := some ([1, 2], [7, 8], 0) }] }) fb), 2, 5, { idx := 5, slot := 4, remote := false, dstk := 1, dslot := 2, dtag := 9, flow := 0, link := 0, ready := some ([1, 2], [7, 8], 0) }, [1, 2], [7, 8], 0, by decide⟩
theorem wit_FlowHandshakes_1 : ∃ (s : State) (a : Arrival) (m : Msg) (f : Fin 4096), (s.b.admits a m 2 tOPEN = true) ∧ (s.b.flowState f = 1 ∧ (s.b.flow f).kind = 0 ∧ (s.b.flow f).peer = m.spath ∧ fld ((s.b.flow f).w 6) 0 16 = a.sport.toNat) ∧ (∀ g : Fin f, s.b.flowState g ≠ 1) :=
  ⟨st (ff 0 (fun x => { x with words := #v[1, 0, 0, 0x8000000, 0, 0, 600, 0, 0, 0, 0, 0, 0, 0, 0, 0] }) (nb 2)), av 52, mg 2 0x13 0 0xFFFF (0 :: 7 :: List.replicate 6 0), 0, by decide +kernel⟩
theorem wit_FlowHandshakes_2 : ∃ (s : State) (a : Arrival) (m : Msg) (f : Fin 4096), (s.b.admits a m 2 tOPEN = true ∧ m.flags.testBit 2 = false) ∧ (s.b.flowState f = 0 ∧ (s.b.vyv.flows.all fun q => q.2.state != 1) = true ∧ ∀ g : Fin f, s.b.flowState g ≠ 0) :=
  ⟨st (nb 2), av 52, mg 2 0x13 0 0xFFFF (0 :: 7 :: List.replicate 6 0), 0, by decide +kernel⟩
theorem wit_FlowHandshakes_3 : ∃ (s : State) (a : Arrival) (m : Msg) (f : Nat), (s.b.admits a m 2 tOPENOK = true ∧ m.dflow = f) ∧ (f < 4096 ∧ s.b.flowState f = 1) :=
  ⟨st (ff 3 (fun x => x.setW 3 0x8000000) (nb 1)), av 52, mg 2 0x14 0 3 (0 :: 7 :: List.replicate 6 0), 3, by decide +kernel⟩
theorem wit_FlowHandshakes_4 : ∃ (s : State) (a : Arrival) (m : Msg) (f : Nat), (s.b.admits a m 2 tNOCTX = true ∧ m.dflow = f) ∧ (f < 4096 ∧ s.b.flowState f = 1) :=
  ⟨st (ff 3 (fun x => x.setW 3 0x8000000) (nb 1)), av 52, mg 2 0x15 0 3 (0 :: 7 :: List.replicate 6 0), 3, by decide +kernel⟩
theorem wit_FlowHandshakes_5 : ∃ (s : State) (a : Arrival) (m : Msg) (f : Nat), (s.b.inOrder a m tCLOSE f = true) ∧ (s.b.flowState f = 2) :=
  ⟨st (ff 3 (fun x => x.setW 3 0x8000000) (nb 2)), av 52, mg 2 0x16 1 3 (0 :: 7 :: 0 :: 3 :: List.replicate 4 0), 3, by decide +kernel⟩
theorem wit_FlowHandshakes_6 : ∃ (s : State) (a : Arrival) (m : Msg) (f : Nat), (s.b.inOrder a m tCLOSEOK f = true) ∧ (s.b.flowState f = 3 ∧ (s.b.flow f).bye = false) :=
  ⟨st (ff 3 (fun x => x.setW 3 0x8000000) (nb 3)), av 52, mg 2 0x17 1 3 (0 :: 7 :: 0 :: 3 :: List.replicate 4 0), 3, by decide +kernel⟩
theorem wit_TensorArrivals_1 : ∃ (s : State) (a : Arrival) (m : Msg) (f : Nat) (v : Vrecv), (s.b.admits a m 1 tWRITE = true ∧ m.dflow = f ∧ f < 4096 ∧ (m.seq - (s.b.flow f).rxSeq).toNat < 2 ^ 31 ∧ s.b.frameRel m.frame = 1) ∧ (s.b.vrecvFor f (be m.payload 0 2) = some v ∧ v.done = false) ∧ (s.b.frm.map (·.mq) = some [] ∧ be m.payload 4 4 + (m.payload.drop 16).length ≤ v.len ∧ v.overlaps (be m.payload 4 4) (m.payload.drop 16).length = false) :=
  ⟨st ({ rg (ff 3 (fun x => x.setW 3 0x8000000) (nb 2)) [(VYV_RXSIZE, 4)] with frm := some { fr0 with sr := { fr0.sr with frame := 5 }, vrecvs := [{ idx := 3, flow := 3, rtag := 7, dst := 64, len := 8, spans := [], done := false }] }, vyv := { (ff 3 (fun x => x.setW 3 0x8000000) (nb 2)).vyv with cur := some 5 } }), av 58, mg 1 1 0 3 (0 :: 7 :: List.replicate 2 0 ++ List.replicate 4 0 ++ List.replicate 8 0 ++ [5, 6]), 3, { idx := 3, flow := 3, rtag := 7, dst := 64, len := 8, spans := [], done := false }, by decide +kernel⟩
theorem wit_TensorArrivals_2 : ∃ (s : State) (a : Arrival) (m : Msg) (f : Nat), (s.b.admits a m 1 tWRITE = true ∧ m.dflow = f ∧ f < 4096 ∧ (m.seq - (s.b.flow f).rxSeq).toNat < 2 ^ 31 ∧ s.b.frameRel m.frame = 2) ∧ ((((s.b.vyv.held.filter fun g => g.flow == f).map (·.size)).foldl (· + ·) 0) + m.payload.length ≤ fld ((s.b.flow f).w 7) 0 16 * 1024) ∧ (((s.b.vyv.held.map (·.size)).foldl (· + ·) 0) + m.payload.length ≤ s.rdF VYV_RXSIZE 0 11 * 2 ^ 20) ∧ ((s.rd VYV_RXBASE_LO).toNat + s.rdF VYV_RXBASE_HI 0 5 * 2 ^ 32 + s.rdF VYV_RXSIZE 0 11 * 2 ^ 20 ≤ s.b.grade.bytes) :=
  ⟨st (rg (ff 3 (fun x => x.setW 3 0x8000000) (nb 2)) [(VYV_RXSIZE, 4)]), av 58, mg 1 1 0 3 (0 :: 7 :: List.replicate 2 0 ++ List.replicate 4 0 ++ List.replicate 8 0 ++ [5, 6]), 3, by decide +kernel⟩
theorem wit_TensorArrivals_3 : ∃ (s : State) (a : Arrival) (m : Msg) (f : Nat), (s.b.admits a m 1 tTALLY = true ∧ m.dflow = f ∧ f < 4096 ∧ (m.seq - (s.b.flow f).rxSeq).toNat < 2 ^ 31 ∧ s.b.frameRel m.frame = 2) ∧ ((((s.b.vyv.held.filter fun g => g.flow == f).map (·.size)).foldl (· + ·) 0) + m.payload.length ≤ fld ((s.b.flow f).w 7) 0 16 * 1024) ∧ (((s.b.vyv.held.map (·.size)).foldl (· + ·) 0) + m.payload.length ≤ s.rdF VYV_RXSIZE 0 11 * 2 ^ 20) ∧ ((s.rd VYV_RXBASE_LO).toNat + s.rdF VYV_RXBASE_HI 0 5 * 2 ^ 32 + s.rdF VYV_RXSIZE 0 11 * 2 ^ 20 ≤ s.b.grade.bytes) :=
  ⟨st (rg (ff 3 (fun x => x.setW 3 0x8000000) (nb 2)) [(VYV_RXSIZE, 4)]), av 62,
    msgSeal { mg 1 2 0 3 (0 :: 7 :: List.replicate 18 0 ++ [5, 6]) with dpath := 0x400000000000000 }, 3, by decide +kernel⟩
theorem wit_ControlArrivals_1 : ∃ (s : State) (a : Arrival) (m : Msg) (f : Nat), (s.b.admits a m 2 tACK = true ∧ m.dflow = f ∧ f < 4096) ∧ ((s.b.flow f).bye = false ∧ (s.b.flow f).waitQ = []) :=
  ⟨st (ff 3 (fun x => { x with out := [⟨7, mg 2 0x18 7 3 (List.replicate 32 0), 1⟩] }) (ff 3 (fun x => x.setW 3 0x8000000) (nb 2))), av 52, mg 2 0x10 0 3 (0 :: 0 :: 0 :: 7 :: List.replicate 4 0), 3, by decide +kernel⟩
theorem wit_ControlArrivals_2 : ∃ (s : State) (a : Arrival) (m : Msg), (s.b.admits a m 2 tERROR = true) :=
  ⟨st (ff 3 (fun x => x.setW 3 0x8000000) (nb 2)), av 52, mg 2 0x11 0 3 (0 :: 0 :: 0 :: 7 :: 0x18 :: 9 :: List.replicate 2 0), by decide +kernel⟩
theorem wit_ControlArrivals_3 : ∃ (s : State) (a : Arrival) (m : Msg) (f : Nat), (s.b.inOrder a m tFAULT f = true) :=
  ⟨st (ff 3 (fun x => x.setW 3 0x8000000) (nb 2)), av 64, mg 2 0x12 1 3 ([2, 0, 1, 0, 0, 0, 0, 4, 0, 0, 0, 1, 0, 0, 0, 5, 0, 7, 0, 0]), 3, by decide +kernel⟩
theorem wit_ControlArrivals_4 : ∃ (s : State) (a : Arrival) (m : Msg) (f : Nat) (r : Start), (s.b.inOrder a m tSTART f = true ∧ rollLevel m.dpath = 0) ∧ (s.b.startQ.length < 8 ∧ startOf (wordsLE 8 m.payload) = some r) ∧ (s.b.refuses = false ∧ (s.b.lastId.all fun l => seqGT r.frame l) = true) :=
  ⟨st (rg (ff 3 (fun x => x.setW 3 0x8000000) (nb 2)) [(MSQ_CTRL, 1)]), av 76, mg 2 0x18 1 3 (7 :: List.replicate 15 0 ++ [64] ++ List.replicate 7 0 ++ 1 :: List.replicate 7 0), 3, { frame := 7, seed := 0, paddr := 0, plen := 64, pbase := 0, ncand := 1 }, by decide +kernel⟩
theorem wit_ControlArrivals_5 : ∃ (s : State) (a : Arrival) (m : Msg) (f : Nat), (s.b.inOrder a m tREGWR f = true ∧ (s.b.flow f).waitQ = [] ∧ (s.b.flow f).out.length < 64 ∧ s.b.flowState f ≠ 0) ∧ (be m.payload 0 4 = LNK_SERTHR ∧ be m.payload 4 2 = 1 ∧ m.payload.length = 12) ∧ (s.b.accepts .vyv LNK_SERTHR = true) :=
  ⟨st (rg (ff 3 (fun x => x.setW 3 0x8000000) (nb 2)) [(VYV_RACC_LO, 0xFFFFFFFF)]), av 56, mg 2 0x19 1 3 (bytesBE 4 LNK_SERTHR ++ [0, 1, 0, 0, 9, 0, 0, 0]), 3, by decide +kernel⟩
theorem wit_ControlArrivals_6 : ∃ (s : State) (a : Arrival) (m : Msg) (f : Nat), (s.b.inOrder a m tREGRD f = true ∧ (s.b.flow f).waitQ = [] ∧ (s.b.flow f).out.length < 64 ∧ s.b.flowState f ≠ 0) ∧ (be m.payload 0 4 = LNK_SERTHR ∧ be m.payload 4 2 = 1) ∧ (s.b.answers .vyv LNK_SERTHR = true) :=
  ⟨st (rg (ff 3 (fun x => x.setW 3 0x8000000) (nb 2)) [(VYV_RACC_LO, 0xFFFFFFFF)]), av 52, mg 2 0x1A 1 3 (bytesBE 4 LNK_SERTHR ++ [0, 1, 0, 0]), 3, by decide +kernel⟩
theorem wit_ControlArrivals_7 : ∃ (s : State) (a : Arrival) (m : Msg) (f : Nat), (s.b.inOrder a m tREGRSP f = true) :=
  ⟨st (ff 3 (fun x => x.setW 3 0x8000000) (nb 2)), av 56, mg 2 0x1B 1 3 ([0, 0, 0, 0] ++ bytesBE 4 LNK_SERTHR ++ [0, 0, 0, 0]), 3, by decide +kernel⟩
theorem wit_ControlArrivals_8 : ∃ (s : State) (a : Arrival) (m : Msg), (s.b.admits a m 2 tHELLO = true) ∧ (s.rdF (LNK_P_STAT a.port) 8 8 = be m.payload 9 1) ∧ ((s.b.port a.port).hello = true ∧ bit (s.b.portCfg a.port) 3 = true) :=
  ⟨st (cg 1 12 (pb 1 (fun x => { x with hello := true }) (ff 3 (fun x => x.setW 3 0x8000000) (nb 2)))), av 60, mg 2 0x22 0 0xFFFF ([0, 0, 0, 0, 0, 0, 0, 7, 0, 1] ++ List.replicate 6 0), by decide +kernel⟩
theorem wit_ControlArrivals_9 : ∃ (s : State) (a : Arrival) (m : Msg), (s.b.admits a m 3 tHB = true) ∧ (s.b.rollLevels.contains (be m.payload 8 1) = true ∧ (be m.payload 9 1) ≠ s.b.ownIx (be m.payload 8 1)) ∧ (seqGT m.epoch (s.b.epochAt (be m.payload 8 1)) = false) :=
  ⟨st (rb), av 92, rm 3 0x30 0 ([0, 0, 0, 0, 0, 0, 0, 9, 1, 4, 0, 0] ++ List.replicate 36 0), by decide +kernel⟩
theorem wit_RollViews_1 : ∃ (s : State), ((s.b.rollLevels.any fun l => s.b.partakes l) = true ∧ s.b.vyvOn = true) :=
  ⟨st (rb), by decide⟩
theorem wit_RollViews_2 : ∃ (s : State) (l : Fin 4) (j : Fin 256), (s.b.partakes (l + 1) = true ∧ s.b.inView (l + 1) j = true ∧ j.val ≠ s.b.ownIx (l + 1)) ∧ ((s.b.heard (l + 1) j).alive = true ∧ s.b.heldAt (l + 1) = false) :=
  ⟨st (rb), 0, 4, by decide⟩
theorem wit_RollViews_3 : ∃ (s : State) (l : Fin 4), (s.b.partakes (l + 1) = true ∧ s.b.heldAt (l + 1) = false ∧ s.b.rol.decide.contains (l.val + 1) = true) ∧ (s.b.majority (l + 1) = true ∧ s.b.lowest (l + 1) (s.b.half (l + 1)) = s.b.ownIx (l + 1)) :=
  ⟨st ({ rb with rol := { rb.rol with decide := [1] } }), 0, by decide +kernel⟩
theorem wit_RollViews_4 : ∃ (s : State) (l : Fin 4), (s.b.partakes (l + 1) = true ∧ s.b.heldAt (l + 1) = false ∧ s.b.rol.decide.contains (l.val + 1) = true) ∧ (s.b.majority (l + 1) = false) :=
  ⟨st ({ rg rb [(ROL_L_VIEW0 0, 0xFF)] with rol := { rb.rol with decide := [1] } }), 0, by decide +kernel⟩
theorem wit_RollViews_5 : ∃ (s : State) (l : Fin 4), (s.b.partakes (l + 1) = true ∧ s.b.heldAt (l + 1) = false ∧ s.b.rol.wait.contains (l.val + 1) = true) ∧ (s.b.majority (l + 1) = true ∧ s.b.lowest (l + 1) (s.b.half (l + 1)) = s.b.ownIx (l + 1)) :=
  ⟨st ({ rb with rol := { rb.rol with wait := [1] } }), 0, by decide +kernel⟩
theorem wit_RollViews_6 : ∃ (s : State) (l : Fin 4), (s.b.partakes (l + 1) = true ∧ s.b.heldAt (l + 1) = false ∧ s.b.rol.wait.contains (l.val + 1) = true) ∧ (s.b.majority (l + 1) = false) :=
  ⟨st ({ rg rb [(ROL_L_VIEW0 0, 0xFF)] with rol := { rb.rol with wait := [1] } }), 0, by decide +kernel⟩
theorem wit_RollViews_7 : ∃ (s : State) (l : Fin 4) (j : Nat), (s.rdB ROL_CTRL 1 = true ∧ s.b.partakes (l + 1) = true ∧ s.b.isFace (l + 1) = true ∧ s.b.heldAt (l + 1) = false) ∧ (j < s.b.configured (l + 1) ∧ s.b.inView (l + 1) j = false ∧ 10 ≤ (s.b.heard (l + 1) j).run) :=
  ⟨st ({ rb with rol := { rb.rol with heard := [(5, { run := 12 })] } }), 0, 5, by decide +kernel⟩
theorem wit_RollViews_8 : ∃ (s : State) (m : Master) (v : Word) (l : Fin 4), (s.b.accepts m ROL_CMD = true ∧ fld v 4 3 = l.val + 1 ∧ s.b.rollLevels.contains (l.val + 1) = true ∧ s.b.heldAt (l + 1) = true ∧ v.getLsbD 1 = false) ∧ (s.b.lowest (l + 1) (s.b.view (l + 1)) ≠ s.b.ownIx (l + 1)) ∧ (s.b.flowState ((s.b.mrec (l + 1) (s.b.lowest (l + 1) (s.b.view (l + 1)))).2) = 2) :=
  ⟨st (rg { rb with rol := { rb.rol with mrec := [(4, (0, 3))] } } [(ROL_L_INFO 0, 0x04030408)]), .pf0, 0x10, 0, by decide +kernel⟩
theorem wit_RollViews_9 : ∃ (s : State) (m : Master) (v : Word) (l : Fin 4), (s.b.accepts m ROL_CMD = true ∧ fld v 4 3 = l.val + 1 ∧ s.b.rollLevels.contains (l.val + 1) = true ∧ s.b.heldAt (l + 1) = true ∧ v.getLsbD 0 = false) :=
  ⟨st (rg rb [(ROL_L_INFO 0, 0x03030608)]), .pf0, 0x10, 0, by decide +kernel⟩
theorem wit_RollViews_10 : ∃ (s : State) (m : Master) (v : Word), (s.b.accepts m ROL_CTRL = true ∧ s.rdB ROL_CTRL 0 = false ∧ v.getLsbD 0 = true) ∧ (pathOk s.b.path = true ∧ pScope s.b.path = 2) :=
  ⟨st (rg rb [(ROL_CTRL, 0)]), .pf0, 3, by decide +kernel⟩
theorem wit_RollViews_11 : ∃ (s : State) (m : Master) (v : Word), (s.b.accepts m ROL_CTRL = true ∧ s.rdB ROL_CTRL 0 = false ∧ v.getLsbD 0 = true) ∧ (pathOk s.b.path = false ∨ pScope s.b.path ≠ 2) :=
  ⟨st (nb 2), .pf0, 3, by decide +kernel⟩
theorem wit_RollViews_12 : ∃ (s : State) (a : Arrival) (m : Msg) (f : Nat) (l : Fin 4), (s.b.inOrder a m tVIEW f = true ∧ be m.payload 0 1 = l.val + 1 ∧ be m.payload 1 1 = 0) ∧ (s.b.rollLevels.contains (l.val + 1) = true ∧ seqGT (BitVec.ofNat 32 (be m.payload 4 4)) (s.b.epochAt (l + 1)) = true) ∧ ((ofBytesLE ((m.payload.drop 16).take 32)).testBit (s.b.ownIx (l + 1)) = true) :=
  ⟨st (rb), av 92, rm 2 0x20 1 ([1, 0, 0, 2, 0, 0, 0, 6, 0, 0, 0, 0, 0, 0, 0, 1, 0x18] ++ List.replicate 31 0), 3, 0, by decide +kernel⟩
theorem wit_RollViews_13 : ∃ (s : State) (a : Arrival) (m : Msg) (f : Nat) (l : Fin 4), (s.b.inOrder a m tJOIN f = true ∧ be m.payload 8 1 = l.val + 1 ∧ (rollLevel m.dpath = 0 ∨ rollLevel m.dpath = l.val + 1)) ∧ (s.b.rollLevels.contains (l.val + 1) = true ∧ s.b.notFaceAt (l + 1) = none) :=
  ⟨st (rb), av 60, rm 2 0x21 1 ([0, 0, 0, 0, 0, 0, 0, 9, 1, 4] ++ List.replicate 6 0), 3, 0, by decide +kernel⟩
theorem wit_HbmCommands_1 : ∃ (s : State) (idx : Nat) (d : Desc) (ecc : Ecc), (s.b.takes idx d 0x30 false [0x307, mLo, mHi, mLo, mHi, mLo, 0xFFFF] = true ∧ dF d 6 0 32 ≠ 0 ∧ ecc.ue = []) ∧ ((opSpan s.b.grade (hbmAddr d 2 8 s.b.pbase) (dF d 6 0 32)).isNone = true ∧ (mspan s.b.grade (hbmAddr d 4 9 s.b.pbase) (dF d 6 0 32) = .fpsram ∨ (opSpan s.b.grade (hbmAddr d 4 9 s.b.pbase) (dF d 6 0 32)).isNone = true)) ∧ (s.b.hitsProgram (hbmAddr d 4 9 s.b.pbase) (dF d 6 0 32) = false) :=
  ⟨st (fq 3 (ds [0x430, 0, 64, 0, 4096, 0, 8, 0]) ({ fb with mem := [(66, 9)] })), 3, ds [0x430, 0, 64, 0, 4096, 0, 8, 0], ⟨[], []⟩, by decide⟩
theorem wit_HbmCommands_2 : ∃ (s : State) (m : Master), (s.b.accepts m HBM_CMD = true) ∧ (s.b.inFrame = false ∧ s.b.hbmIdle = true ∧ s.b.host.rehash = none) :=
  ⟨st (tb), .pf0, by decide⟩
theorem wit_HbmCommands_3 : ∃ (s : State) (h : Nat), (s.b.host.rehash = some h) :=
  ⟨st ({ tb with host := { tb.host with rehash := some 1 } }), 1, by decide⟩
theorem wit_HbmCommands_4 : ∃ (s : State), (65536 ≤ (List.range 64).foldl (fun a n => a + s.b.host.hbmCnt.get (fun _ => 0) (n % 16)) 0) :=
  ⟨st ({ tb with host := { tb.host with hbmCnt := [(3, 70000)] } }), by decide⟩
theorem wit_HbmCommands_5 : ∃ (s : State), ((List.range 64).foldl (fun a n => a + s.b.host.hbmCnt.get (fun _ => 0) (n % 16)) 0 < 65536) :=
  ⟨st (tb), by decide⟩
theorem wit_HbmCommands_6 : ∃ (s : State) (a : BitVec 37) (n : Nat) (ecc : Ecc), (s.b.cutOff .pf0 = false ∧ s.b.host.pf0D3 = false ∧ s.b.domUp .hbm = true ∧ s.b.host.rehash = none) ∧ ((opSpan s.b.grade a.toNat n).isNone = true ∧ ecc.ue = []) :=
  ⟨st (rg tb [(PWR_RAIL, 0x7FF)]), 64, 8, ⟨[], []⟩, by decide⟩
theorem wit_HbmCommands_7 : ∃ (s : State), (s.b.cutOff .pf0 = false ∧ s.b.host.pf0D3 = false ∧ s.b.domUp .hbm = true ∧ s.b.host.rehash.isSome = true) :=
  ⟨st ({ tb with host := { tb.host with rehash := some 1 } }), by decide⟩
theorem wit_HbmCommands_8 : ∃ (s : State) (a : BitVec 37) (bytes : List (Option Byte)), (s.b.cutOff .pf0 = false ∧ s.b.host.pf0D3 = false ∧ s.b.domUp .hbm = true ∧ s.b.host.rehash = none) ∧ ((opSpan s.b.grade a.toNat bytes.length).isNone = true) :=
  ⟨st (tb), 64, [some 5, none, some 7], by decide⟩
theorem wit_HostAccesses_1 : ∃ (s : State) (m : Master) (off : BitVec 26) (o : Nat) (k : PageKind) (i : Nat), (mapped m (off.toNat / 4 * 4) = some o ∧ s.b.accepts m o = true) ∧ (s.b.target o = .page k i ∧ [PageKind.id_, .clk, .smb, .seq, .vec].contains k = true ∧ (rowAt o).isSome = true) ∧ (0x40 ≤ o % 0x1000 ∧ ((cntTable k).any fun t => t.1 == o % 0x1000) = false) :=
  ⟨st (tb), .pf0, BitVec.ofNat 26 SMB_CFG, SMB_CFG, .smb, 0, by decide⟩
theorem wit_HostAccesses_2 : ∃ (s : State) (m : Master) (off : BitVec 26) (be : BitVec 4) (o : Nat) (k : PageKind) (i : Nat), (mapped m (off.toNat / 4 * 4) = some o ∧ s.b.accepts m o = true) ∧ (s.b.target o = .page k i ∧ be ≠ 15 ∧ k ≠ .glb ∧ k ≠ .dbk ∧ s.b.domUp .control = true) :=
  ⟨st (tb), .pf0, BitVec.ofNat 26 SMB_CFG, 3, SMB_CFG, .smb, 0, by decide⟩
theorem wit_HostAccesses_3 : ∃ (s : State) (m : Master) (a : Fin 4194304), (s.b.accepts m (0x1400000 + a) = true) :=
  ⟨st (fb), .pf0, 4094, by decide⟩
theorem wit_HostAccesses_4 : ∃ (s : State) (m : Master), (s.b.answers m MSQ_TIME_LO = true) :=
  ⟨st (tb), .pf0, by decide⟩
theorem wit_HostAccesses_5 : ∃ (s : State) (m : Master), (s.b.answers m CLK_AONTIME_LO = true) :=
  ⟨st (tb), .pf0, by decide⟩
theorem wit_HostAccesses_6 : ∃ (s : State) (m : Master) (c : Fin 4) (v : Word), (s.b.accepts m (GLB_DMA_CTRL c) = true ∧ v.getLsbD 3 = false ∧ s.b.dma c = none) ∧ ((s.rd (GLB_DMA_LEN c)).toNat ≠ 0 ∧ (mspan s.b.grade ((s.rd (GLB_DMA_MADDR_LO c)).toNat + s.rdF (GLB_DMA_MADDR_HI c) 0 8 * 2 ^ 32) (s.rd (GLB_DMA_LEN c)).toNat = .hbm ∧ s.b.domUp .hbm = true ∨ mspan s.b.grade ((s.rd (GLB_DMA_MADDR_LO c)).toNat + s.rdF (GLB_DMA_MADDR_HI c) 0 8 * 2 ^ 32) (s.rd (GLB_DMA_LEN c)).toNat = .vsram ∨ mspan s.b.grade ((s.rd (GLB_DMA_MADDR_LO c)).toNat + s.rdF (GLB_DMA_MADDR_HI c) 0 8 * 2 ^ 32) (s.rd (GLB_DMA_LEN c)).toNat = .fpsram)) ∧ (v.getLsbD 1 = true ∨ s.b.hitsProgram ((s.rd (GLB_DMA_MADDR_LO c)).toNat + s.rdF (GLB_DMA_MADDR_HI c) 0 8 * 2 ^ 32) (s.rd (GLB_DMA_LEN c)).toNat = false) :=
  ⟨st (rg tb [(GLB_DMA_LEN 1, 64)]), .pf0, 1, 1, by decide⟩
theorem wit_HostAccesses_7 : ∃ (s : State) (m : Master) (c : Fin 4) (v : Word), (s.b.accepts m (GLB_DMA_CTRL c) = true ∧ v.getLsbD 0 = false ∧ (s.b.dma c).isSome = true) :=
  ⟨st ({ rg tb [(GLB_DMA_STAT 1, 1)] with host := { tb.host with dma := [(1, some ⟨true, false, 0, 64, 8⟩)] } }), .pf0, 1, 8, by decide⟩
theorem wit_HostAccesses_8 : ∃ (s : State) (c : Fin 4) (ecc : Ecc) (q : Dma), (s.b.dma c = some q ∧ q.toHost = true ∧ ecc.ue = []) ∧ (s.b.host.rehash = none ∨ mspace s.b.grade q.maddr ≠ .hbm) :=
  ⟨st ({ rg tb [(GLB_DMA_STAT 1, 1)] with host := { tb.host with dma := [(1, some ⟨true, false, 0, 64, 8⟩)] } }), 1, ⟨[], []⟩, ⟨true, false, 0, 64, 8⟩, by decide⟩
theorem wit_HostAccesses_9 : ∃ (s : State) (c : Fin 4) (hdata : List Byte) (q : Dma), (s.b.dma c = some q ∧ q.toHost = false ∧ hdata.length = q.len ∧ s.b.hitsProgram q.maddr q.len = false) ∧ (s.b.host.rehash = none ∨ mspace s.b.grade q.maddr ≠ .hbm) :=
  ⟨st ({ rg tb [(GLB_DMA_STAT 1, 1)] with host := { tb.host with dma := [(1, some ⟨false, true, 0, 64, 2⟩)] } }), 1, [3, 4], ⟨false, true, 0, 64, 2⟩, by decide⟩
theorem wit_SmbusTransactions_1 : ∃ (s : State) (p : BitVec 16) (pec : Option Bool), (s.b.domUp .island = true ∧ s.b.pecBad pec = false ∧ p.toNat % 4 = 0) :=
  ⟨st (tb), 0x1040, some true, by decide⟩
theorem wit_SmbusTransactions_2 : ∃ (s : State) (pec : Option Bool), (s.b.domUp .island = true ∧ s.b.pecBad pec = true) :=
  ⟨st (rg tb [(SMB_CFG, 0x100)]), some false, by decide⟩
theorem wit_SmbusTransactions_3 : ∃ (s : State), (s.b.domUp .island = true) :=
  ⟨st (tb), by decide⟩
theorem wit_SmbusTransactions_4 : ∃ (s : State), (s.b.domUp .island = true) :=
  ⟨st (tb), by decide⟩
theorem wit_SmbusTransactions_5 : ∃ (s : State), (s.b.domUp .island = true ∧ clampN 1 8 (s.rdF SMB_CFG 16 4) = 1) ∧ (smbOff s.b.smbPtr = some ID_SERIAL_LO) :=
  ⟨st (rg tb [(SMB_CFG, 0x10000), (SMB_STAT, BitVec.ofNat 32 ((0x1000 + ID_SERIAL_LO % 4096) * 65536))]), by decide⟩
theorem wit_SmbusTransactions_6 : ∃ (s : State) (bytes : List Byte) (pec : Option Bool), (s.b.domUp .island = true ∧ s.b.pecBad pec = false ∧ bytes.length = 4) ∧ (smbOff s.b.smbPtr = some SMB_CFG) :=
  ⟨st (rg tb [(SMB_STAT, BitVec.ofNat 32 ((SMB_CFG % 4096) * 65536))]), [9, 1, 2, 0], some true, by decide⟩
theorem wit_SmbusTransactions_7 : ∃ (s : State), (s.b.domUp .island = true) :=
  ⟨st (tb), by decide⟩
theorem wit_ThermalAndHousekeeping_1 : ∃ (s : State) (ts : List (BitVec 16)), (s.b.pw.phase ≠ .dark ∧ s.b.pw.phase ≠ .saved ∧ ts.length = 96) :=
  ⟨st (tb), List.replicate 96 0x2000, by decide⟩
theorem wit_ThermalAndHousekeeping_2 : ∃ (s : State) (new : Nat) (i : Nat), (s.b.level = (new, i) ∧ new < 4) ∧ (s.rdF THM_STAT 0 3 ≠ new ∧ s.rdF THM_STAT 0 3 ≠ 4) :=
  ⟨st (rg tb [(THM_STAT, 1)]), 0, 0, by decide +kernel⟩
theorem wit_ThermalAndHousekeeping_3 : ∃ (s : State), (s.b.level.1 = 4 ∧ s.rdB LCO_LSTAT 9 = false) ∧ ([Phase.island, .released, .up, .saving].contains s.b.pw.phase = true) :=
  ⟨st ({ tb with thm := { tb.thm with sens := [(5, { shut := { on := true } })] } }), by decide +kernel⟩
theorem wit_ThermalAndHousekeeping_4 : ∃ (s : State) (i : Fin 96), (s.b.tFault i = false ∧ 3 ≤ (s.b.sensor i).out) :=
  ⟨st ({ tb with thm := { tb.thm with sens := [(5, { out := 3 })] } }), 5, by decide⟩
theorem wit_ThermalAndHousekeeping_5 : ∃ (s : State) (i : Fin 96), (s.b.tFault i = true ∧ 100 ≤ (s.b.sensor i).good) :=
  ⟨st (rg { tb with thm := { tb.thm with sens := [(5, { good := 100 })] } } [(THM_T 5, 0x10000), (THM_FAULT 0, 32)]), 5, by decide⟩
theorem wit_ThermalAndHousekeeping_6 : ∃ (ts : List (BitVec 8)), (ts.length = 4) :=
  ⟨[60, 96, 70, 1], by decide⟩
theorem wit_ThermalAndHousekeeping_7 : ∃ (s : State) (m : Master) (v : Word), (s.b.accepts m THM_LIM = true ∧ s.rdB (PG_LOCK P_THM) 0 = false) ∧ (limitsOk (fld v 0 8) (fld v 8 8) (fld v 16 8) (s.rdF THM_LIM 24 8) = true) :=
  ⟨st (tb), .pf0, 0x645F5A, by decide⟩
theorem wit_ThermalAndHousekeeping_8 : ∃ (s : State) (m : Master) (v : Word), (s.b.accepts m THM_LIM = true ∧ s.rdB (PG_LOCK P_THM) 0 = false) ∧ (limitsOk (fld v 0 8) (fld v 8 8) (fld v 16 8) (s.rdF THM_LIM 24 8) = false) :=
  ⟨st (tb), .pf0, 0x010203, by decide⟩
theorem wit_ThermalAndHousekeeping_9 : ∃ (s : State) (x : Bool), (s.b.hkOn x = true ∧ s.rdF (hkTmr x) 0 16 ≠ 0 ∧ (s.b.conv x).scan = []) :=
  ⟨st (rg tb [(HK_CTRL, 3), (HK_TMR_B, 9), (HK_SCAN_B_LO, 0x81)]), true, by decide⟩
theorem wit_ThermalAndHousekeeping_10 : ∃ (s : State) (x : Bool), (s.b.hkOn x = true ∧ s.rdF (hkEvt x) 0 2 ≠ 0 ∧ s.rdF (hkEvt x) 0 2 ≠ 3) ∧ (s.rdB CLK_STAT 3 = true ∧ (s.b.conv x).delay = false) :=
  ⟨st (rg tb [(HK_CTRL, 3), (HK_EVT_B, 0x501), (CLK_STAT, 8)]), true, by decide⟩
theorem wit_ThermalAndHousekeeping_11 : ∃ (s : State) (x : Bool), ((s.b.conv x).delay = true ∧ (s.b.conv x).run = none) :=
  ⟨st ({ rg tb [(HK_EVT_B, 0x501)] with hk := { tb.hk with b := { tb.hk.b with delay := true } } }), true, by decide⟩
theorem wit_ThermalAndHousekeeping_12 : ∃ (s : State) (m : Master) (v : Word), (s.b.accepts m HK_URG = true ∧ s.rdB HK_URGRES 17 = false) ∧ (s.b.hkOn (v.getLsbD 8) = true ∧ (s.b.conv (v.getLsbD 8)).run = none ∧ (s.b.conv (v.getLsbD 8)).event = none) :=
  ⟨st (rg tb [(HK_CTRL, 3)]), .pf0, 0x103, by decide⟩
theorem wit_ThermalAndHousekeeping_13 : ∃ (s : State) (x : Bool) (ch : Nat), (s.b.hkOn x = true ∧ (s.b.conv x).run = some (false, ch) ∧ ch < 48) ∧ ((s.b.conv x).event = none ∧ (s.b.conv x).host = none) :=
  ⟨st ({ rg tb [(HK_CTRL, 3)] with hk := { tb.hk with b := { tb.hk.b with run := some (false, 5) } } }), true, 5, by decide⟩
theorem wit_ThermalAndHousekeeping_14 : ∃ (s : State), (s.b.hk.check = true ∧ s.b.hk.a.run = none ∧ s.b.hk.b.run = none) ∧ (s.b.hkOn false = true ∧ s.b.hkOn true = true) :=
  ⟨st ({ rg tb [(HK_CTRL, 3)] with hk := { tb.hk with check := true } }), by decide⟩
theorem wit_LaserPins_1 : ∃ (s : State) (n : Fin 16) (cause : Fin 4), (s.b.pinFails n cause = true) :=
  ⟨st ({ rg tb [(LCO_CTRL, 1), (LCO_CFG 3, 1)] with pins := [(3, { rb := 3 })] }), 3, 2, by decide⟩
theorem wit_LaserPins_2 : ∃ (s : State) (m : Master) (n : Fin 16), (s.b.accepts m (LCO_CMD n) = true ∧ s.rdB (LCO_PSTAT n) 1 = true) ∧ (s.rdF (LCO_PSTAT n) 2 3 ≠ 4 ∨ s.rdB LCO_TIESTAT (16 + n) = false) :=
  ⟨st (rg tb [(LCO_PSTAT 3, 0xA)]), .pf0, 3, by decide⟩
theorem wit_LaserPins_3 : ∃ (s : State) (m : Master) (n : Fin 16) (v : Word), (s.b.accepts m (LCO_CFG n) = true) ∧ (s.rdB (LCO_CFG n) 0 = false ∨ s.rdB (LCO_CFG n) 1 = v.getLsbD 1) :=
  ⟨st (tb), .pf0, 3, 0x12345, by decide⟩
theorem wit_LaserPins_4 : ∃ (s : State) (m : Master) (n : Fin 16), (s.b.accepts m (LCO_SET n) = true) :=
  ⟨st (rg tb [(LCO_CFG 3, 8)]), .pf0, 3, by decide⟩
theorem wit_LaserPins_5 : ∃ (s : State) (m : Master), (s.b.accepts m LCO_TIECMD = true) ∧ (s.rdF LCO_LSTAT 0 4 = 0 ∧ s.rdB LCO_LSTAT 6 = false) :=
  ⟨st (tb), .pf0, by decide⟩
theorem wit_LaserPins_6 : ∃ (s : State) (reads : List (Fin 16 × Fin 16 × BitVec 12)), (s.rdB LCO_TIESTAT 0 = true ∧ reads.any s.b.tied = false) :=
  ⟨st (rg tb [(LCO_TIESTAT, 1)]), [], by decide⟩
theorem wit_LaserPins_7 : ∃ (s : State) (i : Fin 16) (j : Fin 16) (code : BitVec 12), (s.rdB LCO_TIESTAT 0 = true ∧ i ≠ j ∧ s.rdB LCO_CTRL 0 = true) ∧ (s.rdB (LCO_CFG i) 0 = true ∧ s.rdB (LCO_CFG j) 0 = true ∧ 64 < code.toNat) :=
  ⟨st (rg tb [(LCO_TIESTAT, 1), (LCO_CTRL, 1), (LCO_CFG 3, 1), (LCO_CFG 7, 1)]), 7, 3, by decide⟩
theorem wit_VaultOperations_1 : ∃ (s : State) (m : Master) (v : Word) (secs : List (Nat × Nat × Nat × Word)), (s.b.accepts m VLT_CMD = true ∧ (m = .pf0 ∨ m = .mionus) ∧ fld v 16 16 = 0x5AA5 ∧ s.b.vlt.job = none) ∧ (4096 ≤ (s.rd VLT_LEN).toNat ∧ (s.rd VLT_LEN).toNat ≤ 31 * 2 ^ 20 ∧ s.b.stageOk (s.rd VLT_LEN).toNat = true) ∧ (s.b.stagedHeader s.b.vltAddr (s.rd VLT_LEN).toNat = some secs ∧ (s.b.stagedSect s.b.vltAddr secs 1).ok = true ∧ (s.b.stagedSect s.b.vltAddr secs 2).ok = true) :=
  ⟨st (rg (tb.wrBytes 0 (vh ++ bytesLE 4 (crc32c vh).toNat)) [(VLT_LEN, 4096)]), .pf0, 0x5AA50001, [(1, 0, 0, 0), (2, 0, 0, 0)], by decide +kernel⟩
theorem wit_VaultOperations_2 : ∃ (s : State) (j : VJob) (x : VSlot), (s.b.vlt.job = some j ∧ j.op = 1) ∧ ((s.b.stagedSect j.addr j.secs 1).ok = true ∧ (s.b.stagedSect j.addr j.secs 2).ok = true) ∧ (s.b.inForce = some x ∧ x.prod.ok = true) :=
  ⟨st ({ tb with vlt := { (tb).vlt with job := some ⟨1, 1, 0, [(1, 0, 0, 0), (2, 0, 0, 0)], 7, 9, 0⟩ } }), ⟨1, 1, 0, [(1, 0, 0, 0), (2, 0, 0, 0)], 7, 9, 0⟩, tb.vlt.a, by decide +kernel⟩
theorem wit_VaultOperations_3 : ∃ (s : State) (m : Master) (v : Word), (s.b.accepts m VLT_CMD = true ∧ (m = .pf0 ∨ m = .mionus) ∧ fld v 16 16 = 0x5AA5 ∧ s.b.vlt.job.isSome = true) :=
  ⟨st ({ tb with vlt := { (tb).vlt with job := some ⟨1, 1, 0, [(1, 0, 0, 0), (2, 0, 0, 0)], 7, 9, 0⟩ } }), .pf0, 0x5AA50002, by decide +kernel⟩
theorem wit_VaultOperations_4 : ∃ (s : State) (m : Master) (v : Word), (s.b.accepts m VLT_CMD = true ∧ (m = .pf0 ∨ m = .mionus) ∧ fld v 16 16 = 0x5AA5 ∧ s.b.vlt.job = none) ∧ (72 ≤ (s.rd VLT_LEN).toNat ∧ (s.rd VLT_LEN).toNat ≤ 2 ^ 20 ∧ s.b.stageOk (s.rd VLT_LEN).toNat = true ∧ (s.rd VLT_LEN).toNat = 64 + 8 * s.b.rdLE (s.b.vltAddr + 8) 4) ∧ (s.b.rdLE s.b.vltAddr 4 = 0x56415354 ∧ s.b.rd32 (s.b.vltAddr + 60) = crc32c (s.b.rdBytes s.b.vltAddr 60 ++ s.b.rdBytes (s.b.vltAddr + 64) ((s.rd VLT_LEN).toNat - 64))) :=
  ⟨st (rg ((tb.wrBytes 0 vs).wrBytes 60 (bytesLE 4 (crc32c (vs ++ List.replicate 8 0)).toNat)) [(VLT_LEN, 72)]), .pf0, 0x5AA50004, by decide +kernel⟩
theorem wit_VaultOperations_5 : ∃ (s : State) (j : VJob), (s.b.vlt.job = some j ∧ j.op = 2) :=
  ⟨st ({ tb with vlt := { (tb).vlt with job := some ⟨2, 0, 0, [], 7, 9, 1⟩ } }), ⟨2, 0, 0, [], 7, 9, 1⟩, by decide⟩
theorem wit_VaultOperations_6 : ∃ (s : State) (m : Master) (v : Word) (x : VSet) (w : Word) (val : Word) (k : PageKind) (i : Nat), (s.b.accepts m VLT_CMD = true ∧ (m = .pf0 ∨ m = .mionus) ∧ fld v 16 16 = 0x5AA5 ∧ s.b.vlt.job = none ∧ s.b.vlt.newerSet = some x ∧ x.ents = [(w, val)]) ∧ (w.toNat % 4 = 0 ∧ s.b.accepts .mionus w.toNat = true ∧ s.b.target w.toNat = .page k i) ∧ ([PageKind.id_, .clk, .smb, .seq, .vec].contains k = true ∧ 0x40 ≤ w.toNat % 0x1000 ∧ ((cntTable k).any fun t => t.1 == w.toNat % 0x1000) = false) ∧ ((rowAt w.toNat).isSome = true ∧ (plainReg w.toNat val s.b).2 = true) :=
  ⟨st ({ tb with vlt := { tb.vlt with sa := ⟨true, 4, [(BitVec.ofNat 32 SMB_CFG, 9)]⟩ } }), .pf0, 0x5AA50008, ⟨true, 4, [(BitVec.ofNat 32 SMB_CFG, 9)]⟩, BitVec.ofNat 32 SMB_CFG, 9, .smb, 0, by decide +kernel⟩
theorem wit_VaultOperations_7 : ∃ (s : State) (j : VJob), (s.b.vlt.job = some j ∧ j.op = 3) :=
  ⟨st ({ tb with vlt := { (tb).vlt with job := some ⟨3, 0, 0, [], 7, 9, 1⟩ } }), ⟨3, 0, 0, [], 7, 9, 1⟩, by decide⟩
theorem wit_DaybookAccess_1 : ∃ (s : State) (m : Master), (s.b.accepts m DBK_RSEL = true) :=
  ⟨st (tb), .pf0, by decide⟩
theorem wit_DaybookAccess_2 : ∃ (s : State) (m : Master), (s.b.answers m (DBK_RENT 7) = true) :=
  ⟨st (tb), .pf0, by decide⟩
theorem wit_DaybookAccess_3 : ∃ (s : State) (m : Master) (v : Word), (s.b.accepts m DBK_HCODE = true ∧ (m = .pf0 ∨ m = .mionus) ∧ 0xF000 ≤ fld v 0 16) ∧ (((s.log.bucket (0xF000 * 256) 100 s.b.time).refill 100 s.b.time).tokens ≠ 0 ∧ s.log.ents.length < maxEnts) :=
  ⟨st (tb), .pf0, 0x3F123, by decide⟩
theorem wit_DaybookAccess_4 : ∃ (s : State) (code : BitVec 16) (inst : BitVec 8) (x : Bucket), (s.log.bks.find? (·.1 == (if 0xF000 ≤ code.toNat then 0xF000 else code.toNat) * 256 + inst.toNat) = some (((if 0xF000 ≤ code.toNat then 0xF000 else code.toNat) * 256 + inst.toNat), x)) ∧ (x.supp ≠ 0 ∧ s.log.ents.length < maxEnts) :=
  ⟨sl, 0x6101, 2, { tokens := 0, stamp := 0, supp := 4, last := [], first := [], lastFrame := 0 }, by decide⟩
theorem wit_FrameComputing_9 : ∃ (d : Desc) (adc : List (List (BitVec 8))), (passShape d adc = true) :=
  ⟨ds [0x110, 0x10000, 1, 0], [List.replicate 512 0], by decide⟩
theorem wit_FrameEngineWork_7 : ∃ (d : Desc) (adc : List (List (BitVec 8))), (dynShape d adc = true) :=
  ⟨ds [], [], by decide⟩
theorem wit_FrameEngineWork_8 : ∃ (d : Desc) (adc : List (List (BitVec 8))), (dynShape d adc = true) :=
  ⟨ds [], [], by decide⟩
theorem wit_VectorOperations_0 : ∃ (s : State) (idx : Nat) (d : Desc) (f : Frame), s.b.frm = some f ∧ s.b.vopOk idx 0 d f = true :=
  ⟨st (fq 3 (vopWit 0) fb), 3, vopWit 0, fqf 3 (vopWit 0) fr0, by decide⟩
theorem wit_VectorOperations_1 : ∃ (s : State) (idx : Nat) (d : Desc) (f : Frame), s.b.frm = some f ∧ s.b.vopOk idx 1 d f = true :=
  ⟨st (fq 3 (vopWit 1) fb), 3, vopWit 1, fqf 3 (vopWit 1) fr0, by decide⟩
theorem wit_VectorOperations_2 : ∃ (s : State) (idx : Nat) (d : Desc) (f : Frame), s.b.frm = some f ∧ s.b.vopOk idx 2 d f = true :=
  ⟨st (fq 3 (vopWit 2) fb), 3, vopWit 2, fqf 3 (vopWit 2) fr0, by decide⟩
theorem wit_VectorOperations_3 : ∃ (s : State) (idx : Nat) (d : Desc) (f : Frame), s.b.frm = some f ∧ s.b.vopOk idx 3 d f = true :=
  ⟨st (fq 3 (vopWit 3) fb), 3, vopWit 3, fqf 3 (vopWit 3) fr0, by decide⟩
theorem wit_VectorOperations_4 : ∃ (s : State) (idx : Nat) (d : Desc) (f : Frame), s.b.frm = some f ∧ s.b.vopOk idx 4 d f = true :=
  ⟨st (fq 3 (vopWit 4) fb), 3, vopWit 4, fqf 3 (vopWit 4) fr0, by decide⟩
theorem wit_VectorOperations_5 : ∃ (s : State) (idx : Nat) (d : Desc) (f : Frame), s.b.frm = some f ∧ s.b.vopOk idx 5 d f = true :=
  ⟨st (fq 3 (vopWit 5) fb), 3, vopWit 5, fqf 3 (vopWit 5) fr0, by decide⟩
theorem wit_VectorOperations_6 : ∃ (s : State) (idx : Nat) (d : Desc) (f : Frame), s.b.frm = some f ∧ s.b.vopOk idx 6 d f = true :=
  ⟨st (fq 3 (vopWit 6) fb), 3, vopWit 6, fqf 3 (vopWit 6) fr0, by decide⟩
theorem wit_VectorOperations_7 : ∃ (s : State) (idx : Nat) (d : Desc) (f : Frame), s.b.frm = some f ∧ s.b.vopOk idx 7 d f = true :=
  ⟨st (fq 3 (vopWit 7) fb), 3, vopWit 7, fqf 3 (vopWit 7) fr0, by decide⟩
theorem wit_VectorOperations_8 : ∃ (s : State) (idx : Nat) (d : Desc) (f : Frame), s.b.frm = some f ∧ s.b.vopOk idx 8 d f = true :=
  ⟨st (fq 3 (vopWit 8) fb), 3, vopWit 8, fqf 3 (vopWit 8) fr0, by decide⟩
theorem wit_VectorOperations_9 : ∃ (s : State) (idx : Nat) (d : Desc) (f : Frame), s.b.frm = some f ∧ s.b.vopOk idx 9 d f = true :=
  ⟨st (fq 3 (vopWit 9) fb), 3, vopWit 9, fqf 3 (vopWit 9) fr0, by decide⟩
theorem wit_VectorOperations_10 : ∃ (s : State) (idx : Nat) (d : Desc) (f : Frame), s.b.frm = some f ∧ s.b.vopOk idx 10 d f = true :=
  ⟨st (fq 3 (vopWit 10) fb), 3, vopWit 10, fqf 3 (vopWit 10) fr0, by decide⟩
theorem wit_VectorOperations_11 : ∃ (s : State) (idx : Nat) (d : Desc) (f : Frame), s.b.frm = some f ∧ s.b.vopOk idx 11 d f = true :=
  ⟨st (fq 3 (vopWit 11) fb), 3, vopWit 11, fqf 3 (vopWit 11) fr0, by decide⟩
theorem wit_VectorOperations_12 : ∃ (s : State) (idx : Nat) (d : Desc) (f : Frame), s.b.frm = some f ∧ s.b.vopOk idx 12 d f = true :=
  ⟨st (fq 3 (vopWit 12) fb), 3, vopWit 12, fqf 3 (vopWit 12) fr0, by decide⟩
theorem wit_VectorOperations_13 : ∃ (s : State) (idx : Nat) (d : Desc) (f : Frame), s.b.frm = some f ∧ s.b.vopOk idx 13 d f = true :=
  ⟨st (fq 3 (vopWit 13) fb), 3, vopWit 13, fqf 3 (vopWit 13) fr0, by decide⟩
theorem wit_VectorOperations_14 : ∃ (s : State) (idx : Nat) (d : Desc) (f : Frame), s.b.frm = some f ∧ s.b.vopOk idx 14 d f = true :=
  ⟨st (fq 3 (vopWit 14) fb), 3, vopWit 14, fqf 3 (vopWit 14) fr0, by decide⟩
theorem wit_VectorOperations_15 : ∃ (s : State) (idx : Nat) (d : Desc) (f : Frame), s.b.frm = some f ∧ s.b.vopOk idx 15 d f = true :=
  ⟨st (fq 3 (vopWit 15) fb), 3, vopWit 15, fqf 3 (vopWit 15) fr0, by decide⟩
theorem wit_VectorOperations_16 : ∃ (s : State) (idx : Nat) (d : Desc) (f : Frame), s.b.frm = some f ∧ s.b.vopOk idx 16 d f = true :=
  ⟨st (fq 3 (vopWit 16) fb), 3, vopWit 16, fqf 3 (vopWit 16) fr0, by decide⟩
theorem wit_VectorOperations_17 : ∃ (s : State) (idx : Nat) (d : Desc) (f : Frame), s.b.frm = some f ∧ s.b.vopOk idx 17 d f = true :=
  ⟨st (fq 3 (vopWit 17) fb), 3, vopWit 17, fqf 3 (vopWit 17) fr0, by decide⟩
theorem wit_VectorOperations_18 : ∃ (s : State) (idx : Nat) (d : Desc) (f : Frame), s.b.frm = some f ∧ s.b.vopOk idx 18 d f = true :=
  ⟨st (fq 3 (vopWit 18) fb), 3, vopWit 18, fqf 3 (vopWit 18) fr0, by decide⟩
theorem wit_VectorOperations_19 : ∃ (s : State) (idx : Nat) (d : Desc) (f : Frame), s.b.frm = some f ∧ s.b.vopOk idx 19 d f = true :=
  ⟨st (fq 3 (vopWit 19) fb), 3, vopWit 19, fqf 3 (vopWit 19) fr0, by decide⟩
theorem wit_VectorOperations_20 : ∃ (s : State) (idx : Nat) (d : Desc) (f : Frame), s.b.frm = some f ∧ s.b.vopOk idx 20 d f = true :=
  ⟨st (fq 3 (vopWit 20) fb), 3, vopWit 20, fqf 3 (vopWit 20) fr0, by decide⟩
theorem wit_VectorOperations_21 : ∃ (s : State) (idx : Nat) (d : Desc) (f : Frame), s.b.frm = some f ∧ s.b.vopOk idx 21 d f = true :=
  ⟨st (fq 3 (vopWit 21) fb), 3, vopWit 21, fqf 3 (vopWit 21) fr0, by decide⟩
theorem wit_VectorOperations_22 : ∃ (s : State) (idx : Nat) (d : Desc) (f : Frame), s.b.frm = some f ∧ s.b.vopOk idx 22 d f = true :=
  ⟨st (fq 3 (vopWit 22) fb), 3, vopWit 22, fqf 3 (vopWit 22) fr0, by decide⟩
theorem wit_VectorOperations_23 : ∃ (s : State) (idx : Nat) (d : Desc) (f : Frame), s.b.frm = some f ∧ s.b.vopOk idx 23 d f = true :=
  ⟨st (fq 3 (vopWit 23) fb), 3, vopWit 23, fqf 3 (vopWit 23) fr0, by decide⟩
theorem wit_VectorOperations_24 : ∃ (s : State) (idx : Nat) (d : Desc) (f : Frame), s.b.frm = some f ∧ s.b.vopOk idx 24 d f = true :=
  ⟨st (fq 3 (vopWit 24) fb), 3, vopWit 24, fqf 3 (vopWit 24) fr0, by decide⟩
theorem wit_VectorOperations_25 : ∃ (s : State) (idx : Nat) (d : Desc) (f : Frame), s.b.frm = some f ∧ s.b.vopOk idx 25 d f = true :=
  ⟨st (fq 3 (vopWit 25) fb), 3, vopWit 25, fqf 3 (vopWit 25) fr0, by decide⟩
theorem wit_VectorOperations_26 : ∃ (s : State) (idx : Nat) (d : Desc) (f : Frame), s.b.frm = some f ∧ s.b.vopOk idx 26 d f = true :=
  ⟨st (fq 3 (vopWit 26) fb), 3, vopWit 26, fqf 3 (vopWit 26) fr0, by decide⟩
theorem wit_VectorOperations_27 : ∃ (s : State) (idx : Nat) (d : Desc) (f : Frame), s.b.frm = some f ∧ s.b.vopOk idx 27 d f = true :=
  ⟨st (fq 3 (vopWit 27) fb), 3, vopWit 27, fqf 3 (vopWit 27) fr0, by decide⟩
theorem wit_VectorOperations_28 : ∃ (s : State) (idx : Nat) (d : Desc) (f : Frame), s.b.frm = some f ∧ s.b.vopOk idx 28 d f = true :=
  ⟨st (fq 3 (vopWit 28) fb), 3, vopWit 28, fqf 3 (vopWit 28) fr0, by decide⟩
theorem wit_VectorOperations_29 : ∃ (s : State) (idx : Nat) (d : Desc) (f : Frame), s.b.frm = some f ∧ s.b.vopOk idx 29 d f = true :=
  ⟨st (fq 3 (vopWit 29) fb), 3, vopWit 29, fqf 3 (vopWit 29) fr0, by decide⟩
theorem wit_VectorOperations_30 : ∃ (s : State) (idx : Nat) (d : Desc) (f : Frame), s.b.frm = some f ∧ s.b.vopOk idx 30 d f = true :=
  ⟨st (fq 3 (vopWit 30) fb), 3, vopWit 30, fqf 3 (vopWit 30) fr0, by decide⟩
theorem wit_VectorOperations_31 : ∃ (s : State) (idx : Nat) (d : Desc) (f : Frame), s.b.frm = some f ∧ s.b.vopOk idx 31 d f = true :=
  ⟨st (fq 3 (vopWit 31) fb), 3, vopWit 31, fqf 3 (vopWit 31) fr0, by decide⟩
theorem wit_VectorOperations_32 : ∃ (s : State) (idx : Nat) (d : Desc) (f : Frame), s.b.frm = some f ∧ s.b.vopOk idx 32 d f = true :=
  ⟨st (fq 3 (vopWit 32) fb), 3, vopWit 32, fqf 3 (vopWit 32) fr0, by decide⟩
theorem wit_VectorOperations_33 : ∃ (s : State) (idx : Nat) (d : Desc) (f : Frame), s.b.frm = some f ∧ s.b.vopOk idx 33 d f = true :=
  ⟨st (fq 3 (vopWit 33) fb), 3, vopWit 33, fqf 3 (vopWit 33) fr0, by decide⟩
theorem wit_VectorOperations_34 : ∃ (s : State) (idx : Nat) (d : Desc) (f : Frame), s.b.frm = some f ∧ s.b.vopOk idx 34 d f = true :=
  ⟨st (fq 3 (vopWit 34) fb), 3, vopWit 34, fqf 3 (vopWit 34) fr0, by decide⟩
theorem wit_VectorOperations_35 : ∃ (s : State) (idx : Nat) (d : Desc) (f : Frame), s.b.frm = some f ∧ s.b.vopOk idx 35 d f = true :=
  ⟨st (fq 3 (vopWit 35) fb), 3, vopWit 35, fqf 3 (vopWit 35) fr0, by decide⟩
theorem wit_VectorOperations_36 : ∃ (s : State) (idx : Nat) (d : Desc) (f : Frame), s.b.frm = some f ∧ s.b.vopOk idx 36 d f = true :=
  ⟨st (fq 3 (vopWit 36) fb), 3, vopWit 36, fqf 3 (vopWit 36) fr0, by decide⟩
theorem wit_VectorOperations_37 : ∃ (s : State) (idx : Nat) (d : Desc) (f : Frame), s.b.frm = some f ∧ s.b.vopOk idx 37 d f = true :=
  ⟨st (fq 3 (vopWit 37) fb), 3, vopWit 37, fqf 3 (vopWit 37) fr0, by decide⟩
theorem wit_VectorOperations_38 : ∃ (s : State) (idx : Nat) (d : Desc) (f : Frame), s.b.frm = some f ∧ s.b.vopOk idx 38 d f = true :=
  ⟨st (fq 3 (vopWit 38) fb), 3, vopWit 38, fqf 3 (vopWit 38) fr0, by decide⟩
theorem wit_VectorOperations_39 : ∃ (s : State) (idx : Nat) (d : Desc) (f : Frame), s.b.frm = some f ∧ s.b.vopOk idx 39 d f = true :=
  ⟨st (fq 3 (vopWit 39) fb), 3, vopWit 39, fqf 3 (vopWit 39) fr0, by decide⟩
theorem wit_VectorOperations_40 : ∃ (s : State) (idx : Nat) (d : Desc) (f : Frame), s.b.frm = some f ∧ s.b.vopOk idx 40 d f = true :=
  ⟨st (fq 3 (vopWit 40) fb), 3, vopWit 40, fqf 3 (vopWit 40) fr0, by decide⟩
theorem wit_VectorOperations_41 : ∃ (s : State) (idx : Nat) (d : Desc) (f : Frame), s.b.frm = some f ∧ s.b.vopOk idx 41 d f = true :=
  ⟨st (fq 3 (vopWit 41) fb), 3, vopWit 41, fqf 3 (vopWit 41) fr0, by decide⟩
theorem wit_VectorOperations_42 : ∃ (s : State) (idx : Nat) (d : Desc) (f : Frame), s.b.frm = some f ∧ s.b.vopOk idx 42 d f = true :=
  ⟨st (fq 3 (vopWit 42) fb), 3, vopWit 42, fqf 3 (vopWit 42) fr0, by decide⟩
theorem wit_VectorOperations_43 : ∃ (s : State) (idx : Nat) (d : Desc) (f : Frame), s.b.frm = some f ∧ s.b.vopOk idx 43 d f = true :=
  ⟨st (fq 3 (vopWit 43) fb), 3, vopWit 43, fqf 3 (vopWit 43) fr0, by decide⟩
theorem wit_VectorOperations_44 : ∃ (s : State) (idx : Nat) (d : Desc) (f : Frame), s.b.frm = some f ∧ s.b.vopOk idx 44 d f = true :=
  ⟨st (fq 3 (vopWit 44) fb), 3, vopWit 44, fqf 3 (vopWit 44) fr0, by decide⟩
theorem wit_VectorOperations_45 : ∃ (s : State) (idx : Nat) (d : Desc) (f : Frame), s.b.frm = some f ∧ s.b.vopOk idx 45 d f = true :=
  ⟨st (fq 3 (vopWit 45) fb), 3, vopWit 45, fqf 3 (vopWit 45) fr0, by decide⟩
theorem wit_VectorOperations_46 : ∃ (s : State) (idx : Nat) (d : Desc) (f : Frame), s.b.frm = some f ∧ s.b.vopOk idx 46 d f = true :=
  ⟨st (fq 3 (vopWit 46) fb), 3, vopWit 46, fqf 3 (vopWit 46) fr0, by decide⟩
theorem wit_VectorOperations_47 : ∃ (s : State) (idx : Nat) (d : Desc) (f : Frame), s.b.frm = some f ∧ s.b.vopOk idx 47 d f = true :=
  ⟨st (fq 3 (vopWit 47) fb), 3, vopWit 47, fqf 3 (vopWit 47) fr0, by decide⟩
theorem wit_StepRunsFront_1 : ∃ (c : Instr) (r : List Instr) (s : State), s.pending = c :: r :=
  ⟨.dieRelease, [.powerOnReset], { st tb with pending := [.dieRelease, .powerOnReset] }, by decide⟩
theorem wit_StepRunsFront_2 : ∃ s : State, s.pending = [] := ⟨State.reset, by decide⟩

theorem wit_StepKeepsInvariant : ∃ s t : State, s.inv ∧ step s = .next t :=
  ⟨State.reset, State.reset.tick, by refine ⟨⟨?_, ?_⟩, ?_⟩ <;> simp [State.reset, Block.reset], rfl⟩

theorem wit_CommandsComplete_1 : ∃ (c : Instr) (s : State), c.wellFormed = true ∧ s.pending = [] := ⟨.dieRelease, st tb, by decide⟩
theorem wit_CommandsComplete_2 : ∃ (d : Desc) (adc : List (List (BitVec 8))), passShape d adc = false ∧ dynShape d adc = false :=
  ⟨ds [], [[1]], by decide⟩

theorem wit_RegisterPath_1 : ∃ (s : State) (m : Master), mapped m 0xB040 = some 0xB040 ∧ s.b.cutOff m = true :=
  ⟨st (rg tb [(RST_STAT, 8)]), .pf0, by decide⟩
theorem wit_RegisterPath_2 : ∃ (s : State) (m : Master), mapped m 0xB040 = some 0xB040 ∧ s.b.cutOff m = false ∧ s.b.asleep m = true :=
  ⟨st { tb with host := { tb.host with pf0D3 := true } }, .pf0, by decide⟩
theorem wit_RegisterPath_3 : ∃ (s : State), s.b.cutOff .pf1 = false ∧ s.b.asleep .pf1 = false ∧
    mapped .pf1 0x40 = some 0x1040 ∧ barred .pf1 0x1040 = true := ⟨st tb, by decide⟩
theorem wit_RegisterPath_4 : ∃ (s : State) (m : Master), m ≠ .pf1 ∧ s.b.cutOff m = false ∧ s.b.asleep m = false ∧
    s.b.reach m 0xC000 = .unmapped ∧ s.b.domUp .control = true := ⟨st tb, .pf0, by decide⟩
theorem wit_RegisterPath_5 : ∃ (s : State) (m : Master), m ≠ .pf1 ∧ s.b.cutOff m = false ∧ s.b.asleep m = false ∧
    s.b.reach m 0x800040 = .down ∧ s.b.domUp .control = true := ⟨st (rg tb [(PWR_RAIL, 0x5FF)]), .pf0, by decide⟩
theorem wit_RegisterPath_6 : ∃ (s : State), s.b.cutOff .smbus = false ∧ s.b.asleep .smbus = false ∧
    s.b.reach .smbus 0x1040 = .ok ∧ barred .smbus 0x1040 = true := ⟨st tb, by decide⟩

/-- A full Daybook of entries of severity `v`. -/
def fullLog (v : Nat) : Daybook :=
  { ents := (List.range 16384).map fun i => ⟨BitVec.ofNat 32 i, 0x6101, v, false, 0, 0, 0, 0, 0, []⟩, next := 16384, bks := [] }
/-- An entry of severity 4. -/
def ent4 (q : BitVec 32) : LogEnt := ⟨q, 0x6101, 4, false, 0, 0, 0, 0, 0, []⟩
theorem wit_DaybookRules_1 : ∃ d : Daybook, d.ents.length < maxEnts := ⟨State.reset.log, by decide⟩
theorem wit_DaybookRules_2 : ∃ (d : Daybook) (mk : BitVec 32 → LogEnt), maxEnts ≤ d.ents.length ∧
    d.ents.Pairwise (fun x y => x.seq.toNat < y.seq.toNat) ∧ ∃ e ∈ d.ents, e.sev ≤ (mk d.next).sev := by
  refine ⟨fullLog 2, ent4, by simp [fullLog, maxEnts], ?_, ?_⟩
  · simp only [fullLog, List.pairwise_map]
    refine List.Pairwise.imp_of_mem (R := (· < ·)) (fun ha hb h => ?_) List.pairwise_lt_range
    simp only [List.mem_range] at ha hb
    simp only [BitVec.toNat_ofNat]
    omega
  · exact ⟨_, List.mem_map.2 ⟨0, by simp, rfl⟩, by decide⟩
theorem wit_DaybookRules_3 : ∃ (d : Daybook) (mk : BitVec 32 → LogEnt), maxEnts ≤ d.ents.length ∧ (mk d.next).sev < 8 ∧
    ∀ e ∈ d.ents, (mk d.next).sev < e.sev := by
  refine ⟨fullLog 6, ent4, by simp [fullLog, maxEnts], by decide, ?_⟩
  intro e he
  simp only [fullLog, List.mem_map] at he
  obtain ⟨i, -, rfl⟩ := he
  show (4 : Nat) < 6
  decide
theorem wit_DaybookRules_4 : ∃ (d : Daybook) (b : Block) (v : Ev), (evInfo v.code).2 ≠ 0 ∧
    ((d.bucket ((if 0xF000 ≤ v.code then 0xF000 else v.code) * 256 + v.inst) (evInfo v.code).2 b.time).refill
      (evInfo v.code).2 b.time).tokens = 0 :=
  ⟨{ ents := [], next := 0, bks := [(0x6101 * 256, ⟨0, 0, 0, [], [], 0⟩)] }, tb, ⟨0x6101, 0, [], none, none⟩, by decide⟩
theorem wit_DaybookRules_5 : ∃ (c : Instr) (s t : State), c ≠ .powerOnReset ∧ exec c s = .next t :=
  ⟨.dieRelease, st tb, (st tb).run dieRelease, by decide, rfl⟩

theorem wit_SteerRefusals_1 : ∃ (s : State) (m : Master), s.b.accepts m LNK_STEER = true ∧ s.b.vyv.steer.isSome = true :=
  ⟨st { tb with vyv := { tb.vyv with steer := some (3, 3, 33) } }, .pf0, by decide⟩
theorem wit_SteerRefusals_2 : ∃ (s : State) (m : Master) (v : Word), s.b.accepts m LNK_STEER = true ∧ 40 ≤ fld v 8 6 :=
  ⟨st tb, .pf0, 0x80002805, by decide⟩
theorem wit_SteerRefusals_3 : ∃ (s : State) (m : Master) (v : Word), s.b.accepts m LNK_STEER = true ∧
    ∃ l : Fin 32, s.rdF (LNK_L_FMAP l) 0 6 = fld v 8 6 := ⟨st tb, .pf0, 0x80001F05, by decide, 31, by decide⟩

/-- A block during a save. -/
def svb : Block := { tb with pw := { tb.pw with phase := .saving, saving := some { seq := 0, dur := 0, ents := [], vaultSeq := (0, 0), vjob := none, rolls := [], marks := [], trims := [], parks := [], tlast := [] } } }
theorem wit_SaveToItsEnd_1 : ∃ s : State, s.b.pw.phase = .saving ∧ s.b.pw.saving.isSome = true := ⟨st svb, by decide⟩
theorem wit_SaveToItsEnd_2 : ∃ s : State, s.b.pw.phase ≠ .saving := ⟨st tb, by decide⟩


end Sys2Proof.Tests
end

section
/-! SUPPORT. What a command's own effect shows of after the command (`settle` only adds outputs), and how a statement about
one command is reached from its effect. -/

namespace Sys2Proof.Machine

/-! ## What a command answers -/

/-- A command that completes with effect `f` gives what holds after `f`. -/
theorem Gives.of_done {c : Instr} {s : State} {P : State → Prop} {f : Block → Block} (h : exec c s = s.done f)
    (hP : P (s.run f)) : Gives c s P := ⟨_, h, hP⟩

theorem Gives.mono {c : Instr} {s : State} {P Q : State → Prop} (h : Gives c s P) (hPQ : ∀ t, P t → Q t) :
    Gives c s Q :=
  let ⟨t, ht, hP⟩ := h
  ⟨t, ht, hPQ t hP⟩

/-- Only what the effect does to the block it finds matters. -/
theorem run_congr {s : State} {f g : Block → Block} (h : f s.b.fresh = g s.b.fresh) : s.run f = s.run g := by
  simp only [State.run, h]

/-- A write that reaches its register gives what holds after the register's own effect, counted. -/
theorem Gives.of_gate {c : Instr} {s : State} {P : State → Prop} {m : Master} {off : Nat} {eff : Block → Block × Bool}
    {b' : Block} {acted : Bool} (h : exec c s = s.done fun b => b.gate m off eff) (ha : s.b.accepts m off = true)
    (he : eff s.b.fresh = (b', acted)) (hP : P (s.run fun _ => b'.counted off acted)) : Gives c s P := by
  have hgate : s.b.fresh.gate m off eff = b'.counted off acted := by
    rw [gate_accepts ((fresh_accepts ..).trans ha), he]
  rw [State.done, run_congr (g := fun _ => b'.counted off acted) hgate] at h
  exact ⟨_, h, hP⟩

theorem fresh_answers (b : Block) (m : Master) (off : Nat) : b.fresh.answers m off = b.answers m off := by
  cases m <;> rfl

/-- A read that reaches its register has the register's own effect, and its word goes back to its master. -/
theorem readReply_answers {b : Block} {m : Master} {off : Nat} (h : b.answers m off = true)
    {eff : Block → Block × RdAns} {b' : Block} {w : Word} (he : eff b = (b', .word w)) :
    b.readReply m off eff = b'.send (.data m [w]) := by
  simp only [Block.answers, Bool.and_eq_true, Bool.or_eq_true, Bool.not_eq_true', bne_iff_ne, beq_iff_eq] at h
  obtain ⟨⟨⟨hcut, hasleep⟩, hpf1⟩, hreach⟩ := h
  have hmirror : ¬ (m = .pf1 ∧ (!b.reaches m off) = true) := by
    rintro ⟨hm, hr⟩
    obtain h | h := hpf1
    · exact h hm
    · simp [h] at hr
  simp only [Block.readReply, Block.readAt, hcut, hasleep, hmirror, hreach, he, if_false, Bool.false_eq_true]

/-- A read that reaches its register gives what holds after the register's own effect, its word sent. -/
theorem Gives.of_read {c : Instr} {s : State} {P : State → Prop} {m : Master} {off : Nat} {eff : Block → Block × RdAns}
    {b' : Block} {w : Word} (h : exec c s = s.done fun b => b.readReply m off eff) (ha : s.b.answers m off = true)
    (he : eff s.b.fresh = (b', .word w)) (hP : P (s.run fun _ => b'.send (.data m [w]))) : Gives c s P := by
  rw [State.done, run_congr (g := fun _ => b'.send (.data m [w])) (readReply_answers ((fresh_answers ..).trans ha) he)] at h
  exact ⟨_, h, hP⟩

/-! ## Outputs -/

theorem enter_out (d : Daybook) (b : Block) (mk : BitVec 32 → LogEnt) : (enter d b mk).2.out = b.out := by
  unfold enter
  simp only
  split
  · exact Block.when_keep _ (·.out) _ _ rfl
  · split
    · exact Block.when_keep _ (·.out) _ _ rfl
    · rfl

/-- An event is entered, or suppressed by its rate limit and counted (R536). -/
theorem logEv_cases (d : Daybook) (b : Block) (v : Ev) :
    (∃ d' mk, logEv d b v = enter d' b mk) ∨ ∃ d', logEv d b v = (d', b.bump DBK_SUPPCNT) := by
  unfold logEv
  generalize (if 0xF000 ≤ v.code then 0xF000 else v.code) * 256 + v.inst = k
  simp only
  split
  · exact .inl ⟨_, _, rfl⟩
  · split
    · exact .inr ⟨_, rfl⟩
    · exact .inl ⟨_, _, rfl⟩

theorem logEv_out (d : Daybook) (b : Block) (v : Ev) : (logEv d b v).2.out = b.out := by
  obtain ⟨d', mk, h⟩ | ⟨d', h⟩ := logEv_cases d b v <;> rw [h]
  · exact enter_out ..
  · rfl

theorem logAll_out (d : Daybook) (b : Block) (evs : List Ev) : (logAll d b evs).2.out = b.out := by
  unfold logAll
  generalize evs.foldl (fun l v => evInsert v l) [] = l
  induction l generalizing d b with
  | nil => rfl
  | cons v l ih => exact (ih ..).trans (logEv_out ..)

theorem mem_out_send {b : Block} {x : Output} (h : x ∈ b.out) (y : Output) : x ∈ (b.send y).out :=
  List.mem_append_left _ h

@[simp] theorem Block.mem_out_send_self (b : Block) (x : Output) : x ∈ (b.send x).out :=
  List.mem_append_right _ (List.mem_singleton.2 rfl)

theorem mem_out_signal {b : Block} {x : Output} (h : x ∈ b.out) (v : Nat) : x ∈ (b.signal v).out := by
  unfold Block.signal
  split
  · exact h
  · simp only
    split
    · exact h
    · exact mem_out_send h _

theorem mem_out_signalAll {b : Block} {x : Output} (h : x ∈ b.out) : x ∈ b.signalAll.out := by
  unfold Block.signalAll
  generalize b.conditions = l
  induction l generalizing b with
  | nil => exact h
  | cons v l ih => exact ih (mem_out_signal h v)

/-- What the effect of a command sends is among the outputs of the command. -/
theorem mem_out_run {s : State} {f : Block → Block} {x : Output} (h : x ∈ (f s.b.fresh).out) : x ∈ (s.run f).b.out :=
  mem_out_signalAll ((logAll_out s.log { f s.b.fresh with evs := [] } (f s.b.fresh).evs).symm ▸ h)

/-! ## The host interface and memory after a command -/

theorem run_host (s : State) (f : Block → Block) :
    (s.run f).b.host = { (f s.b.fresh).host with armed := (s.run f).b.host.armed, pend := (s.run f).b.host.pend } := by
  conv_lhs => rw [(run_logOnly s f).rest]

theorem run_timeHi (s : State) (f : Block → Block) : (s.run f).b.host.timeHi = (f s.b.fresh).host.timeHi := by
  rw [run_host]
theorem run_aonHi (s : State) (f : Block → Block) : (s.run f).b.host.aonHi = (f s.b.fresh).host.aonHi := by
  rw [run_host]
theorem run_dma (s : State) (f : Block → Block) (c : Nat) : (s.run f).b.dma c = (f s.b.fresh).dma c := by
  unfold Block.dma
  rw [run_host]

theorem run_memDef (s : State) (f : Block → Block) : (s.run f).b.memDef = (f s.b.fresh).memDef := by
  funext a
  simp only [Block.memDef, run_hbmGen, run_grade]
theorem run_rd8 (s : State) (f : Block → Block) (a : Nat) : (s.run f).b.rd8 a = (f s.b.fresh).rd8 a := by
  simp only [Block.rd8, run_mem, run_memDef]

theorem counted_dma (b : Block) (off : Nat) (a : Bool) (c : Nat) : (b.counted off a).dma c = b.dma c := by
  rw [counted_rest]; rfl
theorem counted_rd8 (b : Block) (off : Nat) (a : Bool) (j : Nat) : (b.counted off a).rd8 j = b.rd8 j := by
  rw [counted_rest]; rfl

/-! ## Registers that logging never writes -/

theorem pageAt_of_mem_logRegs {o : Nat} (h : o ∈ logRegs) : pageAt o = some (.dbk, 0) := by
  simp only [logRegs, List.mem_cons, List.not_mem_nil, or_false] at h
  obtain rfl | rfl | rfl | rfl | rfl := h <;> rfl

/-- A register of another page than the Daybook's is not one that logging writes. -/
theorem not_mem_logRegs {o : Nat} {k : PageKind} {i : Nat} (h : pageAt o = some (k, i)) (hk : k ≠ .dbk) :
    o ∉ logRegs := by
  intro hm
  exact hk (congrArg Prod.fst (Option.some.inj (h.symm.trans (pageAt_of_mem_logRegs hm))))

theorem pageAt_of_mem_errRegs {o : Nat} (h : o ∈ errRegs) : pageAt o = some (.glb, 0) := by
  simp only [errRegs, List.mem_cons, List.not_mem_nil, or_false] at h
  obtain rfl | rfl | rfl | rfl | rfl := h <;> rfl

theorem not_mem_errRegs {o : Nat} {k : PageKind} {i : Nat} (h : pageAt o = some (k, i)) (hk : k ≠ .glb) :
    o ∉ errRegs := by
  intro hm
  exact hk (congrArg Prod.fst (Option.some.inj (h.symm.trans (pageAt_of_mem_errRegs hm))))

/-- An offset that leads to a page register lies in that page. -/
theorem pageAt_of_target {b : Block} {o : Nat} {k : PageKind} {i : Nat} (h : b.target o = .page k i) :
    pageAt o = some (k, i) := by
  unfold Block.target at h
  split at h
  · next hp => simpa [hp] using h
  · exfalso
    simp only at h
    repeat' split at h
    all_goals exact Target.noConfusion h

/-! ## The error records (R450) -/

/-- Recording an access changes the error records alone. -/
theorem recErr_rd (b : Block) (k m addr : Nat) (write : Bool) {o : Nat} (h : o ∉ errRegs) :
    (b.recErr k m addr write).rd o = b.rd o := by
  simp only [errRegs, List.mem_cons, List.not_mem_nil, or_false, not_or] at h
  obtain ⟨herr, hlo, hhi, hcnt, histat⟩ := h
  unfold Block.recErr
  split
  · rfl
  · simp only
    rw [Block.rd_raise_ne _ _ histat, Block.when_keep _ (·.rd o) _ _ ?_]
    · rw [Block.rd_bump_ne _ _ hcnt, Block.rd_setB_ne _ _ herr]
    · simp only [Block.rd_wr_ne _ _ hhi, Block.rd_wr_ne _ _ hlo, Block.rd_wrF_ne _ _ _ _ herr]

theorem Block.rdB_wr_ne (b : Block) {o j : Nat} (v : Word) (i : Nat) (h : j ≠ o) : (b.wr o v).rdB j i = b.rdB j i :=
  congrArg (bit · i) (b.rd_wr_ne v h)

/-- A bit beside a field written in its register. -/
theorem Block.rdB_wrF_ne (b : Block) (o lo w x i : Nat) (h : lo + w ≤ 32) (hi : i < lo ∨ lo + w ≤ i) :
    (b.wrF o lo w x).rdB o i = b.rdB o i := by
  simp only [Block.rdB, bit, Block.rd_wrF, setFld_getLsbD _ _ _ _ _ h]
  rw [if_neg (by omega)]

/-- An access recorded while the control die is up sets its status bit. -/
theorem recErr_rdB (b : Block) {k : Nat} (m addr : Nat) (write : Bool) (hk : k < 4) (hup : b.domUp .control = true) :
    (b.recErr k m addr write).rdB GLB_ERR k = true := by
  have hbump : ((b.setB GLB_ERR k).bump GLB_ERRCNT).rdB GLB_ERR k = true :=
    (Block.rdB_wr_ne _ _ k (by decide)).trans (b.rdB_setB _ _ (by omega))
  unfold Block.recErr
  simp only [hup, Bool.not_true, Bool.false_eq_true, if_false]
  refine (Block.rdB_wr_ne _ _ k (by decide)).trans ((Block.when_keep _ (·.rdB GLB_ERR k) _ _ ?_).trans hbump)
  rw [Block.rdB_wr_ne _ _ k (by decide), Block.rdB_wr_ne _ _ k (by decide),
    Block.rdB_wrF_ne _ _ _ _ _ k (by omega) (by omega), Block.rdB_wrF_ne _ _ _ _ _ k (by omega) (by omega)]

end Sys2Proof.Machine
end

section
/-! SUPPORT. The module right after power-on reset (R14, R461). -/

namespace Sys2Proof.Machine

/-- After power-on reset no register is listed, so each reads as its map has it (R14, R461). -/
theorem reset_rd (o : Nat) : State.reset.rd o = regDefault o := rfl

theorem reset_inv : State.reset.inv := ⟨⟨Nat.zero_le _, fun _ h => absurd h List.not_mem_nil⟩, rfl⟩

theorem regDefault_htrIlim : ∀ m : Fin 4, regDefault (HTR_ILIM m) = 2000 := by decide
theorem regDefault_engCfg : ∀ e : Fin 64, regDefault (ENG_CFG e) = 3 := by decide

/-- Settles O54: the state is written out, and every register reads as `regDefault` has it. -/
theorem resetState : Obligations.ResetState := by
  unfold Obligations.ResetState
  refine ⟨rfl, reset_inv, rfl, rfl, rfl, rfl, reset_rd, fun m => (reset_rd _).trans (regDefault_htrIlim m), ?_, ?_, ?_, ?_,
    ?_, ?_, fun e => (reset_rd _).trans (regDefault_engCfg e)⟩
  all_goals
    rw [reset_rd]
    decide

end Sys2Proof.Machine
end

section
/-! SUPPORT. REGISTER_WRITE of a page register (R11, R425): whole words go by access codes on the pages that have no
effects of their own, partial byte enables are ignored and recorded. -/

namespace Sys2Proof.Machine

/-- A REGISTER_WRITE that is no write of `VLT_CMD` is a write of the bus (R11). -/
theorem exec_registerWrite {m : Master} {off : BitVec 26} {o : Nat} (h : mapped m (off.toNat / 4 * 4) = some o)
    {be : BitVec 4} (hv : ¬ (o = VLT_CMD ∧ be = 15)) (v : Word) (ecc : Ecc) (s : State) :
    exec (.registerWrite m off v be ecc) s = s.done fun b => (busWrite m s.log ecc o v be b).1 := by
  show execRegisterWrite m off v be ecc s = _
  simp only [execRegisterWrite, h, busWriteAll, hv, if_false]

/-- A whole-word write of a mapped page register has the register's effect and is counted. -/
theorem busWrite_page {b : Block} {m : Master} {o : Nat} {k : PageKind} {i : Nat} (ha : b.accepts m o = true)
    (ht : b.target o = .page k i) (hrow : (rowAt o).isSome = true) (d : Daybook) (x : Ecc) (v : Word) :
    (busWrite m d x o v 15 b).1 = (regWrite m d x k i (o / 0x1000 * 0x1000) (o % 0x1000) v b).1.counted o
      (regWrite m d x k i (o / 0x1000 * 0x1000) (o % 0x1000) v b).2 := by
  obtain ⟨r, hr⟩ := Option.isSome_iff_exists.1 hrow
  refine (gate_accepts ha _).trans ?_
  simp only [ht, hr, ne_eq, not_true, if_false]

/-- A write of a page register with partial byte enables is recorded, and that is all (R425, R450). -/
theorem busWrite_partial {b : Block} {m : Master} {o : Nat} {k : PageKind} {i : Nat} (ha : b.accepts m o = true)
    (ht : b.target o = .page k i) {be : BitVec 4} (hbe : be ≠ 15) (d : Daybook) (x : Ecc) (v : Word) :
    (busWrite m d x o v be b).1 = (partialWrite m o b).1 := by
  refine (gate_accepts ha _).trans ?_
  simp only [ht, hbe, ne_eq, not_false_eq_true, if_true, partialWrite, Block.counted, Bool.false_and, Bool.false_eq_true,
    if_false]

/-- What a write by access codes leaves in its register (R11, R437). -/
theorem plainReg_rd {o : Nat} {r : RegRow} (hr : rowAt o = some r) (v : Word) (b : Block) :
    (plainReg o v b).1.rd o = (plainWrite r (b.rdB (PG_LOCK (o / 0x1000 * 0x1000)) 0) (b.rd o) v).1 := by
  simp only [plainReg, hr, Block.rd_wr_same]

/-- The pages whose registers behind the header, but for `CNTCLR`, have no effect of their own. -/
theorem regWrite_plain {k : PageKind} (hk : [PageKind.id_, .clk, .smb, .seq, .vec].contains k = true) {o : Nat}
    (ho : 0x40 ≤ o) (hc : ((cntTable k).any fun t => t.1 == o) = false) (m : Master) (d : Daybook) (x : Ecc) (i p : Nat)
    (v : Word) (b : Block) : regWrite m d x k i p o v b = plainReg (p + o) v b := by
  have hhdr : o ≠ 0x08 ∧ o ≠ 0x18 ∧ o ≠ 0x1C ∧ o ≠ 0x24 ∧ ¬ o < 0x40 := by omega
  obtain ⟨h08, h18, h1C, h24, h40⟩ := hhdr
  unfold regWrite
  simp only [h08, h18, h1C, h24, h40, hc, if_false, Bool.false_eq_true]
  simp only [List.contains_eq_mem, List.mem_cons, List.not_mem_nil, or_false, decide_eq_true_eq] at hk
  obtain rfl | rfl | rfl | rfl | rfl := hk <;> rfl

/-! ## What REGISTER_WRITE gives -/

/-- A whole word to a register that has no effect of its own (R11). -/
theorem registerWrite_plain_gives (s : State) (m : Master) (off : BitVec 26) (v : Word) (ecc : Ecc) {o : Nat} {k : PageKind}
    {i : Nat} (hm : mapped m (off.toNat / 4 * 4) = some o) (ha : s.b.accepts m o = true)
    (ht : s.b.target o = .page k i) (hk : [PageKind.id_, .clk, .smb, .seq, .vec].contains k = true)
    (hrow : (rowAt o).isSome = true) (ho : 0x40 ≤ o % 0x1000)
    (hc : ((cntTable k).any fun t => t.1 == o % 0x1000) = false) :
    Gives (.registerWrite m off v 15 ecc) s fun t => t.rd o = (plainReg o v s.b).1.rd o := by
  have hp := pageAt_of_target ht
  have hne : k ≠ .dbk ∧ k ≠ .vlt := by
    constructor <;> rintro rfl <;> exact absurd hk (by decide)
  obtain ⟨hdbk, hvlt⟩ := hne
  have hcmd : o ≠ VLT_CMD := by
    rintro rfl
    exact hvlt (congrArg Prod.fst (Option.some.inj (hp.symm.trans rfl)))
  have hseq : o ≠ PG_SEQ (o / 0x1000 * 0x1000) := by unfold PG_SEQ; omega
  refine Gives.of_done (exec_registerWrite hm (fun h => hcmd h.1) v ecc s) ?_
  show (s.run _).b.rd o = _
  rw [run_rd _ _ (not_mem_logRegs hp hdbk), busWrite_page ((fresh_accepts ..).trans ha) ht hrow, counted_rd _ _ _ hseq,
    regWrite_plain hk ho hc, Nat.div_add_mod']
  obtain ⟨r, hr⟩ := Option.isSome_iff_exists.1 hrow
  rw [plainReg_rd hr, plainReg_rd hr]
  rfl

/-- Partial byte enables on a page register (R425, R450). -/
theorem registerWrite_partial_gives (s : State) (m : Master) (off : BitVec 26) (v : Word) (be : BitVec 4) (ecc : Ecc)
    {o : Nat} {k : PageKind} {i : Nat} (hm : mapped m (off.toNat / 4 * 4) = some o) (ha : s.b.accepts m o = true)
    (ht : s.b.target o = .page k i) (hbe : be ≠ 15) (hglb : k ≠ .glb) (hdbk : k ≠ .dbk)
    (hup : s.b.domUp .control = true) :
    Gives (.registerWrite m off v be ecc) s fun t => t.rd o = s.rd o ∧ t.rdB GLB_ERR 2 = true := by
  have hp := pageAt_of_target ht
  refine Gives.of_done (exec_registerWrite hm (fun h => hbe h.2) v ecc s) ⟨?_, ?_⟩
  · show (s.run _).b.rd o = s.b.rd o
    rw [run_rd _ _ (not_mem_logRegs hp hdbk), busWrite_partial ((fresh_accepts ..).trans ha) ht hbe]
    exact recErr_rd s.b.fresh 2 m.id o true (not_mem_errRegs hp hglb)
  · show bit ((s.run _).b.rd GLB_ERR) 2 = true
    rw [run_rd _ _ (by decide), busWrite_partial ((fresh_accepts ..).trans ha) ht hbe]
    exact recErr_rdB s.b.fresh m.id o true (by decide) hup

end Sys2Proof.Machine
end

section
/-! SUPPORT. Reads of the low time words (R311, R479), bytes stored with byte enables (R425), and the frame-program window
(R305, R432). -/

namespace Sys2Proof.Machine

/-! ## Times -/

/-- A read of `MSQ_TIME_LO` (R311). -/
theorem msqTimeLoRead_gives (s : State) (m : Master) (ha : s.b.answers m MSQ_TIME_LO = true) :
    Gives (.msqTimeLoRead m) s fun t =>
      Output.data m [s.b.time.setWidth 32] ∈ t.b.out ∧ t.b.host.timeHi = s.b.time.extractLsb' 32 32 :=
  Gives.of_read (eff := msqTimeRead) rfl ha rfl ⟨mem_out_run (Block.mem_out_send_self ..), run_timeHi ..⟩

/-- A read of `CLK_AONTIME_LO` (R479). -/
theorem clkAontimeLoRead_gives (s : State) (m : Master) (ha : s.b.answers m CLK_AONTIME_LO = true) :
    Gives (.clkAontimeLoRead m) s fun t => Output.data m [s.b.aon.setWidth 32] ∈ t.b.out ∧
      t.b.host.aonHi = (s.b.aon.extractLsb' 32 16).setWidth 32 :=
  Gives.of_read (eff := aonTimeRead) rfl ha rfl ⟨mem_out_run (Block.mem_out_send_self ..), run_aonHi ..⟩

/-! ## Byte enables -/

/-- One byte lane of a write: stored when it is enabled. -/
def Block.wrLane (b : Block) (a : Nat) (o : Option Byte) : Block :=
  match o with
  | some v => b.wrBytes a [v]
  | none => b

theorem Block.wrEnabled_eq_each (b : Block) (a : Nat) (bs : List (Option Byte)) :
    b.wrEnabled a bs = b.each (bs.zip (List.range bs.length)) fun b q => b.wrLane (a + q.2) q.1 := rfl

theorem rd8_wrLane_same (b : Block) (a : Nat) (o : Option Byte) : (b.wrLane a o).rd8 a = o.getD (b.rd8 a) := by
  cases o with
  | none => rfl
  | some v => exact rd8_wrBytes_in b a [v] 0 (by simp)

theorem rd8_wrLane_ne (b : Block) {a j : Nat} (o : Option Byte) (h : j ≠ a) : (b.wrLane a o).rd8 j = b.rd8 j := by
  cases o with
  | none => rfl
  | some v => exact rd8_wrBytes_out b a [v] j (by simp; omega)

/-- Byte lanes stored from offset `n` on. -/
theorem rd8_each_wrLane (bs : List (Option Byte)) (a n j : Nat) (b : Block) :
    (b.each (bs.zip (List.range' n bs.length)) fun b q => b.wrLane (a + q.2) q.1).rd8 j =
      if a + n ≤ j then (bs[j - (a + n)]?.join).getD (b.rd8 j) else b.rd8 j := by
  induction bs generalizing n b with
  | nil => simp
  | cons o bs ih =>
    simp only [List.length_cons, List.range'_succ, List.zip_cons_cons, Block.each_cons]
    rw [ih]
    obtain hlt | rfl | hgt := Nat.lt_trichotomy j (a + n)
    · rw [if_neg (by omega), if_neg (by omega), rd8_wrLane_ne _ _ (by omega)]
    · rw [if_neg (by omega), if_pos (Nat.le_refl _), rd8_wrLane_same]
      simp
    · have hidx : j - (a + n) = j - (a + (n + 1)) + 1 := by omega
      rw [if_pos (by omega), if_pos (by omega), rd8_wrLane_ne _ _ (by omega), hidx, List.getElem?_cons_succ]

/-- A byte after a write with byte enables. -/
theorem rd8_wrEnabled (b : Block) (a : Nat) (bs : List (Option Byte)) (i : Nat) :
    (b.wrEnabled a bs).rd8 (a + i) = (bs[i]?.join).getD (b.rd8 (a + i)) := by
  rw [Block.wrEnabled_eq_each, List.range_eq_range', rd8_each_wrLane]
  simp

/-! ## The frame-program window -/

/-- A byte after a write through the frame-program window: bytes of the running program stay (R305, R432). -/
theorem rd8_fpWrite (a : Nat) (bs : List (Option Byte)) (b : Block) {i : Nat} (hi : i < bs.length) :
    (fpWrite a bs b).rd8 (fpBase + a + i) =
      if b.hitsProgram (fpBase + a + i) 1 then b.rd8 (fpBase + a + i) else bs[i].getD (b.rd8 (fpBase + a + i)) := by
  have hcount : ∀ (c : Bool) (b' : Block), (if c then b'.bump MSQ_PWREF else b').rd8 (fpBase + a + i)
      = b'.rd8 (fpBase + a + i) := fun c b' => by cases c <;> rfl
  unfold fpWrite
  simp only
  rw [hcount, rd8_wrEnabled, List.getElem?_eq_getElem (by simpa using hi)]
  simp only [List.getElem_map, List.getElem_zip, List.getElem_range, Option.join_some]
  split <;> rfl

/-- A write through the frame-program window (R305, R432). -/
theorem frameProgramWindowWrite_gives (s : State) (m : Master) (a : Fin 4194304) (bytes : List (Option Byte))
    (ha : s.b.accepts m (0x1400000 + a) = true) :
    Gives (.frameProgramWindowWrite m a bytes) s fun t => ∀ i : Fin bytes.length, a.val + i.val < 4194304 →
      t.b.rd8 (fpBase + a + i) = (if s.b.hitsProgram (fpBase + a + i) 1 then s.b.rd8 (fpBase + a + i) else
        bytes[i].getD (s.b.rd8 (fpBase + a + i))) := by
  refine Gives.of_gate (eff := fun b => (fpWrite a (bytes.take (4194304 - a)) b, true)) rfl ha rfl fun i hfit => ?_
  rw [run_rd8, counted_rd8, rd8_fpWrite _ _ _ (by simp; omega)]
  simp only [List.getElem_take]
  rfl

end Sys2Proof.Machine
end

section
/-! SUPPORT. Host DMA (R430): what GO, ABORT and the end of a copy do to the channel, its registers and the memory. -/

namespace Sys2Proof.Machine

/-! ## The channel and its registers -/

@[simp] theorem dma_setDma_same (b : Block) (c : Nat) (x : Option Dma) : (b.setDma c x).dma c = x :=
  SMap.get_set_same (fun _ => none) b.host.dma c x

theorem pageAt_glb {o : Nat} (h : o < 0x1000) : pageAt o = some (.glb, 0) := by
  have hp : o / 0x1000 = 0 := Nat.div_eq_of_lt h
  simp only [pageAt, hp]
  rfl

/-- The registers that a channel shows its copy in lie on the `GLB` page, behind its header. -/
theorem dmaRegs_offset (c : Fin 4) :
    (0x20 < GLB_DMA_STAT c ∧ GLB_DMA_STAT c < 0x1000) ∧ 0x20 < GLB_DMA_DONELEN c ∧ GLB_DMA_DONELEN c < 0x1000 := by
  simp only [GLB_DMA_STAT, GLB_DMA_DONELEN, P_GLB]
  omega

/-- A register of the `GLB` page after a command. -/
theorem run_rd_glb (s : State) (f : Block → Block) {o : Nat} (h : 0x20 < o ∧ o < 0x1000) :
    (s.run f).b.rd o = (f s.b.fresh).rd o := run_rd s f (not_mem_logRegs (pageAt_glb h.2) (by decide))

/-- A register of the `GLB` page behind its header, after a write of `GLB_DMA_CTRL`. -/
theorem run_rd_dmaCtrl (s : State) (b' : Block) (c : Fin 4) (a : Bool) {o : Nat} (h : 0x20 < o ∧ o < 0x1000) :
    (s.run fun _ => b'.counted (GLB_DMA_CTRL c) a).b.rd o = b'.rd o := by
  rw [run_rd_glb s _ h]
  refine counted_rd b' _ a ?_
  simp only [PG_SEQ, GLB_DMA_CTRL, P_GLB]
  omega

theorem domUp_wr (b : Block) {o : Nat} (v : Word) (h : PWR_RAIL ≠ o) (d : Dom) : (b.wr o v).domUp d = b.domUp d := by
  cases d <;> simp only [Block.domUp, Block.wr_pw, Block.rdB_wr_ne _ _ _ h]

@[simp] theorem hitsProgram_wr (b : Block) (o : Nat) (v : Word) (a n : Nat) :
    (b.wr o v).hitsProgram a n = b.hitsProgram a n := rfl

/-! ## GO (R430) -/

/-- The copy that channel `c` is set up for, GO being written with `v`. -/
def Block.dmaAsked (b : Block) (c : Nat) (v : Word) : Dma where
  toHost := v.getLsbD 1
  irq := v.getLsbD 2
  haddr := (b.rd (GLB_DMA_HADDR_LO c)).toNat + (b.rd (GLB_DMA_HADDR_HI c)).toNat * 2 ^ 32
  maddr := (b.rd (GLB_DMA_MADDR_LO c)).toNat + b.rdF (GLB_DMA_MADDR_HI c) 0 8 * 2 ^ 32
  len := (b.rd (GLB_DMA_LEN c)).toNat

/-- Does a copy lie in a memory that is there: HBM that is up, or one of the two SRAMs? -/
def Block.dmaInMemory (b : Block) (q : Dma) : Prop :=
  mspan b.grade q.maddr q.len = .hbm ∧ b.domUp .hbm = true ∨ mspan b.grade q.maddr q.len = .vsram
    ∨ mspan b.grade q.maddr q.len = .fpsram

/-- The block in which channel `c` has started the copy `q`. -/
def Block.dmaStarted (b : Block) (c : Nat) (q : Dma) : Block :=
  ((b.wr (GLB_DMA_DONELEN c) 0).setDma c (some q)).setB (GLB_DMA_STAT c) 0

/-- GO on a free channel starts a copy of some bytes of a memory that is there, outside the running program. -/
theorem dmaGo_starts {b : Block} {c : Nat} (hc : c < 4) {v : Word} {q : Dma} (hq : b.dmaAsked c v = q)
    (hfree : b.dma c = none) (hlen : q.len ≠ 0) (hmem : b.dmaInMemory q)
    (hprog : q.toHost = true ∨ b.hitsProgram q.maddr q.len = false) : b.dmaGo c v = b.dmaStarted c q := by
  subst hq
  have hup : (b.wr (GLB_DMA_DONELEN c) 0).domUp .hbm = b.domUp .hbm :=
    domUp_wr b 0 (by simp only [PWR_RAIL, P_PWR, GLB_DMA_DONELEN, P_GLB]; omega) .hbm
  have hprog' : (!(b.dmaAsked c v).toHost && b.hitsProgram (b.dmaAsked c v).maddr (b.dmaAsked c v).len) = false := by
    obtain h | h := hprog <;> simp [h]
  unfold Block.dmaInMemory at hmem
  unfold Block.dmaGo Block.dmaStarted
  simp only [Block.dmaAsked, bit] at *
  obtain ⟨hspan, hhbm⟩ | hspan | hspan := hmem <;> simp only [hspan, Block.wr_grade, if_neg hlen, hup, hprog', hitsProgram_wr]
  · simp [hfree, hhbm]
  · simp [hfree]
  · simp [hfree]

theorem dmaStarted_dma (b : Block) (c : Nat) (q : Dma) : (b.dmaStarted c q).dma c = some q :=
  dma_setDma_same (b.wr (GLB_DMA_DONELEN c) 0) c (some q)

theorem dmaStarted_rdB (b : Block) (c : Nat) (q : Dma) : (b.dmaStarted c q).rdB (GLB_DMA_STAT c) 0 = true :=
  Block.rdB_setB _ _ _ (by decide)

theorem dmaStarted_donelen (b : Block) (c : Nat) (q : Dma) : (b.dmaStarted c q).rd (GLB_DMA_DONELEN c) = 0 := by
  have hne : GLB_DMA_DONELEN c ≠ GLB_DMA_STAT c := by simp only [GLB_DMA_DONELEN, GLB_DMA_STAT]; omega
  exact (Block.rd_setB_ne _ 0 hne).trans (b.rd_wr_same _ 0)

/-! ## ABORT (R430) -/

/-- A copy that fails for another reason than a refused GO ends the channel. -/
theorem dmaFail_dma (b : Block) (c : Nat) {reason : Nat} (h : reason ≠ 6) : (b.dmaFail c reason).dma c = none := by
  have hb : (reason != 6) = true := by simpa using h
  unfold Block.dmaFail
  simp only [hb, Block.when_true]
  exact dma_setDma_same b c none

/-- Its status shows the reason, and that the channel no longer runs. -/
theorem dmaFail_stat (b : Block) (c : Nat) {reason : Nat} (h : reason ≠ 6) :
    (b.dmaFail c reason).rdB (GLB_DMA_STAT c) 0 = false ∧
      (b.dmaFail c reason).rdF (GLB_DMA_STAT c) 4 4 = reason % 16 := by
  have hb : (reason != 6) = true := by simpa using h
  have hne : GLB_DMA_STAT c ≠ PG_ISTAT P_GLB := by simp only [GLB_DMA_STAT, PG_ISTAT, P_GLB]; omega
  have hrd : (b.dmaFail c reason).rd (GLB_DMA_STAT c) =
      ((((b.setDma c none).clrB (GLB_DMA_STAT c) 0).setB (GLB_DMA_STAT c) 2).wrF (GLB_DMA_STAT c) 4 4 reason).rd
        (GLB_DMA_STAT c) := by
    unfold Block.dmaFail
    simp only [hb, Block.when_true, Block.rd_ev, Block.rd_raise_ne _ _ hne]
  constructor
  · rw [Block.rdB, hrd, ← Block.rdB, Block.rdB_wrF_ne _ _ _ _ _ _ (by decide) (by decide)]
    exact (Block.rdB_wrB_ne _ _ 2 0 true (by decide) (by decide)).trans (Block.rdB_clrB _ _ _ (by decide))
  · rw [Block.rdF, hrd]
    exact Block.rdF_wrF _ _ _ _ _ (by decide)

/-! ## Writes of `GLB_DMA_CTRL` -/

/-- DMA_GO without ABORT. -/
theorem dmaCtrlWrite_go (c : Nat) {v : Word} (h : v.getLsbD 3 = false) (b : Block) :
    dmaCtrlWrite c (v ||| 1) b = (b.dmaGo c (v ||| 1), true) := by
  have h0 : bit (v ||| 1) 0 = true := by rw [bit, BitVec.getLsbD_or, Bool.or_eq_true]; exact .inr rfl
  have h3 : bit (v ||| 1) 3 = false := by rw [bit, BitVec.getLsbD_or, h]; rfl
  simp only [dmaCtrlWrite, h0, h3, Block.when_true, Block.when_false, Bool.true_or]

/-- DMA_ABORT without GO, of a copy that runs. -/
theorem dmaCtrlWrite_abort {c : Nat} {v : Word} (h : v.getLsbD 0 = false) {b : Block} (hrun : (b.dma c).isSome = true) :
    dmaCtrlWrite c (v ||| 8) b = (b.dmaFail c 5, true) := by
  have h0 : bit (v ||| 8) 0 = false := by rw [bit, BitVec.getLsbD_or, h]; rfl
  have h3 : bit (v ||| 8) 3 = true := by rw [bit, BitVec.getLsbD_or, Bool.or_eq_true]; exact .inr rfl
  simp only [dmaCtrlWrite, h0, h3, Block.when_true, Block.when_false, Bool.or_true, Block.dmaAbort, hrun, if_true]

theorem dmaAsked_or_one (b : Block) (c : Nat) (v : Word) : b.dmaAsked c (v ||| 1) = b.dmaAsked c v := by
  simp [Block.dmaAsked]

/-! ## The end of a copy (R430, R419) -/

/-- The block in which the copy `q` of channel `c` has ended whole. -/
def Block.dmaEnded (b : Block) (c : Nat) (q : Dma) : Block :=
  ((((b.wr (GLB_DMA_DONELEN c) (wd q.len)).setDma c none).clrB (GLB_DMA_STAT c) 0).setB (GLB_DMA_STAT c) 1).when q.irq
    fun b => b.raise P_GLB (1 + c)

theorem dmaEnded_dma (b : Block) (c : Nat) (q : Dma) : (b.dmaEnded c q).dma c = none :=
  (Block.when_keep _ (·.dma c) _ _ rfl).trans (dma_setDma_same _ c none)

theorem dmaEnded_rd (b : Block) (c : Nat) (q : Dma) {o : Nat} (h : o ≠ PG_ISTAT P_GLB) : (b.dmaEnded c q).rd o =
    ((((b.wr (GLB_DMA_DONELEN c) (wd q.len)).setDma c none).clrB (GLB_DMA_STAT c) 0).setB (GLB_DMA_STAT c) 1).rd o :=
  Block.when_keep _ (·.rd o) _ _ (Block.rd_raise_ne _ _ h)

theorem dmaEnded_rdB (b : Block) (c : Nat) (q : Dma) : (b.dmaEnded c q).rdB (GLB_DMA_STAT c) 1 = true := by
  have hne : GLB_DMA_STAT c ≠ PG_ISTAT P_GLB := by simp only [GLB_DMA_STAT, PG_ISTAT, P_GLB]; omega
  rw [Block.rdB, dmaEnded_rd b c q hne]
  exact Block.rdB_setB _ _ _ (by decide)

theorem dmaEnded_donelen (b : Block) (c : Nat) (q : Dma) : (b.dmaEnded c q).rd (GLB_DMA_DONELEN c) = wd q.len := by
  have hne : GLB_DMA_DONELEN c ≠ PG_ISTAT P_GLB := by simp only [GLB_DMA_DONELEN, PG_ISTAT, P_GLB]; omega
  have hstat : GLB_DMA_DONELEN c ≠ GLB_DMA_STAT c := by simp only [GLB_DMA_DONELEN, GLB_DMA_STAT]; omega
  rw [dmaEnded_rd b c q hne, Block.rd_setB_ne _ _ hstat, Block.rd_clrB_ne _ _ hstat]
  exact b.rd_wr_same _ _

theorem dmaEnded_out (b : Block) (c : Nat) (q : Dma) : (b.dmaEnded c q).out = b.out := Block.when_keep _ (·.out) _ _ rfl
theorem dmaEnded_rd8 (b : Block) (c : Nat) (q : Dma) (j : Nat) : (b.dmaEnded c q).rd8 j = b.rd8 j :=
  Block.when_keep _ (·.rd8 j) _ _ rfl

/-! ## Module memory -/

/-- What the bytes of module memory read as depends on this alone. -/
def Block.store (b : Block) : SMap Byte × Nat × Config.Grade := (b.mem, b.hbmGen, b.grade)

theorem rd8_of_store {b c : Block} (h : c.store = b.store) (j : Nat) : c.rd8 j = b.rd8 j := by
  simp only [Block.store, Prod.mk.injEq] at h
  obtain ⟨hmem, hgen, hgrade⟩ := h
  have hdef : c.memDef = b.memDef := by
    funext a
    simp only [Block.memDef, hgen, hgrade]
  simp only [Block.rd8, hmem, hdef]

theorem rdBytes_of_store {b c : Block} (h : c.store = b.store) (a n : Nat) : c.rdBytes a n = b.rdBytes a n :=
  List.map_congr_left fun i _ => rd8_of_store h (a + i)

/-- Counting the sectors of a transfer changes nothing but the window's counts (R417). -/
theorem hbmTouch_eq (b : Block) (a n : Nat) :
    ∃ cnt, b.hbmTouch a n = { b with host := { b.host with hbmCnt := cnt } } := by
  unfold Block.hbmTouch
  split
  · exact ⟨b.host.hbmCnt, rfl⟩
  · exact ⟨_, rfl⟩

theorem hbmTouch_out (b : Block) (a n : Nat) : (b.hbmTouch a n).out = b.out := by
  obtain ⟨cnt, h⟩ := hbmTouch_eq b a n
  rw [h]

theorem hbmTouch_store (b : Block) (a n : Nat) : (b.hbmTouch a n).store = b.store := by
  obtain ⟨cnt, h⟩ := hbmTouch_eq b a n
  rw [h]
  rfl

/-- What ECC observes leaves the bytes of memory (R419). -/
theorem eccSeen_store (b : Block) (x : Ecc) (cons : Nat) : (b.eccSeen x cons).store = b.store := by
  refine (Block.each_keep _ Block.store _ _ ?_).trans (Block.each_keep _ Block.store _ _ ?_)
  · exact fun _ _ => rfl
  · exact fun _ _ => rfl

theorem foldl_snoc_fst {α β γ : Type} (l : List (α × β)) (b : γ) (acc : List α) :
    l.foldl (fun (x : γ × List α) q => (x.1, x.2 ++ [q.1])) (b, acc) = (b, acc ++ l.map Prod.fst) := by
  induction l generalizing acc with
  | nil => simp
  | cons q l ih => simp [ih]

/-- Without an uncorrectable sector the bytes are those read. -/
theorem freePoison_nil (b : Block) (a : Nat) (bs : List Byte) : b.freePoison [] a bs = (b, bs) := by
  simp only [Block.freePoison, List.any_nil, Bool.false_eq_true, if_false, foldl_snoc_fst, List.nil_append]
  rw [List.map_fst_zip (by simp)]

theorem map_range_getD_self (l : List Byte) : ((List.range l.length).map fun i => l.getD i 0) = l :=
  List.ext_getElem (by simp) fun i h _ => by
    simp only [List.length_map, List.length_range] at h
    simp [h]

/-! ## DMA_COMPLETE -/

/-- A copy to the host without an uncorrectable sector ends whole: the bytes read go to host memory. -/
theorem dmaDone_toHost {b : Block} {c : Nat} {q : Dma} (hq : b.dma c = some q) (ht : q.toHost = true)
    (hre : b.host.rehash = none ∨ mspace b.grade q.maddr ≠ .hbm) {x : Ecc} (hue : x.ue = []) (hdata : List Byte) :
    dmaDone c hdata x none b =
      (((b.eccSeen x 6).send (.hostMem q.haddr (b.rdBytes q.maddr q.len) false)).hbmTouch q.maddr q.len).dmaEnded c q := by
  have hwait : (b.host.rehash.isSome && decide (mspace b.grade q.maddr = .hbm)) = false := by
    obtain h | h := hre <;> simp [h]
  simp only [dmaDone, hq, hwait, ht, hue, Bool.not_true, Bool.false_and, Bool.false_eq_true, if_false, if_true,
    List.filter_nil, List.foldl_nil, Option.isSome_none, Bool.or_false, Block.when_true, freePoison_nil,
    rdBytes_of_store (eccSeen_store ..), Block.dmaEnded]

/-- A copy from the host that brings all its bytes, outside the running program, ends whole: they are stored. -/
theorem dmaDone_fromHost {b : Block} {c : Nat} {q : Dma} (hq : b.dma c = some q) (ht : q.toHost = false)
    (hre : b.host.rehash = none ∨ mspace b.grade q.maddr ≠ .hbm) {hdata : List Byte} (hlen : hdata.length = q.len)
    (hprog : b.hitsProgram q.maddr q.len = false) (x : Ecc) :
    dmaDone c hdata x none b = ((b.wrBytes q.maddr hdata).hbmTouch q.maddr q.len).dmaEnded c q := by
  have hwait : (b.host.rehash.isSome && decide (mspace b.grade q.maddr = .hbm)) = false := by
    obtain h | h := hre <;> simp [h]
  have hbytes : ((List.range q.len).map fun i => hdata.getD i 0) = hdata := hlen ▸ map_range_getD_self hdata
  simp only [dmaDone, hq, hwait, ht, hprog, hlen, hbytes, Bool.not_false, Bool.and_false, Bool.false_eq_true, if_false,
    Option.isSome_none, Bool.or_false, Block.when_false, Block.dmaEnded, Nat.lt_irrefl, decide_false]

/-! ## What DMA_GO, DMA_ABORT and DMA_COMPLETE give -/

/-- DMA_GO on a free channel. -/
theorem dmaGo_gives (s : State) (m : Master) (c : Fin 4) (v : Word) (ha : s.b.accepts m (GLB_DMA_CTRL c) = true)
    (habort : v.getLsbD 3 = false) (hfree : s.b.dma c = none) (hlen : (s.b.dmaAsked c v).len ≠ 0)
    (hmem : s.b.dmaInMemory (s.b.dmaAsked c v)) (hprog : (s.b.dmaAsked c v).toHost = true ∨
      s.b.hitsProgram (s.b.dmaAsked c v).maddr (s.b.dmaAsked c v).len = false) :
    Gives (.dmaGo m c v) s fun t => t.b.dma c = some (s.b.dmaAsked c v) ∧ t.rdB (GLB_DMA_STAT c) 0 = true ∧
      t.rd (GLB_DMA_DONELEN c) = 0 := by
  obtain ⟨hstat, hdone⟩ := dmaRegs_offset c
  have hgo : s.b.fresh.dmaGo c (v ||| 1) = s.b.fresh.dmaStarted c (s.b.dmaAsked c v) :=
    dmaGo_starts c.isLt (dmaAsked_or_one ..) hfree hlen hmem hprog
  refine Gives.of_gate (eff := dmaCtrlWrite c (v ||| 1)) rfl ha
    ((dmaCtrlWrite_go c habort _).trans (by rw [hgo])) ⟨?_, ?_, ?_⟩
  · rw [run_dma, counted_dma, dmaStarted_dma]
  · exact (congrArg (bit · 0) (run_rd_dmaCtrl s _ c true hstat)).trans (dmaStarted_rdB ..)
  · exact (run_rd_dmaCtrl s _ c true hdone).trans (dmaStarted_donelen ..)

/-- DMA_ABORT of a running copy. -/
theorem dmaAbort_gives (s : State) (m : Master) (c : Fin 4) (v : Word) (ha : s.b.accepts m (GLB_DMA_CTRL c) = true)
    (hgo : v.getLsbD 0 = false) (hrun : (s.b.dma c).isSome = true) :
    Gives (.dmaAbort m c v) s fun t =>
      t.b.dma c = none ∧ t.rdB (GLB_DMA_STAT c) 0 = false ∧ t.rdF (GLB_DMA_STAT c) 4 4 = 5 := by
  obtain ⟨hstat, -⟩ := dmaRegs_offset c
  obtain ⟨hidle, hreason⟩ := dmaFail_stat s.b.fresh c (reason := 5) (by decide)
  refine Gives.of_gate (eff := dmaCtrlWrite c (v ||| 8)) rfl ha (dmaCtrlWrite_abort hgo hrun) ⟨?_, ?_, ?_⟩
  · rw [run_dma, counted_dma, dmaFail_dma _ _ (by decide)]
  · exact (congrArg (bit · 0) (run_rd_dmaCtrl s _ c true hstat)).trans hidle
  · exact (congrArg (fld · 4 4) (run_rd_dmaCtrl s _ c true hstat)).trans hreason

/-- DMA_COMPLETE of a copy that ends whole: `b'` is the block when its bytes have moved. -/
theorem dmaComplete_gives (s : State) (c : Fin 4) (hdata : List Byte) (ecc : Ecc) {q : Dma} {b' : Block}
    (hdone : dmaDone c hdata ecc none s.b.fresh = b'.dmaEnded c q) {P : State → Prop}
    (hP : ∀ t : State, (∀ x ∈ b'.out, x ∈ t.b.out) → (∀ j, t.b.rd8 j = b'.rd8 j) → P t) :
    Gives (.dmaComplete c hdata ecc none) s fun t =>
      t.b.dma c = none ∧ t.rdB (GLB_DMA_STAT c) 1 = true ∧ t.rd (GLB_DMA_DONELEN c) = wd q.len ∧ P t := by
  obtain ⟨hstat, hlen⟩ := dmaRegs_offset c
  refine Gives.of_done (f := dmaDone c hdata ecc none) rfl ?_
  rw [run_congr (g := fun _ => b'.dmaEnded c q) hdone]
  refine ⟨?_, ?_, ?_, hP _ (fun x hx => mem_out_run ?_) fun j => ?_⟩
  · rw [run_dma, dmaEnded_dma]
  · exact (congrArg (bit · 1) (run_rd_glb s _ hstat)).trans (dmaEnded_rdB ..)
  · exact (run_rd_glb s _ hlen).trans (dmaEnded_donelen ..)
  · rwa [dmaEnded_out]
  · rw [run_rd8, dmaEnded_rd8]

/-- DMA_COMPLETE of a copy to the host. -/
theorem dmaComplete_toHost_gives (s : State) (c : Fin 4) (hdata : List Byte) (ecc : Ecc) (q : Dma)
    (hq : s.b.dma c = some q) (ht : q.toHost = true) (hue : ecc.ue = [])
    (hre : s.b.host.rehash = none ∨ mspace s.b.grade q.maddr ≠ .hbm) :
    Gives (.dmaComplete c hdata ecc none) s fun t => t.b.dma c = none ∧ t.rdB (GLB_DMA_STAT c) 1 = true ∧
      t.rd (GLB_DMA_DONELEN c) = wd q.len ∧ Output.hostMem q.haddr (s.b.rdBytes q.maddr q.len) false ∈ t.b.out :=
  dmaComplete_gives s c hdata ecc (dmaDone_toHost (b := s.b.fresh) hq ht hre hue hdata) fun t hout _ => hout _ (by
    rw [hbmTouch_out]
    exact Block.mem_out_send_self ..)

/-- DMA_COMPLETE of a copy from the host. -/
theorem dmaComplete_fromHost_gives (s : State) (c : Fin 4) (hdata : List Byte) (ecc : Ecc) (q : Dma)
    (hq : s.b.dma c = some q) (ht : q.toHost = false) (hlen : hdata.length = q.len)
    (hprog : s.b.hitsProgram q.maddr q.len = false)
    (hre : s.b.host.rehash = none ∨ mspace s.b.grade q.maddr ≠ .hbm) :
    Gives (.dmaComplete c hdata ecc none) s fun t => t.b.dma c = none ∧ t.rdB (GLB_DMA_STAT c) 1 = true ∧
      t.rd (GLB_DMA_DONELEN c) = wd q.len ∧ ∀ i : Fin hdata.length, t.b.rd8 (q.maddr + i) = hdata[i] :=
  dmaComplete_gives s c hdata ecc (dmaDone_fromHost (b := s.b.fresh) hq ht hre hlen hprog ecc) fun t _ hmem i => by
    rw [hmem, rd8_of_store (hbmTouch_store ..)]
    exact rd8_wrBytes_in _ _ _ _ i.isLt

end Sys2Proof.Machine
end

section
/-! SUPPORT. Host accesses as a whole. -/

namespace Sys2Proof.Machine

/-- Settles O38, clause by clause from what each command gives: the registers and memory after its effect, which logging
and signalling leave alone. -/
theorem hostAccesses : Obligations.HostAccesses := by
  unfold Obligations.HostAccesses
  refine ⟨?_, ?_, frameProgramWindowWrite_gives, msqTimeLoRead_gives, clkAontimeLoRead_gives, ?_, ?_, ?_, ?_⟩
  · intro s m off v ecc o k i ⟨hm, ha⟩ ⟨ht, hk, hrow⟩ ⟨ho, hc⟩
    exact registerWrite_plain_gives s m off v ecc hm ha ht hk hrow ho hc
  · intro s m off v be ecc o k i ⟨hm, ha⟩ ⟨ht, hbe, hglb, hdbk, hup⟩
    exact registerWrite_partial_gives s m off v be ecc hm ha ht hbe hglb hdbk hup
  · intro s m c v ⟨ha, habort, hfree⟩ ⟨hlen, hmem⟩ hprog
    exact dmaGo_gives s m c v ha habort hfree hlen hmem hprog
  · intro s m c v ⟨ha, hgo, hrun⟩
    exact dmaAbort_gives s m c v ha hgo hrun
  · intro s c hdata ecc q ⟨hq, ht, hue⟩ hre
    exact dmaComplete_toHost_gives s c hdata ecc q hq ht hue hre
  · intro s c hdata ecc q ⟨hq, ht, hlen, hprog⟩ hre
    exact (dmaComplete_fromHost_gives s c hdata ecc q hq ht hlen hprog hre).mono fun t ⟨hdma, hdone, _, hbytes⟩ =>
      ⟨hdma, hdone, hbytes⟩

end Sys2Proof.Machine
end

section
/-! SUPPORT. A descriptor that is issued now and not rejected by the common checks (R275 to R277, R281, R282). -/

namespace Sys2Proof.Machine

/-- The block in which descriptor `d` of index `idx` has just issued: it has left its queue and is in flight. -/
def Block.issued (b : Block) (idx : Nat) (d : Desc) : Block :=
  (b.updFrm fun f =>
    { f with queue := f.queue.filter fun q => q.idx != idx, lastIdx := idx,
             infl := f.infl ++ [⟨idx, min (dTgt d) 4, dSig d, dCtr d, false⟩] }).when (decide (dTgt d < 4))
    fun b => b.bump (SEQ_ISSUED (dTgt d))

/-- A descriptor that is taken has its own effect, after which the module sequencer fetches on. -/
theorem descr_takes {b : Block} {idx op : Nat} {d : Desc} {stackTgt : Bool} {masks : List Nat} (hop : op ≠ 0x21)
    (h : b.takes idx d op stackTgt masks = true) (eff : Block → Block) :
    b.descr idx d op stackTgt masks eff = (eff (b.issued idx d)).fetch := by
  unfold Block.takes at h
  split at h
  · cases h
  · next fr hfr =>
    simp only [Bool.and_eq_true, Bool.not_eq_true', decide_eq_true_eq, beq_iff_eq] at h
    obtain ⟨⟨⟨⟨⟨hissues, hrehash⟩, hin⟩, hdop⟩, htgt⟩, hres⟩ := h
    have hpast : ¬ fr.sr.plen ≤ 64 * idx := by omega
    have hstack : ¬ (op ≠ 2 ∧ (stackTgt = true ∧ 4 ≤ dTgt d ∨ ¬ stackTgt = true ∧ dTgt d ≠ 4)) := by
      rintro ⟨h2, h⟩
      rw [if_neg h2] at htgt
      cases stackTgt <;> simp at h htgt <;> omega
    have hfive : ¬ (op = 2 ∧ 5 ≤ dTgt d) := by
      rintro ⟨h2, h⟩
      rw [if_pos h2, decide_eq_true_eq] at htgt
      omega
    unfold Block.descr
    simp only [hfr, hissues, hrehash, hpast, hop, hdop, hstack, hfive, hres, Block.issued, decide_false, Bool.not_true,
      Bool.not_false, Bool.false_and, Bool.true_and, Bool.or_self, Bool.false_eq_true, bne_self_eq_false,
      ne_eq, not_true_eq_false, if_false, Option.isSome_none]

/-- A command whose descriptor is taken gives what holds after the descriptor's own effect and the fetching that follows. -/
theorem Gives.of_takes {c : Instr} {s : State} {P : State → Prop} {idx op : Nat} {d : Desc} {stackTgt : Bool}
    {masks : List Nat} {eff : Block → Block} (h : exec c s = s.done fun b => b.descr idx d op stackTgt masks eff)
    (hop : op ≠ 0x21) (ht : s.b.takes idx d op stackTgt masks = true)
    (hP : P (s.run fun _ => (eff (s.b.fresh.issued idx d)).fetch)) : Gives c s P := by
  rw [State.done, run_congr (g := fun _ => (eff (s.b.fresh.issued idx d)).fetch) 
    (descr_takes (b := s.b.fresh) hop ht eff)] at h
  exact ⟨_, h, hP⟩

theorem takes_frm {b : Block} {idx op : Nat} {d : Desc} {stackTgt : Bool} {masks : List Nat}
    (h : b.takes idx d op stackTgt masks = true) : ∃ f, b.frm = some f := by
  unfold Block.takes at h
  split at h
  · cases h
  · next f hf => exact ⟨f, hf⟩

@[simp] theorem issued_engs (b : Block) (idx : Nat) (d : Desc) : (b.issued idx d).engs = b.engs :=
  Block.when_keep _ (·.engs) _ _ rfl
@[simp] theorem issued_stks (b : Block) (idx : Nat) (d : Desc) : (b.issued idx d).stks = b.stks :=
  Block.when_keep _ (·.stks) _ _ rfl
@[simp] theorem issued_eng (b : Block) (idx : Nat) (d : Desc) (e : Nat) : (b.issued idx d).eng e = b.eng e := by
  simp only [Block.eng, issued_engs]
@[simp] theorem issued_stk (b : Block) (idx : Nat) (d : Desc) (k : Nat) : (b.issued idx d).stk k = b.stk k := by
  simp only [Block.stk, issued_stks]
@[simp] theorem issued_wakes (b : Block) (idx : Nat) (d : Desc) : (b.issued idx d).wakes = b.wakes :=
  Block.when_keep _ (·.wakes) _ _ rfl

/-- Issue writes no register but the sequencer's count. -/
theorem issued_rd (b : Block) (idx : Nat) (d : Desc) {o : Nat} (h : o ≠ SEQ_ISSUED (dTgt d)) :
    (b.issued idx d).rd o = b.rd o :=
  Block.when_keep _ (·.rd o) _ _ (Block.rd_bump_ne _ _ h)

theorem issued_frm (b : Block) (idx : Nat) (d : Desc) : (b.issued idx d).frm = b.frm.map fun f =>
    { f with queue := f.queue.filter fun q => q.idx != idx, lastIdx := idx,
             infl := f.infl ++ [⟨idx, min (dTgt d) 4, dSig d, dCtr d, false⟩] } :=
  Block.when_keep _ (·.frm) _ _ rfl

/-! ## What statements read of the frame in progress -/

/-- What is in flight in a frame, and its count of rejections. -/
def Frame.flight (f : Frame) : List Infl × Nat := (f.infl, f.nrej)

/-- Those of the frame in progress. -/
def Block.flight (b : Block) : Option (List Infl × Nat) := b.frm.map Frame.flight

theorem fetch_flight (b : Block) : b.fetch.flight = b.flight := by
  have hkeep : ∀ f : Frame, (Frame.fetch b.progDesc 257 f).flight = f.flight := fun f => by
    rw [Frame.fetch_keeps]; rfl
  simp only [Block.flight, Block.fetch, Block.updFrm, Option.map_map]
  congr 1
  funext f
  exact hkeep f

theorem updFrm_flight (b : Block) {g : Frame → Frame} (h : ∀ f, (g f).flight = f.flight) :
    (b.updFrm g).flight = b.flight := by
  simp only [Block.flight, Block.updFrm, Option.map_map]
  congr 1
  funext f
  exact h f

theorem nrej_of_flight {s t : State} (h : t.b.flight.map (·.2) = s.b.flight.map (·.2)) : t.nrej = s.nrej := by
  simpa [State.nrej, Block.flight, Frame.flight, Option.map_map, Function.comp_def] using h

theorem run_flight (s : State) (f : Block → Block) : (s.run f).b.flight = (f s.b.fresh).flight := by
  rw [Block.flight, run_frm]; rfl

/-- A frame in which the descriptor has issued has it in flight, and has counted no rejection for it. -/
theorem issued_flight (b : Block) (idx : Nat) (d : Desc) : (b.issued idx d).flight =
    b.flight.map fun x => (x.1 ++ [⟨idx, min (dTgt d) 4, dSig d, dCtr d, false⟩], x.2) := by
  simp only [Block.flight, issued_frm, Option.map_map]
  rfl

/-- A descriptor whose effect leaves what is in flight is in flight after it, not rejected. -/
theorem inFlight_of_issued {s t : State} {idx : Nat} {d : Desc} {b : Block} (hb : b.frm = s.b.frm)
    (hf : ∃ f, s.b.frm = some f) (h : t.b.flight = (b.issued idx d).flight) :
    t.nrej = s.nrej ∧ t.inFlight idx = true := by
  obtain ⟨f, hf⟩ := hf
  rw [issued_flight, Block.flight, Block.flight, hb, hf] at h
  constructor
  · refine nrej_of_flight ?_
    rw [Block.flight, h, Block.flight, hf]
    rfl
  · obtain ⟨g, hg, hgf⟩ := Option.map_eq_some_iff.1 h
    have hinfl : g.infl = f.infl ++ [⟨idx, min (dTgt d) 4, dSig d, dCtr d, false⟩] := congrArg Prod.fst hgf
    simp [State.inFlight, hg, hinfl]

/-- A descriptor that reaches its completion point with its effect has reached it, not rejected. -/
theorem hasReached_of_issued {s t : State} {idx : Nat} {d : Desc} {b c : Block} (hb : b.frm = s.b.frm)
    (hf : ∃ f, s.b.frm = some f) (hc : c.flight = (b.issued idx d).flight) (h : t.b.flight = (c.reached idx).flight) :
    t.hasReached idx = true ∧ t.nrej = s.nrej := by
  obtain ⟨f, hf⟩ := hf
  rw [issued_flight, Block.flight, Block.flight, hb, hf] at hc
  obtain ⟨g, hg, hgf⟩ := Option.map_eq_some_iff.1 hc
  have hinfl : g.infl = f.infl ++ [⟨idx, min (dTgt d) 4, dSig d, dCtr d, false⟩] := congrArg Prod.fst hgf
  have hnrej : g.nrej = f.nrej := congrArg Prod.snd hgf
  simp only [Block.flight, Block.reached, Block.updFrm, hg, Option.map_some] at h
  constructor
  · obtain ⟨g', hg', hgf'⟩ := Option.map_eq_some_iff.1 h
    have hinfl' : g'.infl = g.infl.map fun i => if i.idx = idx then { i with reached := true } else i :=
      congrArg Prod.fst hgf'
    simp [State.hasReached, hg', hinfl', hinfl]
  · refine nrej_of_flight ?_
    simp only [Block.flight, h, hf, Option.map_some, Frame.flight, hnrej]

end Sys2Proof.Machine
end

section
/-! SUPPORT. What an effect may change at most: registers of a list, engines that meet a condition, events and outputs. -/

namespace Sys2Proof.Machine

/-- `c` is `b` but for registers of `w`, engines that meet `E`, events and outputs. -/
structure Within (w : List Nat) (E : Nat → Prop) (b c : Block) : Prop where
  rest : c = { b with regs := c.regs, engs := c.engs, evs := c.evs, out := c.out }
  rd : ∀ o, o ∉ w → c.rd o = b.rd o
  eng : ∀ k, ¬ E k → c.eng k = b.eng k
  engs : (∀ k, ¬ E k) → c.engs = b.engs

/-- The condition that no engine meets. -/
def noEngine (_ : Nat) : Prop := False

namespace Within

variable {w : List Nat} {E : Nat → Prop} {b c : Block}

theorem refl (w : List Nat) (E : Nat → Prop) (b : Block) : Within w E b b :=
  ⟨rfl, fun _ _ => rfl, fun _ _ => rfl, fun _ => rfl⟩

theorem trans {a : Block} (h : Within w E a b) (k : Within w E b c) : Within w E a c :=
  ⟨by rw [k.rest, h.rest], fun o ho => (k.rd o ho).trans (h.rd o ho), fun j hj => (k.eng j hj).trans (h.eng j hj),
    fun hE => (k.engs hE).trans (h.engs hE)⟩

theorem mono {w' : List Nat} {E' : Nat → Prop} (h : Within w E b c) (hw : ∀ o ∈ w, o ∈ w') (hE : ∀ k, E k → E' k) :
    Within w' E' b c :=
  ⟨h.rest, fun o ho => h.rd o (fun hm => ho (hw o hm)), fun k hk => h.eng k (fun he => hk (hE k he)),
    fun hn => h.engs fun k he => hn k (hE k he)⟩

/-- What touches no engine is within any condition on engines. -/
theorem anyEngine (h : Within w noEngine b c) : Within w E b c := h.mono (fun _ => id) fun _ => False.elim

theorem when {f : Block → Block} (h : Within w E b (f b)) (x : Bool) : Within w E b (b.when x f) := by
  cases x
  · exact refl ..
  · exact h

theorem ite {P : Prop} [Decidable P] {d : Block} (h : Within w E b c) (k : Within w E b d) :
    Within w E b (if P then c else d) := by
  split
  · exact h
  · exact k

theorem each {α : Type} {f : Block → α → Block} {xs : List α} (h : ∀ b, ∀ x ∈ xs, Within w E b (f b x)) (b : Block) :
    Within w E b (b.each xs f) := by
  induction xs generalizing b with
  | nil => exact refl ..
  | cons x xs ih =>
    rw [Block.each_cons]
    exact (h b x (List.mem_cons_self ..)).trans (ih (fun b y hy => h b y (List.mem_cons_of_mem _ hy)) _)

/-- The same of a fold that carries something along. -/
theorem foldl_fst {α β : Type} {f : Block × β → α → Block × β} {xs : List α}
    (h : ∀ p, ∀ x ∈ xs, Within w E p.1 (f p x).1) (p : Block × β) : Within w E p.1 (xs.foldl f p).1 := by
  induction xs generalizing p with
  | nil => exact refl ..
  | cons x xs ih => exact (h p x (List.mem_cons_self ..)).trans (ih (fun q y hy => h q y (List.mem_cons_of_mem _ hy)) _)

/-! ### One operation -/

theorem wr {o : Nat} (ho : o ∈ w) (v : Word) : Within w E b (b.wr o v) :=
  ⟨rfl, fun _ hj => b.rd_wr_ne v fun h => hj (h ▸ ho), fun _ _ => rfl, fun _ => rfl⟩
theorem wrF {o : Nat} (ho : o ∈ w) (l n x : Nat) : Within w E b (b.wrF o l n x) := wr ho _
theorem wrB {o : Nat} (ho : o ∈ w) (i : Nat) (x : Bool) : Within w E b (b.wrB o i x) := wr ho _
theorem setB {o : Nat} (ho : o ∈ w) (i : Nat) : Within w E b (b.setB o i) := wr ho _
theorem clrB {o : Nat} (ho : o ∈ w) (i : Nat) : Within w E b (b.clrB o i) := wr ho _
theorem bump {o : Nat} (ho : o ∈ w) (n : Nat) : Within w E b (b.bump o n) := wr ho _
theorem raise {p : Nat} (ho : PG_ISTAT p ∈ w) (i : Nat) : Within w E b (b.raise p i) := wr ho _
theorem ev (code i : Nat) (l : List (Nat × Nat)) : Within w E b (b.ev code i l) :=
  ⟨rfl, fun _ _ => rfl, fun _ _ => rfl, fun _ => rfl⟩
theorem evF (code i : Nat) (l : List (Nat × Nat)) (v : Word) : Within w E b (b.evF code i l v) :=
  ⟨rfl, fun _ _ => rfl, fun _ _ => rfl, fun _ => rfl⟩
theorem send (x : Output) : Within w E b (b.send x) := ⟨rfl, fun _ _ => rfl, fun _ _ => rfl, fun _ => rfl⟩
theorem setEng {e : Nat} (he : E e) (x : Eng) : Within w E b (b.setEng e x) := by
  refine ⟨rfl, fun _ _ => rfl, fun k hk => ?_, fun hn => absurd he (hn e)⟩
  exact (SMap.get_set _ b.engs e x k).trans (if_neg fun h : k = e => hk (h ▸ he))
theorem updEng {e : Nat} (he : E e) (f : Eng → Eng) : Within w E b (b.updEng e f) := setEng he _

/-- An engine changed, where it is the only one that may. -/
theorem setOwn {e : Nat} (x : Eng) : Within w (· = e) b (b.setEng e x) := setEng (E := (· = e)) rfl x
theorem updOwn {e : Nat} (f : Eng → Eng) : Within w (· = e) b (b.updEng e f) := setOwn _

/-! ### A register write -/

theorem recErr (k m addr : Nat) (x : Bool) (hw : ∀ o ∈ errRegs, o ∈ w) : Within w E b (b.recErr k m addr x) := by
  have herr : GLB_ERR ∈ w := hw _ (by simp [errRegs])
  unfold Block.recErr
  split
  · exact refl ..
  · refine (((setB herr k).trans (bump (hw _ (by simp [errRegs])) 1)).trans (when ?_ _)).trans
      (raise (hw _ (by simp [errRegs])) 0)
    exact (((wrF herr ..).trans (wrF herr ..)).trans (wr (hw _ (by simp [errRegs])) _)).trans
      (wr (hw _ (by simp [errRegs])) _)

theorem counted (off : Nat) (a : Bool) (hw : ∀ o ∈ accRegs off, o ∈ w) : Within w E b (b.counted off a) := by
  unfold Block.counted
  split
  · exact wr (hw _ (List.mem_cons_self ..)) _
  · exact refl ..

/-- A write that does not reach its register is recorded; one that does has its effect and is counted (R433, R437,
R440). -/
theorem gate {m : Master} {off : Nat} {eff : Block → Block × Bool} (h : Within w E b (eff b).1)
    (hw : ∀ o ∈ accRegs off, o ∈ w) : Within w E b (b.gate m off eff) := by
  have herr : ∀ o ∈ errRegs, o ∈ w := fun o ho => hw o (List.mem_cons_of_mem _ ho)
  unfold Block.gate Block.writeAt
  split
  · exact refl ..
  · split
    · exact send _
    · split
      · exact refl ..
      · split
        · exact (recErr _ _ _ _ herr).trans (ev ..)
        · exact ((recErr _ _ _ _ herr).trans (ev ..)).trans (send _)
        · split
          · exact refl ..
          · exact h.trans (counted _ _ hw)

/-! ### What a command keeps -/

variable {s : State} {f : Block → Block}

/-- An effect on engines keeps every other register and unit, and the engines that do not meet the condition. -/
theorem kept (h : Within w E s.b.fresh (f s.b.fresh)) :
    Kept s (s.run f) w (fun b c => { b with engs := c.engs }) ∧ ∀ k, ¬ E k → (s.run f).b.eng k = s.b.eng k := by
  refine ⟨⟨⟨rfl, ?_⟩, fun o ho hlog => (run_rd s f hlog).trans (h.rd o ho)⟩, fun k hk =>
    (run_eng s f k).trans (h.eng k hk)⟩
  conv_lhs => rw [(run_logOnly s f).rest, h.rest]
  simp only [run_engs]
  rfl

/-- An effect on no engine keeps every unit. -/
theorem keptAll (h : Within w noEngine s.b.fresh (f s.b.fresh)) : Kept s (s.run f) w := by
  refine ⟨⟨rfl, ?_⟩, fun o ho hlog => (run_rd s f hlog).trans (h.rd o ho)⟩
  conv_lhs => rw [(run_logOnly s f).rest, h.rest, h.engs fun _ => id]
  rfl

end Within

/-- The effects of a command on engines that meet `E` are all that it changes, beside the registers of `w`. -/
theorem Gives.of_within {c : Instr} {s : State} {w : List Nat} {E : Nat → Prop} {f : Block → Block}
    (h : exec c s = s.done f) (hw : ∀ b, Within w E b (f b)) :
    Gives c s fun t => Kept s t w (fun b c => { b with engs := c.engs }) ∧ ∀ k, ¬ E k → t.b.eng k = s.b.eng k :=
  Gives.of_done h (hw _).kept

theorem Gives.of_withinRegs {c : Instr} {s : State} {w : List Nat} {f : Block → Block}
    (h : exec c s = s.done f) (hw : ∀ b, Within w noEngine b (f b)) : Gives c s fun t => Kept s t w :=
  Gives.of_done h (hw _).keptAll

end Sys2Proof.Machine
end

section
/-! SUPPORT. What the power operations of engines and the hints do (R29 to R33, R83, R269, R285). -/

namespace Sys2Proof.Machine

/-! ## Power states -/

theorem setPs_eng (b : Block) (e : Nat) (p : PState) (j : Nat) :
    (b.setPs e p).eng j = if j = e then { b.eng e with ps := p } else b.eng j :=
  Block.eng_updEng b e (fun x => { x with ps := p }) j

@[simp] theorem setPs_ps (b : Block) (e : Nat) (p : PState) : ((b.setPs e p).eng e).ps = p := by
  rw [setPs_eng, if_pos rfl]

theorem setPs_rd (b : Block) (e : Nat) (p : PState) {o : Nat} (h : o ≠ engState e) : (b.setPs e p).rd o = b.rd o :=
  Block.rd_wrF_ne _ _ _ _ h

theorem setPs_shown (b : Block) (e : Nat) (p : PState) : (b.setPs e p).rdF (engState e) 0 2 = p.code % 4 :=
  Block.rdF_wrF _ _ _ _ _ (by decide)

theorem beginWake_eng (b : Block) (e : Nat) (p : PState) (j : Nat) : (b.beginWake e p).eng j =
    if j = e then { b.eng e with ps := p, woke := (b.eng e).woke + 1 } else b.eng j := by
  simp only [Block.beginWake, Block.eng_updEng, setPs_eng]
  split <;> simp

@[simp] theorem beginWake_ps (b : Block) (e : Nat) (p : PState) : ((b.beginWake e p).eng e).ps = p := by
  rw [beginWake_eng, if_pos rfl]

theorem beginWake_rd (b : Block) (e : Nat) (p : PState) {o : Nat} (h : o ≠ engState e) :
    (b.beginWake e p).rd o = b.rd o := setPs_rd b e p h

/-- A wake changes at most its engine and its state register. -/
abbrev EngineOnly (e : Nat) (b c : Block) : Prop := Within [engState e] (· = e) b c

theorem setPs_engineOnly (b : Block) (e : Nat) (p : PState) : EngineOnly e b (b.setPs e p) :=
  (Within.updOwn _).trans (Within.wrF (List.mem_singleton.2 rfl) ..)

theorem beginWake_engineOnly (b : Block) (e : Nat) (p : PState) : EngineOnly e b (b.beginWake e p) :=
  (setPs_engineOnly b e p).trans (Within.updOwn _)

theorem wakeRun_engineOnly (b : Block) (e : Nat) : EngineOnly e b (b.wakeRun e) := by
  unfold Block.wakeRun
  split
  · exact .refl ..
  · exact .refl ..
  · exact .refl ..
  · exact beginWake_engineOnly ..
  · exact beginWake_engineOnly ..
  · exact beginWake_engineOnly ..
  · exact beginWake_engineOnly ..
  · exact setPs_engineOnly ..
  · exact setPs_engineOnly ..

theorem wakeDoze_engineOnly (b : Block) (e : Nat) : EngineOnly e b (b.wakeDoze e) := by
  unfold Block.wakeDoze
  split
  · exact beginWake_engineOnly ..
  · exact beginWake_engineOnly ..
  · exact .refl ..

theorem hint_engineOnly (b : Block) (e : Nat) (toRun : Bool) (hold : Nat) : EngineOnly e b (b.hint e toRun hold) := by
  unfold Block.hint
  split
  · exact .refl ..
  · split
    · split
      · exact .refl ..
      · exact (wakeRun_engineOnly b e).trans (Within.updOwn _)
    · exact wakeDoze_engineOnly b e

/-- The state register of an engine is not that of the module. -/
theorem pwr_ne_engState (e : Nat) : PWR_STATE ≠ engState e := by
  simp only [PWR_STATE, engState, ENG_STATE, DEN_STATE, P_PWR, P_ENG, P_DEN, engBase]
  split <;> omega

/-- An engine state register is none that logging writes. -/
theorem engState_not_log (e : Nat) : engState e ∉ logRegs := by
  simp only [engState, ENG_STATE, DEN_STATE, P_ENG, P_DEN, engBase, logRegs, DBK_SUPPCNT, DBK_OVWCNT, DBK_DROPCNT,
    DBK_DROPSEV, PG_ISTAT, P_DBK, List.mem_cons, List.not_mem_nil, or_false]
  split <;> omega

theorem Within.modState {e : Nat} {b c : Block} (h : EngineOnly e b c) : c.modState = b.modState := by
  simp only [Block.modState, Block.rdF, h.rd _ fun hm => pwr_ne_engState e (List.mem_singleton.1 hm)]

/-! ## Wakes towards Run -/

theorem wakeRun_towardsRun (b : Block) (e : Nat) : ((b.wakeRun e).eng e).ps.towardsRun = true := by
  unfold Block.wakeRun
  split
  · next h => rw [h]; rfl
  · next h => rw [h]; rfl
  · next h => rw [h]; rfl
  · rw [beginWake_ps]; rfl
  · rw [beginWake_ps]; rfl
  · rw [beginWake_ps]; rfl
  · rw [beginWake_ps]; rfl
  · rw [setPs_ps]; rfl
  · rw [setPs_ps]; rfl

/-- A Run hint in Active brings the engine towards Run. -/
theorem hint_towardsRun {b : Block} (h : b.modState = stActive) (e hold : Nat) :
    ((b.hint e true hold).eng e).ps.towardsRun = true := by
  unfold Block.hint
  rw [if_neg (not_not_intro h), if_pos rfl]
  split
  · next hrun => rw [hrun]; rfl
  · rw [Block.eng_updEng_same]
    exact wakeRun_towardsRun b e

/-- Run hints in Active bring every engine of a list towards Run, and leave those there that are on their way. -/
theorem hints_towardsRun (es : List Nat) (hold : Nat) {b : Block} (h : b.modState = stActive) (e : Nat)
    (he : e ∈ es ∨ (b.eng e).ps.towardsRun = true) :
    ((b.each es fun b e => b.hint e true hold).eng e).ps.towardsRun = true := by
  induction es generalizing b with
  | nil => exact he.resolve_left List.not_mem_nil
  | cons a es ih =>
    rw [Block.each_cons]
    refine ih ((hint_engineOnly b a true hold).modState.trans h) ?_
    by_cases hea : e = a
    · subst hea
      exact .inr (hint_towardsRun h e hold)
    · obtain hmem | hps := he
      · exact .inl ((List.mem_cons.1 hmem).resolve_left hea)
      · exact .inr (by rwa [(hint_engineOnly b a true hold).eng e hea])

theorem hints_keep {γ : Type} (g : Block → γ) (hg : ∀ e b c, EngineOnly e b c → g c = g b) (es : List Nat)
    (toRun : Bool) (hold : Nat) (b : Block) : g (b.each es fun b e => b.hint e toRun hold) = g b :=
  Block.each_keep _ g _ _ fun _ _ => hg _ _ _ (hint_engineOnly ..)

theorem Within.wakes {e : Nat} {b c : Block} (h : EngineOnly e b c) : c.wakes = b.wakes := by rw [h.rest]
theorem Within.flight {e : Nat} {b c : Block} (h : EngineOnly e b c) : c.flight = b.flight := by
  rw [h.rest]; rfl

/-! ## Writes of `ENG_WAKE` and `DEN_WAKE` -/

/-- A Run request in Active, with or without a Doze request. -/
theorem wakeWrite_towardsRun {b : Block} (h : b.modState = stActive) (e : Nat) (v : Word) :
    ((wakeWrite e (v ||| 1) b).1.eng e).ps.towardsRun = true := by
  have h0 : bit (v ||| 1) 0 = true := by rw [bit, BitVec.getLsbD_or, Bool.or_eq_true]; exact .inr rfl
  simp only [wakeWrite, h0, Block.when_true]
  exact hint_towardsRun ((Within.when (hint_engineOnly b e false 0) _).modState.trans h) e 0

/-- A Doze request alone. -/
theorem wakeWrite_doze {b : Block} (h : b.modState = stActive) (e : Nat) {v : Word} (hv : v.getLsbD 0 = false) :
    (wakeWrite e (v ||| 2) b).1 = b.wakeDoze e := by
  have h0 : bit (v ||| 2) 0 = false := by rw [bit, BitVec.getLsbD_or, hv]; rfl
  have h1 : bit (v ||| 2) 1 = true := by rw [bit, BitVec.getLsbD_or, Bool.or_eq_true]; exact .inr rfl
  simp only [wakeWrite, h0, h1, Block.when_true, Block.when_false, Block.hint]
  rw [if_neg (not_not_intro h)]
  rfl

theorem wakeDoze_nap {b : Block} {e : Nat} (h : (b.eng e).ps = .nap) :
    ((b.wakeDoze e).eng e).ps = .pllStart false := by
  unfold Block.wakeDoze
  simp only [h, beginWake_ps]

theorem wakeDoze_toNap {b : Block} {e : Nat} (h : (b.eng e).ps = .toNap) : ((b.wakeDoze e).eng e).ps = .redoze := by
  unfold Block.wakeDoze
  simp only [h, beginWake_ps]

theorem counted_eng (b : Block) (off : Nat) (a : Bool) (e : Nat) : (b.counted off a).eng e = b.eng e := by
  rw [counted_rest]; rfl

/-- What a write that reaches its register leaves of an engine. -/
theorem Gives.eng_of_gate {c : Instr} {s : State} {m : Master} {off : Nat} {eff : Block → Block × Bool} {e : Nat}
    {p : PState → Prop} (h : exec c s = s.done fun b => b.gate m off eff) (ha : s.b.accepts m off = true)
    (hp : p ((eff s.b.fresh).1.eng e).ps) : Gives c s fun t => p (t.b.eng e).ps := by
  refine Gives.of_gate h ha (b' := (eff s.b.fresh).1) (acted := (eff s.b.fresh).2) rfl ?_
  rwa [run_eng, counted_eng]

/-! ## Descents and entries (R29, R31) -/

section
variable {b : Block} {e : Nat}

theorem idleExpiry_descends (hps : (b.eng e).ps = .run) (hhold : (b.eng e).hold = 0) (hcal : (b.eng e).calRun = false)
    (hpasses : (b.eng e).passes = []) (hjobs : (b.eng e).dyn.jobs = [])
    (hen : (if e < 64 then b.rdB (ENG_CFG e) 0 else b.rdB (DEN_CFG e) 0) = true) :
    idleExpiry e b = b.setPs e .toDoze := by
  simp [idleExpiry, hps, hhold, hcal, hpasses, hjobs, hen]

theorem napExpiry_descends (hps : (b.eng e).ps = .doze)
    (hen : (if e < 64 then b.rdB (ENG_CFG e) 1 else b.rdB (DEN_CFG e) 1) = true) :
    napExpiry e b = b.setPs e .toNap := if_pos ⟨hps, hen⟩

theorem dozeEntry_ends (hps : (b.eng e).ps = .toDoze) : dozeEntry e b = b.setPs e .doze := if_pos hps
theorem napEntry_ends (hps : (b.eng e).ps = .toNap) : napEntry e b = b.setPs e .nap := if_pos hps

theorem wakeDozeDone_pllStart {r : Bool} (hps : (b.eng e).ps = .pllStart r) :
    wakeDozeDone e b = b.setPs e (if r then .waking else .doze) := by simp only [wakeDozeDone, hps]
theorem wakeDozeDone_redoze (hps : (b.eng e).ps = .redoze) : wakeDozeDone e b = b.setPs e .doze := by
  simp only [wakeDozeDone, hps]

end

/-! ## The WAKE descriptor (R285) -/

theorem fetch_eng (b : Block) (e : Nat) : b.fetch.eng e = b.eng e := rfl
theorem fetch_wakes (b : Block) : b.fetch.wakes = b.wakes := rfl
theorem reached_eng (b : Block) (idx e : Nat) : (b.reached idx).eng e = b.eng e := rfl

theorem pwr_ne_seqIssued (k : Nat) : PWR_STATE ≠ SEQ_ISSUED k := by
  simp only [PWR_STATE, SEQ_ISSUED, P_PWR, P_SEQ]
  omega

theorem issued_modState (b : Block) (idx : Nat) (d : Desc) : (b.issued idx d).modState = b.modState := by
  simp only [Block.modState, Block.rdF, issued_rd b idx d (pwr_ne_seqIssued _)]

end Sys2Proof.Machine
end

section
/-! SUPPORT. Engine power states and wake hints as a whole. -/

namespace Sys2Proof.Machine

/-- The engines that a WAKE of descriptor `d` names (R285). -/
def hintEngs (d : Desc) : List Nat :=
  ((List.range 16).filter fun k => (d.word 1).getLsbD k).map (16 * dTgt d + ·)
    ++ ((List.range 2).filter fun k => (d.word 1).getLsbD (16 + k)).map (64 + 2 * dTgt d + ·)

theorem dWake_delayed (s : State) (idx : Nat) (d : Desc)
    (ht : s.b.takes idx d 0x03 true [0x0103FFFF, 0xFFFFFFFF] = true) (hdelay : dF d 2 0 16 ≠ 0) :
    Gives (.dWake idx d) s fun t =>
      t.hasReached idx = true ∧ t.nrej = s.nrej ∧ t.b.wakes.length = s.b.wakes.length + 1 := by
  refine Gives.of_takes rfl (by decide) ht ?_
  simp only [if_neg hdelay]
  generalize hb : Block.mk .. = b
  have hflight : b.flight = (s.b.fresh.issued idx d).flight := by rw [← hb]; rfl
  have hwakes : b.wakes.length = s.b.wakes.length + 1 := by simp [← hb]
  obtain ⟨hreached, hnrej⟩ := hasReached_of_issued (s := s) (b := s.b.fresh) rfl (takes_frm ht) hflight
    ((run_flight s fun _ => (b.reached idx).fetch).trans (fetch_flight _))
  exact ⟨hreached, hnrej, (congrArg List.length (run_wakes ..)).trans hwakes⟩

theorem dWake_atOnce (s : State) (idx : Nat) (d : Desc) (k : Fin 16)
    (ht : s.b.takes idx d 0x03 true [0x0103FFFF, 0xFFFFFFFF] = true) (hdelay : dF d 2 0 16 = 0) (hrun : dB d 1 24 = true)
    (hk : dB d 1 k = true) (hact : s.b.modState = stActive) :
    Gives (.dWake idx d) s fun t =>
      t.hasReached idx = true ∧ (t.b.eng (16 * dTgt d + k)).ps.towardsRun = true := by
  refine Gives.of_takes rfl (by decide) ht ?_
  simp only [if_pos hdelay, hrun, if_true]
  constructor
  · refine (hasReached_of_issued (s := s) (b := s.b.fresh) rfl (takes_frm ht) (d := d) (idx := idx)
      (c := (s.b.fresh.issued idx d).each (hintEngs d) fun b e => b.hint e true (dF d 2 16 16)) ?_ ((run_flight ..).trans (fetch_flight _))).1
    exact hints_keep Block.flight (fun _ _ _ h => h.flight) ..
  · rw [run_eng, fetch_eng, reached_eng]
    refine hints_towardsRun _ _ ((issued_modState s.b.fresh idx d).trans hact) _ (.inl ?_)
    refine List.mem_append_left _ (List.mem_map.2 ⟨k, List.mem_filter.2 ⟨List.mem_range.2 k.isLt, hk⟩, rfl⟩)

theorem wakeHintDelayExpiry_gives (s : State) (hint : Nat) (w : WakeW)
    (hw : s.b.wakes.find? (fun w => w.id == hint) = some w) (hrun : w.toRun = true) (hact : s.b.modState = stActive) :
    Gives (.wakeHintDelayExpiry hint) s fun t =>
      (∀ e ∈ w.engs, (t.b.eng e).ps.towardsRun = true) ∧ t.b.wakes = s.b.wakes.filter (·.id != hint) := by
  refine Gives.of_done (f := wakeDelayExpiry hint) rfl ?_
  have hact' : Block.modState { s.b.fresh with wakes := s.b.wakes.filter fun v => v.id != hint } = stActive := hact
  have heff : wakeDelayExpiry hint s.b.fresh =
      { s.b.fresh with wakes := s.b.wakes.filter fun v => v.id != hint }.each w.engs fun b e => b.hint e true w.hold := by
    simp only [wakeDelayExpiry, Block.fresh_wakes, hw, hrun]
  constructor
  · intro e he
    rw [run_eng, heff]
    exact hints_towardsRun _ _ hact' _ (.inl he)
  · rw [run_wakes, heff]
    exact hints_keep (·.wakes) (fun _ _ _ h => h.wakes) ..

/-- An effect on one engine gives that engine's state and what its state register shows. -/
theorem Gives.setPs {c : Instr} {s : State} {e : Nat} {p : PState} {f : Block → Block} (h : exec c s = s.done f)
    (hf : f s.b.fresh = s.b.fresh.setPs e p) :
    Gives c s fun t => (t.b.eng e).ps = p ∧ t.rdF (engState e) 0 2 = p.code % 4 := by
  refine Gives.of_done h ⟨?_, ?_⟩
  · rw [run_eng, hf, setPs_ps]
  · rw [State.rdF, Block.rdF, run_rd s f (engState_not_log e), hf]
    exact setPs_shown ..

/-- Settles O11, clause by clause from what each power operation does to its engine. -/
theorem enginePower : Obligations.EnginePower := by
  unfold Obligations.EnginePower
  refine ⟨?_, ?_, ?_, ?_, ?_, ?_, ?_, ?_, ?_, ?_, ?_, ?_, dWake_delayed, ?_, ?_⟩
  · intro s m e v ⟨ha, hact⟩
    exact Gives.eng_of_gate (p := fun q => q.towardsRun = true) rfl ha (wakeWrite_towardsRun (b := s.b.fresh) hact e v)
  · intro s m e v ⟨ha, hact, hv, hps⟩
    exact Gives.eng_of_gate (p := (· = .pllStart false)) rfl ha (by
      rw [wakeWrite_doze (b := s.b.fresh) hact e hv]; exact wakeDoze_nap hps)
  · intro s m e v ⟨ha, hact, hv, hps⟩
    exact Gives.eng_of_gate (p := (· = .redoze)) rfl ha (by
      rw [wakeWrite_doze (b := s.b.fresh) hact e hv]; exact wakeDoze_toNap hps)
  · intro s m n v ⟨ha, hact⟩
    exact Gives.eng_of_gate (p := fun q => q.towardsRun = true) rfl ha (wakeWrite_towardsRun (b := s.b.fresh) hact (64 + n) v)
  · intro s m n v ⟨ha, hact, hv, hps⟩
    exact Gives.eng_of_gate (p := (· = .pllStart false)) rfl ha (by
      rw [wakeWrite_doze (b := s.b.fresh) hact (64 + n) hv]; exact wakeDoze_nap hps)
  · intro s e ⟨hps, hhold, hcal⟩ ⟨hpasses, hjobs⟩ hen
    exact (Gives.setPs rfl (idleExpiry_descends hps hhold hcal hpasses hjobs hen)).mono fun _ h => h.1
  · intro s e hps hen
    exact (Gives.setPs rfl (napExpiry_descends hps hen)).mono fun _ h => h.1
  · intro s e hps
    exact Gives.setPs rfl (dozeEntry_ends hps)
  · intro s e hps
    exact Gives.setPs rfl (napEntry_ends hps)
  · intro s e r hps
    exact (Gives.setPs rfl (wakeDozeDone_pllStart hps)).mono fun _ h => h.1
  · intro s e hps
    exact (Gives.setPs rfl (wakeDozeDone_redoze hps)).mono fun _ h => h.1
  · intro s e
    refine Gives.of_done (f := holdExpiry e) rfl ?_
    constructor
    · rw [run_eng, holdExpiry, Block.eng_updEng_same]
    · rw [run_eng, holdExpiry, Block.eng_updEng_same]
      rfl
  · intro s idx d k ht ⟨hdelay, hrun, hk, hact⟩
    exact dWake_atOnce s idx d k ht hdelay hrun hk hact
  · intro s hint w hw ⟨hrun, hact⟩
    exact wakeHintDelayExpiry_gives s hint w hw hrun hact

end Sys2Proof.Machine
end

section
/-! SUPPORT. A received tensor message that passes every check (R381, R385, R388): its flow context, and where its bytes go. -/

namespace Sys2Proof.Machine

/-! ## The checks read what congestion marks leave alone -/

/-- The checks of R381 read the module's path and epochs and the flow context of the message. -/
theorem msgFault2_congr {b c : Block} (a : Arrival) (m : Msg) (hpath : c.path = b.path)
    (hep : ∀ l, c.epochAt l = b.epochAt l) (hflow : c.flow m.dflow = b.flow m.dflow) :
    c.msgFault2 a m = b.msgFault2 a m := by
  have hfor : ∀ p, c.epochFor p = b.epochFor p := fun p => by simp only [Block.epochFor, hpath, hep]
  have hnames : c.namesMe m.dpath = b.namesMe m.dpath := by simp only [Block.namesMe, hpath]
  have hepoch : c.epochOk m = b.epochOk m := by simp only [Block.epochOk, hfor]
  have hctx : ∀ o, c.flowOf m o = b.flowOf m o := fun o => by simp only [Block.flowOf, hflow]
  simp only [Block.msgFault2, hnames, hepoch, hctx]

/-- The congestion marks that message `m`, arriving as `a`, leaves on its flow context (R395). -/
def Block.marked (b : Block) (a : Arrival) (m : Msg) : Block :=
  let b := b.when a.ce fun b => b.bump VYV_CECNT
  if m.dflow < 4096 then
    (b.when a.ce fun b => b.updFlow m.dflow fun x => { x with ce := true }).when (m.flags.testBit 1) fun b =>
      b.eceIn m.dflow
  else b

/-- Counting a congestion mark changes one register. -/
theorem rd_when_bump (b : Block) (c : Bool) {o j : Nat} (n : Nat) (h : j ≠ o) :
    (b.when c fun b => b.bump o n).rd j = b.rd j :=
  Block.when_keep _ (·.rd j) _ _ (Block.rd_bump_ne _ _ h)

theorem pathRegs_ne_cecnt : ROL_PATH_HI ≠ VYV_CECNT ∧ ROL_PATH_LO ≠ VYV_CECNT ∧ ROL_STAT ≠ VYV_CECNT := by decide

theorem epochReg_ne_cecnt (l : Nat) : ROL_L_EPOCH l ≠ VYV_CECNT := by
  simp only [ROL_L_EPOCH, VYV_CECNT, P_ROL, P_VYV]
  omega

/-- A message that is admitted has its type's effect once its congestion marks stand. -/
theorem receive_admits {b : Block} {a : Arrival} {m : Msg} {cls type : Nat} (h : b.admits a m cls type = true)
    (act : Nat → Block → Block) : b.receive a m cls type act = act m.dflow (b.marked a m) := by
  simp only [Block.admits, Bool.and_eq_true, Bool.or_eq_true, Bool.not_eq_true', beq_iff_eq, Option.isNone_iff_eq_none] at h
  obtain ⟨⟨⟨⟨⟨⟨⟨hon, hup⟩, h1⟩, hheld⟩, hcls⟩, htype⟩, hrange⟩, h2⟩ := h
  obtain rfl := hcls
  obtain rfl := htype
  obtain ⟨hhi, hlo, hstat⟩ := pathRegs_ne_cecnt
  generalize hb' : b.when a.ce (fun b => b.bump VYV_CECNT) = b'
  have hrd : ∀ o, o ≠ VYV_CECNT → b'.rd o = b.rd o := fun o ho => hb' ▸ rd_when_bump b _ _ ho
  have hflow : b'.flow m.dflow = b.flow m.dflow := hb' ▸ Block.when_keep _ (·.flow m.dflow) _ _ rfl
  have h2' : b'.msgFault2 a m = none := by
    rw [msgFault2_congr a m ?_ ?_ hflow, h2]
    · simp only [Block.path, hrd _ hhi, hrd _ hlo]
    · exact fun l => hrd _ (epochReg_ne_cecnt _)
  have hdisc : (b'.rdB ROL_STAT 0 && !heldActs m.type) = false := by
    rw [Block.rdB, hrd _ hstat, ← Block.rdB]
    obtain h | h := hheld <;> simp [h]
  simp only [Block.receive, Block.marked, hon, hup, h1, hb', hdisc, h2', Bool.not_true, Bool.or_self,
    Bool.false_eq_true, if_false, ne_eq, not_true_eq_false, or_self, Option.isNone_eq_false_iff.2 hrange]

/-! ## What counting and marking leave of the module -/

/-- `c` is `b` but for counters of Vyivim, failures noted, and the words, marks and times of flow context `f`. -/
structure FlowNoted (f : Nat) (b c : Block) : Prop where
  rest : c = { b with regs := c.regs, vyv := { b.vyv with flows := c.vyv.flows, faults := c.vyv.faults } }
  rd : ∀ o, o ≠ VYV_CECNT → o ≠ VYV_LOSTCNT → c.rd o = b.rd o
  window : (c.flow f).w 7 = (b.flow f).w 7
  seq : (c.flow f).rxSeq = (b.flow f).rxSeq

theorem FlowNoted.refl (f : Nat) (b : Block) : FlowNoted f b b := ⟨rfl, fun _ _ _ => rfl, rfl, rfl⟩

theorem FlowNoted.trans {f : Nat} {a b c : Block} (h : FlowNoted f a b) (k : FlowNoted f b c) : FlowNoted f a c :=
  ⟨by rw [k.rest, h.rest], fun o h1 h2 => (k.rd o h1 h2).trans (h.rd o h1 h2), k.window.trans h.window,
    k.seq.trans h.seq⟩

theorem FlowNoted.when {f : Nat} {b : Block} {g : Block → Block} (h : FlowNoted f b (g b)) (c : Bool) :
    FlowNoted f b (b.when c g) := by
  cases c
  · exact .refl f b
  · exact h

/-- A change of the context that keeps its receive window and its sequence. -/
theorem updFlow_noted (b : Block) (f : Nat) {g : Flow → Flow} (hw : (g (b.flow f)).w 7 = (b.flow f).w 7)
    (hs : (g (b.flow f)).rxSeq = (b.flow f).rxSeq) : FlowNoted f b (b.updFlow f g) :=
  ⟨rfl, fun _ _ _ => rfl, by rw [Block.flow_updFlow_same, hw], by rw [Block.flow_updFlow_same, hs]⟩

theorem bump_noted (b : Block) (f n : Nat) {o : Nat} (h : o = VYV_CECNT ∨ o = VYV_LOSTCNT) :
    FlowNoted f b (b.bump o n) :=
  ⟨rfl, fun j h1 h2 => Block.rd_bump_ne _ _ (by obtain h | h := h <;> rw [h] <;> assumption), rfl, rfl⟩

theorem noteFault_noted (b : Block) (f : Nat) (x : FaultN) : FlowNoted f b (b.noteFault x) :=
  ⟨rfl, fun _ _ _ => rfl, rfl, rfl⟩

/-- A word of a flow record after a write of another. -/
theorem Flow.w_setW_ne (x : Flow) {i j : Nat} (v : Word) (h : j ≠ i) : (x.setW i v).w j = x.w j := by
  simp only [Flow.w, Flow.setW, Vector.toList_setIfInBounds, List.getD_eq_getElem?_getD]
  rw [List.getElem?_set_ne (Ne.symm h)]

theorem eceIn_noted (b : Block) (f : Nat) : FlowNoted f b (b.eceIn f) := by
  unfold Block.eceIn
  split
  · exact .refl f b
  · exact updFlow_noted b f (Flow.w_setW_ne _ _ (by decide)) rfl

theorem marked_noted (b : Block) (a : Arrival) (m : Msg) : FlowNoted m.dflow b (b.marked a m) := by
  have hce : FlowNoted m.dflow b (b.when a.ce fun b => b.bump VYV_CECNT) := (bump_noted b _ 1 (.inl rfl)).when _
  unfold Block.marked
  simp only
  split
  · exact (hce.trans ((updFlow_noted _ _ rfl rfl).when _)).trans ((eceIn_noted _ _).when _)
  · exact hce

theorem bumpW_noted (b : Block) (f : Nat) {i : Nat} (n : Nat) (h : i ≠ 7) :
    FlowNoted f b (b.updFlow f fun x => x.bumpW i n) :=
  updFlow_noted b f (Flow.w_setW_ne _ _ (Ne.symm h)) rfl

/-- The block in which message `m` of a tensor has moved the sequence of its flow on (R388). -/
theorem tensorIn_moves {b : Block} {f : Nat} {m : Msg} (hseq : (m.seq - (b.flow f).rxSeq).toNat < 2 ^ 31) (t : Tensor) :
    ∃ c, FlowNoted f b c ∧
      b.tensorIn f m t = (c.updFlow f fun x => { x with rxSeq := m.seq + 1 }).placeTensor f m t := by
  unfold Block.tensorIn
  simp only [if_neg (Nat.not_le_of_lt hseq)]
  refine ⟨_, ?_, rfl⟩
  refine (bumpW_noted b f 1 (by decide)).trans (FlowNoted.when ?_ _)
  exact ((bump_noted _ f _ (.inr rfl)).trans (bumpW_noted _ f _ (by decide))).trans (noteFault_noted ..)

/-! ## What placing reads -/

/-- `c` is such a block in which the sequence of context `f` has moved on to `q`. -/
structure FlowMoved (f : Nat) (q : BitVec 32) (b c : Block) : Prop where
  rest : c = { b with regs := c.regs, vyv := { b.vyv with flows := c.vyv.flows, faults := c.vyv.faults } }
  rd : ∀ o, o ≠ VYV_CECNT → o ≠ VYV_LOSTCNT → c.rd o = b.rd o
  window : (c.flow f).w 7 = (b.flow f).w 7
  seq : (c.flow f).rxSeq = q

theorem FlowNoted.moved {f : Nat} {b c : Block} (h : FlowNoted f b c) (q : BitVec 32) :
    FlowMoved f q b (c.updFlow f fun x => { x with rxSeq := q }) :=
  ⟨by rw [h.rest]; rfl, h.rd, by rw [Block.flow_updFlow_same]; exact h.window, by rw [Block.flow_updFlow_same]⟩

theorem FlowMoved.frm {f : Nat} {q : BitVec 32} {b c : Block} (h : FlowMoved f q b c) : c.frm = b.frm := by rw [h.rest]
theorem FlowMoved.held {f : Nat} {q : BitVec 32} {b c : Block} (h : FlowMoved f q b c) : c.vyv.held = b.vyv.held := by
  rw [h.rest]
theorem FlowMoved.grade {f : Nat} {q : BitVec 32} {b c : Block} (h : FlowMoved f q b c) : c.grade = b.grade := by
  rw [h.rest]
theorem FlowMoved.frameRel {f : Nat} {q : BitVec 32} {b c : Block} (h : FlowMoved f q b c) (frame : BitVec 32) :
    c.frameRel frame = b.frameRel frame := by
  rw [h.rest]; rfl
theorem FlowMoved.vrecvFor {f : Nat} {q : BitVec 32} {b c : Block} (h : FlowMoved f q b c) (g tag : Nat) :
    c.vrecvFor g tag = b.vrecvFor g tag := by
  rw [h.rest]; rfl

/-- An admitted tensor message in sequence is placed from such a block. -/
theorem Gives.of_tensor {c : Instr} {s : State} {P : State → Prop} {a : Arrival} {m : Msg} {type f : Nat} {t : Tensor}
    (h : exec c s = s.done fun b => b.receive a m 1 type fun f b => b.tensorIn f m t)
    (ha : s.b.admits a m 1 type = true) (hf : m.dflow = f) (hseq : (m.seq - (s.b.flow f).rxSeq).toNat < 2 ^ 31)
    (hP : ∀ b, FlowMoved f (m.seq + 1) s.b.fresh b → P (s.run fun _ => b.placeTensor f m t)) : Gives c s P := by
  subst hf
  have hmark := marked_noted s.b.fresh a m
  obtain ⟨b, hb, htensor⟩ := tensorIn_moves (b := s.b.fresh.marked a m) (m := m) (hmark.seq ▸ hseq) t
  have hadm : s.b.fresh.admits a m 1 type = true := ha
  rw [State.done, run_congr (g := fun _ => (b.updFlow m.dflow fun x => { x with rxSeq := m.seq + 1 }).placeTensor m.dflow m t)
    ((receive_admits hadm _).trans htensor)] at h
  exact ⟨_, h, hP _ ((hmark.trans hb).moved _)⟩

/-! ## The Mint has nothing to do -/

/-- Without work of the Mint nothing goes on. -/
theorem pump_idle {b : Block} (h : b.mintQ = []) : b.pump = b := by
  simp [Block.pump, Block.turns, Block.pumpRounds, h]

/-- A change of the frame that keeps the Mint's work. -/
theorem updFrm_mintQ (b : Block) {g : Frame → Frame} (h : ∀ f, (g f).mq = f.mq) : (b.updFrm g).mintQ = b.mintQ := by
  simp only [Block.mintQ, Block.updFrm]
  cases b.frm
  · rfl
  · exact h _

theorem reached_mintQ (b : Block) (idx : Nat) : (b.reached idx).mintQ = b.mintQ := updFrm_mintQ b fun _ => rfl

/-! ## A WRITE placed in its buffer, a message kept -/

/-- Data that fits beside what has come stands in the buffer afterwards; flow contexts are left alone. -/
theorem placeWrite_fits {b : Block} {v : Vrecv} {roff : Nat} {data : List Byte} (hmq : b.mintQ = [])
    (hdone : v.done = false) (hlen : roff + data.length ≤ v.len) (hover : v.overlaps roff data.length = false)
    (frame seq : BitVec 32) :
    (b.placeWrite v frame seq roff data).vyv = b.vyv ∧
      (b.placeWrite v frame seq roff data).store = (b.wrBytes (v.dst + roff) data).store := by
  have hfit : (decide (v.len < roff + data.length) || v.overlaps roff data.length) = false := by
    rw [hover, Bool.or_false, decide_eq_false_iff_not]
    omega
  obtain ⟨cnt, htouch⟩ := hbmTouch_eq (b.wrBytes (v.dst + roff) data) (v.dst + roff) data.length
  unfold Block.placeWrite
  simp only [hdone, hfit, htouch, Bool.false_eq_true, if_false]
  rw [pump_idle]
  · exact ⟨Block.when_keep _ (·.vyv) _ _ rfl, Block.when_keep _ Block.store _ _ rfl⟩
  · rw [Block.when_keep _ Block.mintQ _ _ (reached_mintQ ..)]
    exact Eq.trans (updFrm_mintQ _ (by intro _; rfl)) hmq

/-- A message that its flow's receive space and the pool have room for is kept. -/
theorem hold_room {b : Block} {h : HeldMsg} {rtag otype : Nat}
    (hmine : (((b.vyv.held.filter fun g => g.flow == h.flow).map (·.size)).foldl (· + ·) 0) + h.size ≤
      fld ((b.flow h.flow).w 7) 0 16 * 1024)
    (hpool : ((b.vyv.held.map (·.size)).foldl (· + ·) 0) + h.size ≤ b.rdF VYV_RXSIZE 0 11 * 2 ^ 20)
    (hcap : (b.rd VYV_RXBASE_LO).toNat + b.rdF VYV_RXBASE_HI 0 5 * 2 ^ 32 + b.rdF VYV_RXSIZE 0 11 * 2 ^ 20 ≤ b.grade.bytes) :
    b.hold h rtag otype = { b with vyv := { b.vyv with held := b.vyv.held ++ [h] } } := by
  unfold Block.hold
  simp only
  rw [if_neg (by omega)]

section
variable {s : State} {m : Msg} {f : Nat} {b : Block}

/-- A message of a later frame is kept. -/
theorem placeTensor_later (hb : FlowMoved f (m.seq + 1) s.b.fresh b) (hrel : s.b.frameRel m.frame = 2)
    (hmine : (((s.b.vyv.held.filter fun g => g.flow == f).map (·.size)).foldl (· + ·) 0) + m.payload.length ≤
      fld ((s.b.flow f).w 7) 0 16 * 1024)
    (hpool : ((s.b.vyv.held.map (·.size)).foldl (· + ·) 0) + m.payload.length ≤ s.rdF VYV_RXSIZE 0 11 * 2 ^ 20)
    (hcap : (s.rd VYV_RXBASE_LO).toNat + s.rdF VYV_RXBASE_HI 0 5 * 2 ^ 32 + s.rdF VYV_RXSIZE 0 11 * 2 ^ 20 ≤ s.b.grade.bytes)
    (t : Tensor) (h : HeldMsg) (hkeep : b.keep f m t = b.hold h t.tag t.otype) (hflow : h.flow = f)
    (hsize : h.size = m.payload.length) :
    b.placeTensor f m t = { b with vyv := { b.vyv with held := s.b.vyv.held ++ [h] } } := by
  have hplace : b.placeTensor f m t = b.keep f m t := by
    have hrel' : b.frameRel m.frame = 2 := (hb.frameRel _).trans hrel
    unfold Block.placeTensor
    rw [hrel']
    cases t <;> rfl
  have hheld : b.vyv.held = s.b.vyv.held := hb.held
  have hsz : b.rdF VYV_RXSIZE 0 11 = s.rdF VYV_RXSIZE 0 11 :=
    congrArg (fld · 0 11) (hb.rd _ (by decide) (by decide))
  have hhi : b.rdF VYV_RXBASE_HI 0 5 = s.rdF VYV_RXBASE_HI 0 5 :=
    congrArg (fld · 0 5) (hb.rd _ (by decide) (by decide))
  have hlo : b.rd VYV_RXBASE_LO = s.rd VYV_RXBASE_LO := hb.rd _ (by decide) (by decide)
  have hwin : (b.flow f).w 7 = (s.b.flow f).w 7 := hb.window
  have hgr : b.grade = s.b.grade := hb.grade
  rw [hplace, hkeep, hold_room, hheld]
  · rw [hheld, hflow, hsize, hwin]; exact hmine
  · rw [hheld, hsize, hsz]; exact hpool
  · rw [hlo, hhi, hsz, hgr]; exact hcap

end

end Sys2Proof.Machine
end

section
/-! SUPPORT. Tensor messages received, as a whole. -/

namespace Sys2Proof.Machine

theorem run_held (s : State) (f : Block → Block) : (s.run f).b.vyv.held = (f s.b.fresh).vyv.held :=
  congrArg Vyv.held (run_vyv s f)

/-- A WRITE for the receive buffer of its tag in the current frame. -/
theorem rxWrite_current (s : State) (a : Arrival) (m : Msg) (f : Nat) (v : Vrecv)
    (ha : s.b.admits a m 1 tWRITE = true) (hf : m.dflow = f) (hseq : (m.seq - (s.b.flow f).rxSeq).toNat < 2 ^ 31)
    (hrel : s.b.frameRel m.frame = 1) (hv : s.b.vrecvFor f (be m.payload 0 2) = some v) (hdone : v.done = false)
    (hmq : s.b.frm.map (·.mq) = some []) (hlen : be m.payload 4 4 + (m.payload.drop 16).length ≤ v.len)
    (hover : v.overlaps (be m.payload 4 4) (m.payload.drop 16).length = false) :
    Gives (.rxWrite a m) s fun t => (t.b.flow f).rxSeq = m.seq + 1 ∧
      ∀ i : Fin (m.payload.drop 16).length, t.b.rd8 (v.dst + be m.payload 4 4 + i) = (m.payload.drop 16)[i] := by
  refine Gives.of_tensor rfl ha hf hseq fun b hb => ?_
  have hplace : b.placeTensor f m (writeOf m.payload) =
      b.placeWrite v m.frame m.seq (be m.payload 4 4) (m.payload.drop 16) := by
    have hrel' : b.frameRel m.frame = 1 := (hb.frameRel _).trans hrel
    have hv' : b.vrecvFor f (be m.payload 0 2) = some v := (hb.vrecvFor ..).trans hv
    unfold Block.placeTensor writeOf
    rw [hrel']
    simp only [hv']
  have hmq' : b.mintQ = [] := by
    simp only [Block.mintQ, hb.frm, Block.fresh_frm]
    obtain ⟨fr, hfr, hnil⟩ := Option.map_eq_some_iff.1 hmq
    simp only [hfr, hnil]
  obtain ⟨hvyv, hstore⟩ := placeWrite_fits hmq' hdone hlen hover m.frame m.seq
  rw [hplace]
  constructor
  · rw [run_flow, Block.flow, hvyv]
    exact hb.seq
  · intro i
    rw [run_rd8, rd8_of_store hstore]
    exact rd8_wrBytes_in _ _ _ _ i.isLt

/-- Settles O34, from the block in which the message has moved the sequence of its flow on. -/
theorem tensorArrivals : Obligations.TensorArrivals := by
  unfold Obligations.TensorArrivals
  refine ⟨?_, ?_, ?_⟩
  · intro s a m f v ⟨ha, hf, _, hseq, hrel⟩ ⟨hv, hdone⟩ ⟨hmq, hlen, hover⟩
    exact rxWrite_current s a m f v ha hf hseq hrel hv hdone hmq hlen hover
  · intro s a m f ⟨ha, hf, _, hseq, hrel⟩ hmine hpool hcap
    refine Gives.of_tensor rfl ha hf hseq fun b hb => ?_
    rw [placeTensor_later hb hrel hmine hpool hcap _ _ rfl rfl rfl]
    exact ⟨(congrArg Flow.rxSeq (run_flow ..)).trans hb.seq, run_held ..⟩
  · intro s a m f ⟨ha, hf, _, hseq, hrel⟩ hmine hpool hcap
    refine Gives.of_tensor rfl ha hf hseq fun b hb => ?_
    rw [placeTensor_later hb hrel hmine hpool hcap _ _ rfl rfl rfl]
    refine ⟨(congrArg Flow.rxSeq (run_flow ..)).trans hb.seq, ?_, ?_⟩
    · rw [run_held, List.length_append, List.length_singleton]
    · intro h hh
      rw [run_held, List.mem_append, List.mem_singleton] at hh
      obtain hold | hnew := hh
      · exact .inl hold
      · exact .inr (by subst hnew; exact ⟨rfl, rfl, rfl⟩)

end Sys2Proof.Machine
end

section
/-! SUPPORT. What the issue of a PASS does to the queue of its engine and to the groups of its stack (R281, R286, R287). -/

namespace Sys2Proof.Machine

/-- What statements on a PASS read of a block: the queue of engine `e`, the number of groups of stack `k`, what is in
flight, and the work of the Mint. -/
def Block.passView (b : Block) (e k : Nat) : List PassQ × Nat × Option (List Infl × Nat) × List MintWork :=
  ((b.eng e).passes, (b.stk k).cons.length, b.flight, b.mintQ)

theorem passView_congr {b c : Block} {e k : Nat} (hp : (c.eng e).passes = (b.eng e).passes)
    (hk : (c.stk k).cons.length = (b.stk k).cons.length) (hf : c.flight = b.flight) (hm : c.mintQ = b.mintQ) :
    c.passView e k = b.passView e k := by
  simp only [Block.passView, hp, hk, hf, hm]

/-- Registers, events and outputs are no part of it. -/
theorem passView_of_fields {b c : Block} (e k : Nat) (he : c.engs = b.engs) (hs : c.stks = b.stks)
    (hf : c.frm = b.frm) : c.passView e k = b.passView e k := by
  simp only [Block.passView, Block.eng, Block.stk, Block.flight, Block.mintQ, he, hs, hf]

section
variable (b : Block) (e k : Nat)

theorem bump_passView (o n : Nat) : (b.bump o n).passView e k = b.passView e k :=
  passView_of_fields e k (b.bump_engs o n) (b.bump_stks o n) (b.bump_frm o n)
theorem raise_passView (p i : Nat) : (b.raise p i).passView e k = b.passView e k :=
  passView_of_fields e k (b.raise_engs p i) (b.raise_stks p i) (b.raise_frm p i)

/-- A change of an engine that keeps its queue. -/
theorem updEng_passView (j : Nat) {f : Eng → Eng} (h : ∀ x, (f x).passes = x.passes) :
    (b.updEng j f).passView e k = b.passView e k := by
  refine passView_congr ?_ rfl rfl rfl
  rw [Block.eng_updEng]
  split
  · next hj => rw [h, hj]
  · rfl

/-- A change of a stack that keeps the number of its groups. -/
theorem updStk_passView (j : Nat) {f : Stk → Stk} (h : ∀ x, (f x).cons.length = x.cons.length) :
    (b.updStk j f).passView e k = b.passView e k := by
  refine passView_congr rfl ?_ rfl rfl
  rw [Block.stk_updStk]
  split
  · next hj => rw [h, hj]
  · rfl

/-- A change of the frame that keeps what is in flight and the work of the Mint. -/
theorem updFrm_passView {g : Frame → Frame} (hf : ∀ f, (g f).flight = f.flight) (hm : ∀ f, (g f).mq = f.mq) :
    (b.updFrm g).passView e k = b.passView e k :=
  passView_congr rfl rfl (updFrm_flight b hf) (updFrm_mintQ b hm)

theorem setPs_passView (j : Nat) (p : PState) : (b.setPs j p).passView e k = b.passView e k :=
  (passView_of_fields e k rfl rfl rfl).trans (updEng_passView b e k j (f := fun x => { x with ps := p }) fun _ => rfl)

theorem beginWake_passView (j : Nat) (p : PState) : (b.beginWake j p).passView e k = b.passView e k :=
  (updEng_passView (b.setPs j p) e k j (f := fun x => { x with woke := x.woke + 1 }) fun _ => rfl).trans (setPs_passView b e k j p)

theorem wakeRun_passView (j : Nat) : (b.wakeRun j).passView e k = b.passView e k := by
  unfold Block.wakeRun
  split
  · rfl
  · rfl
  · rfl
  · exact beginWake_passView ..
  · exact beginWake_passView ..
  · exact beginWake_passView ..
  · exact beginWake_passView ..
  · exact setPs_passView ..
  · exact setPs_passView ..

theorem pause_passView (j n : Nat) : (b.pause j n).passView e k = b.passView e k := by
  unfold Block.pause
  simp only
  split
  · exact bump_passView ..
  · rfl

theorem lateWake_passView (j : Nat) : (b.lateWake j).passView e k = b.passView e k := by
  unfold Block.lateWake
  split
  · rfl
  · calc _ = (((b.wakeRun j).flag fLATE).updFrm fun f => { f with nlate := f.nlate + 1 }).passView e k :=
          (raise_passView ..).trans (bump_passView ..)
      _ = ((b.wakeRun j).flag fLATE).passView e k := updFrm_passView _ e k (fun _ => rfl) fun _ => rfl
      _ = (b.wakeRun j).passView e k := updFrm_passView _ e k (fun _ => rfl) fun _ => rfl
      _ = b.passView e k := wakeRun_passView ..

theorem updCon_passView (j id : Nat) (f : Con → Con) : (b.updCon j id f).passView e k = b.passView e k :=
  updStk_passView b e k j fun _ => List.length_map _

end

/-! ## What a PASS does once it has its group -/

/-- The group's place in the order of the tree, which the PASS of its lowest leaf takes (R181). -/
def Block.passPlaced (b : Block) (d : Desc) (id : Nat) : Block :=
  b.when ((List.range 16).find? (fun i => (dF d 1 16 16).testBit i) = some (dF d 1 0 4)) fun b =>
    let pl := (b.stk (dTgt d)).nextPlace
    (b.updCon (dTgt d) id fun c => { c with place := some pl }).updStk (dTgt d) fun k => { k with nextPlace := pl + 1 }

/-- A pass that a load-mode scan or a search holds back is counted (R72, R105). -/
def Block.passCounted (b : Block) (e : Nat) : Block :=
  let scan := b.rdB (ENG_STATE e) 5
  let srch := match (b.eng e).search with | some q => !q.waiting | none => false
  b.when (scan || srch) fun b => (b.bump (ENG_HELD e)).when scan fun b =>
    let b := b.when (!(b.eng e).heldOne) fun b => (b.raise (P_ENG e) 4).updEng e fun x => { x with heldOne := true }
    b.updFrm fun f => { f with nheld := f.nheld + 1 }

/-- A pass interrupts a probe point of its engine (R328). -/
def Block.passBreaks (b : Block) (e s : Nat) : Block :=
  match (b.stk s).cal with
  | some c => if c.eng = e ∧ c.hold ∧ !c.broken then
      ((b.bump (ASY_PREEMPT s)).updStk s fun k => { k with cal := some { c with broken := true } }).holdStep c 0
    else b
  | none => b

section
variable (b : Block) (e k : Nat)

theorem passPlaced_passView (d : Desc) (id : Nat) : (b.passPlaced d id).passView e k = b.passView e k := by
  refine Block.when_keep _ (·.passView e k) _ _ ?_
  exact Eq.trans (updStk_passView _ e k _ (by intro _; rfl)) (updCon_passView ..)

theorem passCounted_passView (j : Nat) : (b.passCounted j).passView e k = b.passView e k := by
  refine Block.when_keep _ (·.passView e k) _ _ (Eq.trans (Block.when_keep _ (·.passView e k) _ _ ?_) (bump_passView ..))
  refine Eq.trans (updFrm_passView _ e k (by intro _; rfl) (by intro _; rfl)) ?_
  refine Block.when_keep _ (·.passView e k) _ _ ?_
  exact Eq.trans (updEng_passView _ e k j (by intro _; rfl)) (raise_passView ..)

theorem passBreaks_passView (j i : Nat) : (b.passBreaks j i).passView e k = b.passView e k := by
  unfold Block.passBreaks
  split
  · split
    · exact Eq.trans (updEng_passView _ e k _ (by intro _; rfl))
        (Eq.trans (updStk_passView _ e k i (by intro _; rfl)) (bump_passView ..))
    · rfl
  · rfl

end

/-- The engine and the columns of a PASS. -/
def passEng (d : Desc) : Nat := 16 * dTgt d + dF d 1 0 4
def passCols (d : Desc) : Nat := if dB d 1 6 then dF d 2 0 13 / 2 else dF d 2 0 13

/-- The member of a tally group that a PASS is, and the group that it founds. -/
def passMember (idx : Nat) (d : Desc) : Member := { leaf := dF d 1 0 4, idx := idx, sid := none, cols := [] }
def passGroup (idx : Nat) (d : Desc) (id : Nat) : Con :=
  { id := id, place := none, slot := dF d 2 16 10, col0 := dF d 3 0 12, ncol := passCols d, a13 := dB d 1 6,
    gnode := 24 + dF d 1 8 3, mask := dF d 1 16 16, dyn := none, idxs := [idx], mem := [passMember idx d], res := [],
    flags := 0 }

/-- The group still forming that a PASS may join (R287). -/
def Block.forming (b : Block) (d : Desc) : Option Con :=
  (b.stk (dTgt d)).cons.find? fun c => c.dyn.isNone && c.gnode == 24 + dF d 1 8 3 && c.mask == dF d 1 16 16 && !c.formed

/-- Are the fields of a PASS legal, for an engine that holds a model (R286)? -/
structure PassLegal (b : Block) (d : Desc) (adc : List (List (BitVec 8))) : Prop where
  shape : passShape d adc = true
  len : 1 ≤ dF d 2 0 13 ∧ dF d 2 0 13 ≤ 4096
  even : dB d 1 6 = true → dF d 2 0 13 % 2 = 0
  node : dF d 1 8 3 ≠ 7
  loaded : b.rdB (ENG_STATE (passEng d)) 2 = true
  group : groupOk (dF d 1 8 3) (dF d 1 16 16) (dF d 1 0 4) = true
  cols : b.beyondCols (dTgt d) (dF d 2 16 10) (dF d 3 0 12 + passCols d) = false

theorem engState_ne_seqIssued (e : Nat) {k : Nat} (_ : k < 4) : ENG_STATE e ≠ SEQ_ISSUED k := by
  simp only [ENG_STATE, P_ENG, engBase, SEQ_ISSUED, P_SEQ]
  split <;> omega

/-- The issue of a PASS changes nothing that its fields are judged by. -/
theorem PassLegal.issued {b : Block} {d : Desc} {adc : List (List (BitVec 8))} (h : PassLegal b d adc) (idx : Nat)
    (hd : dTgt d < 4) : PassLegal (b.issued idx d) d adc where
  shape := h.shape
  len := h.len
  even := h.even
  node := h.node
  loaded := by
    rw [Block.rdB, issued_rd b idx d (engState_ne_seqIssued _ hd)]
    exact h.loaded
  group := h.group
  cols := by
    have hrec : (b.issued idx d).recordFor (dTgt d) (dF d 2 16 10) = b.recordFor (dTgt d) (dF d 2 16 10) := by
      simp only [Block.recordFor, Block.tile, issued_stk]
      rfl
    simp only [Block.beyondCols, hrec]
    exact h.cols

theorem takes_tgt {b : Block} {idx op : Nat} {d : Desc} {masks : List Nat} (hop : op ≠ 2)
    (h : b.takes idx d op true masks = true) : dTgt d < 4 := by
  unfold Block.takes at h
  split at h
  · cases h
  · simp only [Bool.and_eq_true, if_neg hop] at h
    obtain ⟨⟨_, htgt⟩, _⟩ := h
    exact of_decide_eq_true htgt

/-- The power state of the engine of a PASS when it issues with its group `id` (R32). -/
def Block.passPs (b : Block) (d : Desc) (id : Nat) : PState :=
  (((b.passPlaced d id).pause (dTgt d) (dF d 2 0 13)).eng (passEng d)).ps

/-- A PASS that has its group `id`, in block `b`, just before it joins the queue of its engine. -/
def Block.passReady (b : Block) (d : Desc) (id : Nat) : Block :=
  ((((b.passPlaced d id).pause (dTgt d) (dF d 2 0 13)).lateWake (passEng d)).passCounted (passEng d)).passBreaks
    (passEng d) (dTgt d)

/-- The pass that such a PASS puts into the queue of its engine. -/
def Block.passIn (b : Block) (idx : Nat) (d : Desc) (adc : List (List (BitVec 8))) (id : Nat) : PassQ :=
  { idx := idx, con := id, bus := dF d 1 4 2, a13 := dB d 1 6, nsym := dF d 2 0 13, adc := adc, done := 0, hi := [],
    waits := if b.passPs d id ≠ .run then some (b.passReady d id).time else none, started := false, stalled := false,
    late := b.passPs d id ≠ .run }

theorem passReady_passView (b : Block) (d : Desc) (id e k : Nat) :
    (b.passReady d id).passView e k = b.passView e k :=
  calc (b.passReady d id).passView e k
    _ = ((((b.passPlaced d id).pause (dTgt d) (dF d 2 0 13)).lateWake (passEng d)).passCounted (passEng d)).passView e k :=
      passBreaks_passView ..
    _ = (((b.passPlaced d id).pause (dTgt d) (dF d 2 0 13)).lateWake (passEng d)).passView e k := passCounted_passView ..
    _ = ((b.passPlaced d id).pause (dTgt d) (dF d 2 0 13)).passView e k := lateWake_passView ..
    _ = (b.passPlaced d id).passView e k := pause_passView ..
    _ = b.passView e k := passPlaced_passView ..

/-- The block in which the PASS waits at the end of the queue of its engine. -/
def Block.passQueued (b : Block) (p : PassQ) (e : Nat) : Block :=
  b.updEng e fun x => { x with passes := x.passes ++ [p] }

@[simp] theorem passQueued_stk (b : Block) (p : PassQ) (e k : Nat) : (b.passQueued p e).stk k = b.stk k := rfl
@[simp] theorem passQueued_mintQ (b : Block) (p : PassQ) (e : Nat) : (b.passQueued p e).mintQ = b.mintQ := rfl
@[simp] theorem passQueued_flight (b : Block) (p : PassQ) (e : Nat) : (b.passQueued p e).flight = b.flight := rfl
theorem fetch_stk (b : Block) (k : Nat) : b.fetch.stk k = b.stk k := rfl

/-- The block in which a PASS has founded its group. -/
def Block.passFounds (b : Block) (idx : Nat) (d : Desc) : Block :=
  b.updStk (dTgt d) fun k => { k with nextCon := k.nextCon + 1, cons := k.cons ++ [passGroup idx d k.nextCon] }

/-- The block in which a PASS has joined group `c`. -/
def Block.passJoins (b : Block) (idx : Nat) (d : Desc) (c : Con) : Block :=
  b.updCon (dTgt d) c.id fun c => { c with mem := c.mem ++ [passMember idx d], idxs := c.idxs ++ [idx] }

section
variable {b : Block} {idx : Nat} {d : Desc} {adc : List (List (BitVec 8))}

theorem PassLegal.fields (h : PassLegal b d adc) :
    ¬ (dF d 2 0 13 = 0 ∨ 4096 < dF d 2 0 13 ∨ (dB d 1 6 && dF d 2 0 13 % 2 == 1) = true ∨ dF d 1 8 3 = 7) := by
  have heven := h.even
  obtain ⟨hlo, hhi⟩ := h.len
  rintro (h0 | hbig | hodd | hnode)
  · omega
  · omega
  · simp only [Bool.and_eq_true, beq_iff_eq] at hodd
    have := heven hodd.1
    omega
  · exact h.node hnode

/-- A PASS of legal fields founds a group when none is forming for it. -/
theorem passEff_founds (ht : b.takes idx d 0x10 true [0xFFFF077F, 0x03FF1FFF, 0xFFF] = true) (hl : PassLegal b d adc)
    (hform : b.forming d = none) : passEff idx d adc b =
      (((((b.issued idx d).passFounds idx d).passReady d (b.stk (dTgt d)).nextCon).passQueued
        (((b.issued idx d).passFounds idx d).passIn idx d adc (b.stk (dTgt d)).nextCon) (passEng d)).pump).fetch := by
  have hl' := hl.issued idx (takes_tgt (by decide) ht)
  have hform' : (b.issued idx d).forming d = none := by rw [Block.forming, issued_stk]; exact hform
  rw [passEff, descr_takes (by decide) ht, ← issued_stk b idx d (dTgt d)]
  generalize b.issued idx d = c at *
  have hload : c.rdB (ENG_STATE (16 * dTgt d + dF d 1 0 4)) 2 = true := hl'.loaded
  have hcols : c.beyondCols (dTgt d) (dF d 2 16 10)
    (dF d 3 0 12 + if dB d 1 6 = true then dF d 2 0 13 / 2 else dF d 2 0 13) = false := hl'.cols
  unfold Block.forming at hform'
  simp only [if_neg hl'.fields, hload, hl'.group, hcols, hform', Bool.not_true, Bool.false_eq_true, if_false]
  rfl

/-- It joins the one that is still forming for it, when that is for the same columns and lacks its leaf. -/
theorem passEff_joins (ht : b.takes idx d 0x10 true [0xFFFF077F, 0x03FF1FFF, 0xFFF] = true) (hl : PassLegal b d adc)
    {g : Con} (hform : b.forming d = some g) (hslot : g.slot = dF d 2 16 10) (hcol0 : g.col0 = dF d 3 0 12)
    (ha13 : g.a13 = dB d 1 6) (hncol : g.ncol = passCols d) (hleaf : (g.mem.any fun m => m.leaf == dF d 1 0 4) = false) :
    passEff idx d adc b =
      (((((b.issued idx d).passJoins idx d g).passReady d g.id).passQueued
        (((b.issued idx d).passJoins idx d g).passIn idx d adc g.id) (passEng d)).pump).fetch := by
  have hl' := hl.issued idx (takes_tgt (by decide) ht)
  have hform' : (b.issued idx d).forming d = some g := by rw [Block.forming, issued_stk]; exact hform
  rw [passEff, descr_takes (by decide) ht]
  generalize b.issued idx d = c at *
  have hload : c.rdB (ENG_STATE (16 * dTgt d + dF d 1 0 4)) 2 = true := hl'.loaded
  have hcols : c.beyondCols (dTgt d) (dF d 2 16 10)
    (dF d 3 0 12 + if dB d 1 6 = true then dF d 2 0 13 / 2 else dF d 2 0 13) = false := hl'.cols
  unfold Block.forming at hform'
  unfold passCols at hncol
  have hsame : ¬ (g.slot ≠ dF d 2 16 10 ∨ g.col0 ≠ dF d 3 0 12
      ∨ (g.ncol ≠ if dB d 1 6 = true then dF d 2 0 13 / 2 else dF d 2 0 13) ∨ g.a13 ≠ dB d 1 6
      ∨ (g.mem.any fun m => m.leaf == dF d 1 0 4) = true) := by
    simp [hslot, hcol0, ha13, hncol, hleaf]
  simp only [if_neg hl'.fields, hload, hl'.group, hcols, hform', if_neg hsame, Bool.not_true, Bool.false_eq_true, if_false]
  rfl

end

theorem issued_mintQ (b : Block) (idx : Nat) (d : Desc) : (b.issued idx d).mintQ = b.mintQ := by
  simp only [Block.mintQ, issued_frm]
  cases b.frm <;> rfl

/-- What a PASS gives that has its group in block `b₁`, while the Mint has no work. -/
theorem passQueued_gives {s : State} {idx : Nat} {d : Desc} {adc : List (List (BitVec 8))} {b₁ : Block} {p : PassQ}
    {id : Nat} (ht : s.b.takes idx d 0x10 true [0xFFFF077F, 0x03FF1FFF, 0xFFF] = true) (hshape : passShape d adc = true)
    (hmq : s.b.mintQ = [])
    (hengs : b₁.engs = (s.b.fresh.issued idx d).engs) (hfrm : b₁.frm = (s.b.fresh.issued idx d).frm)
    (heff : passEff idx d adc s.b.fresh = (((b₁.passReady d id).passQueued p (passEng d)).pump).fetch) :
    Gives (.dPass idx d adc) s fun t =>
      (t.b.eng (passEng d)).passes = (s.b.eng (passEng d)).passes ++ [p] ∧
      (t.b.stk (dTgt d)).cons.length = (b₁.stk (dTgt d)).cons.length ∧ t.nrej = s.nrej ∧ t.inFlight idx = true := by
  have hview := passReady_passView b₁ d id (passEng d) (dTgt d)
  simp only [Block.passView, Prod.mk.injEq] at hview
  obtain ⟨hpasses, hcons, hfl, hwork⟩ := hview
  have hmq₁ : b₁.mintQ = (s.b.fresh.issued idx d).mintQ := by simp only [Block.mintQ, hfrm]
  have hflight : b₁.flight = (s.b.fresh.issued idx d).flight := by rw [Block.flight, hfrm]; rfl
  have heng : (b₁.eng (passEng d)).passes = (s.b.eng (passEng d)).passes := by
    rw [Block.eng, hengs]
    exact congrArg Eng.passes (issued_eng ..)
  have hidle : ((b₁.passReady d id).passQueued p (passEng d)).mintQ = [] := by
    rw [passQueued_mintQ, hwork, hmq₁, issued_mintQ]
    exact hmq
  refine Gives.of_done (f := passEff idx d adc) (if_pos hshape) ?_
  rw [run_congr (g := fun _ => ((b₁.passReady d id).passQueued p (passEng d)).fetch) (heff.trans (by rw [pump_idle hidle]))]
  have hnf := inFlight_of_issued (s := s) (t := s.run fun _ => ((b₁.passReady d id).passQueued p (passEng d)).fetch)
    (idx := idx) (d := d) (b := s.b.fresh) rfl (takes_frm ht)
    ((run_flight ..).trans ((fetch_flight _).trans ((passQueued_flight ..).trans (hfl.trans hflight))))
  refine ⟨?_, ?_, hnf⟩
  · rw [run_eng, fetch_eng, Block.passQueued, Block.eng_updEng_same, hpasses, heng]
  · rw [run_stk, fetch_stk, passQueued_stk, hcons]

end Sys2Proof.Machine
end

section
/-! SUPPORT. An engine that wakes into Run while nothing waits for its stack (R29, R32). -/

namespace Sys2Proof.Machine

theorem dynPump_idle {b : Block} {e : Nat} (h : (b.eng e).dyn.jobs = []) : b.dynPump e = b := by
  simp [Block.dynPump, h]

/-- Nothing waits on the engines of stack `k` that the Mint or a dynamic queue could serve. -/
structure StackIdle (b : Block) (k : Nat) : Prop where
  mint : b.mintQ = []
  first : (b.eng (64 + 2 * k)).dyn.jobs = []
  second : (b.eng (65 + 2 * k)).dyn.jobs = []

theorem StackIdle.pumpAll {b : Block} {k : Nat} (h : StackIdle b k) : b.pumpAll k = b := by
  rw [Block.pumpAll, pump_idle h.mint, dynPump_idle h.first, dynPump_idle h.second]

/-- A change of an engine that leaves an empty queue empty. -/
theorem StackIdle.updEng {b : Block} {k : Nat} (h : StackIdle b k) (e : Nat) {f : Eng → Eng}
    (hf : ∀ x, x.dyn.jobs = [] → (f x).dyn.jobs = []) : StackIdle (b.updEng e f) k := by
  have hkeep : ∀ j, (b.eng j).dyn.jobs = [] → ((b.updEng e f).eng j).dyn.jobs = [] := fun j hj => by
    rw [Block.eng_updEng]
    split
    · next he => exact hf _ (he ▸ hj)
    · exact hj
  exact ⟨h.mint, hkeep _ h.first, hkeep _ h.second⟩

theorem StackIdle.of_fields {b c : Block} {k : Nat} (h : StackIdle b k) (he : c.engs = b.engs) (hf : c.frm = b.frm) :
    StackIdle c k := by
  obtain ⟨hm, h1, h2⟩ := h
  exact ⟨by simpa only [Block.mintQ, hf] using hm, by simpa only [Block.eng, he] using h1,
    by simpa only [Block.eng, he] using h2⟩

/-- The waits that a wake of engine `e` ends, logged (R313). -/
def Block.waitsLogged (b : Block) (e : Nat) (ts : List (BitVec 64)) : Block :=
  b.each ts fun b t => b.evF 0x4507 (stackOf e) [(1, e), (4, (b.time - t).toNat * 4)] b.frameId

theorem waitsLogged_keep {γ : Type} (g : Block → γ) (hg : ∀ b c i l w, g (Block.evF b c i l w) = g b) (b : Block)
    (e : Nat) (ts : List (BitVec 64)) : g (b.waitsLogged e ts) = g b :=
  Block.each_keep _ g _ _ fun _ _ => hg _ _ _ _ _

/-- The block in which engine `e` has come into Run, its waits logged and ended. -/
def Block.intoRun (b : Block) (e : Nat) : Block :=
  ((b.setPs e .run).waitsLogged e
    (((b.setPs e .run).eng e).passes.filterMap (·.waits) ++ ((b.setPs e .run).eng e).dyn.jobs.filterMap (·.waits))).updEng
    e fun x => { x with
      passes := x.passes.map fun p => { p with waits := none }
      dyn := { x.dyn with jobs := x.dyn.jobs.map fun j => { j with waits := none } } }

section
variable (b : Block) (e : Nat)

theorem intoRun_ps : ((b.intoRun e).eng e).ps = .run := by
  rw [Block.intoRun, Block.eng_updEng_same]
  simp only
  rw [waitsLogged_keep (·.eng e) fun _ _ _ _ _ => rfl, setPs_ps]

theorem intoRun_shown : (b.intoRun e).rdF (engState e) 0 2 = 0 := by
  rw [Block.intoRun, Block.rdF, Block.rd_updEng, waitsLogged_keep (·.rd (engState e)) fun _ _ _ _ _ => rfl]
  exact setPs_shown b e .run

theorem intoRun_stks : (b.intoRun e).stks = b.stks :=
  waitsLogged_keep (·.stks) (fun _ _ _ _ _ => rfl) (b.setPs e .run) e _

theorem StackIdle.intoRun {b : Block} {k : Nat} (h : StackIdle b k) (e : Nat) : StackIdle (b.intoRun e) k := by
  refine StackIdle.updEng ?_ e fun x hx => by simp [hx]
  refine StackIdle.of_fields (b := b.setPs e .run) ?_ (waitsLogged_keep (·.engs) (fun _ _ _ _ _ => rfl) ..)
    (waitsLogged_keep (·.frm) (fun _ _ _ _ _ => rfl) ..)
  exact (h.updEng e (f := fun x => { x with ps := .run }) fun _ hx => hx).of_fields rfl rfl

/-- With nothing to serve and no calibration, the wake ends with the engine in Run. -/
theorem wakeRunDone_idle {b : Block} {e : Nat} (hps : (b.eng e).ps = .waking) (hidle : StackIdle b (stackOf e))
    (hcal : (b.stk (stackOf e)).cal = none) : wakeRunDone e b = b.intoRun e := by
  have hpump : (b.intoRun e).pumpAll (stackOf e) = b.intoRun e := (hidle.intoRun e).pumpAll
  have hcal' : ((b.intoRun e).stk (stackOf e)).cal = none := by rw [Block.stk, intoRun_stks]; exact hcal
  unfold wakeRunDone
  rw [if_neg (not_not_intro hps)]
  unfold Block.intoRun Block.waitsLogged at hpump hcal' ⊢
  simp only [hpump, hcal']

end

/-- WAKE_TO_RUN_COMPLETE of an idle stack. -/
theorem wakeToRunComplete_gives (s : State) (e : Fin 72) (hps : (s.b.eng e).ps = .waking) (hmq : s.b.mintQ = [])
    (hcal : (s.b.stk (stackOf e)).cal = none) (h1 : (s.b.eng (64 + 2 * stackOf e)).dyn.jobs = [])
    (h2 : (s.b.eng (65 + 2 * stackOf e)).dyn.jobs = []) :
    Gives (.wakeToRunComplete e) s fun t => (t.b.eng e).ps = .run ∧ t.rdF (engState e) 0 2 = 0 := by
  have heff : wakeRunDone e s.b.fresh = s.b.fresh.intoRun e := wakeRunDone_idle hps ⟨hmq, h1, h2⟩ hcal
  refine Gives.of_done (f := wakeRunDone e) rfl ⟨?_, ?_⟩
  · rw [run_eng, heff, intoRun_ps]
  · rw [State.rdF, Block.rdF, run_rd _ _ (engState_not_log _), heff]
    exact intoRun_shown ..

end Sys2Proof.Machine
end

section
/-! SUPPORT. A PASS in the queue of its engine, as a whole. -/

namespace Sys2Proof.Machine

/-- Settles O14: the PASS has its group, and then only its engine's queue grows, the Mint having no work. -/
theorem residentPass : Obligations.ResidentPass := by
  unfold Obligations.ResidentPass
  refine ⟨?_, ?_, ?_⟩
  · intro s idx d adc ht ⟨hshape, hlo, hhi, heven⟩ ⟨hnode, hload, hgroup⟩ hcols ⟨hmq, hform⟩
    have hl : PassLegal s.b.fresh d adc := ⟨hshape, ⟨hlo, hhi⟩, heven, hnode, hload, hgroup, hcols⟩
    have hnone : s.b.fresh.forming d = none := by
      refine List.find?_eq_none.2 fun c hc => ?_
      exact List.any_eq_false.1 hform c hc
    have heff := passEff_founds (b := s.b.fresh) ht hl hnone
    refine (passQueued_gives ht hshape hmq (Block.updStk_engs ..) (Block.updStk_frm ..) heff).mono fun t ⟨hpasses, hcons, hrest⟩ =>
      ⟨(congrArg _ hpasses).trans (List.map_append ..), ?_, hrest⟩
    rw [hcons, Block.stk_updStk_same, issued_stk]
    exact List.length_append ..
  · intro s idx d adc c ht ⟨hshape, hlo, hhi, heven⟩ ⟨hnode, hload, hgroup⟩ hcols ⟨hmq, hform⟩
      ⟨hslot, hcol0, ha13, hncol, hleaf⟩
    have hl : PassLegal s.b.fresh d adc := ⟨hshape, ⟨hlo, hhi⟩, heven, hnode, hload, hgroup, hcols⟩
    have heff := passEff_joins (b := s.b.fresh) ht hl (g := c) hform hslot hcol0 ha13 hncol hleaf
    refine (passQueued_gives ht hshape hmq (Block.updStk_engs ..) (Block.updStk_frm ..) heff).mono fun t ⟨hpasses, hcons, hrest⟩ =>
      ⟨(congrArg _ hpasses).trans (List.map_append ..), ?_, hrest⟩
    rw [hcons, Block.stk_updStk_same, issued_stk]
    exact List.length_map _
  · intro s e hps ⟨hmq, hcal⟩ ⟨h1, h2⟩
    exact wakeToRunComplete_gives s e hps hmq hcal h1 h2

end Sys2Proof.Machine
end

section
/-! SUPPORT. What the commands for one engine change at most (R65 to R67, R83, R90, R103, R114, R117, R120, R244, R322,
R352, R353). -/

namespace Sys2Proof.Machine

variable (b : Block)

theorem dozeEntry_within (e : Nat) : EngineOnly e b (dozeEntry e b) := (setPs_engineOnly ..).ite (.refl ..)
theorem napEntry_within (e : Nat) : EngineOnly e b (napEntry e b) := (setPs_engineOnly ..).ite (.refl ..)
theorem napExpiry_within (e : Nat) : EngineOnly e b (napExpiry e b) := (setPs_engineOnly ..).ite (.refl ..)

theorem wakeDozeDone_within (e : Nat) : EngineOnly e b (wakeDozeDone e b) := by
  unfold wakeDozeDone
  split
  · exact setPs_engineOnly ..
  · exact setPs_engineOnly ..
  · exact .refl ..

/-! ## The hold-switch scan (R65 to R67) -/

theorem scanStart_within (e : Nat) : Within [ENG_SCAN e] (· = e) b (scanStart e b) :=
  Within.ite (.refl ..) ((Within.wrF (by simp) ..).trans (Within.updOwn _))

/-- The registers that a row written by the scan of engine `e` may change. -/
def rowRegs (e : Nat) : List Nat :=
  [ENG_SCAN e, PLT_CECNT (stackOf e), PLT_UECNT (stackOf e), PLT_UEADDR (stackOf e), PG_ISTAT (P_PLT (stackOf e)),
    PG_ISTAT (P_ENG e)]

theorem rowWrite_within (e ce : Nat) (ue : List Nat) : Within (rowRegs e) (· = e) b (rowWrite e ce ue b) := by
  have hscan : ENG_SCAN e ∈ rowRegs e := by simp [rowRegs]
  have hce : PLT_CECNT (stackOf e) ∈ rowRegs e := by simp [rowRegs]
  have hue : PLT_UECNT (stackOf e) ∈ rowRegs e := by simp [rowRegs]
  have haddr : PLT_UEADDR (stackOf e) ∈ rowRegs e := by simp [rowRegs]
  have hplt : PG_ISTAT (P_PLT (stackOf e)) ∈ rowRegs e := by simp [rowRegs]
  have heng : PG_ISTAT (P_ENG e) ∈ rowRegs e := by simp [rowRegs]
  unfold rowWrite
  refine Within.ite (.refl ..) ?_
  refine Within.trans (b := _) ?_ (Within.ite (((Within.clrB hscan 9).trans (Within.wrF hscan ..))) (.refl ..))
  refine (((Within.setOwn _).trans (Within.wrF hscan ..)).trans (Within.when ?_ _)).trans (Within.when ?_ _)
  · exact ((Within.when (Within.raise hplt 2) _).trans (Within.bump hce _)).trans (Within.ev ..)
  · exact (((((Within.bump hue _).trans (Within.wr haddr _)).trans (Within.raise hplt 3)).trans
      (Within.raise heng 5)).trans (Within.ev ..)).trans (Within.updOwn _)

/-! ## Output scales and trims (R83, R89, R90, R270) -/

/-- The output scale register of an engine. -/
def oscaleReg (e : Nat) : Nat := if e < 64 then ENG_OSCALE e else DEN_OSCALE e

theorem oscaleWrite_within (e : Nat) (v : Word) : Within [oscaleReg e] (· = e) b (oscaleWrite e v b).1 := by
  have hreg : oscaleReg e ∈ [oscaleReg e] := List.mem_singleton.2 rfl
  exact (((Within.wrF hreg ..).trans (Within.wrF hreg ..)).trans
    (Within.when (f := fun b => b.wrF (oscaleReg e) 24 8 (fld v 24 8)) (Within.wrF hreg ..) (64 ≤ e))).trans
      (Within.updOwn fun x => { x with rangeNew := true })

theorem trmCtrlWrite_within (e : Nat) (v : Word) :
    Within [TRM_CTRL e, TRM_STAT e] noEngine b (trmCtrlWrite e v b).1 := by
  have hctrl : TRM_CTRL e ∈ [TRM_CTRL e, TRM_STAT e] := by simp
  have hstat : TRM_STAT e ∈ [TRM_CTRL e, TRM_STAT e] := by simp
  exact (((Within.wrB hctrl ..).trans (Within.when ((Within.setB hctrl 0).trans (Within.setB hstat 0)) _)).trans
    (Within.when ((Within.setB hctrl 1).trans (Within.setB hstat 1)) _)).trans (Within.wrB hstat ..)

/-! ## Region locks and heaters (R103, R111, R114 to R117, R120) -/

theorem updRegion_within {w : List Nat} (e q : Nat) (f : Region → Region) : Within w (· = e) b (b.updRegion e q f) :=
  Within.updOwn _

theorem exclExpiry_within (e q : Nat) : Within [LCK_R_STATE e q] (· = e) b (exclExpiry e q b) :=
  Within.ite ((updRegion_within ..).trans (Within.wrF (by simp) ..)) (.refl ..)

theorem rswordWrite_within (e q : Nat) (v : Word) : Within [LCK_R_SWORD e q] (· = e) b (rswordWrite e q v b).1 := by
  unfold rswordWrite
  simp only
  split
  · exact .refl ..
  · split
    · exact Within.wr (by simp) _
    · exact (Within.wr (by simp) _).trans (updRegion_within ..)

theorem searchAfterWait_within (e : Nat) : Within [ENG_HELD e] (· = e) b (searchAfterWait e b) := by
  unfold searchAfterWait
  split
  · exact .refl ..
  · exact Within.ite (.refl ..) ((Within.updOwn _).trans (Within.when (Within.bump (by simp) _) _))

theorem asgDataWrite_within (e : Nat) (v : Word) :
    Within [ASG_ADDR e, ASG_STAT e] (· = e) b (asgDataWrite e v b).1 := by
  have hnext : ∀ c : Block, Within [ASG_ADDR e, ASG_STAT e] (· = e) c (c.asgNext e) := fun c =>
    Within.ite (Within.wrF (by simp) ..) (.refl ..)
  exact (Within.ite (.refl ..) ((Within.updOwn _).trans (Within.setB (by simp) 2))).trans (hnext _)

/-- The heater register of loop `i` of stack `st`, and those of all of them. -/
def heatReg (st i : Nat) : Nat := LCK_R_HEAT (loopOf st i).1 (loopOf st i).2
def heatRegs (st : Nat) : List Nat := (List.range 1032).map (heatReg st)

theorem heatReg_mem {st i : Nat} (hi : i ∈ List.range 1032) : heatReg st i ∈ heatRegs st := List.mem_map_of_mem hi

/-- A loop of a stack serves an engine of that stack (R115). -/
theorem stackOf_loopOf (st : Fin 4) {i : Nat} (hi : i < 1032) : stackOf (loopOf st i).1 = st := by
  unfold loopOf stackOf
  split <;> simp only <;> split <;> omega

theorem stowHoldExpiry_within (st : Fin 4) :
    Within (heatRegs st) (fun k => stackOf k = st) b (stowHoldExpiry st b) := by
  refine Within.ite (.refl ..) (Within.each (fun c i hi => ?_) b)
  have hst := stackOf_loopOf st (List.mem_range.1 hi)
  exact (Within.updEng (E := fun k => stackOf k = st) hst _).trans (Within.wrF (heatReg_mem hi) ..)

/-- The registers that a period of the heaters' PWM may change. -/
def pwmRegs (st : Nat) : List Nat :=
  HTR_STAT st :: HTR_LIMITCNT st :: HTR_SKIPCNT st :: PG_ISTAT (P_HTR st) ::
    ((List.range 516).map (HTR_DUTY st) ++ heatRegs st)

theorem pwmPeriod_within (st : Fin 4) : Within (pwmRegs st) (fun k => stackOf k = st) b (pwmPeriod st b) := by
  have hstat : HTR_STAT st ∈ pwmRegs st := by simp only [pwmRegs, List.mem_cons, true_or]
  have hlim : HTR_LIMITCNT st ∈ pwmRegs st := by simp only [pwmRegs, List.mem_cons, true_or, or_true]
  have hskip : HTR_SKIPCNT st ∈ pwmRegs st := by simp only [pwmRegs, List.mem_cons, true_or, or_true]
  have histat : PG_ISTAT (P_HTR st) ∈ pwmRegs st := by simp only [pwmRegs, List.mem_cons, true_or, or_true]
  have hloop : ∀ i ∈ List.range 1032,
      stackOf (loopOf st i).1 = st ∧ HTR_DUTY st (i / 2) ∈ pwmRegs st ∧ heatReg st i ∈ pwmRegs st := fun i hi => by
    have hlt := List.mem_range.1 hi
    simp only [pwmRegs, List.mem_cons, List.mem_append]
    refine ⟨stackOf_loopOf st hlt, .inr (.inr (.inr (.inr (.inl ?_)))), .inr (.inr (.inr (.inr (.inr (heatReg_mem hi)))))⟩
    exact List.mem_map_of_mem (List.mem_range.2 (by omega))
  unfold pwmPeriod
  generalize List.range 1032 = ix at hloop
  refine Within.trans ?_ (Within.send _)
  refine Within.trans ?_ (Within.foldl_fst (fun p x hx => ?_) (_, _))
  · dsimp only
    refine ((Within.wrF hstat ..).trans (Within.wrB hstat ..)).trans (Within.when ?_ _)
    exact ((Within.bump hlim 1).trans (Within.raise histat 0)).trans (Within.ev ..)
  · obtain ⟨c, ps⟩ := p
    obtain ⟨d, i⟩ := x
    obtain ⟨hst, hduty, hheat⟩ := hloop i (List.of_mem_zip hx).2
    dsimp only
    refine Within.trans ?_ (Within.when (Within.bump hskip 1) _)
    exact ((Within.updEng (E := fun k => stackOf k = st) hst _).trans (Within.wrF hduty ..)).trans (Within.wrF hheat ..)

/-! ## A heater test (R117) -/

/-- The registers that show the lock state of any region. -/
def lockShown : List Nat :=
  (List.range 72).flatMap fun e => LCK_STAT e :: LCK_UNLK_LO e :: LCK_UNLK_HI e :: (List.range 64).map (LCK_R_STATE e)

/-- The registers of one engine and region among them. -/
theorem lockShown_mem {e q : Nat} (he : e < 72) (hq : q < 64) :
    LCK_STAT e ∈ lockShown ∧ LCK_UNLK_LO e ∈ lockShown ∧ LCK_UNLK_HI e ∈ lockShown ∧ LCK_R_STATE e q ∈ lockShown := by
  have hin : ∀ o, o ∈ LCK_STAT e :: LCK_UNLK_LO e :: LCK_UNLK_HI e :: (List.range 64).map (LCK_R_STATE e) →
      o ∈ lockShown := fun o ho => List.mem_flatMap.2 ⟨e, List.mem_range.2 he, ho⟩
  refine ⟨hin _ (by simp), hin _ (by simp), hin _ (by simp), hin _ ?_⟩
  exact List.mem_cons_of_mem _ (List.mem_cons_of_mem _ (List.mem_cons_of_mem _
    (List.mem_map_of_mem (List.mem_range.2 hq))))

theorem showUnlocked_within {w : List Nat} {e q : Nat} (he : e < 72) (hq : q < 64) (hw : ∀ o ∈ lockShown, o ∈ w) :
    Within w noEngine b (b.showUnlocked e q) := by
  obtain ⟨hstat, hlo, hhi, hstate⟩ := lockShown_mem he hq
  exact (Within.wrF (hw _ hstate) ..).trans
    (((Within.wr (hw _ hstat) _).trans (Within.wr (hw _ hlo) _)).trans (Within.wr (hw _ hhi) _))

theorem loopOf_lt (st : Fin 4) {i : Nat} (hi : i < 1032) : (loopOf st i).1 < 72 ∧ (loopOf st i).2 < 64 := by
  unfold loopOf
  split <;> simp only <;> omega

theorem htrTestWrite_within (st : Fin 4) (v : Word) :
    Within (HTR_TEST st :: lockShown) noEngine b (htrTestWrite st v b).1 := by
  refine (Within.wr (List.mem_cons_self ..) _).trans (Within.each (fun c i _ => ?_) _)
  split
  · next hi =>
    obtain ⟨he, hq⟩ := loopOf_lt st hi
    exact showUnlocked_within c he hq fun _ => List.mem_cons_of_mem _
  · exact .refl ..

/-! ## Ring tables (R244, R268, R269) -/

theorem denTblWrite_within (e : Nat) (v : Word) :
    Within [DEN_TBL_ADDR e, DEN_TBL_STAT e] (· = e) b (denTblWrite e v b).1 := by
  have hnext : ∀ c : Block, Within [DEN_TBL_ADDR e, DEN_TBL_STAT e] (· = e) c (c.tblNext e) := fun c =>
    Within.ite (Within.wrF (by simp) ..) (.refl ..)
  unfold denTblWrite
  split
  · exact Within.setB (by simp) 3
  · exact (Within.updOwn _).trans (hnext _)

theorem denTblArm_within (e : Nat) :
    Within [DEN_TBL_CTRL e, DEN_TBL_STAT e, PG_ISTAT (P_DEN e)] noEngine b (denTblArm e b).1 := by
  unfold denTblArm
  split
  · exact .refl ..
  · split
    · exact (((Within.setB (by simp) 2).trans (Within.wrF (by simp) ..)).trans (Within.raise (by simp) 2)).trans
        (Within.ev ..)
    · exact (Within.setB (by simp) 0).trans (Within.setB (by simp) 0)

/-! ## Calibration triggers and the error budget (R322, R352, R353, R358) -/

theorem makeDue_within {w : List Nat} (e q scope : Nat) (request : Bool) :
    Within w (· = e) b (b.makeDue e q scope request) := by
  unfold Block.makeDue
  refine Within.ite (.refl ..) (Within.ite (.refl ..) (Within.ite (updRegion_within ..) ?_))
  exact Within.ite (updRegion_within ..) (.refl ..)

theorem asyReq_within (st : Nat) (v : Word) :
    Within [PG_ISTAT (P_ASY st)] (· = engAt st (fld v 0 5)) b (asyReq st v b).1 := by
  unfold asyReq
  split
  · exact .refl ..
  · simp only
    split
    · exact Within.raise (by simp) 5
    · exact Within.each (fun c k _ => makeDue_within c _ k _ _) b

theorem lockClose_within (e : Nat) : Within [ebud e 1, ebud e 3] (· = e) b (lockClose e b) := by
  unfold lockClose
  refine Within.ite (.refl ..) (Within.ite (Within.setOwn _) ?_)
  exact ((Within.setOwn _).trans (Within.wrF (by simp) ..)).trans (Within.setB (by simp) 25)

theorem totalRecompute_within (e : Nat) (t : Int) :
    Within [ebud e 1, ebud e 3] noEngine b (totalRecompute e t b) := by
  have h1 : ebud e 1 ∈ [ebud e 1, ebud e 3] := by simp
  have h3 : ebud e 3 ∈ [ebud e 1, ebud e 3] := by simp
  unfold totalRecompute
  refine Within.ite (.refl ..) ?_
  refine Within.trans ?_ (Within.when (Within.ev ..) _)
  exact ((Within.wrF h1 ..).trans (Within.wrF h3 ..)).trans (Within.wrB h3 ..)

/-- The engines of a stack. -/
theorem stackOf_engAt (st : Fin 4) {k : Nat} (hk : k < 18) : stackOf (engAt st k) = st := by
  unfold engAt stackOf
  split <;> split <;> omega

theorem tempCheck_within (st : Fin 4) :
    Within ((List.range 18).map fun k => ebud (engAt st k) 3) (fun k => stackOf k = st) b (tempCheck st b) := by
  refine Within.ite (.refl ..) (Within.each (fun c e he => ?_) b)
  obtain ⟨k, hk, rfl⟩ := List.mem_map.1 he
  have hst := stackOf_engAt st (List.mem_range.1 hk)
  have hreg : ebud (engAt st k) 3 ∈ (List.range 18).map fun k => ebud (engAt st k) 3 := List.mem_map_of_mem hk
  refine Within.trans (Within.when (Within.each (fun c q _ => ?_) _) _) (Within.wrB hreg ..)
  refine Within.ite ((makeDue_within c _ q 0 false).mono (fun _ => id) ?_) (.refl ..)
  rintro j rfl
  exact hst

end Sys2Proof.Machine
end

section
/-! SUPPORT. Engine commands leave the rest alone, as a whole. -/

namespace Sys2Proof.Machine

/-- A register write whose effect is so bounded, its own registers before those that any write may change. -/
theorem Gives.of_withinGate {c : Instr} {s : State} {w : List Nat} {E : Nat → Prop} {m : Master} {off p : Nat}
    {eff : Block → Block × Bool} (h : exec c s = s.done fun b => b.gate m off eff) (hp : accRegs off = accRegs p)
    (hw : ∀ b, Within w E b (eff b).1) :
    Gives c s fun t => Kept s t (w ++ accRegs p) (fun b c => { b with engs := c.engs }) ∧
      ∀ k, ¬ E k → t.b.eng k = s.b.eng k := by
  refine Gives.of_within h fun b => Within.gate ((hw b).mono (fun _ => List.mem_append_left _) fun _ => id) fun o ho =>
    List.mem_append_right _ ?_
  rwa [← hp]

theorem Gives.of_withinGateRegs {c : Instr} {s : State} {w : List Nat} {m : Master} {off p : Nat}
    {eff : Block → Block × Bool} (h : exec c s = s.done fun b => b.gate m off eff) (hp : accRegs off = accRegs p)
    (hw : ∀ b, Within w noEngine b (eff b).1) : Gives c s fun t => Kept s t (w ++ accRegs p) := by
  refine Gives.of_withinRegs h fun b => Within.gate ((hw b).mono (fun _ => List.mem_append_left _) fun _ => id) fun o ho =>
    List.mem_append_right _ ?_
  rwa [← hp]

/-- The other engines of a kind, when only engine `e` may change. -/
theorem Gives.others {c : Instr} {s : State} {w : List Nat} {n : Nat} {e : Fin n}
    (h : Gives c s fun t => Kept s t w (fun b c => { b with engs := c.engs }) ∧
      ∀ k, ¬ k = e.val → t.b.eng k = s.b.eng k) :
    Gives c s fun t => Kept s t w (fun b c => { b with engs := c.engs }) ∧
      ∀ k : Fin n, k ≠ e → t.b.eng k = s.b.eng k :=
  h.mono fun _ ⟨hkept, heng⟩ => ⟨hkept, fun k hk => heng k fun hv => hk (Fin.ext hv)⟩

/-- The engines below 8, when only dynamic engine `n` may change. -/
theorem Gives.residents {c : Instr} {s : State} {w : List Nat} {n : Fin 8} {P : Fin 8 → Prop}
    (h : Gives c s fun t => Kept s t w (fun b c => { b with engs := c.engs }) ∧
      ∀ k, ¬ k = 64 + n.val → t.b.eng k = s.b.eng k) :
    Gives c s fun t => Kept s t w (fun b c => { b with engs := c.engs }) ∧
      ∀ k : Fin 8, P k → t.b.eng k = s.b.eng k :=
  h.mono fun _ ⟨hkept, heng⟩ => ⟨hkept, fun k _ => heng k (by omega)⟩

/-- What a write may change beside its own registers depends on its page alone. -/
theorem accRegs_page {off p : Nat} (h : off / 0x1000 = p / 0x1000) : accRegs off = accRegs p := by
  rw [accRegs, accRegs, h]

theorem fld_or_go (v : Word) : fld (v ||| 0x80000000) 0 5 = fld v 0 5 := by
  refine Nat.eq_of_testBit_eq fun i => ?_
  rw [fld_testBit, fld_testBit, BitVec.getLsbD_or]
  by_cases hi : i < 5
  · have : (0x80000000 : Word).getLsbD (0 + i) = false := by
      interval_cases i <;> rfl
    rw [this, Bool.or_false]
  · simp [hi]

/-- Settles O46: each command's effect stays within its registers and its engines. -/
theorem frameEngines : Obligations.FrameEngines := by
  unfold Obligations.FrameEngines
  refine ⟨?_, ?_, ?_, ?_, ?_, ?_, ?_, ?_, ?_, ?_, ?_, ?_, ?_, ?_, ?_, ?_, ?_, ?_, ?_, ?_, ?_, ?_, ?_, ?_⟩
  · exact fun s e => (Gives.of_within rfl (dozeEntry_within · e)).others
  · exact fun s e => (Gives.of_within rfl (napEntry_within · e)).others
  · exact fun s e => (Gives.of_within rfl (napExpiry_within · e)).others
  · exact fun s e => (Gives.of_within rfl (wakeDozeDone_within · e)).others
  · exact fun s e => (Gives.of_within rfl (scanStart_within · e)).others
  · exact fun s e x y => (Gives.of_within rfl (rowWrite_within · e x _)).others
  · intro s m e v
    have hw := fun b => oscaleWrite_within b e v
    rw [show oscaleReg e = ENG_OSCALE e from if_pos e.isLt] at hw
    refine (Gives.of_withinGate rfl (accRegs_page ?_) hw).others
    simp only [ENG_OSCALE, P_ENG, engBase]
    split <;> omega
  · intro s m n v
    have hw := fun b => oscaleWrite_within b (64 + n) v
    rw [show oscaleReg (64 + n) = DEN_OSCALE (64 + n) from if_neg (by omega)] at hw
    refine (Gives.of_withinGate rfl (accRegs_page ?_) hw).residents
    simp only [DEN_OSCALE, P_DEN, engBase]
    split <;> omega
  · exact fun s e q => (Gives.of_within rfl (exclExpiry_within · e q)).others
  · exact fun s m e q v => (Gives.of_withinGate rfl rfl (rswordWrite_within · e q v)).others
  · exact fun s e q => (Gives.of_within rfl (updRegion_within · e q _)).others
  · exact fun s e => (Gives.of_within rfl (searchAfterWait_within · e)).others
  · exact fun s m e v => (Gives.of_withinGate rfl rfl (asgDataWrite_within · e v)).others
  · intro s m n v
    refine (Gives.of_withinGate rfl (accRegs_page ?_) (denTblWrite_within · (64 + n) v)).residents
    simp only [DEN_TBL_DATA, P_DEN, engBase]
    split <;> omega
  · exact fun s e => (Gives.of_within rfl (lockClose_within · e)).others
  · exact fun s e x => Gives.of_withinRegs rfl (totalRecompute_within · e x.toInt)
  · intro s m st v
    have hw := fun b => asyReq_within b st (v ||| 0x80000000)
    rw [fld_or_go] at hw
    refine Gives.of_withinGate rfl (accRegs_page ?_) hw
    simp only [ASY_REQ, P_ASY]
    omega
  · exact fun s m e v => Gives.of_withinGateRegs rfl rfl (trmCtrlWrite_within · e (v ||| 1))
  · exact fun s m e v => Gives.of_withinGateRegs rfl rfl (trmCtrlWrite_within · e (v ||| 2))
  · intro s m n
    refine Gives.of_withinGateRegs rfl (accRegs_page ?_) (denTblArm_within · (64 + n))
    simp only [DEN_TBL_CTRL, P_DEN, engBase]
    split <;> omega
  · exact fun s st => Gives.of_within rfl (pwmPeriod_within · st)
  · exact fun s st => Gives.of_within rfl (stowHoldExpiry_within · st)
  · exact fun s st => Gives.of_within rfl (tempCheck_within · st)
  · intro s m st v
    refine Gives.of_withinGateRegs rfl (accRegs_page ?_) (htrTestWrite_within · st v)
    simp only [HTR_TEST, P_HTR]
    omega

end Sys2Proof.Machine
end

section
/-! SUPPORT. What the work of the units leaves alone: the module state, the lasers, the arm bits of the scale tables, the
count of boundaries, and that no frame runs. -/

namespace Sys2Proof.Machine

/-- The registers that the work of the units never writes: the module state (R477), the laser status (R516), and the arm bits
of the scale tables (R178). -/
def calmRegs : List Nat := [PWR_STATE, LCO_LSTAT, TLY_CTRL 0, TLY_CTRL 1, TLY_CTRL 2, TLY_CTRL 3]

/-! ### The registers of the units are none of `calmRegs` -/

/-- The pages of the engines, the Mint, the memory and Mionus lie beyond all of `calmRegs`. -/
theorem beyond_calmRegs {o : Nat} (h : 0x500000 ≤ o) : o ∉ calmRegs := by
  simp only [calmRegs, PWR_STATE, P_PWR, LCO_LSTAT, P_LCO, TLY_CTRL, P_TLY, List.mem_cons, List.not_mem_nil, or_false]
  omega

theorem engine_aside {e o : Nat} (h : engBase e ≤ o) : o ∉ calmRegs := by
  refine beyond_calmRegs (Nat.le_trans ?_ h)
  unfold engBase
  split <;> omega

@[simp] theorem eng_aside (e : Nat) :
    ENG_STATE e ∉ calmRegs ∧ ENG_OSCALE e ∉ calmRegs ∧ ENG_LOAD_STAT e ∉ calmRegs ∧ ENG_MODEL_TAG e ∉ calmRegs ∧
      ENG_SWAP_FRAME e ∉ calmRegs ∧ ENG_SCAN e ∉ calmRegs ∧ ENG_ADCSAT e ∉ calmRegs ∧ ENG_PARK e ∉ calmRegs ∧
      PG_ISTAT (P_ENG e) ∉ calmRegs := by
  and_intros
  all_goals exact engine_aside (Nat.le_add_right (engBase e) _)

@[simp] theorem den_aside (e : Nat) :
    DEN_STATE e ∉ calmRegs ∧ DEN_OSCALE e ∉ calmRegs ∧ DEN_RVALID_LO e ∉ calmRegs ∧ DEN_RVALID_HI e ∉ calmRegs ∧
      DEN_ERR e ∉ calmRegs ∧ DEN_ADCSAT e ∉ calmRegs ∧ DEN_NEGCNT e ∉ calmRegs ∧ DEN_SYMCNT e ∉ calmRegs ∧
      DEN_PARK e ∉ calmRegs ∧ DEN_TBL_CTRL e ∉ calmRegs ∧ DEN_TBL_STAT e ∉ calmRegs ∧ PG_ISTAT (P_DEN e) ∉ calmRegs := by
  and_intros
  all_goals exact engine_aside (Nat.le_add_right (engBase e) _)

@[simp] theorem engState_aside (e : Nat) : engState e ∉ calmRegs := by
  unfold engState
  split
  · exact (eng_aside e).1
  · exact (den_aside e).1

@[simp] theorem ebud_aside (e k : Nat) : ebud e k ∉ calmRegs := by
  refine engine_aside (e := e) (Nat.le_trans ?_ (Nat.le_add_right ..))
  split
  · exact Nat.le_add_right (engBase e) _
  · exact Nat.le_add_right (engBase e) _

@[simp] theorem lock_aside (e : Nat) :
    ASG_STAT e ∉ calmRegs ∧ TRM_STAT e ∉ calmRegs ∧ TRM_CTRL e ∉ calmRegs ∧ PG_ISTAT (P_LCK e) ∉ calmRegs ∧
      PG_ISTAT (P_ASG e) ∉ calmRegs := by
  refine ⟨engine_aside (e := e) ?_, engine_aside (e := e) ?_, engine_aside (e := e) ?_, engine_aside (e := e) ?_,
    engine_aside (e := e) ?_⟩
  all_goals simp only [ASG_STAT, TRM_STAT, TRM_CTRL, PG_ISTAT, P_LCK, P_ASG, P_TRM, Nat.add_assoc, Nat.le_add_right]

@[simp] theorem region_aside (e k : Nat) :
    LCK_R_STATE e k ∉ calmRegs ∧ TRM_ROW e k ∉ calmRegs ∧ TRM_MOD e k ∉ calmRegs := by
  refine ⟨engine_aside (e := e) ?_, engine_aside (e := e) ?_, engine_aside (e := e) ?_⟩
  all_goals simp only [LCK_R_STATE, TRM_ROW, TRM_MOD, P_LCK, P_TRM, Nat.add_assoc, Nat.le_add_right]

@[simp] theorem mint_aside :
    MNT_REJCNT ∉ calmRegs ∧ MNT_ERR ∉ calmRegs ∧ MNT_NONFIN ∉ calmRegs ∧ MNT_LASTFRAME ∉ calmRegs ∧
      MNT_FR_CONV ∉ calmRegs ∧ MNT_FR_CLIP ∉ calmRegs ∧ MNT_FR_WORST ∉ calmRegs ∧ MNT_FR_NSAT ∉ calmRegs ∧
      PG_ISTAT P_MNT ∉ calmRegs := by decide
@[simp] theorem mintSat_aside (k : Nat) : MNT_SATCNT k ∉ calmRegs :=
  beyond_calmRegs (Nat.le_trans (by decide) (Nat.le_add_right (P_MNT + 0x090) _))

@[simp] theorem hbm_aside :
    HBM_CECNT ∉ calmRegs ∧ HBM_ERR ∉ calmRegs ∧ HBM_UECNT ∉ calmRegs ∧ HBM_UEADDR_LO ∉ calmRegs ∧
      HBM_UEADDR_HI ∉ calmRegs ∧ HBM_AFCNT ∉ calmRegs ∧ HBM_AFADDR_LO ∉ calmRegs ∧ HBM_AFADDR_HI ∉ calmRegs ∧
      PG_ISTAT P_HBM ∉ calmRegs := by decide

@[simp] theorem msq_aside :
    MSQ_REJCNT ∉ calmRegs ∧ MSQ_LASTREJ ∉ calmRegs ∧ MSQ_SREFUSED ∉ calmRegs ∧ MSQ_CTRL ∉ calmRegs ∧
      PG_ISTAT P_MSQ ∉ calmRegs := by decide
@[simp] theorem statusWord_aside (k : Nat) : MSQ_FSW k ∉ calmRegs :=
  beyond_calmRegs (Nat.le_trans (by decide) (Nat.le_add_right (P_MSQ + 0x800) _))

theorem mem_calmRegs {o : Nat} : o ∈ calmRegs ↔ o = 0x2040 ∨ o = 0x7048 ∨ o = 0x102040 ∨ o = 0x202040 ∨ o = 0x302040 ∨
    o = 0x402040 := by
  simp only [calmRegs, PWR_STATE, P_PWR, LCO_LSTAT, P_LCO, TLY_CTRL, P_TLY, List.mem_cons, List.not_mem_nil, or_false]

@[simp] theorem tally_aside (s : Nat) :
    TLY_STAT s ∉ calmRegs ∧ TLY_ALSTALL s ∉ calmRegs ∧ TLY_DISCNT s ∉ calmRegs ∧ TLY_LASTERR s ∉ calmRegs ∧
      PG_ISTAT (P_TLY s) ∉ calmRegs := by
  simp only [mem_calmRegs, TLY_STAT, TLY_ALSTALL, TLY_DISCNT, TLY_LASTERR, PG_ISTAT, P_TLY]
  omega

@[simp] theorem stack_aside (s : Nat) :
    SEQ_REJCNT s ∉ calmRegs ∧ SEQ_LASTREJ s ∉ calmRegs ∧ PG_ISTAT (P_SEQ s) ∉ calmRegs ∧ LDG_LASTFRAME s ∉ calmRegs ∧
      LDG_INCCNT s ∉ calmRegs ∧ PG_ISTAT (P_LDG s) ∉ calmRegs ∧ ASY_LAST s ∉ calmRegs ∧ ASY_ABNCNT s ∉ calmRegs ∧
      PG_ISTAT (P_ASY s) ∉ calmRegs ∧ PLT_CURVE_CTRL s ∉ calmRegs ∧
      PLT_CURVE_STAT s ∉ calmRegs ∧ PG_ISTAT (P_PLT s) ∉ calmRegs ∧ CE_BANK_STAT s ∉ calmRegs ∧
      PG_ISTAT (P_CE s) ∉ calmRegs := by
  simp only [mem_calmRegs, SEQ_REJCNT, SEQ_LASTREJ, LDG_LASTFRAME, LDG_INCCNT, ASY_LAST, ASY_ABNCNT,
    PLT_CURVE_CTRL, PLT_CURVE_STAT, CE_BANK_STAT, PG_ISTAT, P_SEQ, P_LDG, P_ASY, P_PLT, P_CE]
  and_intros
  all_goals omega

@[simp] theorem asyInfo_aside (s k : Nat) : ASY_E_INFO s k ∉ calmRegs := by
  simp only [mem_calmRegs, ASY_E_INFO, P_ASY]
  omega
/-- The maps of the Ledger's slots, and a word of a tuning curve, as far as they go. -/
@[simp] theorem ledgerMap_aside {s k : Nat} (hk : k < 32) :
    LDG_SATMAP s k ∉ calmRegs ∧ LDG_ZFMAP s k ∉ calmRegs ∧ LDG_SATLIVE s k ∉ calmRegs := by
  simp only [mem_calmRegs, LDG_SATMAP, LDG_ZFMAP, LDG_SATLIVE, P_LDG]
  omega
@[simp] theorem curve_aside {s k : Nat} (hk : k < 128) : PLT_CURVE s k ∉ calmRegs := by
  simp only [mem_calmRegs, PLT_CURVE, P_PLT]
  omega

/-- `c` follows from `b` by work that changes no transition, empties the start queue at most, and neither begins a frame nor
ends or abandons one. -/
structure Calm (b c : Block) : Prop where
  frm : c.frm.map (·.abandon) = b.frm.map (·.abandon)
  bnds : c.bnds = b.bnds
  startQ : b.startQ = [] → c.startQ = []
  pw : c.pw = { b.pw with stage := c.pw.stage, critical := c.pw.critical, mioFrame := c.pw.mioFrame }
  rd : ∀ o ∈ calmRegs, c.rd o = b.rd o

namespace Calm

variable {b c : Block}

theorem refl (b : Block) : Calm b b := ⟨rfl, rfl, id, rfl, fun _ _ => rfl⟩

theorem noFrame (h : Calm b c) (hf : b.frm = none) : c.frm = none := by
  have hmap := h.frm
  rw [hf] at hmap
  exact Option.map_eq_none_iff.1 hmap

theorem trans {a : Block} (h : Calm a b) (k : Calm b c) : Calm a c :=
  ⟨k.frm.trans h.frm, k.bnds.trans h.bnds, fun hq => k.startQ (h.startQ hq), by rw [k.pw, h.pw],
    fun o ho => (k.rd o ho).trans (h.rd o ho)⟩

/-- `trans` from its end: the last step, then what came before it. -/
theorem after {a : Block} (k : Calm b c) (h : Calm a b) : Calm a c := h.trans k

theorem when {f : Block → Block} {x : Bool} (h : Calm b (f b)) : Calm b (b.when x f) := by
  cases x
  · exact refl _
  · exact h

theorem ite {P : Prop} [Decidable P] {d : Block} (h : Calm b c) (k : Calm b d) : Calm b (if P then c else d) := by
  split
  · exact h
  · exact k

theorem eachMem {α : Type} {f : Block → α → Block} {xs : List α} (h : ∀ b, ∀ x ∈ xs, Calm b (f b x)) :
    Calm b (b.each xs f) := by
  induction xs generalizing b with
  | nil => exact refl _
  | cons x xs ih =>
    exact (h b x (List.mem_cons_self ..)).trans (ih fun b y hy => h b y (List.mem_cons_of_mem _ hy))

theorem each {α : Type} {f : Block → α → Block} {xs : List α} (h : ∀ b x, Calm b (f b x)) : Calm b (b.each xs f) :=
  eachMem fun b x _ => h b x

/-- The same of a fold that carries something along. -/
theorem foldl_fst {α β : Type} {f : Block × β → α → Block × β} {xs : List α} {p : Block × β}
    (h : ∀ p x, Calm p.1 (f p x).1) : Calm p.1 (xs.foldl f p).1 := by
  induction xs generalizing p with
  | nil => exact refl _
  | cons x xs ih => exact (h p x).trans ih

theorem foldl_snd {α β : Type} {f : β × Block → α → β × Block} {xs : List α} {p : β × Block}
    (h : ∀ p x, Calm p.2 (f p x).2) : Calm p.2 (xs.foldl f p).2 := by
  induction xs generalizing p with
  | nil => exact refl _
  | cons x xs ih => exact (h p x).trans ih

/-! ### One operation -/

/-- What changes none of these fields. -/
theorem of_eq (hf : c.frm = b.frm) (hb : c.bnds = b.bnds) (hq : c.startQ = b.startQ) (hp : c.pw = b.pw)
    (hr : c.regs = b.regs) : Calm b c :=
  ⟨by rw [hf], hb, fun h => hq.trans h, by rw [hp], fun o _ => Block.rd_congr hr o⟩

section
variable {o : Nat} (ho : o ∉ calmRegs)
include ho

theorem wr {v : Word} : Calm b (b.wr o v) := ⟨rfl, rfl, id, rfl, fun _ hj => b.rd_wr_ne v fun h => ho (h ▸ hj)⟩
theorem wrF {l n x : Nat} : Calm b (b.wrF o l n x) := wr ho
theorem wrB {i : Nat} {x : Bool} : Calm b (b.wrB o i x) := wr ho
theorem setB {i : Nat} : Calm b (b.setB o i) := wr ho
theorem clrB {i : Nat} : Calm b (b.clrB o i) := wr ho
theorem bumpF {l w n : Nat} : Calm b (b.bumpF o l w n) := wr ho
theorem bump {n : Nat} : Calm b (b.bump o n) := wr ho
end


variable {code i : Nat} {l : List (Nat × Nat)}

theorem ev : Calm b (b.ev code i l) := of_eq rfl rfl rfl rfl rfl
theorem evF {v : Word} : Calm b (b.evF code i l v) := of_eq rfl rfl rfl rfl rfl
theorem send {x : Output} : Calm b (b.send x) := of_eq rfl rfl rfl rfl rfl
theorem setEng {e : Nat} {x : Eng} : Calm b (b.setEng e x) := of_eq rfl rfl rfl rfl rfl
theorem updEng {e : Nat} {f : Eng → Eng} : Calm b (b.updEng e f) := setEng
theorem setStk {s : Nat} {x : Stk} : Calm b (b.setStk s x) := of_eq rfl rfl rfl rfl rfl
theorem updStk {s : Nat} {f : Stk → Stk} : Calm b (b.updStk s f) := setStk
/-- A frame changed, but not abandoned. -/
theorem updFrm {f : Frame → Frame} (h : ∀ x, (f x).abandon = x.abandon) : Calm b (b.updFrm f) := by
  refine ⟨?_, rfl, id, rfl, fun _ _ => rfl⟩
  simp only [Block.updFrm, Option.map_map, Function.comp_def, h]
theorem wrBytes {a : Nat} {bs : List Byte} : Calm b (b.wrBytes a bs) := of_eq rfl rfl rfl rfl rfl
theorem free {n : Nat} : Calm b { b with free := n } := of_eq rfl rfl rfl rfl rfl
theorem host {x : HostIf} : Calm b { b with host := x } := of_eq rfl rfl rfl rfl rfl
theorem vyv {x : Vyv} : Calm b { b with vyv := x } := of_eq rfl rfl rfl rfl rfl
theorem stage {x : Stage} : Calm b { b with pw := { b.pw with stage := x } } := ⟨rfl, rfl, id, rfl, fun _ _ => rfl⟩

/-! ### Memory and rejections (R277, R396, R417, R419, R420) -/

theorem hbmTouch {a n : Nat} : Calm b (b.hbmTouch a n) := ite (refl b) host
theorem eccSeen {x : Ecc} {cons : Nat} : Calm b (b.eccSeen x cons) :=
  after (each fun _ _ => after ev <| after (wr (by simp)) <| after (wr (by simp)) <| after (wr (by simp)) <|
    after (wr (by simp)) (wr (by simp))) <|
    each fun _ _ => after ev <| after (wr (by simp)) (wr (by simp))
theorem accessFault {a m : Nat} : Calm b (b.accessFault a m) :=
  after ev <| after (wr (by simp)) <| after (wr (by simp)) <| after (wr (by simp)) <| after (wr (by simp)) <|
    after (wr (by simp)) (wr (by simp))
theorem noteFault {x : FaultN} : Calm b (b.noteFault x) := vyv
theorem reject {idx tgt reason : Nat} : Calm b (b.reject idx tgt reason) :=
  after (updFrm fun _ => rfl) <| after ev <| after (ite (after (wr (by simp)) <|
    after (wr (by simp)) (wr (by simp))) (after (wr (by simp)) <|
      after (wr (by simp)) (wr (by simp)))) (updFrm fun _ => rfl)
theorem contributes {e : Nat} : Calm b (b.contributes e) :=
  after (when (f := (·.flag fOVERRUN)) (updFrm fun _ => rfl)) (updFrm fun _ => rfl)

/-! ### Tiles (R185, R187, R190 to R193, R199) -/

theorem takeRecord {s slot : Nat} {tr : List Word} {idx : Option Nat} : Calm b (b.takeRecord s slot tr idx) := by
  refine after (ite updStk ?_) updStk
  split
  · exact after (updFrm fun _ => rfl) <| after (updFrm fun _ => rfl) <| after (wr (by simp)) <| after ev updStk
  · exact after (updFrm fun _ => rfl) <| after (wr (by simp)) <| after ev updStk
theorem doReadback {s : Nat} {q : Rdbk} : Calm b (b.doReadback s q) :=
  ite reject (after (updFrm fun _ => rfl) wrBytes)
theorem closeTile {s slot : Nat} : Calm b (b.closeTile s slot) := by
  unfold Block.closeTile
  dsimp only
  split
  · exact after takeRecord <| after updStk <| after updStk <| after (each fun _ _ => doReadback) <| after updStk <|
      after (updFrm fun _ => rfl) updStk
  · exact after updStk <| after (each fun _ _ => doReadback) <| after updStk <| after (updFrm fun _ => rfl) updStk
theorem tallyDiscard {s : Nat} {m : TMsg} {reason : Nat} : Calm b (b.tallyDiscard s m reason) :=
  after (ite ev ev) <| after (wr (by simp)) <| after (wr (by simp)) <| after (when (updFrm fun _ => rfl)) <|
    after (wr (by simp)) <| after (wr (by simp)) <| when noteFault


/-- What a frame does to the Ledger as it ends (R192). -/
theorem ledgerBoundary {s : Nat} {frame : Word} : Calm b (b.ledgerBoundary s frame) := by
  unfold Block.ledgerBoundary
  have hmap : ∀ i ∈ List.range 32, i < 32 := fun _ => List.mem_range.1
  generalize List.range 32 = ks at hmap
  dsimp only
  refine after updStk <| after (each fun _ _ => tallyDiscard) <| after (wr (by simp)) <|
    after (eachMem fun c i hi => ?_) <|
    after (each fun _ _ => (updFrm fun _ => rfl)) <| after (when (after (wr (by simp)) evF)) <|
      after (each fun _ _ => after (updFrm fun _ => rfl) <| after (wr (by simp)) <| after closeTile updStk) updStk
  have hlt := hmap i hi
  exact after (wr (by simp [hlt])) <| after (wr (by simp [hlt])) (wr (by simp [hlt]))

/-! ### The Mint (R215, R216, R236) -/

theorem mintReject {j : MintJob} {reason : Nat} : Calm b (b.mintReject j reason) :=
  after reject <| after ev <| after (wr (by simp)) <| after (wr (by simp)) <| after (wr (by simp)) (wr (by simp))
theorem mintSpanErr {j : MintJob} {x : SpanErr} : Calm b (b.mintSpanErr j x) := by
  cases x
  · exact reject
  · exact after mintReject accessFault
theorem mintStats {j : MintJob} {cset conv clip nonfin : Nat} {first : Option (Nat × Nat)} :
    Calm b (b.mintStats j cset conv clip nonfin first).1 := by
  unfold Block.mintStats
  dsimp only
  refine after (when ?_) <| after (updFrm fun _ => rfl) ?_
  · exact after (updFrm fun _ => rfl) <| after ev <| after (wr (by simp)) <| after (wr (by simp)) (wr (by simp))
  · split
    · exact after ev <| after (wr (by simp)) <| after (wr (by simp)) (wr (by simp))
    · exact refl _
theorem mintRead {j : MintJob} {n : Nat} : Calm b (b.mintRead j n) :=
  after (when (f := (·.flag fTAINTED)) (updFrm fun _ => rfl)) <| after eccSeen <| each fun _ _ => hbmTouch
theorem mintConvert {j : MintJob} {p : MProf} : Calm b (b.mintConvert j p).1 := by
  have pad (c : Block) : Calm c (if p.fmt = 3 ∧ j.n % 2 = 1 then c.freeUpTo 15 else (0, c)).2 := by
    split
    · exact free
    · exact refl c
  exact after mintStats <| after (each fun c x => after hbmTouch <| after wrBytes (pad c)) <|
    after mintRead (each fun c x => wrBytes)
theorem mintWeights {j : MintJob} {p : MProf} : Calm b (b.mintWeights j p).1 :=
  after mintStats <| after hbmTouch <| after wrBytes mintRead
theorem mintReplay {j : MintJob} : Calm b (b.mintReplay j).1 := by
  unfold Block.mintReplay
  dsimp only
  split
  · exact mintReject
  · split
    · exact mintSpanErr
    · split
      · exact mintReject
      · exact after (when (f := (·.flag fCLIP)) (updFrm fun _ => rfl)) <| after hbmTouch <| after hbmTouch mintRead
theorem mintBegin {j : MintJob} : Calm b (b.mintBegin j).1 := by
  unfold Block.mintBegin
  dsimp only
  split
  · exact mintReplay
  · split
    · exact mintReject
    · split
      · exact mintSpanErr
      · split
        · exact mintWeights
        · exact mintConvert
theorem workBegin {w : MintWork} {earlier : List MintWork} : Calm b (b.workBegin w earlier).1 := by
  unfold Block.workBegin
  split
  · exact refl _
  · have hb := mintBegin (b := b) (j := w.job)
    split
    all_goals
      next heq =>
        rw [heq] at hb
        exact after (updFrm fun _ => rfl) hb
theorem workEnd {w : MintWork} : Calm b (b.workEnd w) :=
  after (updFrm fun _ => rfl) <| after (updFrm fun _ => rfl) <| each fun _ _ => after hbmTouch wrBytes

/-! ### Passes and the Mint's rounds (R179, R218, R281, R316) -/

theorem updCon {s n : Nat} {f : Con → Con} : Calm b (b.updCon s n f) := updStk
theorem passSymbol {e : Nat} {y : Sym} {p : PassQ} {k : Con} : Calm b (b.passSymbol e y p k) :=
  after setEng <| after (wr (by simp)) <| after (updFrm fun _ => rfl) <| after updCon <| after setEng <|
    when contributes
theorem passStall {e : Nat} {p : PassQ} : Calm b (b.passStall e p) := ite (refl b) (after updEng (wr (by simp)))
theorem sendOn {w : MintWork} {u : Nat} : Calm b (b.sendOn w u).1 := by
  unfold Block.sendOn
  split
  · exact refl b
  · dsimp only
    split
    · exact refl b
    · split
      · exact refl b
      · split
        · exact each fun _ _ => passStall
        · exact after (updFrm fun _ => rfl) <| each fun _ _ => passSymbol
theorem workTurn {idx : Nat} : Calm b (b.workTurn idx).1 := by
  unfold Block.workTurn
  split
  · exact refl b
  · split
    · exact workBegin
    · split
      · exact workEnd
      · refine foldl_fst (p := (b, false)) fun acc u => ?_
        exact sendOn
theorem pumpRounds (n : Nat) : Calm b (Block.pumpRounds n b) := by
  induction n generalizing b with
  | zero => exact refl b
  | succ n ih =>
    have hround : Calm b ((b.mintQ.map (·.job.idx)).foldl (fun (acc : Block × Bool) i =>
        ((acc.1.workTurn i).1, acc.2 || (acc.1.workTurn i).2)) (b, false)).1 := by
      refine foldl_fst (p := (b, false)) fun acc i => ?_
      exact workTurn
    exact ite (after ih hround) hround
theorem pump : Calm b b.pump := pumpRounds _

/-! ### Dynamic engines (R249 to R262, R268) -/

theorem dynFill {e : Nat} {j : DJob} : Calm b (b.dynFill e j) :=
  after (updFrm fun _ => rfl) <| after (wr (by simp)) <| after updEng <|
    after (when (f := (·.flag fTAINTED)) (updFrm fun _ => rfl)) <| after eccSeen <|
    each fun _ _ => hbmTouch
theorem probDrive {a7u : Bool} {x : Int} : Calm b (b.probDrive a7u x).2 := by
  unfold Block.probDrive
  split
  · exact refl b
  · split
    · exact free
    · split <;> exact refl b
theorem probSyms {j : DJob} {codes : List (List Int)} : Calm b (b.probSyms j codes).2 := by
  refine foldl_snd (p := ([], b)) fun acc row => ?_
  refine foldl_snd (p := ([], acc.2)) fun a x => ?_
  exact probDrive
theorem negCodes {e : Nat} {codes : List (List Int)} : Calm b (b.negCodes e codes) := by
  unfold Block.negCodes
  dsimp only
  split
  · exact refl b
  · exact after ev <| after (wr (by simp)) <| after (wr (by simp)) (wr (by simp))
theorem drive {e rows sid flags : Nat} {j : DJob} {syms : List DSym} {offset : Bool} {vis : Nat → Nat → Bool}
    {fac : Nat → Word} : Calm b (b.drive e j rows syms offset sid flags vis fac) :=
  after (each fun _ _ => after setEng <| after (wr (by simp)) <| after (wr (by simp)) updStk) <|
    after (updFrm fun _ => rfl) contributes
theorem dynRead {j : DJob} {addrs : List Nat} {len : Nat} : Calm b (b.dynRead j addrs len) :=
  after (when (f := (·.flag fTAINTED)) (updFrm fun _ => rfl)) <| after eccSeen <| each fun _ _ => hbmTouch
theorem dynScore {e : Nat} {j : DJob} : Calm b (b.dynScore e j) :=
  after wrBytes <| after drive <| after hbmTouch dynRead
theorem dynValue {e : Nat} {j : DJob} : Calm b (b.dynValue e j) := by
  unfold Block.dynValue
  dsimp only
  exact after drive <| after (when negCodes) <| after dynRead probSyms
theorem dynStep {e : Nat} : Calm b (b.dynStep e) := by
  unfold Block.dynStep
  dsimp only
  split
  · exact refl b
  · refine ite (refl b) ?_
    split
    · exact ite (refl b) (after dynFill updEng)
    · exact ite (refl b) (after dynScore updEng)
    · exact ite (refl b) (after dynValue updEng)
theorem dynPump {e : Nat} : Calm b (b.dynPump e) :=
  each (xs := List.range (b.eng e).dyn.jobs.length) (f := fun b _ => b.dynStep e) fun _ _ => dynStep
theorem pumpAll {s : Nat} : Calm b (b.pumpAll s) := after dynPump <| after dynPump pump
theorem dynBoundary {e : Nat} : Calm b (b.dynBoundary e) := by
  unfold Block.dynBoundary
  exact after updEng <| after (wr (by simp)) <| after updEng <| after (wr (by simp)) (wr (by simp))
theorem dynStow {e : Nat} : Calm b (b.dynStow e) := after updEng dynBoundary
theorem calHoldBegin {s : Nat} : Calm b (b.calHoldBegin s) := by
  unfold Block.calHoldBegin
  split
  · exact refl b
  · exact ite (refl b) (after (when dynStow) <| after updEng updStk)

/-! ### Calibration: how it ends and what it leaves to be done (R322, R331, R334, R337, R358) -/

theorem updRegion {e q : Nat} {f : Region → Region} : Calm b (b.updRegion e q f) := updEng
theorem makeDue {e q scope : Nat} {request : Bool} : Calm b (b.makeDue e q scope request) :=
  ite (refl b) <| ite (refl b) <| ite updEng <| ite updEng (refl b)
theorem setPs {e : Nat} {p : PState} : Calm b (b.setPs e p) := after (wr (by simp)) updEng
theorem releaseHold {k : Cal} : Calm b (b.releaseHold k) := by
  unfold Block.releaseHold
  exact after (when (after updEng setPs)) <| after updEng <| each fun _ _ => updEng
theorem calStop {s outcome cause : Nat} : Calm b (b.calStop s outcome cause) := by
  unfold Block.calStop
  split
  · exact refl b
  · exact after pumpAll <| after ev <| after (wr (by simp)) <| after (wr (by simp)) <| after (wr (by simp)) <|
      after (each fun _ _ => updEng) <|
      after updStk releaseHold
theorem calAbandon {e cause : Nat} : Calm b (b.calAbandon e cause) := by
  unfold Block.calAbandon
  split
  · exact ite calStop (refl b)
  · exact refl b
theorem setMgain {e m : Nat} {g : Int} : Calm b (b.setMgain e m g) := by
  unfold Block.setMgain
  exact updEng
theorem calArm {e : Nat} : Calm b (b.calArm e) := by
  unfold Block.calArm
  dsimp only
  split
  · exact refl b
  · split
    · exact updStk
    · exact after updStk <| after (wr (by simp)) <| after (when (after (wr (by simp)) (wr (by simp)))) <|
        after (wr (by simp)) <| after (wr (by simp)) <| after (wr (by simp)) <|
        after (each fun _ _ => setMgain) <| each fun _ _ => wr (by simp)
theorem calUnarm {e : Nat} {y : TrimSaved} : Calm b (b.calUnarm e y) :=
  after (wr (by simp)) <| after (wr (by simp)) <| after (when (after (wr (by simp)) <|
    after (wr (by simp)) updEng)) <| when (after (wr (by simp)) <| after (wr (by simp)) <|
      each fun _ _ => wr (by simp))
theorem calDrop {s : Nat} {p : Cal → Bool} : Calm b (b.calDrop s p) := by
  unfold Block.calDrop
  refine after updStk <| each fun c k => ?_
  dsimp only
  split
  · exact after calUnarm <| when (after (wr (by simp)) updEng)
  · exact when (after (wr (by simp)) updEng)
theorem stageMarks {e : Nat} : Calm b (b.stageMarks e) := stage
theorem stageTrims {e : Nat} : Calm b (b.stageTrims e) := stage
theorem ebudInvalid {e : Nat} {model : Bool} : Calm b (b.ebudInvalid e model) := by
  unfold Block.ebudInvalid
  exact after (when (after updEng <| after (wr (by simp)) (wr (by simp)))) <| after (wr (by simp)) <|
    after (wr (by simp)) <| after (wr (by simp)) <| after (wr (by simp)) (wr (by simp))
theorem showLost {e : Nat} {q : Nat × Nat × Bool} {rises : Bool} : Calm b (b.showLost e q rises) := by
  unfold Block.showLost
  exact after (when ev) (wr (by simp))

/-! ### Plates and trims (R64, R70 to R77, R88 to R90, R270) -/

theorem buildOver {e : Nat} : Calm b (b.buildOver e) := after (wr (by simp)) <| after (wr (by simp)) <|
  after updStk updEng
theorem buildFail {e k : Nat} : Calm b (b.buildFail e k) := after (wr (by simp)) <| after (wr (by simp)) buildOver
theorem beginLoad {e addr : Nat} {x : Ecc} {bd : Build} : Calm b (b.beginLoad e addr x bd) := by
  unfold Block.beginLoad
  dsimp only
  refine ite (after buildFail accessFault) <| ite buildFail <| ite (after buildFail accessFault) ?_
  have hread : ∀ n, Calm b ((b.hbmTouch addr n).eccSeen x 2) := fun _ => after eccSeen hbmTouch
  refine ite (after buildFail (hread _)) <| ite (after buildFail (hread _)) ?_
  split
  · exact after buildFail <| after (wr (by simp)) (hread _)
  · exact after updEng (hread _)
theorem beginRebuild {e : Nat} {bd : Build} : Calm b (b.beginRebuild e bd) := by
  unfold Block.beginRebuild
  obtain ⟨inputs, hinputs⟩ : ∃ l, List.range 262144 = l := ⟨_, rfl⟩ -- so that the kernel does not evaluate it
  rw [hinputs]
  dsimp only
  refine ite buildFail ?_
  split
  · exact after buildFail (wr (by simp))
  · split
    · exact after buildFail ev
    · exact after free updEng
theorem beginBuild {e : Nat} {x : Ecc} : Calm b (b.beginBuild e x) := by
  unfold Block.beginBuild
  split
  · exact ite beginRebuild beginLoad
  · exact refl b
theorem requestBuild {e : Nat} {rebuild : Bool} {x : Ecc} : Calm b (b.requestBuild e rebuild x) := by
  unfold Block.requestBuild
  exact after (when beginBuild) <| after updStk <| after updEng <| after (wr (by simp)) <|
    after (wr (by simp)) (wr (by simp))
theorem autoRebuild {e : Nat} : Calm b (b.autoRebuild e) := ite (refl b) requestBuild
theorem abortBuild {e : Nat} : Calm b (b.abortBuild e) := ite (refl b) (after updEng buildOver)
theorem showPark {e : Nat} {park off : List Nat} : Calm b (b.showPark e park off) := ite (wr (by simp)) (wr (by simp))
theorem takeTrims {e n : Nat} {more : List (Nat × Nat)} : Calm b (b.takeTrims e n more) := after (wr (by simp)) updEng

end Calm
end Sys2Proof.Machine
end

section
/-! SUPPORT. What is brought into force at a boundary is calm: plate halves, trims, tables, maps and curves, and the results of
accepted calibrations. -/

namespace Sys2Proof.Machine

namespace Calm

variable {b c : Block}

theorem showComplete {e : Nat} : Calm b (b.showComplete e) := wr (by simp)
theorem loadScan {e : Nat} : Calm b (b.loadScan e) := by
  unfold Block.loadScan
  exact after updEng <| after (wr (by simp)) (wr (by simp))
theorem swapHalves {e : Nat} {frame : Word} : Calm b (b.swapHalves e frame) := by
  have hslot : slotOf e < 18 := by
    unfold slotOf
    split <;> omega
  unfold Block.swapHalves
  refine ite (refl b) ?_
  split
  · exact refl b
  · refine after (ite (refl _) (after (wr (by simp)) <| after updStk <| each fun _ _ => makeDue)) <|
      after (when loadScan) <|
      after (when (after showComplete (wr (by simp)))) <| after (ite showLost (after showLost ebudInvalid)) <|
        after showPark <|
      after (wr (by simp)) <| after (wr (by simp)) <| after (wr (by simp)) <| after (wr (by simp)) <|
        after (wr (by simp)) <| after (wr (by simp)) <| after (wr (by simp)) <|
      after (when (after stageMarks takeTrims)) <| after setEng <| when (after calDrop calAbandon)
theorem trimBoundary {e : Nat} : Calm b (b.trimBoundary e) := by
  unfold Block.trimBoundary
  generalize List.range (rowsOfEng e) = rows
  refine after (ite (refl _) takeTrims) <| after (when ?_) <| when (after (wr (by simp)) <| after (wr (by simp)) <|
    after updEng <| each fun _ _ => wr (by simp))
  refine ite (after (wr (by simp)) <| after (wr (by simp)) <| after (wr (by simp)) <| each fun _ _ => wr (by simp)) ?_
  exact after (ite (after updEng <| after (wr (by simp)) <| after (wr (by simp)) (wr (by simp))) (refl _)) <|
    after updEng <| each fun _ _ => after (when (wr (by simp))) (wr (by simp))
theorem rangeBoundary {e : Nat} : Calm b (b.rangeBoundary e) := by
  have hreg : ∀ c : Block, ∀ n, Calm c (c.wrF (if e < 64 then ENG_OSCALE e else DEN_OSCALE e) 8 5 n) := fun c n => by
    split
    · exact wr (by simp)
    · exact wr (by simp)
  unfold Block.rangeBoundary
  exact ite (refl b) <| after (each fun _ _ => makeDue) <| after ebudInvalid <| after updEng (hreg ..)

/-! ### Tables, maps and curves (R102, R124, R244, R339) -/

theorem tblBoundary {e : Nat} {frame : Word} : Calm b (b.tblBoundary e frame) := by
  unfold Block.tblBoundary
  exact ite (refl b) <| after evF <| after (wr (by simp)) <| after (wr (by simp)) <| after (wr (by simp)) <|
    after (wr (by simp)) updEng
theorem commitMap {e : Nat} : Calm b (b.commitMap e) := by
  unfold Block.commitMap
  exact after stageMarks <| after showComplete <| after (wr (by simp)) <| after showPark setEng
theorem dynMapBoundary {e : Nat} : Calm b (b.dynMapBoundary e) := ite commitMap (refl b)
theorem mapCommit : Calm b (mapCommit b) :=
  each fun _ _ => ite (refl _) <| ite (ite (refl _) commitMap) (ite commitMap (refl _))
theorem curveBoundary {s : Nat} {frame : Word} : Calm b (b.curveBoundary s frame) := by
  unfold Block.curveBoundary
  have hwords : ∀ k ∈ List.range 128, k < 128 := fun _ => List.mem_range.1
  generalize List.range 128 = ks at hwords
  refine ite (refl b) <| after evF <| after (wr (by simp)) <| after (each fun _ _ => updEng) <|
    after (wr (by simp)) <| after (wr (by simp)) <| after (wr (by simp)) <|
    after (eachMem fun c k hk => ?_) updStk
  have hlt := hwords k hk
  exact wr (by simp [hlt])
theorem bankBoundary {s : Nat} : Calm b (b.bankBoundary s) := by
  unfold Block.bankBoundary
  exact ite (refl b) (after (wr (by simp)) updStk)

/-! ### Accepted calibrations at a boundary (R334 to R336) -/

theorem updRes {e : Nat} {f : CalRes → CalRes} : Calm b (b.updRes e f) := updStk
theorem ebudRefresh {e : Nat} {res : CalRes} : Calm b (b.ebudRefresh e res) := by
  unfold Block.ebudRefresh
  exact after (wr (by simp)) <| after (wr (by simp)) <| after (wr (by simp)) <| after updStk <|
    after (wr (by simp)) updEng
theorem calInForce {k : Cal} {res : CalRes} : Calm b (b.calInForce k res) := by
  unfold Block.calInForce
  exact after ebudRefresh <| each fun _ _ => updEng
theorem calBoundary {s : Nat} : Calm b (b.calBoundary s) := by
  unfold Block.calBoundary
  refine each fun c k => ?_
  dsimp only
  split
  · exact refl c
  · exact ite (refl c) <| ite (after updRes updEng) <| ite (after updRes updEng)
      (after calInForce <| after updRes updEng)
theorem queueCal {e : Nat} {ws : List (Nat × Nat)} : Calm b (b.queueCal e ws).1 := by
  unfold Block.queueCal
  split
  · dsimp only
    exact updEng
  · exact after (wr (by simp)) updEng
theorem calPart {e : Nat} {res : CalRes} {replaced : Bool} : Calm b (b.calPart e res replaced) := by
  unfold Block.calPart
  exact after (ite autoRebuild calArm) <| after updStk queueCal
theorem calNext {s : Nat} : Calm b (b.calNext s) := by
  unfold Block.calNext
  refine each fun c k => ?_
  split
  · exact ite calPart (refl c)
  · exact refl c
theorem calTrimEnd {s : Nat} : Calm b (b.calTrimEnd s) := by
  unfold Block.calTrimEnd
  refine each fun c k => ?_
  split
  · refine ite (refl c) <| after stageTrims ?_
    split
    · exact after (wr (by simp)) <| after (when calInForce) updStk
    · exact after (when calInForce) updStk
  · exact refl c
theorem calDiscard {s : Nat} : Calm b (b.calDiscard s) := after calDrop <| after calStop <| each fun _ _ => abortBuild

/-! ### The rest of a boundary (R234, R279, R299, R302, R385, R457) -/

theorem dropHeld {frame : BitVec 32} : Calm b (b.dropHeld frame) := by
  refine after (each fun c h => ?_) vyv
  unfold Block.heldLost
  split
  · exact noteFault
  · exact noteFault
  · exact refl c
theorem mintBoundary {f : Frame} : Calm b (b.mintBoundary f) := after (wr (by simp)) <| after (wr (by simp)) <|
  after (wr (by simp)) <| after (wr (by simp)) (wr (by simp))
theorem statusOut {f : Frame} : Calm b (b.statusOut f) := by
  have hwords : ∀ c : Block, Calm c (c.each (((f.statusWords (f.age c.time)).zip (List.range 8))) fun b (w, i) =>
      b.wr (MSQ_FSW (8 * (f.sr.frame.toNat % 64) + i)) w) := fun _ => each fun _ _ => wr (by simp)
  unfold Block.statusOut
  refine after (when (wr (by simp))) ?_
  split
  · exact after wrBytes <| after hbmTouch (hwords b)
  · exact hwords b
theorem startLost {code : Nat} {data : List (Nat × Nat)} {frame : Word} : Calm b (b.startLost code data frame) :=
  after evF <| after (wr (by simp)) (wr (by simp))
theorem dropStarts : Calm b b.dropStarts :=
  after (each fun _ _ => startLost) ⟨rfl, rfl, fun _ => rfl, rfl, fun _ _ => rfl⟩
theorem recheck : Calm b b.recheck := ite dropStarts (refl b)
theorem criticalStop : Calm b b.criticalStop :=
  ite (after recheck <| after (wr (by simp)) ⟨rfl, rfl, id, rfl, fun _ _ => rfl⟩) (refl b)
theorem setTail {x : Bool} : Calm b { b with tail := x } := of_eq rfl rfl rfl rfl rfl
theorem bringIn : Calm b b.bringIn := by
  unfold Block.bringIn
  exact after setTail <| after (each fun _ _ => bankBoundary) <|
    after (each fun _ _ => after curveBoundary calNext) <|
    after (each fun _ _ => swapHalves) <| after (each fun _ _ => calBoundary) <|
      each fun _ _ => after dynMapBoundary tblBoundary
theorem napAll : Calm b b.napAll := each fun _ _ => ite (refl _) (after updEng setPs)

end Calm
end Sys2Proof.Machine
end

section
/-! SUPPORT. The frame boundary: that no frame runs after it, that it is counted, and that no scale table stays armed. -/

namespace Sys2Proof.Machine

/-- `c` follows from `b` with no frame begun, no boundary made and no scale table armed or disarmed. -/
structure Closed (b c : Block) : Prop where
  frm : b.frm = none → c.frm = none
  bnds : c.bnds = b.bnds
  arm : ∀ st : Fin 4, c.rd (TLY_CTRL st) = b.rd (TLY_CTRL st)

theorem tlyCtrl_mem (st : Fin 4) : TLY_CTRL st ∈ calmRegs := by
  fin_cases st <;> simp [calmRegs]

theorem Calm.closed {b c : Block} (h : Calm b c) : Closed b c := ⟨h.noFrame, h.bnds, fun st => h.rd _ (tlyCtrl_mem st)⟩

namespace Closed

variable {b c : Block}

theorem after {a : Block} (k : Closed b c) (h : Closed a b) : Closed a c :=
  ⟨fun hf => k.frm (h.frm hf), k.bnds.trans h.bnds, fun st => (k.arm st).trans (h.arm st)⟩

theorem refl (b : Block) : Closed b b := ⟨id, rfl, fun _ => rfl⟩

theorem setPw {p : Power} : Closed b { b with pw := p } := ⟨id, rfl, fun _ => rfl⟩

theorem wr {o : Nat} {v : Word} (ho : ∀ st : Fin 4, TLY_CTRL st ≠ o) : Closed b (b.wr o v) :=
  ⟨id, rfl, fun st => b.rd_wr_ne v (ho st)⟩

/-! ### Transitions (R35, R36, R477, R478) -/

theorem showPwr : Closed b b.showPwr := after (wr (by decide)) (wr (by decide))
theorem refuseReq : Closed b b.refuseReq := after (wr (by decide)) (wr (by decide))
theorem takeBack : Closed b b.takeBack := by
  unfold Block.takeBack
  refine after showPwr <| after setPw ?_
  cases h : b.pw.startup == some .dead
  · exact refl b
  · exact wr (by decide)
theorem judge {t : Nat} : Closed b (b.judge t) := by
  unfold Block.judge
  dsimp only
  split
  · exact after showPwr <| after (wr (by decide)) setPw
  · split
    · exact after showPwr <| after Calm.recheck.closed setPw
    · split
      · exact after showPwr setPw
      · exact after refuseReq setPw
theorem request {t : Nat} : Closed b (b.request t) := by
  unfold Block.request
  split
  · exact setPw
  · exact after judge <| after takeBack setPw
theorem nextReq : Closed b b.nextReq := by
  unfold Block.nextReq
  split
  · exact request
  · exact refl b
theorem finish {st : Nat} : Closed b (b.finish st) := by
  unfold Block.finish
  exact after nextReq <| after Calm.recheck.closed <| after (wr (by decide)) <| after showPwr <|
    after (wr (by decide)) setPw
theorem enterHold : Closed b b.enterHold := after finish Calm.napAll.closed
theorem boundaryReq : Closed b b.boundaryReq := by
  unfold Block.boundaryReq
  split
  · exact refl b
  · dsimp only
    split
    · exact after enterHold setPw
    · split
      · exact after showPwr <| after Calm.dropStarts.closed <| after setPw setPw
      · exact setPw

end Closed

/-! ## Scale tables (R178) -/

/-- The registers that the copy of an armed scale table may change. -/
def scaleRegs (s : Nat) : List Nat :=
  TLY_CTRL s :: TLY_STAT s :: PG_ISTAT (P_TLY s) :: (List.range 256).map (TLY_SCALE s)

variable (b : Block)

theorem scaleCopy_within (s : Nat) : Within (scaleRegs s) noEngine b (b.scaleCopy s) := by
  have hctrl : TLY_CTRL s ∈ scaleRegs s := by simp only [scaleRegs, List.mem_cons, true_or]
  have hstat : TLY_STAT s ∈ scaleRegs s := by simp only [scaleRegs, List.mem_cons, true_or, or_true]
  have histat : PG_ISTAT (P_TLY s) ∈ scaleRegs s := by simp only [scaleRegs, List.mem_cons, true_or, or_true]
  have htab : ∀ k ∈ List.range 256, TLY_SCALE s k ∈ scaleRegs s := fun k hk => by
    simp only [scaleRegs, List.mem_cons]
    exact .inr (.inr (.inr (List.mem_map_of_mem hk)))
  unfold Block.scaleCopy
  generalize List.range 256 = ks at htab
  refine Within.ite (.refl ..) ?_
  refine ((((Within.each (fun c k hk => Within.wr (htab k hk) _) b).trans (Within.clrB hctrl 0)).trans
    (Within.clrB hstat 0)).trans (Within.setB hstat 1)).trans (Within.raise histat 0)

theorem scaleCopy_other {s : Nat} {st : Fin 4} (h : st.val ≠ s) : (b.scaleCopy s).rd (TLY_CTRL st) = b.rd (TLY_CTRL st) := by
  refine (scaleCopy_within b s).rd _ fun hm => ?_
  simp only [scaleRegs, List.mem_cons, List.mem_map, List.mem_range, TLY_CTRL, TLY_STAT, PG_ISTAT, P_TLY, TLY_SCALE] at hm
  obtain hm | hm | hm | ⟨k, hk, hm⟩ := hm
  all_goals omega

theorem scaleCopy_disarms (s : Nat) : (b.scaleCopy s).rdB (TLY_CTRL s) 0 = false := by
  have hstat : TLY_CTRL s ≠ TLY_STAT s := by unfold TLY_CTRL TLY_STAT; omega
  have histat : TLY_CTRL s ≠ PG_ISTAT (P_TLY s) := by unfold TLY_CTRL PG_ISTAT; omega
  unfold Block.scaleCopy
  split
  · next h => simpa using h
  · refine (Block.rdB_wr_ne _ _ 0 histat).trans <| (Block.rdB_wr_ne _ _ 0 hstat).trans <|
      (Block.rdB_wr_ne _ _ 0 hstat).trans (Block.rdB_clrB _ _ 0 (by decide))

/-- With every table copied that was armed, none is armed. -/
theorem scaleCopies_disarm (st : Fin 4) : (b.each (List.range 4) Block.scaleCopy).rdB (TLY_CTRL st) 0 = false := by
  have hcopy : ∀ c : Block, ∀ s : Nat, c.rdB (TLY_CTRL st) 0 = false ∨ st.val = s →
      (c.scaleCopy s).rdB (TLY_CTRL st) 0 = false := fun c s h => by
    by_cases hs : st.val = s
    · rw [hs]
      exact scaleCopy_disarms c s
    · rw [Block.rdB, scaleCopy_other c hs]
      exact h.resolve_right hs
  have hlist : List.range 4 = [0, 1, 2, 3] := rfl
  simp only [hlist, Block.each_cons, Block.each_nil]
  fin_cases st
  · exact hcopy _ _ (.inl (hcopy _ _ (.inl (hcopy _ _ (.inl (hcopy _ _ (.inr rfl)))))))
  · exact hcopy _ _ (.inl (hcopy _ _ (.inl (hcopy _ _ (.inr rfl)))))
  · exact hcopy _ _ (.inl (hcopy _ _ (.inr rfl)))
  · exact hcopy _ _ (.inr rfl)

/-! ## The end of a boundary (R299) -/

/-- Is a group of some stack still to swap? -/
def Block.swapsLeft (b : Block) : Bool := (List.range 4).any fun s => !(b.stk s).swapping.isEmpty

theorem tailEnd_waits (h : b.swapsLeft = true) : b.tailEnd = b := by
  unfold Block.tailEnd
  exact if_pos (by rw [Bool.or_eq_true]; exact .inr h)

/-- What follows the scale tables at the end of a boundary. -/
def Block.tailRest (b : Block) : Block :=
  { (((b.each allEngs Block.trimBoundary).each (List.range 4) Block.calTrimEnd).each allEngs Block.rangeBoundary).each
      (List.range 4) (fun b s => (b.calHoldBegin s).pumpAll s) with tail := false }.boundaryReq

theorem tailEnd_done (ht : b.tail = true) (h : b.swapsLeft = false) :
    b.tailEnd = (b.each (List.range 4) Block.scaleCopy).tailRest := by
  unfold Block.tailEnd
  refine if_neg ?_
  rw [Bool.or_eq_true, ht]
  rintro (h' | h')
  · cases h'
  · exact absurd (h.symm.trans h') Bool.false_ne_true

theorem tailRest_closed : Closed b b.tailRest := by
  unfold Block.tailRest
  exact Closed.boundaryReq.after <| Calm.closed <| Calm.setTail.after <|
    Calm.after (.each fun _ _ => Calm.pumpAll.after .calHoldBegin) <| Calm.after (.each fun _ _ => .rangeBoundary) <|
      Calm.after (.each fun _ _ => .calTrimEnd) (.each fun _ _ => .trimBoundary)

theorem Within.frm {w : List Nat} {E : Nat → Prop} {b c : Block} (h : Within w E b c) : c.frm = b.frm := by rw [h.rest]
theorem Within.bnds {w : List Nat} {E : Nat → Prop} {b c : Block} (h : Within w E b c) : c.bnds = b.bnds := by rw [h.rest]

/-- The end of a boundary begins no frame and makes no boundary. -/
theorem tailEnd_keeps : (b.frm = none → b.tailEnd.frm = none) ∧ b.tailEnd.bnds = b.bnds := by
  have hfrm := Block.each_keep b (·.frm) (List.range 4) Block.scaleCopy fun c s => (scaleCopy_within c s).frm
  have hbnds := Block.each_keep b (·.bnds) (List.range 4) Block.scaleCopy fun c s => (scaleCopy_within c s).bnds
  have hrest := tailRest_closed (b.each (List.range 4) Block.scaleCopy)
  cases hleft : b.swapsLeft
  · cases ht : b.tail
    · have heq : b.tailEnd = b := if_pos (by rw [ht]; rfl)
      rw [heq]
      exact ⟨id, rfl⟩
    · rw [tailEnd_done b ht hleft]
      exact ⟨fun h => hrest.frm (hfrm.trans h), hrest.bnds.trans hbnds⟩
  · rw [tailEnd_waits b hleft]
    exact ⟨id, rfl⟩

/-- A boundary that has come to its end leaves no scale table armed (R178). -/
theorem tailEnd_disarms (ht : b.tail = true) (he : b.tailEnd.tail = false) (st : Fin 4) :
    b.tailEnd.rdB (TLY_CTRL st) 0 = false := by
  cases hleft : b.swapsLeft
  · rw [tailEnd_done b ht hleft, Block.rdB, (tailRest_closed _).arm st]
    exact scaleCopies_disarm b st
  · rw [tailEnd_waits b hleft, ht] at he
    cases he

/-! ## The boundary of a frame (R299) -/

/-- What closes at a boundary before the status word goes out: the tiles, the later frames' messages and the Mint's tallies. -/
def Block.closing (b : Block) (f : Frame) : Block :=
  ((b.each (List.range 4) fun b s => b.ledgerBoundary s f.sr.frame).dropHeld f.sr.frame).mintBoundary f

/-- The frame that runs, or `f` where none does. -/
def Block.frameOr (b : Block) (f : Frame) : Frame := match b.frm with | some g => g | none => f

/-- The time from which the next frame may begin (R489). -/
def Block.gapAfter (b : Block) (f : Frame) : Nat :=
  let lv := b.rdF THM_STAT 0 3
  let d := if lv = 2 then b.rdF THM_THROT 0 8 else b.rdF THM_THROT 8 8
  if lv = 2 ∨ lv = 3 then f.begun.toNat + (f.age b.time * 256 + d - 1) / d else 0

/-- No frame runs any more, and the boundary is counted. -/
def Block.frameOver (b : Block) (f : Frame) : Block := { b with frm := none, bnds := b.bnds + 1, gap := b.gapAfter f }

/-- The stop of light that waited for the boundary, with the dynamic engines' part before it (R35, R482). -/
def Block.boundaryStop (b : Block) : Block := (b.each (List.range' 64 8) Block.dynBoundary).criticalStop

theorem closing_calm (f : Frame) : Calm b (b.closing f) :=
  Calm.mintBoundary.after <| Calm.dropHeld.after (.each fun _ _ => .ledgerBoundary)

theorem boundaryStop_calm : Calm b b.boundaryStop := Calm.criticalStop.after (.each fun _ _ => .dynBoundary)

/-- The boundary from the status word of frame `g` up to the stop of light. -/
def Block.closeFrame (b : Block) (g : Frame) : Block := ((b.statusOut g).frameOver g).boundaryStop

/-- The boundary from the status word of frame `g` on. -/
def Block.endFrame (b : Block) (g : Frame) : Block :=
  if g.abandon then b.closeFrame g else (b.closeFrame g).bringIn.tailEnd

/-- The boundary in these steps. -/
theorem boundary_eq (f : Frame) : b.boundary f = (b.closing f).endFrame ((b.closing f).frameOr f) := by
  unfold Block.boundary
  extract_lets b1 b2 g b3 lv d dur gap b4 b5
  have h2 : b2 = b.closing f := rfl
  have h5 : b5 = b2.closeFrame g := rfl
  clear_value b2
  have hg : g = b2.frameOr f := rfl
  rw [h5, ← h2, ← hg]
  rfl

theorem closeFrame_keeps (g : Frame) : (b.closeFrame g).frm = none ∧ (b.closeFrame g).bnds = b.bnds + 1 := by
  have hout : Calm b (b.statusOut g) := Calm.statusOut
  have hstop := boundaryStop_calm ((b.statusOut g).frameOver g)
  exact ⟨hstop.noFrame rfl, hstop.bnds.trans (congrArg (· + 1) hout.bnds)⟩

theorem endFrame_closes (g : Frame) : (b.endFrame g).frm = none ∧ (b.endFrame g).bnds = b.bnds + 1 := by
  obtain ⟨hfrm, hbnds⟩ := closeFrame_keeps b g
  have hin : Calm (b.closeFrame g) (b.closeFrame g).bringIn := Calm.bringIn
  unfold Block.endFrame
  split
  · exact ⟨hfrm, hbnds⟩
  · exact ⟨(tailEnd_keeps _).1 (hin.noFrame hfrm), ((tailEnd_keeps _).2.trans hin.bnds).trans hbnds⟩

/-- A boundary leaves no frame and is counted. -/
theorem boundary_closes (f : Frame) : (b.boundary f).frm = none ∧ (b.boundary f).bnds = b.bnds + 1 := by
  rw [boundary_eq, ← (closing_calm b f).bnds]
  exact endFrame_closes ..

theorem frameBoundary_frame {f : Frame} (hf : b.frm = some f)
    (h : f.tlimit = true ∨ f.ended = true ∧ f.queue = [] ∧ f.infl = []) :
    frameBoundary b = b.boundary f := by
  unfold frameBoundary
  rw [hf]
  refine if_pos (h.imp id fun ⟨he, hq, hi⟩ => ⟨he, ?_, ?_⟩)
  · rw [hq]; rfl
  · rw [hi]; rfl

/-! ## The empty boundary (R40) -/

theorem emptyBoundary_keeps (hf : b.frm = none) (ht : b.tail = false) :
    (emptyBoundary b).frm = none ∧
      ((emptyBoundary b).tail = false → ∀ st : Fin 4, (emptyBoundary b).rdB (TLY_CTRL st) 0 = false) := by
  have hin : Calm b b.criticalStop.bringIn := Calm.bringIn.after .criticalStop
  have heq : emptyBoundary b = b.criticalStop.bringIn.tailEnd := if_neg (by simp [Block.inFrame, hf, ht])
  rw [heq]
  exact ⟨(tailEnd_keeps _).1 (hin.noFrame hf), fun he st => tailEnd_disarms _ rfl he st⟩

/-! ## A bank swap (R153) -/

end Sys2Proof.Machine
end

section
/-! SUPPORT. The frame boundary's last part: the swap of a bank. -/

namespace Sys2Proof.Machine

variable (b : Block)

/-- The register of the active banks of stack `s`, and the stacks. -/
def Block.banks (b : Block) (s : Nat) : Word × SMap Stk := (b.rd (CE_BANK_ACT s), b.stks)

theorem banks_wr {s o : Nat} (v : Word) (h : CE_BANK_ACT s ≠ o) : (b.wr o v).banks s = b.banks s :=
  Prod.ext (b.rd_wr_ne v h) rfl

theorem banks_wrB {s o : Nat} (i : Nat) (x : Bool) (h : CE_BANK_ACT s ≠ o) : (b.wrB o i x).banks s = b.banks s :=
  banks_wr b _ h

theorem banks_preset (s e q : Nat) : (b.preset e q).banks s = b.banks s := rfl

theorem banks_ev (s c i : Nat) (l : List (Nat × Nat)) : (b.ev c i l).banks s = b.banks s := rfl

theorem banks_rd {s : Nat} {c : Block} (h : c.banks s = b.banks s) : c.rd (CE_BANK_ACT s) = b.rd (CE_BANK_ACT s) :=
  congrArg Prod.fst h

theorem banks_stk {s : Nat} {c : Block} (h : c.banks s = b.banks s) (k : Nat) : c.stk k = b.stk k :=
  congrArg (fun x : Word × SMap Stk => x.2.get (fun _ => Stk.reset) k) h

theorem ce_bank_act_ne (s : Nat) : CE_BANK_ACT s ≠ CE_BANK_ARM s ∧ CE_BANK_ACT s ≠ CE_BANK_STAT s ∧
    CE_BANK_ACT s ≠ PG_ISTAT (P_CE s) ∧ ∀ l, CE_BANK_ACT s ≠ CE_LOAD s l := by
  simp only [CE_BANK_ACT, CE_BANK_ARM, CE_BANK_STAT, PG_ISTAT, CE_LOAD]
  exact ⟨by omega, by omega, by omega, fun l => by omega⟩

/-- The bank of a group swapped: what is shown of the swap and what the loops take over. -/
def Block.showSwap (b : Block) (s g : Nat) (preset : Bool) : Block :=
  let b := (b.clrB (CE_BANK_ARM s) g).showArmed s
  let b := b.when preset fun b => b.each (regionsOf (groupEng s g)) fun b q =>
    if b.lockSt (groupEng s g) q = 0 then b else
    b.preset (groupEng s g) q
  ((b.setB (CE_BANK_STAT s) 2).raise (P_CE s) 0).ev 0x3D02 0 [(3, 2 ^ g)]

/-- What is shown once a group has swapped: the end of the wait, and the load of the lanes. -/
def Block.showLoads (b : Block) (s : Nat) : Block :=
  let b := b.when (b.stk s).swapping.isEmpty fun b => b.clrB (CE_BANK_STAT s) 8
  b.each (List.range 16) fun c l => c.wrF (CE_LOAD s l) 0 11 ((b.stk s).laneLoad (c.activeBank s) l)

theorem showSwap_banks (s g : Nat) (x : Bool) : (b.showSwap s g x).banks s = b.banks s := by
  obtain ⟨harm, hstat, histat, -⟩ := ce_bank_act_ne s
  unfold Block.showSwap Block.raise Block.setB Block.clrB Block.showArmed
  dsimp only
  rw [banks_ev, banks_wrB _ _ _ histat, banks_wrB _ _ _ hstat]
  refine (Block.when_keep _ (·.banks s) x _ (Block.each_keep _ (·.banks s) _ _ fun c q => ?_)).trans ?_
  · split
    · rfl
    · exact banks_preset ..
  · rw [banks_wrB _ _ _ hstat, banks_wrB _ _ _ harm]

theorem showLoads_banks (s : Nat) : (b.showLoads s).banks s = b.banks s := by
  obtain ⟨-, hstat, -, hload⟩ := ce_bank_act_ne s
  exact (Block.each_keep _ (·.banks s) _ _ fun c l => banks_wr c _ (hload l)).trans
    (Block.when_keep _ (·.banks s) _ _ (banks_wr _ _ hstat))

/-- The groups that wait, without `g`. -/
def Stk.swapDone (k : Stk) (g : Nat) : Stk := { k with swapping := k.swapping.filter (· != g) }

/-- The swap of a waiting group in these steps. -/
theorem bankSwap_eq {s g : Nat} (h : (b.stk s).swapping.contains g = true) : ∃ x, bankSwap s g b =
    (((b.wrF (CE_BANK_ACT s) g 1 (1 - b.activeBank s g)).showSwap s g x).updStk s (·.swapDone g)).showLoads s := by
  unfold bankSwap
  dsimp only
  rw [h]
  exact ⟨bit ((b.stk s).tab (grpAddr (1 - b.activeBank s g) g)) 4, rfl⟩

theorem bankSwap_active {s g : Nat} (hg : g < 18) (h : (b.stk s).swapping.contains g = true) :
    (bankSwap s g b).rdF (CE_BANK_ACT s) g 1 = 1 - b.rdF (CE_BANK_ACT s) g 1 := by
  obtain ⟨x, heq⟩ := bankSwap_eq b h
  have hrd : (bankSwap s g b).rd (CE_BANK_ACT s) =
      (b.wrF (CE_BANK_ACT s) g 1 (1 - b.activeBank s g)).rd (CE_BANK_ACT s) := by
    rw [heq, banks_rd _ (showLoads_banks ..), Block.rd_updStk, banks_rd _ (showSwap_banks ..)]
  rw [Block.rdF, hrd]
  refine (Block.rdF_wrF b _ _ _ _ (by omega)).trans (Nat.mod_eq_of_lt ?_)
  omega

theorem stk_wrF (s o l w x : Nat) : (b.wrF o l w x).stk s = b.stk s := rfl

theorem bankSwap_swapping {s g : Nat} (h : (b.stk s).swapping.contains g = true) :
    ((bankSwap s g b).stk s).swapping = (b.stk s).swapping.filter (· != g) := by
  obtain ⟨x, heq⟩ := bankSwap_eq b h
  have hstk : (bankSwap s g b).stk s = (b.stk s).swapDone g := by
    rw [heq, banks_stk _ (showLoads_banks ..), Block.stk_updStk_same, banks_stk _ (showSwap_banks ..), stk_wrF]
  rw [hstk, Stk.swapDone]

/-- While another group waits for its grid point, the boundary does not end. -/
theorem bankSwapEff_waits {s g : Nat} (hs : s < 4) (h : (b.stk s).swapping.contains g = true)
    (hother : (b.stk s).swapping.any (· != g) = true) : bankSwapEff s g b = bankSwap s g b := by
  obtain ⟨k, hk, hne⟩ := List.any_eq_true.1 hother
  refine tailEnd_waits _ (List.any_eq_true.2 ⟨s, List.mem_range.2 hs, ?_⟩)
  rw [bankSwap_swapping b h, Bool.not_eq_true', List.isEmpty_eq_false_iff]
  exact List.ne_nil_of_mem (List.mem_filter.2 ⟨hk, hne⟩)

theorem ce_bank_act_not_log (s : Fin 4) : CE_BANK_ACT s ∉ logRegs := by
  fin_cases s <;> decide

theorem tly_ctrl_not_log (s : Fin 4) : TLY_CTRL s ∉ logRegs := by
  fin_cases s <;> decide

/-- Settles O10: what follows the frame at a boundary begins none and makes no further boundary (`Calm`, `Closed`), the end of
an undelayed boundary copies every armed scale table and none is armed after it, and a swap of which another group still waits
leaves the boundary open. -/
theorem frameBoundaries : Obligations.FrameBoundary := by
  refine ⟨fun s f hf h => ?_, fun s ⟨hf, ht⟩ => ?_, fun s st g ⟨hg, hother⟩ => ?_⟩
  · refine Gives.of_done (f := Sys2Proof.Machine.frameBoundary) rfl ?_
    rw [run_frm, run_bnds, frameBoundary_frame s.b.fresh hf h]
    exact boundary_closes ..
  · refine Gives.of_done (f := Sys2Proof.Machine.emptyBoundary) rfl ?_
    obtain ⟨hfrm, hdisarm⟩ := emptyBoundary_keeps s.b.fresh hf ht
    refine ⟨(run_frm ..).trans hfrm, fun hend st => ?_⟩
    rw [State.rdB, Block.rdB, run_rd _ _ (tly_ctrl_not_log st)]
    exact hdisarm ((run_tail ..).symm.trans hend) st
  · refine Gives.of_done (f := bankSwapEff st g) rfl ?_
    have hwait := bankSwapEff_waits s.b.fresh st.isLt hg hother
    refine ⟨?_, ?_⟩
    · rw [State.rdF, Block.rdF, run_rd _ _ (ce_bank_act_not_log st), hwait]
      exact bankSwap_active s.b.fresh g.isLt hg
    · rw [Block.stk, run_stks, hwait]
      exact bankSwap_swapping s.b.fresh hg

end Sys2Proof.Machine
end

section
/-! SUPPORT. The trip of the interlock while a start-up is in its laser dead time (R509, R510). -/

namespace Sys2Proof.Machine

/-- A trip in the dead time ends the start-up and its transition, whatever the module state. -/
theorem lsafeTrip_dead {b : Block} (hup : b.pw.phase = .up) (hdead : b.pw.startup = some .dead) :
    (lsafeTrip b).pw.now = none := by
  unfold lsafeTrip
  simp only [hup, hdead, beq_self_eq_true, if_true]
  rfl

/-- The module in Hold, with light on, and yet with a start-up in its dead time, which only Stow should have (R509): nothing in
the statement excludes it. -/
def litInDeadTime : State :=
  { State.reset with b := { Block.reset.wrF PWR_STATE 0 2 stHold with
      pw := { Power.reset with phase := .up, startup := some .dead, mionus := true } } }

theorem litInDeadTime_lightOn : litInDeadTime.b.lightOn = true := by decide

/-- Refutes O3: the clause on a trip with light on does not exclude a start-up in its dead time. In `litInDeadTime` the module
is in Hold, so light is on, and the trip takes the path of the dead time: it ends the transition under way and calls no Stow. -/
theorem not_moduleStates : ¬ Obligations.ModuleStates := by
  unfold Obligations.ModuleStates
  rintro ⟨-, -, -, -, -, -, -, -, -, -, -, -, -, hlit, -⟩
  obtain ⟨t, hexec, -, -, -, hstow, -⟩ := hlit litInDeadTime ⟨rfl, litInDeadTime_lightOn⟩ ⟨rfl, rfl, rfl⟩
  have ht : litInDeadTime.run lsafeTrip = t := by injection hexec
  rw [← ht, run_pw, lsafeTrip_dead rfl rfl] at hstow
  cases hstow

end Sys2Proof.Machine
end

section
/-! SUPPORT. Every command that a sender can form completes (R57, R256, R286). -/

namespace Sys2Proof.Machine

/-- Does an answer give a next state with the queue as it was? -/
def Completes (s : State) (r : Res) : Prop := ∃ t, r = .next t ∧ t.pending = s.pending

theorem done_completes (s : State) (f : Block → Block) : Completes s (s.done f) := ⟨_, rfl, rfl⟩

/-- The codes of a well-formed PASS have its shape (R57). -/
theorem passShape_of_codesFit {d : Desc} {adc : List (List (BitVec 8))} (h : codesFit d.passSyms 512 adc = true) :
    passShape d adc = true := by
  simpa only [codesFit, Desc.passSyms, passShape, dF, fld, bits, Nat.pow_zero, Nat.div_one] using h

/-- The codes of a well-formed dynamic pass have its shape (R256). -/
theorem dynShape_of_codesFit {d : Desc} {adc : List (List (BitVec 8))} (h : codesFit d.dynSyms 64 adc = true) :
    dynShape d adc = true := by
  simpa only [codesFit, Desc.dynSyms, dynShape, dF, fld, bits, Nat.pow_zero, Nat.div_one] using h

theorem powerOn_pending (s : State) : (powerOn s).pending = s.pending := by
  unfold powerOn
  split <;> simp only [run_pending]

theorem saveTrigger_pending (k : Nat) (s : State) : (saveTrigger k s).pending = s.pending := by
  unfold saveTrigger
  split <;> simp only [run_pending]

theorem thermalShutdown_pending (s : State) : (thermalShutdown s).pending = s.pending := by
  unfold thermalShutdown
  split
  split
  · exact run_pending ..
  · split <;> simp only [run_pending]

/-- Only the three commands that carry ADC codes can stop, and not with codes of their symbols' shape; every other one
completes with its effect, or in one of the ways that write the Daybook themselves. -/
theorem exec_completes (c : Instr) (s : State) (hc : c.wellFormed = true) : Completes s (exec c s) := by
  cases c
  case dPass idx d adc =>
    have hfit : codesFit d.passSyms 512 adc = true := (Bool.and_eq_true_iff.1 hc).2
    show Completes s (if passShape d adc then _ else _)
    rw [if_pos (passShape_of_codesFit hfit)]
    exact done_completes ..
  case dDscore idx d adc ecc =>
    have hfit : codesFit d.dynSyms 64 adc = true := (Bool.and_eq_true_iff.1 (Bool.and_eq_true_iff.1 hc).1).2
    show Completes s (if dynShape d adc then _ else _)
    rw [if_pos (dynShape_of_codesFit hfit)]
    exact done_completes ..
  case dDvalue idx d adc ecc =>
    have hfit : codesFit d.dynSyms 64 adc = true := (Bool.and_eq_true_iff.1 (Bool.and_eq_true_iff.1 hc).1).2
    show Completes s (if dynShape d adc then _ else _)
    rw [if_pos (dynShape_of_codesFit hfit)]
    exact done_completes ..
  case powerOnReset => exact ⟨_, rfl, powerOn_pending s⟩
  case saveTrigger k => exact ⟨_, rfl, saveTrigger_pending k s⟩
  case thermalShutdown => exact ⟨_, rfl, thermalShutdown_pending s⟩
  case suppressedFlush => exact ⟨_, rfl, rfl⟩
  all_goals exact done_completes s _

/-- Settles O56: a well-formed command completes (`exec_completes`), and the three that can stop judge the shape first. -/
theorem commandsComplete : Obligations.CommandsComplete := by
  refine ⟨fun c s hc => exec_completes c s hc, fun s idx d adc h => ?_, fun s idx d adc ecc h => ⟨?_, ?_⟩⟩
  · show (if passShape d adc then _ else _) = _
    rw [h]; rfl
  · show (if dynShape d adc then _ else _) = _
    rw [h]; rfl
  · show (if dynShape d adc then _ else _) = _
    rw [h]; rfl

end Sys2Proof.Machine
end

section
/-! SUPPORT. The counter clears (R12, R81, R437): the counters of the bits written read 0, and what else a write of a
`CNTCLR` register may change. -/

namespace Sys2Proof.Machine

variable (b : Block)

/-! ## Registers set to zero -/

/-- The registers of a list set to 0. -/
def Block.zeroed (b : Block) (l : List Nat) : Block := b.each l fun b o => b.wr o 0

theorem zeroed_append (l l' : List Nat) : b.zeroed (l ++ l') = (b.zeroed l).zeroed l' := List.foldl_append

theorem zeroed_rd (l : List Nat) (j : Nat) : (b.zeroed l).rd j = if j ∈ l then 0 else b.rd j := by
  induction l generalizing b with
  | nil => rfl
  | cons o l ih =>
    rw [show b.zeroed (o :: l) = (b.wr o 0).zeroed l from rfl, ih, Block.rd_wr]
    by_cases hl : j ∈ l
    · simp [hl]
    · simp [hl]

theorem zeroed_rest (l : List Nat) : b.zeroed l = { b with regs := (b.zeroed l).regs } := by
  induction l generalizing b with
  | nil => rfl
  | cons o l ih => exact ih (b.wr o 0)

theorem zeroed_within {w l : List Nat} (h : ∀ o ∈ l, o ∈ w) : Within w noEngine b (b.zeroed l) :=
  Within.each (fun _ o ho => Within.wr (h o ho) 0) b

/-- The selected counters are set to 0. -/
theorem clearSel_eq (v : Word) (p : Nat) (sel : List (Nat × List Nat)) :
    (b.clearSel v (sel.map fun x => (x.1, x.2.map (p + ·)))).1 =
      b.zeroed ((sel.filter fun x => bit v x.1).flatMap fun x => x.2.map (p + ·)) := by
  unfold Block.clearSel
  dsimp only
  induction sel generalizing b with
  | nil => rfl
  | cons x sel ih =>
    rw [List.map_cons, Block.each_cons, ih, List.filter_cons]
    dsimp only
    split
    · rw [List.flatMap_cons, zeroed_append]
      rfl
    · rfl

/-! ## The counters of a page -/

/-- Every counter, and every `CNTCLR` register, lies in its page behind the header. -/
theorem cntTable_inPage : ∀ k, ((cntTable k).all fun t =>
    decide (t.1 < 0x1000) && t.2.all fun x => x.2.all fun o => decide (0x40 ≤ o ∧ o < 0x1000)) = true := by
  intro k
  cases k
  all_goals decide

section
variable {k : PageKind} {i p off : Nat} {v : Word} {sel : List (Nat × List Nat)} (hk : cntTable k = some (off, sel))
include hk

theorem cntClrWrite_eq : (cntClrWrite k i p v b).1 = (b.zeroed (cntRegs k p v)).cntExtra k i v := by
  simp only [cntClrWrite, hk, clearSel_eq, cntRegs]

theorem cntClr_off_lt : off < 0x1000 := by
  have h := cntTable_inPage k
  simp only [hk, Option.all_some, Bool.and_eq_true, decide_eq_true_eq] at h
  exact h.1

theorem cntRegs_inPage {o : Nat} (ho : o ∈ cntRegs k p v) : p + 0x40 ≤ o ∧ o < p + 0x1000 := by
  have h := cntTable_inPage k
  simp only [hk, Option.all_some, Bool.and_eq_true, List.all_eq_true, decide_eq_true_eq] at h
  simp only [cntRegs, hk, List.mem_flatMap, List.mem_map] at ho
  obtain ⟨x, hx, o, ho, rfl⟩ := ho
  have := h.2 x (List.mem_filter.1 hx).1 o ho
  omega

/-- What `State.cleared` says of a state, register by register. -/
theorem cleared_of_cntRegs {t : State} (h : ∀ o ∈ cntRegs k p v, t.rd o = 0) : t.cleared k p v = true := by
  simp only [cntRegs, hk] at h
  simp only [State.cleared, hk, List.all_eq_true, Bool.or_eq_true, Bool.not_eq_true', beq_iff_eq]
  intro x hx
  cases hbit : bit v x.1
  · exact .inl rfl
  · refine .inr fun o ho => h _ (List.mem_flatMap.2 ⟨x, List.mem_filter.2 ⟨hx, hbit⟩, List.mem_map_of_mem ho⟩)

end

/-! ## What a `CNTCLR` write clears beside registers (R159, R343, R477) -/

/-- The per-loop counts of the engines of stack `s` cleared. -/
def Block.loopsCleared (b : Block) (s : Nat) : Block :=
  b.each (allEngs.filter fun e => stackOf e == s) fun b e => b.each (regionsOf e) fun b q =>
    b.updRegion e q fun r => { r with ovr := 0, clamps := 0 }

/-- What the trace buffers of stack `s` have seen of the counts they watch. -/
def Block.countsSeen (b : Block) (s : Nat) (moved : List (Nat × Bool)) : Block :=
  b.each moved fun b x =>
    let n := b.traceCount s x.1
    b.updTrace s x.1 fun y => { y with seen := if x.2 then n + 1 else n }

theorem loopCntClr_eq (s : Nat) : ∃ moved, b.loopCntClr s = (b.loopsCleared s).countsSeen s moved := ⟨_, rfl⟩

theorem loopsCleared_within (s : Nat) : Within [] (fun k => stackOf k = s) b (b.loopsCleared s) := by
  refine Within.each (fun c j hj => Within.each (fun c q _ => ?_) c) b
  exact Within.updEng (E := fun k => stackOf k = s) (eq_of_beq (List.mem_filter.1 hj).2) _

/-- The per-loop counts are cleared in the engines of the stack alone, -/
theorem loopCntClr_eng {s e : Nat} (h : stackOf e ≠ s) : (b.loopCntClr s).eng e = b.eng e := by
  obtain ⟨moved, heq⟩ := loopCntClr_eq b s
  rw [heq, ← (loopsCleared_within b s).eng e h]
  exact Block.each_keep _ (·.eng e) _ _ fun _ _ => rfl

/-- and in no other stack do trace buffers watch them. -/
theorem loopCntClr_stk {s k : Nat} (h : k ≠ s) : (b.loopCntClr s).stk k = b.stk k := by
  obtain ⟨moved, heq⟩ := loopCntClr_eq b s
  have hloops : (b.loopsCleared s).stk k = b.stk k := by
    rw [Block.stk, (loopsCleared_within b s).rest]
    rfl
  rw [heq, ← hloops]
  exact Block.each_keep _ (·.stk k) _ _ fun c x => (Block.stk_updStk ..).trans (if_neg h)

/-- What depends on neither engines nor stacks stays. -/
theorem loopCntClr_keep {γ : Type} (g : Block → γ) (he : ∀ c e f, g (Block.updEng c e f) = g c)
    (hs : ∀ c s f, g (Block.updStk c s f) = g c) (s : Nat) : g (b.loopCntClr s) = g b := by
  obtain ⟨moved, heq⟩ := loopCntClr_eq b s
  have hloops : g (b.loopsCleared s) = g b :=
    Block.each_keep _ g _ _ fun c e => Block.each_keep c g _ _ fun _ _ => he ..
  have hseen : g ((b.loopsCleared s).countsSeen s moved) = g (b.loopsCleared s) :=
    Block.each_keep _ g _ _ fun _ _ => hs ..
  rw [heq, hseen, hloops]

theorem cntExtra_evs (k : PageKind) (i : Nat) (v : Word) : (b.cntExtra k i v).evs = b.evs := by
  unfold Block.cntExtra
  split
  · exact Block.when_keep _ (·.evs) _ _ (loopCntClr_keep b _ (fun _ _ _ => rfl) (fun _ _ _ => rfl) i)
  · exact Block.when_keep _ (·.evs) _ _ rfl
  · exact Block.when_keep _ (·.evs) _ _ rfl
  · rfl

theorem cntExtra_ce_eng {s e : Nat} (v : Word) (h : stackOf e ≠ s) : (b.cntExtra .ce s v).eng e = b.eng e :=
  Block.when_keep b (·.eng e) (bit v 4) (·.loopCntClr s) (loopCntClr_eng b h)
theorem cntExtra_ce_stk {s k : Nat} (v : Word) (h : k ≠ s) : (b.cntExtra .ce s v).stk k = b.stk k :=
  Block.when_keep b (·.stk k) (bit v 4) (·.loopCntClr s) (loopCntClr_stk b h)
theorem cntExtra_ce_hk (s : Nat) (v : Word) : (b.cntExtra .ce s v).hk = b.hk :=
  Block.when_keep b (·.hk) (bit v 4) (·.loopCntClr s)
    (loopCntClr_keep b (·.hk) (fun _ _ _ => rfl) (fun _ _ _ => rfl) s)

theorem cntExtra_asy_stk {s k : Nat} (v : Word) (h : k ≠ s) : (b.cntExtra .asy s v).stk k = b.stk k :=
  Block.when_keep b (·.stk k) (bit v 5) (·.updStk s fun x => { x with win := [] })
    ((Block.stk_updStk ..).trans (if_neg h))
theorem cntExtra_asy_units (s : Nat) (v : Word) :
    (b.cntExtra .asy s v).hk = b.hk ∧ (b.cntExtra .asy s v).engs = b.engs :=
  ⟨Block.when_keep b (·.hk) _ _ rfl, Block.when_keep b (·.engs) _ _ rfl⟩

/-- Housekeeping but for its note that the voltage minimum is to start again. -/
def Block.hkBut (b : Block) : Hk := { b.hk with vclear := false }

theorem cntExtra_pwr_units (v : Word) : (b.cntExtra .pwr 0 v).hkBut = b.hkBut ∧
    (b.cntExtra .pwr 0 v).engs = b.engs ∧ (b.cntExtra .pwr 0 v).stks = b.stks :=
  ⟨Block.when_keep b Block.hkBut _ _ rfl, Block.when_keep b (·.engs) _ _ rfl, Block.when_keep b (·.stks) _ _ rfl⟩

/-- Of the registers only the voltage minimum is among it. -/
theorem cntExtra_rd (k : PageKind) (i : Nat) (v : Word) {o : Nat} (h : k ≠ .pwr ∨ o ≠ PWR_VMEAS) :
    (b.cntExtra k i v).rd o = b.rd o := by
  unfold Block.cntExtra
  split
  · exact Block.when_keep _ (·.rd o) _ _ (loopCntClr_keep b (·.rd o) (fun _ _ _ => rfl) (fun _ _ _ => rfl) i)
  · exact Block.when_keep _ (·.rd o) _ _ rfl
  · exact Block.when_keep _ (·.rd o) _ _ (Block.rd_wrF_ne b _ _ _ (h.resolve_left (not_not_intro rfl)))
  · rfl

/-! ## A register after a command without events -/

theorem signalAll_rd (o : Nat) : b.signalAll.rd o = b.rd o := by
  refine Block.each_keep b (·.rd o) _ _ fun c v => ?_
  unfold Block.signal
  split
  · rfl
  · dsimp only
    split <;> rfl

/-- A command that raises no event logs nothing, and leaves the Daybook's registers too. -/
theorem run_rd_of_noEvent {s : State} {f : Block → Block} (h : (f s.b.fresh).evs = []) (o : Nat) :
    (s.run f).b.rd o = (f s.b.fresh).rd o := by
  have hb : (s.run f).b = { f s.b.fresh with evs := [] }.signalAll := by
    simp only [State.run, settle, h]
    rfl
  rw [hb, signalAll_rd]
  rfl

/-! ## The pages of stacks and engines begin at multiples of 4 KiB -/

theorem seqPage (s : Nat) : 0x1000 ∣ P_SEQ s := by unfold P_SEQ; omega
theorem ldgPage (s : Nat) : 0x1000 ∣ P_LDG s := by unfold P_LDG; omega
theorem tlyPage (s : Nat) : 0x1000 ∣ P_TLY s := by unfold P_TLY; omega
theorem cePage (s : Nat) : 0x1000 ∣ P_CE s := by unfold P_CE; omega
theorem asyPage (s : Nat) : 0x1000 ∣ P_ASY s := by unfold P_ASY; omega
theorem pltPage (s : Nat) : 0x1000 ∣ P_PLT s := by unfold P_PLT; omega
theorem htrPage (s : Nat) : 0x1000 ∣ P_HTR s := by unfold P_HTR; omega
theorem engPage (e : Nat) : 0x1000 ∣ P_ENG e := by unfold P_ENG engBase; split <;> omega
theorem denPage (e : Nat) : 0x1000 ∣ P_DEN e := by unfold P_DEN engBase; split <;> omega

/-! ## What a `CNTCLR` write gives -/

/-- The block after a `CNTCLR` write that reaches its register, but for its count. -/
def Block.counterCleared (b : Block) (k : PageKind) (i p : Nat) (v : Word) : Block :=
  (b.zeroed (cntRegs k p v)).cntExtra k i v

section
variable {c : Instr} {s : State} {m : Master} {k : PageKind} {i p off : Nat} {v : Word} {sel : List (Nat × List Nat)}
  (hk : cntTable k = some (off, sel)) (hp : 0x1000 ∣ p)
include hk hp

theorem cntClr_page : (p + off) / 0x1000 * 0x1000 = p := by
  have := cntClr_off_lt hk
  omega

/-- The registers after a `CNTCLR` write that reaches its register. -/
theorem cntClr_registers (hc : exec c s = s.done fun b => b.gate m (p + off) (cntClrWrite k i p v))
    (ha : s.b.accepts m (p + off) = true) :
    Gives c s fun t => ∀ o, o ≠ PG_SEQ p → t.rd o = (s.b.fresh.counterCleared k i p v).rd o := by
  refine Gives.of_gate hc ha (b' := s.b.fresh.counterCleared k i p v) (Prod.ext (cntClrWrite_eq _ hk) rfl) fun o ho => ?_
  have hevs : (s.b.fresh.counterCleared k i p v).evs = [] := by
    rw [Block.counterCleared, cntExtra_evs, zeroed_rest]
    rfl
  refine (run_rd_of_noEvent ?_ o).trans (counted_rd _ _ _ ?_)
  · rw [counted_rest]
    exact hevs
  · rwa [cntClr_page hk hp]

/-- A `CNTCLR` write that reaches its register clears the counters of its bits, and no register of another page. -/
theorem cntClr_clears (hpwr : k ≠ .pwr) (hc : exec c s = s.done fun b => b.gate m (p + off) (cntClrWrite k i p v))
    (ha : s.b.accepts m (p + off) = true) :
    Gives c s fun t => t.cleared k p v = true ∧ ∀ o, o / 0x1000 ≠ p / 0x1000 → t.rd o = s.rd o := by
  refine (cntClr_registers hk hp hc ha).mono fun t ht => ⟨cleared_of_cntRegs hk fun o ho => ?_, fun o ho => ?_⟩
  · obtain ⟨hlo, -⟩ := cntRegs_inPage hk ho
    have hseq : o ≠ PG_SEQ p := by unfold PG_SEQ; omega
    rw [ht o hseq, Block.counterCleared, cntExtra_rd _ _ _ _ (.inl hpwr), zeroed_rd, if_pos ho]
  · have hseq : o ≠ PG_SEQ p := by unfold PG_SEQ; omega
    have hcnt : o ∉ cntRegs k p v := fun hm => by have := cntRegs_inPage hk hm; omega
    rw [ht o hseq, Block.counterCleared, cntExtra_rd _ _ _ _ (.inl hpwr), zeroed_rd, if_neg hcnt]
    rfl

/-- On a page that clears nothing beside its counters, a `CNTCLR` write changes no more than these. -/
theorem cntClr_keeps (hx : ∀ b : Block, b.cntExtra k i v = b)
    (hc : exec c s = s.done fun b => b.gate m (p + off) (cntClrWrite k i p v)) :
    Gives c s fun t => Kept s t (cntRegs k p v ++ accRegs p) := by
  refine Gives.of_withinGateRegs hc ?_ fun b => ?_
  · rw [accRegs, accRegs, cntClr_page hk hp]
    have : p / 0x1000 * 0x1000 = p := by omega
    rw [this]
  · rw [cntClrWrite_eq b hk, hx]
    exact zeroed_within b fun _ => id

end

/-! ## The pages that clear more -/

/-- A write that does not reach its register changes at most the error records. -/
theorem gate_unaccepted {m : Master} {off : Nat} {eff : Block → Block × Bool} (h : b.accepts m off = false) :
    Within errRegs noEngine b (b.gate m off eff) := by
  have herr : ∀ o ∈ errRegs, o ∈ errRegs := fun _ => id
  simp only [Block.accepts, Bool.and_eq_false_iff, Bool.not_eq_false', beq_eq_false_iff_ne] at h
  unfold Block.gate Block.writeAt
  split
  · exact .refl ..
  · split
    · exact Within.send _
    · split
      · exact .refl ..
      · split
        · exact (Within.recErr _ _ _ _ herr).trans (Within.ev ..)
        · exact ((Within.recErr _ _ _ _ herr).trans (Within.ev ..)).trans (Within.send _)
        · next hcut hasleep _ _ hok =>
          split
          · exact .refl ..
          · next hbar =>
            obtain ((h | h) | h) | h := h
            · exact absurd h hcut
            · exact absurd h hasleep
            · exact absurd h hbar
            · exact absurd hok h

/-- What a write keeps that its own effect keeps, and that neither records nor counts of writes change. -/
theorem gate_keep {γ : Type} (g : Block → γ) {m : Master} {off : Nat} {eff : Block → Block × Bool}
    (hg : ∀ c d, Within (accRegs off) noEngine c d → g d = g c) (heff : g (eff b).1 = g b) :
    g (b.gate m off eff) = g b := by
  cases ha : b.accepts m off
  · exact hg _ _ ((gate_unaccepted b ha).mono (fun _ => List.mem_cons_of_mem _) fun _ => id)
  · rw [gate_accepts ha]
    exact (hg _ _ (Within.counted off _ fun _ => id)).trans heff

/-- What a `CNTCLR` write keeps that what it clears beside registers keeps, and that registers and records do not touch. -/
theorem cntClr_keep (k : PageKind) (i : Nat) {v : Word} {m : Master} {p off : Nat} {sel : List (Nat × List Nat)}
    (hk : cntTable k = some (off, sel)) {γ : Type} (g : Block → γ) (hg : ∀ w c d, Within w noEngine c d → g d = g c)
    (hx : ∀ c : Block, g (c.cntExtra k i v) = g c) : g (b.gate m (p + off) (cntClrWrite k i p v)) = g b := by
  refine gate_keep b g (hg _) ?_
  rw [cntClrWrite_eq b hk, hx]
  exact hg _ _ _ (zeroed_within b fun _ => id)

/-- The block but for registers, engines, stacks, housekeeping, events and outputs. -/
def Block.bare (b : Block) : Block :=
  { b with regs := [], engs := [], stks := [], hk := Block.reset.hk, evs := [], out := [] }

theorem Within.bare {w : List Nat} {c : Block} (h : Within w noEngine b c) : c.bare = b.bare := by
  rw [h.rest]
  rfl

theorem zeroed_bare (l : List Nat) : (b.zeroed l).bare = b.bare := by
  rw [zeroed_rest]
  rfl

theorem cntExtra_bare (k : PageKind) (i : Nat) (v : Word) : (b.cntExtra k i v).bare = b.bare := by
  unfold Block.cntExtra
  split
  · exact Block.when_keep _ Block.bare _ _ (loopCntClr_keep b _ (fun _ _ _ => rfl) (fun _ _ _ => rfl) i)
  · exact Block.when_keep _ Block.bare _ _ rfl
  · exact Block.when_keep _ Block.bare _ _ rfl
  · rfl

/-- What a `CNTCLR` write may take from the later block at most. -/
def mayClear (b c : Block) : Block := { b with engs := c.engs, stks := c.stks, hk := c.hk }

theorem eq_mayClear {c : Block} (h : c.bare = b.bare) :
    c = { mayClear b c with regs := c.regs, evs := c.evs, out := c.out } :=
  congrArg (fun x : Block =>
    { x with regs := c.regs, engs := c.engs, stks := c.stks, hk := c.hk, evs := c.evs, out := c.out }) h

theorem run_mayClear {s : State} {f : Block → Block} (h : (f s.b.fresh).bare = s.b.fresh.bare) :
    KeptUnits s (s.run f) mayClear := by
  refine ⟨rfl, ?_⟩
  have hrest := eq_mayClear s.b.fresh h
  conv_lhs => rw [(run_logOnly s f).rest, hrest]
  simp only [mayClear, run_engs, run_stks, run_hk]
  rfl

theorem KeptUnits.congr {s t : State} {may may' : Block → Block → Block} (h : KeptUnits s t may)
    (he : may' s.b t.b = may s.b t.b) : KeptUnits s t may' := by
  refine ⟨h.1, ?_⟩
  rw [he]
  exact h.2

section
variable {c : Instr} {s : State} {m : Master} {k : PageKind} {i p off : Nat} {v : Word} {sel : List (Nat × List Nat)}
  (hk : cntTable k = some (off, sel)) (hp : 0x1000 ∣ p)
include hk hp

/-- The units and registers after a `CNTCLR` write, whether it reaches its register or not. -/
theorem cntClr_kept {w : List Nat} (hw : ∀ o ∈ cntRegs k p v ++ accRegs p, o ∈ w)
    (hpwr : k ≠ .pwr ∨ PWR_VMEAS ∈ w) :
    Kept s (s.run fun b => b.gate m (p + off) (cntClrWrite k i p v)) w mayClear := by
  have hpage : p / 0x1000 * 0x1000 = p := by omega
  have hacc : accRegs (p + off) = accRegs p := by rw [accRegs, accRegs, cntClr_page hk hp, hpage]
  refine ⟨run_mayClear (gate_keep _ Block.bare (fun c _ h => Within.bare c h) ?_), fun o ho hlog =>
    (run_rd s _ hlog).trans (gate_keep _ (·.rd o) (fun _ _ h => h.rd o ?_) ?_)⟩
  · rw [cntClrWrite_eq _ hk, cntExtra_bare, zeroed_bare]
  · rw [hacc]
    exact fun hm => ho (hw o (List.mem_append_right _ hm))
  · have hcnt : o ∉ cntRegs k p v := fun hm => ho (hw o (List.mem_append_left _ hm))
    rw [cntClrWrite_eq _ hk, cntExtra_rd _ _ _ _ (hpwr.imp id fun hm (h : o = PWR_VMEAS) => ho (h ▸ hm)), zeroed_rd,
      if_neg hcnt]

end

section
variable {b c : Block} {w : List Nat} (h : Within w noEngine b c)
include h

theorem Within.sameHk : c.hk = b.hk := by rw [h.rest]
theorem Within.sameStks : c.stks = b.stks := by rw [h.rest]
theorem Within.sameEngs : c.engs = b.engs := h.engs fun _ => id
theorem Within.sameEng (e : Nat) : c.eng e = b.eng e := h.eng e id
theorem Within.sameStk (k : Nat) : c.stk k = b.stk k := by rw [Block.stk, h.sameStks]; rfl

end

section
variable (s : State) (m : Master) (st : Fin 4) (v : Word)

/-- The control engine's counters, with the per-loop counts and the trace buffers that watch them (R159). -/
theorem ceCntclr_keeps : Gives (.ceCntclr m st v) s fun t =>
    Kept s t (cntRegs .ce (P_CE st) v ++ accRegs (P_CE st)) (fun b c => { b with engs := c.engs, stks := c.stks }) ∧
      (∀ k, stackOf k ≠ st → t.b.eng k = s.b.eng k) ∧ ∀ k : Fin 4, k ≠ st → t.b.stk k = s.b.stk k := by
  obtain ⟨hunits, hregs⟩ := cntClr_kept (s := s) (m := m) (k := .ce) (i := st) (v := v) rfl (cePage st) (fun _ => id)
    (.inl (by decide))
  refine Gives.of_done (f := fun b => b.gate m (P_CE st + 0x074) (cntClrWrite .ce st (P_CE st) v)) rfl
    ⟨⟨hunits.congr ?_, hregs⟩, fun k hk => ?_, fun k hk => ?_⟩
  · rw [mayClear, run_hk, cntClr_keep s.b.fresh .ce st rfl (·.hk) (fun _ _ _ h => h.sameHk) (cntExtra_ce_hk · st v)]
    rfl
  · rw [run_eng]
    exact cntClr_keep s.b.fresh .ce st rfl (·.eng k) (fun _ _ _ h => h.sameEng k) (cntExtra_ce_eng · v hk)
  · rw [run_stk]
    exact cntClr_keep s.b.fresh .ce st rfl (·.stk k) (fun _ _ _ h => h.sameStk k)
      (cntExtra_ce_stk · v fun h => hk (Fin.ext h))

/-- The Assay unit's counters, with all live windows of the stack (R343). -/
theorem asyCntclr_keeps : Gives (.asyCntclr m st v) s fun t =>
    Kept s t (cntRegs .asy (P_ASY st) v ++ accRegs (P_ASY st)) (fun b c => { b with stks := c.stks }) ∧
      ∀ k : Fin 4, k ≠ st → t.b.stk k = s.b.stk k := by
  obtain ⟨hunits, hregs⟩ := cntClr_kept (s := s) (m := m) (k := .asy) (i := st) (v := v) rfl (asyPage st) (fun _ => id)
    (.inl (by decide))
  refine Gives.of_done (f := fun b => b.gate m (P_ASY st + 0x07C) (cntClrWrite .asy st (P_ASY st) v)) rfl
    ⟨⟨hunits.congr ?_, hregs⟩, fun k hk => ?_⟩
  · rw [mayClear, run_hk, run_engs,
      cntClr_keep s.b.fresh .asy st rfl (·.hk) (fun _ _ _ h => h.sameHk) fun c => (cntExtra_asy_units c st v).1,
      cntClr_keep s.b.fresh .asy st rfl (·.engs) (fun _ _ _ h => h.sameEngs) fun c => (cntExtra_asy_units c st v).2]
    rfl
  · rw [run_stk]
    exact cntClr_keep s.b.fresh .asy st rfl (·.stk k) (fun _ _ _ h => h.sameStk k)
      (cntExtra_asy_stk · v fun h => hk (Fin.ext h))

/-- The supply page's `CNTCLR`, which restarts the voltage minimum (R477). -/
theorem pwrCntclr_keeps : Gives (.pwrCntclr m v) s fun t =>
    Kept s t (PWR_VMEAS :: cntRegs .pwr P_PWR v ++ accRegs P_PWR)
      (fun b c => { b with hk := { b.hk with vclear := c.hk.vclear } }) := by
  obtain ⟨hunits, hregs⟩ := cntClr_kept (s := s) (m := m) (k := .pwr) (i := 0) (p := P_PWR) (v := v) rfl (by decide)
    (w := PWR_VMEAS :: cntRegs .pwr P_PWR v ++ accRegs P_PWR) (fun _ => List.mem_cons_of_mem _)
    (.inr (List.mem_cons_self ..))
  refine Gives.of_done (f := fun b => b.gate m (P_PWR + 0x06C) (cntClrWrite .pwr 0 P_PWR v)) rfl
    ⟨hunits.congr ?_, hregs⟩
  have hhk := cntClr_keep s.b.fresh (m := m) (p := P_PWR) .pwr 0 rfl Block.hkBut
    (fun _ _ _ h => congrArg (fun x : Hk => { x with vclear := false }) h.sameHk) fun c => (cntExtra_pwr_units c v).1
  rw [mayClear, run_hk, run_engs, run_stks,
    cntClr_keep s.b.fresh .pwr 0 rfl (·.engs) (fun _ _ _ h => h.sameEngs) fun c => (cntExtra_pwr_units c v).2.1,
    cntClr_keep s.b.fresh .pwr 0 rfl (·.stks) (fun _ _ _ h => h.sameStks) fun c => (cntExtra_pwr_units c v).2.2]
  generalize (s.b.fresh.gate m (P_PWR + 0x06C) (cntClrWrite .pwr 0 P_PWR v)) = c at hhk
  exact congrArg (fun x : Hk => { s.b with hk := { x with vclear := c.hk.vclear } }) hhk.symm

theorem pwrCntclr_clears (ha : s.b.accepts m (P_PWR + 0x06C) = true) : Gives (.pwrCntclr m v) s fun t =>
    t.cleared .pwr P_PWR v = true ∧ (v.getLsbD 0 = true → t.rdF PWR_VMEAS 16 10 = 0) ∧
      ∀ o, o / 0x1000 ≠ P_PWR / 0x1000 → t.rd o = s.rd o := by
  refine (cntClr_registers (k := .pwr) (i := 0) rfl (by decide) rfl ha).mono fun t ht =>
    ⟨?_, fun hv => ?_, fun o ho => ?_⟩
  · exact cleared_of_cntRegs rfl fun o ho => by simp [cntRegs, cntTable] at ho
  · have hmin : t.rd PWR_VMEAS = ((s.b.fresh.zeroed (cntRegs .pwr P_PWR v)).wrF PWR_VMEAS 16 10 0).rd PWR_VMEAS := by
      rw [ht _ (by decide), Block.counterCleared, Block.cntExtra, bit, hv]
      rfl
    exact (congrArg (fld · 16 10) hmin).trans (Block.rdF_wrF _ _ _ _ _ (by decide))
  · have hseq : o ≠ PG_SEQ P_PWR := by rintro rfl; exact ho (by decide)
    have hmin : o ≠ PWR_VMEAS := by rintro rfl; exact ho (by decide)
    have hcnt : o ∉ cntRegs .pwr P_PWR v := by simp [cntRegs, cntTable]
    rw [ht o hseq, Block.counterCleared, cntExtra_rd _ _ _ _ (.inr hmin), zeroed_rd, if_neg hcnt]
    rfl

end

/-- Settles O18: a write that reaches its register clears its counters (`cntClr_clears`), and any write changes no more than
these, its records and what its page clears beside (`cntClr_keeps` and the three pages that clear more). -/
theorem counterClears : Obligations.CounterClears := by
  unfold Obligations.CounterClears
  refine ⟨?_, ?_, ?_, ?_, ?_, ?_, ?_, ?_, ?_, ?_, ?_, ?_, ?_, ?_, ?_, ?_, ?_, ?_, ?_, ?_, ?_, ?_, ?_, ?_, ?_,
    ?_, ?_, ?_, ?_, ?_, ?_, ?_, ?_, ?_, ?_, ?_, ?_, ?_, ?_, ?_, ?_, ?_, ?_, ?_, ?_, ?_, ?_, ?_, ?_, ?_, ?_, ?_⟩
  · exact fun s m e v ha => cntClr_clears (k := .eng) rfl (engPage e) (by decide) rfl ha
  · exact fun s m st v ha => cntClr_clears (k := .htr) rfl (htrPage st) (by decide) rfl ha
  · exact fun s m st v ha => cntClr_clears (k := .ce) rfl (cePage st) (by decide) rfl ha
  · exact fun s m st v ha => cntClr_clears (k := .ldg) rfl (ldgPage st) (by decide) rfl ha
  · exact fun s m st v ha => cntClr_clears (k := .tly) rfl (tlyPage st) (by decide) rfl ha
  · exact fun s m v ha => cntClr_clears (k := .mnt) rfl (by decide) (by decide) rfl ha
  · exact fun s m n v ha => cntClr_clears (k := .den) rfl (denPage (64 + n)) (by decide) rfl ha
  · exact fun s m st v ha => cntClr_clears (k := .seq) rfl (seqPage st) (by decide) rfl ha
  · exact fun s m v ha => cntClr_clears (k := .msq) rfl (by decide) (by decide) rfl ha
  · exact fun s m v ha => cntClr_clears (k := .vec) rfl (by decide) (by decide) rfl ha
  · exact fun s m st v ha => cntClr_clears (k := .asy) rfl (asyPage st) (by decide) rfl ha
  · exact fun s m st v ha => cntClr_clears (k := .plt) rfl (pltPage st) (by decide) rfl ha
  · exact fun s m v ha => cntClr_clears (k := .lnk) rfl (by decide) (by decide) rfl ha
  · exact fun s m v ha => cntClr_clears (k := .vyv) rfl (by decide) (by decide) rfl ha
  · exact fun s m v ha => cntClr_clears (k := .rol) rfl (by decide) (by decide) rfl ha
  · exact fun s m v ha => cntClr_clears (k := .hbm) rfl (by decide) (by decide) rfl ha
  · exact fun s m v ha => cntClr_clears (k := .mbx) rfl (by decide) (by decide) rfl ha
  · exact fun s m v ha => cntClr_clears (k := .smb) rfl (by decide) (by decide) rfl ha
  · exact fun s m v ha => cntClr_clears (k := .glb) rfl (by decide) (by decide) rfl ha
  · exact fun s m v ha => pwrCntclr_clears s m v ha
  · exact fun s m v ha => cntClr_clears (k := .clk) rfl (by decide) (by decide) rfl ha
  · exact fun s m v ha => cntClr_clears (k := .rst) rfl (by decide) (by decide) rfl ha
  · exact fun s m v ha => cntClr_clears (k := .thm) rfl (by decide) (by decide) rfl ha
  · exact fun s m v ha => cntClr_clears (k := .hk) rfl (by decide) (by decide) rfl ha
  · exact fun s m v ha => cntClr_clears (k := .lco) rfl (by decide) (by decide) rfl ha
  · exact fun s m v ha => cntClr_clears (k := .dbk) rfl (by decide) (by decide) rfl ha
  · exact fun s m e v => cntClr_keeps (k := .eng) rfl (engPage e) (fun _ => rfl) rfl
  · exact fun s m st v => cntClr_keeps (k := .htr) rfl (htrPage st) (fun _ => rfl) rfl
  · exact fun s m st v => ceCntclr_keeps s m st v
  · exact fun s m st v => cntClr_keeps (k := .ldg) rfl (ldgPage st) (fun _ => rfl) rfl
  · exact fun s m st v => cntClr_keeps (k := .tly) rfl (tlyPage st) (fun _ => rfl) rfl
  · exact fun s m v => cntClr_keeps (k := .mnt) rfl (by decide) (fun _ => rfl) rfl
  · exact fun s m n v => cntClr_keeps (k := .den) rfl (denPage (64 + n)) (fun _ => rfl) rfl
  · exact fun s m st v => cntClr_keeps (k := .seq) rfl (seqPage st) (fun _ => rfl) rfl
  · exact fun s m v => cntClr_keeps (k := .msq) rfl (by decide) (fun _ => rfl) rfl
  · exact fun s m v => cntClr_keeps (k := .vec) rfl (by decide) (fun _ => rfl) rfl
  · exact fun s m st v => asyCntclr_keeps s m st v
  · exact fun s m st v => cntClr_keeps (k := .plt) rfl (pltPage st) (fun _ => rfl) rfl
  · exact fun s m v => cntClr_keeps (k := .lnk) rfl (by decide) (fun _ => rfl) rfl
  · exact fun s m v => cntClr_keeps (k := .vyv) rfl (by decide) (fun _ => rfl) rfl
  · exact fun s m v => cntClr_keeps (k := .rol) rfl (by decide) (fun _ => rfl) rfl
  · exact fun s m v => cntClr_keeps (k := .hbm) rfl (by decide) (fun _ => rfl) rfl
  · exact fun s m v => cntClr_keeps (k := .mbx) rfl (by decide) (fun _ => rfl) rfl
  · exact fun s m v => cntClr_keeps (k := .smb) rfl (by decide) (fun _ => rfl) rfl
  · exact fun s m v => cntClr_keeps (k := .glb) rfl (by decide) (fun _ => rfl) rfl
  · exact fun s m v => pwrCntclr_keeps s m v
  · exact fun s m v => cntClr_keeps (k := .clk) rfl (by decide) (fun _ => rfl) rfl
  · exact fun s m v => cntClr_keeps (k := .rst) rfl (by decide) (fun _ => rfl) rfl
  · exact fun s m v => cntClr_keeps (k := .thm) rfl (by decide) (fun _ => rfl) rfl
  · exact fun s m v => cntClr_keeps (k := .hk) rfl (by decide) (fun _ => rfl) rfl
  · exact fun s m v => cntClr_keeps (k := .lco) rfl (by decide) (fun _ => rfl) rfl
  · exact fun s m v => cntClr_keeps (k := .dbk) rfl (by decide) (fun _ => rfl) rfl

end Sys2Proof.Machine
end

section
/-! SUPPORT. The registers of the engine pages after a command. -/

namespace Sys2Proof.Machine

theorem engBase_page (e : Nat) : 0x500000 ≤ engBase e ∧ engBase e % 0x1000 = 0 := by
  unfold engBase
  split <;> omega

/-- An offset in the pages of the engines, or beyond them, that holds no `PG_SEQ`. -/
def enginePlain (o : Nat) : Prop := 0x500000 ≤ o ∧ o % 0x1000 ≠ 0x20

theorem enginePlain_engState (e : Nat) : enginePlain (ENG_STATE e) := by
  have := engBase_page e
  unfold enginePlain ENG_STATE P_ENG
  omega
theorem enginePlain_loadStat (e : Nat) : enginePlain (ENG_LOAD_STAT e) := by
  have := engBase_page e
  unfold enginePlain ENG_LOAD_STAT P_ENG
  omega
theorem enginePlain_scan (e : Nat) : enginePlain (ENG_SCAN e) := by
  have := engBase_page e
  unfold enginePlain ENG_SCAN P_ENG
  omega
theorem enginePlain_oscale (e : Nat) : enginePlain (ENG_OSCALE e) := by
  have := engBase_page e
  unfold enginePlain ENG_OSCALE P_ENG
  omega
theorem enginePlain_trmCtrl (e : Nat) : enginePlain (TRM_CTRL e) := by
  have := engBase_page e
  unfold enginePlain TRM_CTRL P_TRM
  omega
theorem enginePlain_trmStat (e : Nat) : enginePlain (TRM_STAT e) := by
  have := engBase_page e
  unfold enginePlain TRM_STAT P_TRM
  omega

theorem enginePlain_not_log {o : Nat} (h : enginePlain o) : o ∉ logRegs := by
  obtain ⟨hlo, -⟩ := h
  simp only [logRegs, DBK_SUPPCNT, DBK_OVWCNT, DBK_DROPCNT, DBK_DROPSEV, PG_ISTAT, P_DBK, List.mem_cons,
    List.not_mem_nil, or_false]
  omega

/-- Such a register after a write that reached its own register. -/
theorem run_counted_rd (s : State) (b : Block) (off : Nat) (a : Bool) {o : Nat} (h : enginePlain o) :
    (s.run fun _ => b.counted off a).b.rd o = b.rd o := by
  rw [run_rd _ _ (enginePlain_not_log h)]
  refine counted_rd b off a fun hseq => h.2 ?_
  unfold PG_SEQ at hseq
  omega

theorem counted_stk (b : Block) (off : Nat) (a : Bool) (k : Nat) : (b.counted off a).stk k = b.stk k := by
  rw [counted_rest]
  rfl

end Sys2Proof.Machine
end

section
/-! SUPPORT. Ring trims, their arm bits and the output scale (R83, R88 to R90). -/

namespace Sys2Proof.Machine

variable (b : Block)

/-! ## Ring trims in force at once (R88) -/

/-- With no calibration running in the stack, a host write only takes its trim out of waiting results (R337). -/
theorem hostTrim_idle {e : Nat} (hcal : (b.stk (stackOf e)).cal = none) (hit : Nat → Bool) (drop : CalRes → CalRes) :
    b.hostTrim e hit drop = b.updStk (stackOf e) fun k => { k with calDone := k.calDone.map fun c =>
      if c.eng = e then { c with res := c.res.map drop } else c } := by
  simp only [Block.hostTrim, hcal]

theorem eng_setEng_same (e : Nat) (x : Eng) : (b.setEng e x).eng e = x := SMap.get_set_same _ b.engs e x

theorem setTrim_now {e ring : Nat} (hring : ring < ringsOf e) (hnow : b.trimsNow e = true) (v : Word) :
    ((b.setTrim e ring v).1.eng e).trims.get (fun _ => 0) ring = (v &&& trimMask e).toNat := by
  unfold Block.setTrim
  rw [if_neg (Nat.not_le.2 hring), if_pos hnow]
  dsimp only
  rw [eng_setEng_same]
  exact SMap.get_set_same ..

theorem trimsNow_updStk (k : Nat) (f : Stk → Stk) (e : Nat) : (b.updStk k f).trimsNow e = b.trimsNow e := by
  simp only [Block.trimsNow, Block.rdB, Block.rd_updStk, Block.inFrame, Block.updStk_frm]

theorem ringTrimWrite_now {e ring : Nat} (hring : ring < ringsOf e) (hnow : b.trimsNow e = true)
    (hcal : (b.stk (stackOf e)).cal = none) (v : Word) :
    ((ringTrimWrite e ring v b).1.eng e).trims.get (fun _ => 0) ring = (v &&& trimMask e).toNat := by
  unfold ringTrimWrite
  dsimp only
  rw [hostTrim_idle b hcal]
  exact setTrim_now _ hring ((trimsNow_updStk ..).trans hnow) v

/-- A register write leaves every engine. -/
@[simp] theorem Block.eng_wrF (o l w x j : Nat) : (b.wrF o l w x).eng j = b.eng j := rfl

theorem trimNext_eng (e j : Nat) : (b.trimNext e).eng j = b.eng j := by
  unfold Block.trimNext
  split
  · exact Block.eng_wrF ..
  · rfl

/-- A ring trim through `TRM_RDATA`. -/
theorem trmRdataWrite_gives (s : State) (m : Master) (e : Fin 72) (v : Word) (ha : s.b.accepts m (TRM_RDATA e) = true)
    (hring : s.rdF (TRM_RADDR e) 0 19 < ringsOf e) (hnow : s.b.trimsNow e = true)
    (hcal : (s.b.stk (stackOf e)).cal = none) :
    Gives (.trmRdataWrite m e v) s fun t =>
      (t.b.eng e).trims.get (fun _ => 0) (s.rdF (TRM_RADDR e) 0 19) = (v &&& trimMask e).toNat := by
  refine Gives.of_gate (eff := trmRdataWrite e v) rfl ha rfl ?_
  rw [run_eng, counted_eng, trimNext_eng]
  exact ringTrimWrite_now s.b.fresh hring hnow hcal v

theorem trmRdataRead_gives (s : State) (m : Master) (e : Fin 72) (ha : s.b.answers m (TRM_RDATA e) = true) :
    Gives (.trmRdataRead m e) s fun t =>
      Output.data m [s.b.trimWord e (s.rdF (TRM_RADDR e) 0 19)] ∈ t.b.out :=
  Gives.of_read (eff := trmRdataRead e) rfl ha rfl (mem_out_run (Block.mem_out_send_self ..))

/-- A ring trim through the trim window (R432). -/
theorem trimWindowWrite_gives (s : State) (m : Master) (a : Fin 524288) (v : Word) (e k : Nat)
    (ha : s.b.accepts m (0x1000000 + 4 * a) = true) (ht : s.b.target (0x1000000 + 4 * a) = .trim e k)
    (hring : k / 4 < ringsOf e) (hnow : s.b.trimsNow e = true) (hcal : (s.b.stk (stackOf e)).cal = none) :
    Gives (.trimWindowWrite m a v) s fun t =>
      (t.b.eng e).trims.get (fun _ => 0) (k / 4) = (v &&& trimMask e).toNat := by
  have ht' : s.b.fresh.target (0x1000000 + 4 * a) = .trim e k := ht
  have heff : trimWindow m (0x1000000 + 4 * a) v s.b.fresh = ringTrimWrite e (k / 4) v s.b.fresh := by
    unfold trimWindow
    rw [ht']
  refine Gives.of_gate (eff := trimWindow m (0x1000000 + 4 * a) v) rfl ha heff ?_
  rw [run_eng, counted_eng]
  exact ringTrimWrite_now s.b.fresh hring hnow hcal v

/-! ## Row and modulator trims armed (R90) -/

/-- Do the row trims (0) or the modulator trims (1) wait for the boundary, armed and shown? -/
def Block.trimArmed (b : Block) (e k : Nat) : Prop := b.rdB (TRM_CTRL e) k = true ∧ b.rdB (TRM_STAT e) k = true

theorem trmCtrl_ne_trmStat (e : Nat) : TRM_CTRL e ≠ TRM_STAT e := by unfold TRM_CTRL TRM_STAT; omega

theorem trimArmed_armTrim (e : Nat) {k : Nat} (hk : k < 32) : (b.armTrim e k true).trimArmed e k := by
  refine ⟨?_, Block.rdB_wrB _ _ _ _ hk⟩
  rw [Block.armTrim, Block.wrB, Block.wrF, Block.rdB_wr_ne _ _ _ (trmCtrl_ne_trmStat e)]
  exact Block.rdB_wrB _ _ _ _ hk

/-- A bit beside that of the trims leaves them armed. -/
theorem Block.trimArmed.wrB {b : Block} {e k : Nat} (h : b.trimArmed e k) {o i : Nat} (hi : i < 32) (hki : k ≠ i)
    (x : Bool) : (b.wrB o i x).trimArmed e k := by
  have hbit : ∀ r, (b.wrB o i x).rdB r k = b.rdB r k := fun r => by
    by_cases hr : r = o
    · rw [hr]
      exact b.rdB_wrB_ne o i k x hi hki
    · exact Block.rdB_wr_ne _ _ _ hr
  exact ⟨(hbit _).trans h.1, (hbit _).trans h.2⟩

theorem trmCtrlWrite_armsRow (e : Nat) (v : Word) : (trmCtrlWrite e (v ||| 1) b).1.trimArmed e 0 := by
  have h0 : bit (v ||| 1) 0 = true := by rw [bit, BitVec.getLsbD_or, Bool.or_eq_true]; exact .inr rfl
  unfold trmCtrlWrite
  dsimp only
  rw [h0]
  refine Block.trimArmed.wrB ?_ (by decide) (by decide) _
  have hrow := trimArmed_armTrim (b.wrB (TRM_CTRL e) 2 (bit (v ||| 1) 2)) e (k := 0) (by decide)
  cases bit (v ||| 1) 1
  · exact hrow
  · exact (hrow.wrB (by decide) (by decide) true).wrB (by decide) (by decide) true

theorem trmCtrlWrite_armsMod (e : Nat) (v : Word) : (trmCtrlWrite e (v ||| 2) b).1.trimArmed e 1 := by
  have h1 : bit (v ||| 2) 1 = true := by rw [bit, BitVec.getLsbD_or, Bool.or_eq_true]; exact .inr rfl
  unfold trmCtrlWrite
  dsimp only
  rw [h1]
  exact (trimArmed_armTrim _ e (by decide)).wrB (by decide) (by decide) _

/-- What a write of `TRM_CTRL` that arms trims gives. -/
theorem Gives.trimArmed {c : Instr} {s : State} {m : Master} {e k : Nat} {v : Word}
    (h : exec c s = s.done fun b => b.gate m (TRM_CTRL e) (trmCtrlWrite e v)) (ha : s.b.accepts m (TRM_CTRL e) = true)
    (harm : (trmCtrlWrite e v s.b.fresh).1.trimArmed e k) :
    Gives c s fun t => t.rdB (TRM_CTRL e) k = true ∧ t.rdB (TRM_STAT e) k = true := by
  obtain ⟨hctrl, hstat⟩ := harm
  refine Gives.of_gate h ha rfl ⟨?_, ?_⟩
  · exact (congrArg (bit · k) (run_counted_rd s _ _ _ (enginePlain_trmCtrl e))).trans hctrl
  · exact (congrArg (bit · k) (run_counted_rd s _ _ _ (enginePlain_trmStat e))).trans hstat

/-! ## The output scale (R83) -/

theorem fld_mod (v : Word) (lo w : Nat) : fld v lo w % 2 ^ w = fld v lo w := Nat.mod_mod _ _

/-- The register after a write of `ENG_OSCALE`: `RANGE` and the offset as written. -/
theorem oscaleWrite_rd {e : Nat} (he : e < 64) (v : Word) : (oscaleWrite e v b).1.rd (ENG_OSCALE e) =
    setFld (setFld (b.rd (ENG_OSCALE e)) 0 2 (fld v 0 2)) 16 8 (fld v 16 8) := by
  have h64 : decide (64 ≤ e) = false := decide_eq_false (Nat.not_le.2 he)
  simp only [oscaleWrite, if_pos he, h64, Block.when_false, Block.rd_updEng, Block.rd_wrF]

theorem oscaleWrite_eng (e : Nat) (v : Word) :
    (oscaleWrite e v b).1.eng e = { b.eng e with rangeNew := true } := by
  unfold oscaleWrite
  dsimp only
  rw [Block.eng_updEng_same]
  rw [Block.when_keep _ (·.eng e) _ _ (Block.eng_wrF ..), Block.eng_wrF, Block.eng_wrF]

theorem engOscaleWrite_gives (s : State) (m : Master) (e : Fin 64) (v : Word)
    (ha : s.b.accepts m (ENG_OSCALE e) = true) :
    Gives (.engOscaleWrite m e v) s fun t => t.rdF (ENG_OSCALE e) 0 2 = fld v 0 2 ∧
      t.rdF (ENG_OSCALE e) 16 8 = fld v 16 8 ∧
      t.rdF (ENG_OSCALE e) 8 5 = s.rdF (ENG_OSCALE e) 8 5 ∧ (t.b.eng e).rangeNew = true ∧
      (t.b.eng e).range = (s.b.eng e).range := by
  refine Gives.of_gate (eff := oscaleWrite e v) (b' := (oscaleWrite e v s.b.fresh).1)
    (acted := (oscaleWrite e v s.b.fresh).2) rfl ha rfl ?_
  have hrd := (run_counted_rd s (oscaleWrite e v s.b.fresh).1 (ENG_OSCALE e) (oscaleWrite e v s.b.fresh).2
    (enginePlain_oscale e)).trans (oscaleWrite_rd s.b.fresh e.isLt v)
  refine ⟨?_, ?_, ?_, ?_, ?_⟩
  · rw [State.rdF, Block.rdF, hrd, fld_setFld_ne _ _ _ _ _ _ (by decide) (by decide), fld_setFld _ _ _ _ (by decide),
      fld_mod]
  · rw [State.rdF, Block.rdF, hrd, fld_setFld _ _ _ _ (by decide), fld_mod]
  · rw [State.rdF, Block.rdF, hrd, fld_setFld_ne _ _ _ _ _ _ (by decide) (by decide),
      fld_setFld_ne _ _ _ _ _ _ (by decide) (by decide)]
    rfl
  · rw [run_eng, counted_eng, oscaleWrite_eng]
  · rw [run_eng, counted_eng, oscaleWrite_eng]
    rfl

/-! ## The plate window (R86) -/

/-- A byte of the pending scales written while no build runs. -/
theorem plateWrite_scale {e p : Nat} (hbusy : b.rdB (ENG_STATE e) 4 = false) (hp : 0x67000 ≤ p ∧ p < 0x68000)
    (v : Byte) :
    ((plateWrite e p [v] b).eng e).scaleP.get (fun _ => 0) (p - 0x67000) = v.toNat := by
  have hw : plateWrite e p [v] b =
      b.updEng e fun x => { x with scaleP := x.scaleP.set (fun _ => 0) (p - 0x67000) v.toNat } := by
    obtain ⟨hlo, hhi⟩ := hp
    simp [plateWrite, hbusy, Block.each, List.range_succ, hlo, hhi]
  rw [hw, Block.eng_updEng_same]
  exact SMap.get_set_same ..

/-- One byte written through the plate window into the pending scales. -/
theorem plateWindow_scale {m : Master} {off e k : Nat} (ht : b.target off = .plate e k) (hk : 0x67000 ≤ k ∧ k < 0x68000)
    (hbusy : b.rdB (ENG_STATE e) 4 = false) (v : Byte) :
    (plateWindow m off [some v] b).1 = plateWrite e k [v] b := by
  have hrw : imageRW k = true := by
    obtain ⟨hlo, hhi⟩ := hk
    simp [imageRW, hlo, hhi]
  simp [plateWindow, ht, hrw, hbusy, List.range_succ]

theorem plateWindowWrite_gives (s : State) (m : Master) (a : Fin 8388608) (v : Byte) (e k : Nat)
    (ha : s.b.accepts m (0x1800000 + a) = true) (ht : s.b.target (0x1800000 + a) = .plate e k)
    (hk : 0x67000 ≤ k ∧ k < 0x68000) (hbusy : s.rdB (ENG_STATE e) 4 = false) :
    Gives (.plateWindowWrite m a [some v]) s fun t =>
      (t.b.eng e).scaleP.get (fun _ => 0) (k - 0x67000) = v.toNat := by
  refine Gives.of_gate (eff := plateWindow m (0x1800000 + a) [some v]) (b' := plateWrite e k [v] s.b.fresh) rfl ha
    (Prod.ext (plateWindow_scale s.b.fresh ht hk hbusy v) rfl) ?_
  rw [run_eng, counted_eng]
  exact plateWrite_scale s.b.fresh hbusy hk v

/-! ## The Ledger window (R193) -/

/-- The byte of a stack's Ledger at address `a`. -/
def Block.ledByte (b : Block) (s a : Nat) : Byte := (b.stk s).led.get zeroByte a

theorem rdLed_one (s a : Nat) : b.rdLed s a 1 = [b.ledByte s a] := by
  simp [Block.rdLed, SMap.getMany, Block.ledByte]

/-- One byte lane of a write through a Ledger window. -/
def Block.ledLane (b : Block) (s a : Nat) (o : Option Byte) : Block :=
  match o with
  | some v => if a < 0x800000 then b.wrLed s a [v] else b
  | none => b

theorem ledByte_wrLed (s a : Nat) (v : Byte) (j : Nat) :
    (b.wrLed s a [v]).ledByte s j = if j = a then v else b.ledByte s j := by
  rw [Block.ledByte, Block.wrLed, Block.stk_updStk_same]
  exact SMap.get_set ..

theorem ledByte_ledLane_same {s a : Nat} (ha : a < 0x800000) (v : Byte) : (b.ledLane s a (some v)).ledByte s a = v := by
  rw [Block.ledLane, if_pos ha, ledByte_wrLed, if_pos rfl]

theorem ledByte_ledLane_ne {s a j : Nat} (o : Option Byte) (h : j ≠ a) :
    (b.ledLane s a o).ledByte s j = b.ledByte s j := by
  unfold Block.ledLane
  split
  · split
    · rw [ledByte_wrLed, if_neg h]
    · rfl
  · rfl

/-- Byte lanes from offset `n` on. -/
def Block.ledLanes (b : Block) (s a n : Nat) (bs : List (Option Byte)) : Block :=
  b.each ((List.range' n bs.length).zip bs) fun b q => b.ledLane s (a + q.1) q.2

theorem ledLanes_cons (s a n : Nat) (o : Option Byte) (bs : List (Option Byte)) :
    b.ledLanes s a n (o :: bs) = (b.ledLane s (a + n) o).ledLanes s a (n + 1) bs := rfl

/-- Lanes leave the bytes before them. -/
theorem ledByte_ledLanes_before (s a : Nat) (bs : List (Option Byte)) {n j : Nat} (h : j < a + n) :
    (b.ledLanes s a n bs).ledByte s j = b.ledByte s j := by
  induction bs generalizing b n with
  | nil => rfl
  | cons o bs ih => rw [ledLanes_cons, ih _ (by omega), ledByte_ledLane_ne _ _ (by omega)]

/-- An enabled lane within the Ledger is stored. -/
theorem ledByte_ledLanes (s a : Nat) {bs : List (Option Byte)} {n i : Nat} {v : Byte} (hv : bs[i]? = some (some v))
    (ha : a + (n + i) < 0x800000) : (b.ledLanes s a n bs).ledByte s (a + (n + i)) = v := by
  induction bs generalizing b n i with
  | nil => cases hv
  | cons o bs ih =>
    rw [ledLanes_cons]
    cases i with
    | zero =>
      obtain rfl : o = some v := Option.some.inj hv
      rw [ledByte_ledLanes_before _ _ _ _ (by omega)]
      exact ledByte_ledLane_same _ ha v
    | succ i =>
      have hidx : n + (i + 1) = n + 1 + i := by omega
      rw [hidx] at ha ⊢
      exact ih _ hv ha

/-- A write through a Ledger window while no frame runs. -/
theorem ledgerWindow_idle (hf : b.frm = none) (s a : Nat) (bs : List (Option Byte)) (x : Ecc) :
    (ledgerWindow s a bs x b).1 = (b.windowEcc s a bs.length x).ledLanes s a 0 bs := by
  have hframe : b.inFrame = false := by rw [Block.inFrame, hf]; rfl
  simp only [ledgerWindow, hframe, Bool.false_eq_true, if_false, Block.ledLanes, List.range_eq_range']
  rfl

theorem ledgerWindowWrite_gives (s : State) (m : Master) (st : Fin 4) (a : Fin 8388608) (bytes : List (Option Byte))
    (ecc : Ecc) (ha : s.b.accepts m (0x2000000 + 0x800000 * st + a) = true) (hf : s.b.frm = none) :
    Gives (.ledgerWindowWrite m st a bytes ecc) s fun t => ∀ k v, bytes[k]? = some (some v) → a.val + k < 0x800000 →
      t.b.rdLed st (a + k) 1 = [v] := by
  refine Gives.of_gate (eff := ledgerWindow st a bytes ecc)
    (b' := (s.b.fresh.windowEcc st a bytes.length ecc).ledLanes st a 0 bytes) rfl ha
    (Prod.ext (ledgerWindow_idle s.b.fresh hf st a bytes ecc) rfl) fun k v hv hfit => ?_
  rw [rdLed_one, Block.ledByte, run_stk, counted_stk]
  have hbyte := ledByte_ledLanes (s.b.fresh.windowEcc st a bytes.length ecc) st a (n := 0) hv (by omega)
  rw [Nat.zero_add] at hbyte
  exact congrArg (fun w => [w]) hbyte

/-- Settles O20, clause by clause: what each write leaves of its engine, its registers or its Ledger. -/
theorem trimsAndWindows : Obligations.TrimsAndWindows := by
  unfold Obligations.TrimsAndWindows
  refine ⟨?_, trmRdataRead_gives, ?_, ?_, engOscaleWrite_gives, ?_, ?_, ledgerWindowWrite_gives⟩
  · intro s m e v ha ⟨hring, hnow⟩ hcal
    exact trmRdataWrite_gives s m e v ha hring hnow hcal
  · exact fun s m e v ha => Gives.trimArmed rfl ha (trmCtrlWrite_armsRow s.b.fresh e v)
  · exact fun s m e v ha => Gives.trimArmed rfl ha (trmCtrlWrite_armsMod s.b.fresh e v)
  · intro s m a v e k ha ⟨ht, hring, hnow⟩ hcal
    exact trimWindowWrite_gives s m a v e k ha ht hring hnow hcal
  · intro s m a v e k ha ⟨ht, hk⟩ hbusy
    exact plateWindowWrite_gives s m a v e k ha ht hk hbusy

end Sys2Proof.Machine
end

section
/-! SUPPORT. Plate builds and the refresh scan: what each operation leaves of the engine, its stack and its registers (R64 to
R77). -/

namespace Sys2Proof.Machine

variable (b : Block)

/-! ## Registers, engines and stacks are written apart -/

@[simp] theorem Block.eng_wr (o : Nat) (v : Word) (j : Nat) : (b.wr o v).eng j = b.eng j := rfl
@[simp] theorem Block.eng_setB (o i j : Nat) : (b.setB o i).eng j = b.eng j := rfl
@[simp] theorem Block.eng_clrB (o i j : Nat) : (b.clrB o i).eng j = b.eng j := rfl
@[simp] theorem Block.eng_bump (o n j : Nat) : (b.bump o n).eng j = b.eng j := rfl
@[simp] theorem Block.eng_raise (p i j : Nat) : (b.raise p i).eng j = b.eng j := rfl
@[simp] theorem Block.eng_ev (c i : Nat) (l : List (Nat × Nat)) (j : Nat) : (b.ev c i l).eng j = b.eng j := rfl
@[simp] theorem Block.eng_updStk (s : Nat) (f : Stk → Stk) (j : Nat) : (b.updStk s f).eng j = b.eng j := rfl
@[simp] theorem Block.stk_setB (o i s : Nat) : (b.setB o i).stk s = b.stk s := rfl
@[simp] theorem Block.stk_clrB (o i s : Nat) : (b.clrB o i).stk s = b.stk s := rfl
@[simp] theorem Block.stk_raise (p i s : Nat) : (b.raise p i).stk s = b.stk s := rfl
@[simp] theorem Block.stk_updEng (e : Nat) (f : Eng → Eng) (s : Nat) : (b.updEng e f).stk s = b.stk s := rfl
@[simp] theorem Block.rdB_updEng (e : Nat) (f : Eng → Eng) (o i : Nat) : (b.updEng e f).rdB o i = b.rdB o i := rfl
@[simp] theorem Block.rdB_updStk (s : Nat) (f : Stk → Stk) (o i : Nat) : (b.updStk s f).rdB o i = b.rdB o i := rfl

theorem Block.rdB_setB_other {o j : Nat} (i k : Nat) (h : j ≠ o) : (b.setB o i).rdB j k = b.rdB j k :=
  congrArg (bit · k) (b.rd_setB_ne i h)
theorem Block.rdB_clrB_other {o j : Nat} (i k : Nat) (h : j ≠ o) : (b.clrB o i).rdB j k = b.rdB j k :=
  congrArg (bit · k) (b.rd_clrB_ne i h)
theorem Block.rdB_raise {p j : Nat} (i k : Nat) (h : j ≠ PG_ISTAT p) : (b.raise p i).rdB j k = b.rdB j k :=
  congrArg (bit · k) (b.rd_raise_ne i h)

theorem engState_ne_loadStat (e : Nat) : ENG_STATE e ≠ ENG_LOAD_STAT e := by unfold ENG_STATE ENG_LOAD_STAT; omega
theorem engState_ne_scan (e : Nat) : ENG_STATE e ≠ ENG_SCAN e := by unfold ENG_STATE ENG_SCAN; omega
theorem engState_ne_istat (e : Nat) : ENG_STATE e ≠ PG_ISTAT (P_ENG e) := by unfold ENG_STATE PG_ISTAT; omega
theorem engScan_ne_istat (e : Nat) : ENG_SCAN e ≠ PG_ISTAT (P_ENG e) := by unfold ENG_SCAN PG_ISTAT; omega
theorem engLoadStat_ne_istat (e : Nat) : ENG_LOAD_STAT e ≠ PG_ISTAT (P_ENG e) := by
  unfold ENG_LOAD_STAT PG_ISTAT
  omega

/-! ## A build leaves the builder (R73, R75, R77) -/

theorem eng_loadErr (e k j : Nat) : (b.loadErr e k).eng j = b.eng j := by simp [Block.loadErr]
theorem loadErr_busy (e k i : Nat) : (b.loadErr e k).rdB (ENG_STATE e) i = b.rdB (ENG_STATE e) i := by
  rw [Block.loadErr, Block.rdB_raise _ _ _ (engState_ne_istat e), Block.rdB_setB_other _ _ _ (engState_ne_loadStat e)]
theorem loadErr_stat (e : Nat) {k : Nat} (hk : k < 32) : (b.loadErr e k).rdB (ENG_LOAD_STAT e) k = true := by
  rw [Block.loadErr, Block.rdB_raise _ _ _ (engLoadStat_ne_istat e), Block.rdB_setB _ _ _ hk]

theorem eng_buildOver (e : Nat) : (b.buildOver e).eng e = { b.eng e with build := none } := by simp [Block.buildOver]
theorem buildOver_busy (e : Nat) : (b.buildOver e).rdB (ENG_STATE e) 4 = false := by
  rw [Block.buildOver, Block.rdB_clrB_other _ _ _ (engState_ne_loadStat e), Block.rdB_clrB _ _ _ (by decide)]
theorem buildOver_stk (e k : Nat) : ((b.buildOver e).stk k).calDone = (b.stk k).calDone := by
  simp only [Block.buildOver, Block.stk_clrB, Block.stk_updStk, Block.stk_updEng]
  split
  · next hk => rw [hk]
  · rfl

/-! ## A request joins the queue of a busy builder (R64, R73) -/

/-- The request of engine `e` is the last in the queue of its stack's builder, which held `q`: it waits, and shows `BUSY`. -/
def Block.joined (b : Block) (e : Nat) (q : List Nat) (rebuild : Bool) : Prop :=
  (b.stk (stackOf e)).builder = q ++ [e] ∧
  (b.eng e).build.map (fun q => (q.rebuild, q.waiting)) = some (rebuild, true) ∧ b.rdB (ENG_STATE e) 4 = true

theorem requestBuild_joined {e : Nat} (rebuild : Bool) (x : Ecc) (h : (b.stk (stackOf e)).builder ≠ []) :
    (b.requestBuild e rebuild x).joined e (b.stk (stackOf e)).builder rebuild := by
  have hbusy : (b.stk (stackOf e)).builder.isEmpty = false := by simpa using h
  refine ⟨?_, ?_, ?_⟩
  · simp [Block.requestBuild, hbusy]
  · simp [Block.requestBuild, hbusy]
  · simp only [Block.requestBuild, hbusy, Bool.not_false, Bool.true_or, Bool.not_true, Block.when_false,
      Block.rdB_updStk, Block.rdB_updEng]
    rw [Block.clrB, Block.rdB_wrB_ne _ _ _ _ _ (by decide) (by decide),
      Block.rdB_setB_other _ _ _ (engState_ne_loadStat e), Block.rdB_setB _ _ _ (by decide)]

/-! ## The discard of waiting results keeps the builders (R337) -/

theorem armTrim_stks (e k : Nat) (x : Bool) : (b.armTrim e k x).stks = b.stks := by
  rw [Block.armTrim, Block.wrB_stks, Block.wrB_stks]
theorem showSlew_stks (e : Nat) : (b.showSlew e).stks = b.stks := by rw [Block.showSlew, Block.wrB_stks]
theorem showQueue_stks (e : Nat) : (b.showQueue e).stks = b.stks := by rw [Block.showQueue, Block.wrF_stks]

theorem calUnarm_stks (e : Nat) (y : TrimSaved) : (b.calUnarm e y).stks = b.stks := by
  unfold Block.calUnarm
  dsimp only
  rw [showSlew_stks, Block.wrB_stks, Block.when_keep (g := Block.stks), Block.when_keep (g := Block.stks)]
  · rw [armTrim_stks]
    exact Block.each_keep (g := Block.stks) _ _ _ fun _ _ => Block.wrF_stks ..
  · rw [armTrim_stks, Block.updEng_stks]

theorem calDrop_builder (s : Nat) (p : Cal → Bool) : ((b.calDrop s p).stk s).builder = (b.stk s).builder := by
  unfold Block.calDrop
  rw [Block.stk_updStk_same]
  refine congrArg (fun m => (SMap.get (fun _ => Stk.reset) m s).builder)
    (Block.each_keep (g := Block.stks) _ _ _ fun b c => ?_)
  dsimp only
  have hqueue : ∀ f : Eng → Eng,
      (b.when (b.eng c.eng).build.isNone fun b => (b.updEng c.eng f).showQueue c.eng).stks = b.stks := by
    intro f
    rw [Block.when_keep (g := Block.stks)]
    rw [showQueue_stks, Block.updEng_stks]
  split
  · rw [calUnarm_stks, hqueue]
  · exact hqueue _

/-! ## The builder takes up a request (R64, R73, R75, R77) -/

/-- The request of engine `e` waits no longer: its build runs, or has failed and left the builder. -/
def Block.taken (b : Block) (e : Nat) : Prop :=
  (b.eng e).build = none ∧ b.rdB (ENG_STATE e) 4 = false ∨ (b.eng e).build.map (·.waiting) = some false

theorem buildFail_taken (e k : Nat) : (b.buildFail e k).taken e := by
  refine .inl ⟨?_, ?_⟩
  · rw [Block.buildFail, eng_loadErr, eng_buildOver]
  · rw [Block.buildFail, loadErr_busy, buildOver_busy]

theorem running_taken (e : Nat) (q : Build) (h : q.waiting = false) :
    (b.updEng e fun y => { y with build := some q }).taken e := by
  refine .inr ?_
  rw [Block.eng_updEng_same]
  exact congrArg some h

theorem ite_taken {p : Prop} [Decidable p] {x y : Block} {e : Nat} (hx : x.taken e) (hy : y.taken e) :
    (if p then x else y).taken e := by
  split
  · exact hx
  · exact hy

theorem beginLoad_taken (e addr : Nat) (x : Ecc) (q : Build) : (b.beginLoad e addr x q).taken e := by
  unfold Block.beginLoad
  dsimp only
  refine ite_taken (buildFail_taken ..) <| ite_taken (buildFail_taken ..) <| ite_taken (buildFail_taken ..) <|
    ite_taken (buildFail_taken ..) <| ite_taken (buildFail_taken ..) ?_
  split
  · exact buildFail_taken ..
  · exact running_taken _ e _ rfl

theorem beginRebuild_taken (e : Nat) (q : Build) : (b.beginRebuild e q).taken e := by
  unfold Block.beginRebuild
  obtain ⟨inputs, hinputs⟩ : ∃ l, List.range 262144 = l := ⟨_, rfl⟩ -- so that the kernel does not evaluate it
  rw [hinputs]
  dsimp only
  refine ite_taken (buildFail_taken ..) ?_
  split
  · exact buildFail_taken ..
  · split
    · exact buildFail_taken ..
    · exact running_taken _ e _ rfl

theorem beginBuild_taken {e : Nat} {q : Build} (x : Ecc) (h : (b.eng e).build = some q) : (b.beginBuild e x).taken e := by
  unfold Block.beginBuild
  rw [h]
  dsimp only
  split
  · exact beginRebuild_taken ..
  · exact beginLoad_taken ..

theorem queuedBuildStart_taken {st e : Nat} {q : Build} (x : Ecc) (hhead : (b.stk st).builder.head? = some e)
    (hq : (b.eng e).build = some q) (hwait : q.waiting = true) (hrehash : b.host.rehash = none) :
    (queuedBuildStart st x b).taken e := by
  obtain ⟨es, hes⟩ : ∃ es, (b.stk st).builder = e :: es := List.head?_eq_some_iff.1 hhead
  have hstart : queuedBuildStart st x b = b.beginBuild e x := by
    simp [queuedBuildStart, hes, hq, hwait, hrehash]
  rw [hstart]
  exact beginBuild_taken b x hq

/-! ## A finished build (R70, R334) -/

/-- What a build `q` leaves that ends well and serves no calibration: the background half whole, waiting for its swap. -/
def Block.builtWaits (b : Block) (e : Nat) (q : Build) : Block :=
  (((((b.updEng e fun x => { x with bg := q.half, built := some q }).buildOver e).setB (ENG_LOAD_STAT e) 1).setB
    (ENG_STATE e) 3).raise (P_ENG e) 0)

theorem calWaiting_none {e : Nat} (h : (b.stk (stackOf e)).calDone = []) : b.calWaiting e = none := by
  rw [Block.calWaiting, h]
  rfl

theorem buildComplete_builtWaits {e : Nat} {q : Build} (hq : (b.eng e).build = some q) (hwait : q.waiting = false)
    (hcal : q.cal = false) (hnone : (b.stk (stackOf e)).calDone = []) : buildComplete e b = b.builtWaits e q := by
  have hdone : (b.builtWaits e q).calWaiting e = none := by
    refine calWaiting_none _ ?_
    rw [Block.builtWaits, Block.stk_raise, Block.stk_setB, Block.stk_setB, buildOver_stk, Block.stk_updEng, hnone]
  unfold buildComplete
  rw [hq]
  simp only [hwait, hcal, Bool.false_eq_true, if_false]
  change (if q.rebuild && ((b.builtWaits e q).calWaiting e).isSome then (b.builtWaits e q).autoRebuild e
    else b.builtWaits e q) = b.builtWaits e q
  simp [hdone]

theorem eng_builtWaits (e : Nat) (q : Build) :
    (b.builtWaits e q).eng e = { b.eng e with bg := q.half, built := some q, build := none } := by
  rw [Block.builtWaits, Block.eng_raise, Block.eng_setB, Block.eng_setB, eng_buildOver, Block.eng_updEng_same]

theorem builtWaits_loaded (e : Nat) (q : Build) : (b.builtWaits e q).rdB (ENG_STATE e) 3 = true := by
  rw [Block.builtWaits, Block.rdB_raise _ _ _ (engState_ne_istat e), Block.rdB_setB _ _ _ (by decide)]

theorem builtWaits_busy (e : Nat) (q : Build) : (b.builtWaits e q).rdB (ENG_STATE e) 4 = false := by
  rw [Block.builtWaits, Block.rdB_raise _ _ _ (engState_ne_istat e), Block.setB,
    Block.rdB_wrB_ne _ _ _ _ _ (by decide) (by decide), Block.rdB_setB_other _ _ _ (engState_ne_loadStat e), buildOver_busy]

theorem builtWaits_done (e : Nat) (q : Build) : (b.builtWaits e q).rdB (ENG_LOAD_STAT e) 1 = true := by
  rw [Block.builtWaits, Block.rdB_raise _ _ _ (engLoadStat_ne_istat e),
    Block.rdB_setB_other _ _ _ (engState_ne_loadStat e).symm, Block.rdB_setB _ _ _ (by decide)]

end Sys2Proof.Machine
end

section
/-! SUPPORT. The refresh scan, row by row, and the end of a load-mode scan (R66, R67, R72). -/

namespace Sys2Proof.Machine

variable (b : Block)

/-- The scan of engine `e` starts from row 0 while light is on and no search in service pauses it. -/
theorem scanStart_starts {e : Nat} (hlit : b.modState = stHold ∨ b.modState = stActive)
    (hidle : b.rdB (ENG_SCAN e) 9 = false) (hsearch : ((b.eng e).search.any fun q => !q.waiting) = false) :
    scanStart e b = (b.wrF (ENG_SCAN e) 0 11 (2 ^ 9)).updEng e fun x => { x with scanNext := 0 } := by
  simp [scanStart, hlit, hidle, hsearch]

/-- A field of a register that holds a bit, written: the bit is that of the value. -/
theorem rdB_wrF_in (o : Nat) {lo w i : Nat} (x : Nat) (h : lo + w ≤ 32) (hlo : lo ≤ i) (hhi : i < lo + w) :
    (b.wrF o lo w x).rdB o i = x.testBit (i - lo) := by
  simp only [Block.rdB, bit, Block.rd_wrF, setFld_getLsbD _ _ _ _ _ h]
  rw [if_pos ⟨hlo, hhi⟩]

theorem scanStart_scanning {e : Nat} :
    ((b.wrF (ENG_SCAN e) 0 11 (2 ^ 9)).updEng e fun x => { x with scanNext := 0 }).rdB (ENG_SCAN e) 9 = true := by
  rw [Block.rdB_updEng, rdB_wrF_in _ _ _ (by decide) (by decide) (by decide)]
  decide

/-- The rows of engine `e` that the scan has to write next, and that still hold their old words. -/
def Eng.scanRows (x : Eng) : Nat × List Nat := (x.scanNext, x.oldRows)

theorem scanRows_eq {x : Eng} {n : Nat} {l : List Nat} : x.scanRows = (n, l) ↔ x.scanNext = n ∧ x.oldRows = l :=
  Prod.mk_inj

/-- A row written: the scan goes on to the next one, whatever the row's ECC observed. -/
theorem rowWrite_scanRows {e : Nat} (ce : Nat) (ue : List Nat) (hscan : b.rdB (ENG_SCAN e) 9 = true)
    (hsearch : ((b.eng e).search.any fun q => !q.waiting) = false) (hrow : (b.eng e).scanNext < 512) :
    ((rowWrite e ce ue b).eng e).scanRows =
      ((b.eng e).scanNext + 1, (b.eng e).oldRows.filter (· != (b.eng e).scanNext)) := by
  unfold rowWrite
  dsimp only
  rw [if_neg (by simp [hscan, hsearch, hrow])]
  rw [apply_ite (fun c : Block => (c.eng e).scanRows)]
  rw [Block.eng_wrF, Block.eng_clrB, ite_self]
  rw [Block.when_keep (g := fun c => (c.eng e).scanRows), Block.when_keep (g := fun c => (c.eng e).scanRows)]
  · rw [Block.eng_wrF, eng_setEng_same]
    rfl
  · rw [Block.eng_ev, Block.eng_bump]
    rw [Block.when_keep (g := fun c => (c.eng e).scanRows)]
    rw [Block.eng_raise]
  · rw [Block.eng_updEng_same]
    rw [Block.eng_ev, Block.eng_raise, Block.eng_raise, Block.eng_wr, Block.eng_bump, Eng.scanRows, Eng.scanRows]

/-- The registers as a load-mode scan of engine `e` leaves them: load mode over, one more scan counted. -/
def Block.scanCounted (b : Block) (e : Nat) : Block :=
  let b := (b.clrB (ENG_STATE e) 5).wrF (ENG_SCAN e) 9 2 0
  (b.wrF (ENG_SCAN e) 16 16 (b.rdF (ENG_SCAN e) 16 16 + 1)).raise (P_ENG e) 3

theorem loadScanDone_idle {e : Nat} (hmode : b.rdB (ENG_STATE e) 5 = true) (hrow : 512 ≤ (b.eng e).scanNext)
    (hmint : b.mintQ = []) : loadScanDone e b = b.scanCounted e := by
  have hidle : (b.scanCounted e).mintQ = [] := hmint
  have hdone : loadScanDone e b = (b.scanCounted e).pump := by
    unfold loadScanDone
    rw [if_neg (by simp [hmode, hrow])]
    rfl
  rw [hdone, pump_idle hidle]

theorem scanCounted_mode (e : Nat) : (b.scanCounted e).rdB (ENG_STATE e) 5 = false := by
  have hscan := engState_ne_scan e
  rw [Block.scanCounted, Block.rdB_raise _ _ _ (engState_ne_istat e), Block.wrF, Block.rdB_wr_ne _ _ _ hscan, Block.wrF,
    Block.rdB_wr_ne _ _ _ hscan, Block.rdB_clrB _ _ _ (by decide)]

theorem scanCounted_count (e : Nat) :
    (b.scanCounted e).rdF (ENG_SCAN e) 16 16 = (b.rdF (ENG_SCAN e) 16 16 + 1) % 65536 := by
  have hbefore : ((b.clrB (ENG_STATE e) 5).wrF (ENG_SCAN e) 9 2 0).rdF (ENG_SCAN e) 16 16 = b.rdF (ENG_SCAN e) 16 16 := by
    rw [Block.rdF, Block.rd_wrF, fld_setFld_ne _ _ _ _ _ _ (by decide) (by decide),
      Block.rd_clrB_ne _ _ (engState_ne_scan e).symm, Block.rdF]
  have hraise : ∀ c : Block, (c.raise (P_ENG e) 3).rdF (ENG_SCAN e) 16 16 = c.rdF (ENG_SCAN e) 16 16 := fun c => by
    rw [Block.rdF, Block.rd_raise_ne _ _ (engScan_ne_istat e), Block.rdF]
  rw [Block.scanCounted, hraise, Block.rdF_wrF _ _ _ _ _ (by decide), hbefore]
  rfl

end Sys2Proof.Machine
end

section
/-! SUPPORT. What a write of `ENG_LOAD_CTRL` does that asks for one thing (R73, R77). -/

namespace Sys2Proof.Machine

variable (b : Block)

theorem fld_one (v : Word) (i : Nat) : fld v i 1 = (bit v i).toNat := by
  rw [fld, bits, bit, ← BitVec.testBit_toNat, pow_one, Nat.toNat_testBit]

/-- The bits of a field that holds zero. -/
theorem bit_of_fld_zero {v : Word} {lo w : Nat} (i : Nat) (h : fld v lo w = 0) (hi : lo ≤ i ∧ i < lo + w) :
    bit v i = false := by
  have hbit := fld_testBit v lo w (i - lo)
  rw [h, Nat.zero_testBit, Nat.add_sub_cancel' hi.1] at hbit
  simpa [bit, show i - lo < w by omega] using hbit.symm

theorem bit_or (v w : Word) (i : Nat) : bit (v ||| w) i = (bit v i || bit w i) := BitVec.getLsbD_or

variable {b} {e : Nat} {v : Word} {x : Ecc}

/-- ABORT alone ends a build that runs or waits. -/
theorem loadCtrlWrite_abort (h0 : bit v 0 = false) (h1 : bit v 1 = false) (h2 : bit v 2 = true)
    (hbusy : b.rdB (ENG_STATE e) 4 = true) : loadCtrlWrite e v x b = ((b.abortBuild e).loadErr e 7, true) := by
  simp [loadCtrlWrite, fld_one, h0, h1, h2, hbusy]

/-- REBUILD alone is accepted while no build runs and a model is in the engine. -/
theorem loadCtrlWrite_rebuild (h0 : bit v 0 = false) (h1 : bit v 1 = true) (h2 : bit v 2 = false)
    (hidle : b.rdB (ENG_STATE e) 4 = false) (hmodel : b.rdB (ENG_STATE e) 2 = true) :
    loadCtrlWrite e v x b = (b.requestBuild e true x, true) := by
  simp [loadCtrlWrite, fld_one, h0, h1, h2, hidle, hmodel]

/-- START alone is accepted while no build runs, light is on and the map is complete. -/
theorem loadCtrlWrite_start (h0 : bit v 0 = true) (h1 : bit v 1 = false) (h2 : bit v 2 = false)
    (hidle : b.rdB (ENG_STATE e) 4 = false) (hlit : b.modState = stHold ∨ b.modState = stActive)
    (hmap : b.rdB (ASG_STAT e) 1 = true) :
    loadCtrlWrite e v x b = (((b.calAbandon e 4).calDrop (stackOf e) (·.eng == e)).requestBuild e false x, true) := by
  have hpass : ¬ (b.modState ≠ stHold ∧ b.modState ≠ stActive ∨ (!b.rdB (ASG_STAT e) 1) = true) := by
    simp only [hmap, Bool.not_true, Bool.false_eq_true, or_false]
    tauto
  simp only [loadCtrlWrite, fld_one, h0, h1, h2, hidle, if_neg hpass, Bool.toNat_true, Bool.toNat_false,
    Bool.false_eq_true, if_false]
  rfl

end Sys2Proof.Machine
end

section
/-! The builds and the refresh scan (R64 to R77): each clause of O19 as a command gives it. -/

namespace Sys2Proof.Machine

/-- A register of an engine's page after a command. -/
theorem run_rd_engine (s : State) (f : Block → Block) {o : Nat} (h : enginePlain o) :
    (s.run f).b.rd o = (f s.b.fresh).rd o := run_rd s f (enginePlain_not_log h)
theorem run_rdB_engine (s : State) (f : Block → Block) {o : Nat} (i : Nat) (h : enginePlain o) :
    (s.run f).b.rdB o i = (f s.b.fresh).rdB o i := congrArg (bit · i) (run_rd_engine s f h)
theorem run_counted_rdB (s : State) (b : Block) (off : Nat) (a : Bool) {o : Nat} (i : Nat) (h : enginePlain o) :
    (s.run fun _ => b.counted off a).b.rdB o i = b.rdB o i := congrArg (bit · i) (run_counted_rd s b off a h)

/-- A request that joined its queue still stands there once the write that made it is counted. -/
theorem run_counted_joined (s : State) {b : Block} (off : Nat) (a : Bool) {e : Nat} {q : List Nat} {rebuild : Bool}
    (h : b.joined e q rebuild) : (s.run fun _ => b.counted off a).b.joined e q rebuild := by
  unfold Block.joined
  rw [run_stk, run_eng, run_counted_rdB _ _ _ _ _ (enginePlain_engState e), counted_stk, counted_eng]
  exact h

theorem engLoadStart_gives (s : State) (m : Master) (e : Fin 64) (v : Word) (ecc : Ecc)
    (ha : s.b.accepts m (ENG_LOAD_CTRL e) = true) (hv : fld v 1 2 = 0) (hidle : s.rdB (ENG_STATE e) 4 = false)
    (hqueue : (s.b.stk (stackOf e)).builder ≠ []) (hlit : s.b.modState = stHold ∨ s.b.modState = stActive)
    (hmap : s.rdB (ASG_STAT e) 1 = true) (hcal : (s.b.stk (stackOf e)).cal = none) :
    Gives (.engLoadStart m e v ecc) s fun t => t.b.joined e (s.b.stk (stackOf e)).builder false := by
  have h0 : bit (v ||| 1) 0 = true := by simp [bit]
  have h1 : bit (v ||| 1) 1 = false := by rw [bit_or, bit_of_fld_zero 1 hv (by decide)]; decide
  have h2 : bit (v ||| 1) 2 = false := by rw [bit_or, bit_of_fld_zero 2 hv (by decide)]; decide
  have hkeep : s.b.fresh.calAbandon e 4 = s.b.fresh := by
    have hcal' : (s.b.fresh.stk (stackOf e)).cal = none := hcal
    rw [Block.calAbandon, hcal']
  refine Gives.of_gate (eff := loadCtrlWrite e (v ||| 1) ecc) rfl ha (loadCtrlWrite_start h0 h1 h2 hidle hlit hmap) ?_
  refine run_counted_joined s _ _ ?_
  rw [hkeep]
  have hbuilder : ((s.b.fresh.calDrop (stackOf e) (·.eng == e.val)).stk (stackOf e)).builder =
      (s.b.stk (stackOf e)).builder := calDrop_builder ..
  rw [← hbuilder]
  exact requestBuild_joined _ false ecc (hbuilder ▸ hqueue)

theorem engLoadRebuild_gives (s : State) (m : Master) (e : Fin 64) (v : Word)
    (ha : s.b.accepts m (ENG_LOAD_CTRL e) = true) (hv0 : fld v 0 1 = 0) (hv2 : fld v 2 1 = 0)
    (hidle : s.rdB (ENG_STATE e) 4 = false) (hqueue : (s.b.stk (stackOf e)).builder ≠ [])
    (hmodel : s.rdB (ENG_STATE e) 2 = true) :
    Gives (.engLoadRebuild m e v) s fun t => t.b.joined e (s.b.stk (stackOf e)).builder true := by
  have h0 : bit (v ||| 2) 0 = false := by rw [bit_or, bit_of_fld_zero 0 hv0 (by decide)]; decide
  have h1 : bit (v ||| 2) 1 = true := by simp [bit]
  have h2 : bit (v ||| 2) 2 = false := by rw [bit_or, bit_of_fld_zero 2 hv2 (by decide)]; decide
  exact Gives.of_gate (eff := loadCtrlWrite e (v ||| 2) ⟨[], []⟩) rfl ha (loadCtrlWrite_rebuild h0 h1 h2 hidle hmodel)
    (run_counted_joined s _ _ (requestBuild_joined s.b.fresh true ⟨[], []⟩ hqueue))

theorem abortBuild_running {b : Block} {e : Nat} (h : b.rdB (ENG_STATE e) 4 = true) :
    b.abortBuild e = (b.buildOver e).updEng e fun x => { x with bg := .empty } := by
  simp [Block.abortBuild, h]

theorem engLoadAbort_gives (s : State) (m : Master) (e : Fin 64) (v : Word)
    (ha : s.b.accepts m (ENG_LOAD_CTRL e) = true) (hv : fld v 0 2 = 0) (hbusy : s.rdB (ENG_STATE e) 4 = true) :
    Gives (.engLoadAbort m e v) s fun t => (t.b.eng e).build = none ∧ t.rdB (ENG_STATE e) 4 = false ∧
      t.rdB (ENG_LOAD_STAT e) 7 = true ∧ (t.b.eng e).fg = (s.b.eng e).fg := by
  have h0 : bit (v ||| 4) 0 = false := by rw [bit_or, bit_of_fld_zero 0 hv (by decide)]; decide
  have h1 : bit (v ||| 4) 1 = false := by rw [bit_or, bit_of_fld_zero 1 hv (by decide)]; decide
  have h2 : bit (v ||| 4) 2 = true := by simp [bit]
  have hrun := abortBuild_running (b := s.b.fresh) hbusy
  have heng : ((s.b.fresh.abortBuild e).loadErr e 7).eng e = { s.b.fresh.eng e with build := none, bg := .empty } := by
    rw [eng_loadErr, hrun, Block.eng_updEng_same, eng_buildOver]
  have hstate : ((s.b.fresh.abortBuild e).loadErr e 7).rdB (ENG_STATE e) 4 = false := by
    rw [loadErr_busy, hrun, Block.rdB_updEng, buildOver_busy]
  have hstat : ((s.b.fresh.abortBuild e).loadErr e 7).rdB (ENG_LOAD_STAT e) 7 = true := loadErr_stat _ _ (by decide)
  refine Gives.of_gate (eff := loadCtrlWrite e (v ||| 4) ⟨[], []⟩) rfl ha (loadCtrlWrite_abort h0 h1 h2 hbusy) ?_
  rw [run_eng, counted_eng, heng]
  exact ⟨rfl, (run_counted_rdB _ _ _ _ _ (enginePlain_engState e)).trans hstate,
    (run_counted_rdB _ _ _ _ _ (enginePlain_loadStat e)).trans hstat, rfl⟩

theorem queuedBuildStart_gives (s : State) (st : Fin 4) (ecc : Ecc) (e : Fin 64) (q : Build)
    (hhead : (s.b.stk st).builder.head? = some e.val) (hq : (s.b.eng e).build = some q) (hwait : q.waiting = true)
    (hrehash : s.b.host.rehash = none) : Gives (.queuedBuildStart st ecc) s fun t => t.b.taken e := by
  refine Gives.of_done (f := queuedBuildStart st ecc) rfl ?_
  unfold Block.taken
  rw [run_eng, run_rdB_engine _ _ _ (enginePlain_engState e)]
  exact queuedBuildStart_taken s.b.fresh ecc hhead hq hwait hrehash

theorem buildComplete_gives (s : State) (e : Fin 64) (q : Build) (hq : (s.b.eng e).build = some q)
    (hwait : q.waiting = false) (hcal : q.cal = false) (hnone : (s.b.stk (stackOf e)).calDone = []) :
    Gives (.buildComplete e) s fun t => (t.b.eng e).bg = q.half ∧ (t.b.eng e).built = some q ∧
      (t.b.eng e).build = none ∧ t.rdB (ENG_STATE e) 3 = true ∧ t.rdB (ENG_STATE e) 4 = false ∧
      t.rdB (ENG_LOAD_STAT e) 1 = true := by
  have hend : buildComplete e s.b.fresh = s.b.fresh.builtWaits e q := buildComplete_builtWaits _ hq hwait hcal hnone
  refine Gives.of_done (f := buildComplete e) rfl ?_
  rw [run_congr (g := fun b => b.builtWaits e q) hend, run_eng, eng_builtWaits]
  exact ⟨rfl, rfl, rfl, (run_rdB_engine _ _ 3 (enginePlain_engState e)).trans (builtWaits_loaded ..),
    (run_rdB_engine _ _ 4 (enginePlain_engState e)).trans (builtWaits_busy ..),
    (run_rdB_engine _ _ 1 (enginePlain_loadStat e)).trans (builtWaits_done ..)⟩

theorem loadModeScanComplete_gives (s : State) (e : Fin 64) (hmode : s.rdB (ENG_STATE e) 5 = true)
    (hrow : 512 ≤ (s.b.eng e).scanNext) (hmint : s.b.mintQ = []) :
    Gives (.loadModeScanComplete e) s fun t => t.rdB (ENG_STATE e) 5 = false ∧
      t.rdF (ENG_SCAN e) 16 16 = (s.rdF (ENG_SCAN e) 16 16 + 1) % 65536 := by
  have hend : loadScanDone e s.b.fresh = s.b.fresh.scanCounted e := loadScanDone_idle _ hmode hrow hmint
  refine Gives.of_done (f := loadScanDone e) rfl ⟨?_, ?_⟩
  · refine (run_rdB_engine s _ 5 (enginePlain_engState e)).trans ?_
    rw [hend]
    exact scanCounted_mode ..
  · refine (congrArg (fld · 16 16) (run_rd_engine s _ (enginePlain_scan e))).trans ?_
    rw [hend]
    exact scanCounted_count ..

theorem refreshScanStart_gives (s : State) (e : Fin 64) (hlit : s.b.modState = stHold ∨ s.b.modState = stActive)
    (hidle : s.rdB (ENG_SCAN e) 9 = false) (hsearch : ((s.b.eng e).search.any fun q => !q.waiting) = false) :
    Gives (.refreshScanStart e) s fun t => t.rdB (ENG_SCAN e) 9 = true ∧ (t.b.eng e).scanNext = 0 := by
  have hstart := scanStart_starts s.b.fresh hlit hidle hsearch
  refine Gives.of_done (f := scanStart e) rfl ⟨?_, ?_⟩
  · refine (run_rdB_engine s _ 9 (enginePlain_scan e)).trans ?_
    rw [hstart]
    exact scanStart_scanning _
  · rw [run_eng, hstart, Block.eng_updEng_same]

/-- What the command of a row does. -/
theorem exec_refreshRowWrite (s : State) (e : Fin 64) (ce : Nat) (ue : List (Fin 102)) :
    exec (.refreshRowWrite e ce ue) s = s.done (rowWrite e ce (ue.map (·.val))) := rfl

theorem refreshRowWrite_gives (s : State) (e : Fin 64) (ce : Nat) (ue : List (Fin 102))
    (hscan : s.rdB (ENG_SCAN e) 9 = true) (hsearch : ((s.b.eng e).search.any fun q => !q.waiting) = false)
    (hrow : (s.b.eng e).scanNext < 512) :
    Gives (.refreshRowWrite e ce ue) s fun t => (t.b.eng e).scanNext = (s.b.eng e).scanNext + 1 ∧
      (t.b.eng e).oldRows = (s.b.eng e).oldRows.filter (· != (s.b.eng e).scanNext) := by
  have hrows := rowWrite_scanRows s.b.fresh ce (ue.map (·.val)) hscan hsearch hrow
  refine Gives.of_done (exec_refreshRowWrite s e ce ue) ?_
  rw [run_eng]
  exact scanRows_eq.1 hrows

/-- Settles O19: what each command of the builder and of the scan gives. -/
theorem loadsAndScans : Obligations.LoadsAndScans := by
  unfold Obligations.LoadsAndScans
  refine ⟨?_, ?_, ?_, ?_, ?_, ?_, ?_, ?_⟩
  · intro s m e v ecc ⟨ha, hv⟩ ⟨hidle, hqueue⟩ ⟨hlit, hmap⟩ hcal
    exact engLoadStart_gives s m e v ecc ha hv hidle hqueue hlit hmap hcal
  · intro s m e v ⟨ha, hv0, hv2⟩ ⟨hidle, hqueue⟩ hmodel
    exact engLoadRebuild_gives s m e v ha hv0 hv2 hidle hqueue hmodel
  · intro s m e v ⟨ha, hv⟩ hbusy
    exact engLoadAbort_gives s m e v ha hv hbusy
  · intro s st ecc e q ⟨hhead, _⟩ ⟨hq, hwait, hrehash⟩
    exact queuedBuildStart_gives s st ecc e q hhead hq hwait hrehash
  · intro s e q ⟨hq, hwait, hcal⟩ hnone
    exact buildComplete_gives s e q hq hwait hcal hnone
  · intro s e ⟨hmode, hrow⟩ hmint
    exact loadModeScanComplete_gives s e hmode hrow hmint
  · intro s e hlit ⟨hidle, hsearch⟩
    exact refreshScanStart_gives s e hlit hidle hsearch
  · intro s e ce ue ⟨hscan, hsearch⟩ hrow
    exact refreshRowWrite_gives s e ce ue hscan hsearch hrow

end Sys2Proof.Machine
end

section
/-! SUPPORT. Regions and their lock states: what a change of state leaves of the registers, the engine and its region (R118,
R119, R123). -/

namespace Sys2Proof.Machine

variable (b : Block)

/-! ## Regions -/

@[simp] theorem region_updRegion (e q : Nat) (f : Region → Region) : (b.updRegion e q f).region e q = f (b.region e q) := by
  rw [Block.region, Block.updRegion, Block.eng_updEng_same]
  exact SMap.get_set_same ..

theorem region_congr {b c : Block} {e : Nat} (h : c.eng e = b.eng e) (q : Nat) : c.region e q = b.region e q := by
  rw [Block.region, Block.region, h]

@[simp] theorem region_wr (o : Nat) (v : Word) (e q : Nat) : (b.wr o v).region e q = b.region e q := rfl
@[simp] theorem region_wrF (o l w x e q : Nat) : (b.wrF o l w x).region e q = b.region e q := rfl
@[simp] theorem region_wrB (o i : Nat) (x : Bool) (e q : Nat) : (b.wrB o i x).region e q = b.region e q := rfl
@[simp] theorem region_bump (o n e q : Nat) : (b.bump o n).region e q = b.region e q := rfl
@[simp] theorem region_raise (p i e q : Nat) : (b.raise p i).region e q = b.region e q := rfl
@[simp] theorem region_ev (c i : Nat) (l : List (Nat × Nat)) (e q : Nat) : (b.ev c i l).region e q = b.region e q := rfl
@[simp] theorem region_updStk (s : Nat) (f : Stk → Stk) (e q : Nat) : (b.updStk s f).region e q = b.region e q := rfl
@[simp] theorem region_fresh (e q : Nat) : b.fresh.region e q = b.region e q := rfl
@[simp] theorem stk_updRegion (e q : Nat) (f : Region → Region) (s : Nat) : (b.updRegion e q f).stk s = b.stk s := rfl
@[simp] theorem rd_updRegion (e q : Nat) (f : Region → Region) (o : Nat) : (b.updRegion e q f).rd o = b.rd o := rfl
@[simp] theorem lockSt_updRegion (e q : Nat) (f : Region → Region) (d r : Nat) :
    (b.updRegion e q f).lockSt d r = b.lockSt d r := rfl
@[simp] theorem lockSt_fresh (e q : Nat) : b.fresh.lockSt e q = b.lockSt e q := rfl

theorem region_when {p : Bool} {f : Block → Block} {e q : Nat} (h : (f b).region e q = b.region e q) :
    (b.when p f).region e q = b.region e q := Block.when_keep b (·.region e q) p f h

theorem run_region (s : State) (f : Block → Block) (e q : Nat) : (s.run f).b.region e q = (f s.b.fresh).region e q :=
  region_congr (run_eng s f e) q
theorem counted_region (off : Nat) (a : Bool) (e q : Nat) : (b.counted off a).region e q = b.region e q :=
  region_congr (counted_eng b off a e) q

/-! ## The registers of a region -/

/-- The offset of a register in the pages of its engine. -/
theorem enginePlain_of {e o : Nat} (h : engBase e ≤ o) (hseq : (o - engBase e) % 0x1000 ≠ 0x20) : enginePlain o := by
  have := engBase_page e
  unfold enginePlain
  omega

theorem enginePlain_regionState (e q : Nat) : enginePlain (LCK_R_STATE e q) := by
  refine enginePlain_of (e := e) ?_ ?_ <;> simp only [LCK_R_STATE, P_LCK] <;> omega
theorem enginePlain_regionCfg (e : Nat) {q : Nat} (hq : q < 64) : enginePlain (LCK_R_CFG e q) := by
  refine enginePlain_of (e := e) ?_ ?_ <;> simp only [LCK_R_CFG, P_LCK] <;> omega
theorem enginePlain_regionSword (e q : Nat) : enginePlain (LCK_R_SWORD e q) := by
  refine enginePlain_of (e := e) ?_ ?_ <;> simp only [LCK_R_SWORD, P_LCK] <;> omega
theorem enginePlain_regionHeat (e q : Nat) : enginePlain (LCK_R_HEAT e q) := by
  refine enginePlain_of (e := e) ?_ ?_ <;> simp only [LCK_R_HEAT, P_LCK] <;> omega
theorem enginePlain_regionTemp (e q : Nat) : enginePlain (LCK_R_RTEMP e q) := by
  refine enginePlain_of (e := e) ?_ ?_ <;> simp only [LCK_R_RTEMP, P_LCK] <;> omega
theorem enginePlain_asgStat (e : Nat) : enginePlain (ASG_STAT e) := by
  refine enginePlain_of (e := e) ?_ ?_ <;> simp only [ASG_STAT, P_ASG] <;> omega

theorem lockSt_congr {b c : Block} {e q : Nat} (h : c.rd (LCK_R_STATE e q) = b.rd (LCK_R_STATE e q)) :
    c.lockSt e q = b.lockSt e q := congrArg (fld · 0 3) h

theorem run_lockSt (s : State) (f : Block → Block) (e q : Nat) : (s.run f).b.lockSt e q = (f s.b.fresh).lockSt e q :=
  lockSt_congr (run_rd_engine s f (enginePlain_regionState e q))
theorem run_counted_lockSt (s : State) (b : Block) (off : Nat) (a : Bool) (e q : Nat) :
    (s.run fun _ => b.counted off a).b.lockSt e q = b.lockSt e q :=
  lockSt_congr (run_counted_rd s b off a (enginePlain_regionState e q))

theorem run_counted_region (s : State) (b : Block) (off : Nat) (a : Bool) (e q : Nat) :
    (s.run fun _ => b.counted off a).b.region e q = b.region e q := by rw [run_region, counted_region]

/-- The region numbers of an engine. -/
theorem lt_of_mem_regionsOf {e q : Nat} (h : q ∈ regionsOf e) : q < 64 := by
  have := List.mem_range.1 h
  split at this <;> omega

/-! ## A change of state (R119) -/

/-- A region as it is after a change from state `old` to state `st`, other than Off. -/
def Region.entered (r : Region) (old st : Nat) : Region :=
  { r with wide := if st = 3 ∨ st = 0 then 0 else r.wide, rail := if old = 2 ∧ st = 3 then r.rail else 0, clear := 0,
           back := none, again := false, errs := if st = 5 ∨ st = 0 then [] else r.errs, means := [], swept := 0,
           bofs := if st = 4 then r.bofs else 0 }

/-- What an Off region has lost beside (R144). -/
def Region.off (r : Region) : Region :=
  { r with uB := 0, s := [], outs := [], sB := 0, sD := 0, b := 0, move := 0, sword := none }

/-- A region of engine `e` put in state `st`, its registers showing it. -/
def Block.stateShown (b : Block) (e q st : Nat) : Block :=
  let b := (b.wrF (LCK_R_STATE e q) 0 3 st).updRegion e q fun r => r.entered (b.lockSt e q) st
  let b := b.when (st = 0) fun b => b.updRegion e q Region.off
  let b := b.when (st = 0) fun b => (b.wrF (LCK_R_BIAS e q) 0 14 0).wrF (LCK_R_STATE e q) 4 2 0
  b.showUnlocked e q

/-- The notice of a region that has failed (R119). -/
def Block.failNoted (b : Block) (e st : Nat) : Block := if st = 7 then (b.raise (P_LCK e) 2).ev 0x3A04 e else b

/-- A change of state: shown, and the engine's calibration abandoned when the region leaves Locked (R337). -/
theorem setLock_eq (e q st : Nat) : b.setLock e q st =
    if b.lockSt e q = st then b
    else ((b.stateShown e q st).when (b.lockSt e q = 3) fun b => b.calAbandon e 3).failNoted e st := rfl

/-- A region that leaves its state abandons no calibration: it is not Locked, or none runs in its stack. -/
def Block.leavesCal (b : Block) (e q : Nat) : Prop := b.lockSt e q = 3 → (b.stk (stackOf e)).cal = none

variable {b}

theorem leavesCal_of_ne {e q : Nat} (h : b.lockSt e q ≠ 3) : b.leavesCal e q := fun h3 => absurd h3 h
theorem leavesCal_of_none {e : Nat} (h : (b.stk (stackOf e)).cal = none) (q : Nat) : b.leavesCal e q := fun _ => h

theorem calAbandon_none {e : Nat} (h : (b.stk (stackOf e)).cal = none) (cause : Nat) : b.calAbandon e cause = b := by
  rw [Block.calAbandon, h]

/-- `Within.trans` from its end: the last step, then what came before it. -/
theorem Within.after {w : List Nat} {E : Nat → Prop} {a c : Block} (k : Within w E b c) (h : Within w E a b) :
    Within w E a c := h.trans k

/-- The registers of a region's page that a change of its state may write. -/
def stateRegs (e q : Nat) : List Nat :=
  [LCK_R_STATE e q, LCK_R_BIAS e q, LCK_STAT e, LCK_UNLK_LO e, LCK_UNLK_HI e, PG_ISTAT (P_LCK e)]

theorem showUnlocked_own {w : List Nat} (E : Nat → Prop) {e q : Nat} (hw : ∀ o ∈ stateRegs e q, o ∈ w) :
    Within w E b (b.showUnlocked e q) :=
  (Within.wrF (hw _ (by simp [stateRegs])) ..).trans
    (((Within.wr (hw _ (by simp [stateRegs])) _).trans (Within.wr (hw _ (by simp [stateRegs])) _)).trans
      (Within.wr (hw _ (by simp [stateRegs])) _))

theorem stateShown_within (e q st : Nat) : Within (stateRegs e q) (· = e) b (b.stateShown e q st) := by
  have hstate : LCK_R_STATE e q ∈ stateRegs e q := by simp [stateRegs]
  have hbias : LCK_R_BIAS e q ∈ stateRegs e q := by simp [stateRegs]
  exact (showUnlocked_own _ fun _ => id).after <| (Within.when ((Within.wrF hbias ..).trans (Within.wrF hstate ..)) _).after <|
    (Within.when (f := fun b => b.updRegion e q Region.off) (updRegion_within ..) _).after <|
    (updRegion_within ..).after (Within.wrF hstate ..)

theorem failNoted_within (e q st : Nat) : Within (stateRegs e q) (· = e) b (b.failNoted e st) :=
  Within.ite ((Within.raise (by simp [stateRegs]) 2).trans (Within.ev ..)) (.refl ..)

/-- A change of state that abandons no calibration. -/
theorem setLock_of_leavesCal {e q st : Nat} (h : b.leavesCal e q) (hne : b.lockSt e q ≠ st) :
    b.setLock e q st = (b.stateShown e q st).failNoted e st := by
  rw [setLock_eq, if_neg hne]
  by_cases h3 : b.lockSt e q = 3
  · have hcal : ((b.stateShown e q st).stk (stackOf e)).cal = none := by
      rw [Block.stk, (stateShown_within e q st).rest]
      exact h h3
    rw [decide_eq_true h3, Block.when_true, calAbandon_none hcal]
  · rw [decide_eq_false h3, Block.when_false]

theorem setLock_within {e q : Nat} (h : b.leavesCal e q) (st : Nat) :
    Within (stateRegs e q) (· = e) b (b.setLock e q st) := by
  by_cases hst : b.lockSt e q = st
  · rw [setLock_eq, if_pos hst]
    exact .refl ..
  · rw [setLock_of_leavesCal h hst]
    exact (stateShown_within e q st).trans (failNoted_within ..)

theorem failNoted_rd (e st : Nat) {o : Nat} (h : o ≠ PG_ISTAT (P_LCK e)) : (b.failNoted e st).rd o = b.rd o := by
  unfold Block.failNoted
  split
  · rw [Block.rd_ev, Block.rd_raise_ne _ _ h]
  · rfl

theorem regionState_ne_istat (e q : Nat) : LCK_R_STATE e q ≠ PG_ISTAT (P_LCK e) := by unfold LCK_R_STATE PG_ISTAT; omega
theorem regionState_ne_summary (e q : Nat) :
    LCK_R_STATE e q ≠ LCK_STAT e ∧ LCK_R_STATE e q ≠ LCK_UNLK_LO e ∧ LCK_R_STATE e q ≠ LCK_UNLK_HI e := by
  simp only [LCK_R_STATE, LCK_STAT, LCK_UNLK_LO, LCK_UNLK_HI]
  omega
theorem regionState_ne_bias (e q : Nat) : LCK_R_STATE e q ≠ LCK_R_BIAS e q := by
  simp only [LCK_R_STATE, LCK_R_BIAS]
  omega

/-- The state register once `UNLOCKED` is shown. -/
theorem showUnlocked_state (e q : Nat) : (b.showUnlocked e q).rd (LCK_R_STATE e q) =
    setFld (b.rd (LCK_R_STATE e q)) 3 1 (b2n (b.lockSt e q != 3 || b.heaterTest e q)) := by
  obtain ⟨hstat, hlo, hhi⟩ := regionState_ne_summary e q
  simp only [Block.showUnlocked, Block.lockSummary, Block.rd_wr_ne _ _ hstat, Block.rd_wr_ne _ _ hlo,
    Block.rd_wr_ne _ _ hhi, Block.rd_wrF]

/-- A state register of which `UNLOCKED` alone is written. -/
theorem showUnlocked_fld (e q : Nat) {lo w : Nat} (h : lo + w ≤ 3 ∨ 4 ≤ lo) :
    fld ((b.showUnlocked e q).rd (LCK_R_STATE e q)) lo w = fld (b.rd (LCK_R_STATE e q)) lo w := by
  rw [showUnlocked_state, fld_setFld_ne _ _ _ _ _ _ (by decide) (by omega)]

/-- The state register of a region put in state `st`, but for `UNLOCKED`. -/
theorem stateShown_fld (e q st : Nat) {lo w : Nat} (h : lo + w ≤ 3 ∨ 4 ≤ lo) :
    fld ((b.stateShown e q st).rd (LCK_R_STATE e q)) lo w =
      fld (if st = 0 then setFld (setFld (b.rd (LCK_R_STATE e q)) 0 3 st) 4 2 0
        else setFld (b.rd (LCK_R_STATE e q)) 0 3 st) lo w := by
  unfold Block.stateShown
  dsimp only
  rw [showUnlocked_fld _ _ h]
  by_cases hst : st = 0
  · simp only [hst, decide_true, Block.when_true, if_true, Block.rd_wrF, Block.rd_wrF_ne _ _ _ _ (regionState_ne_bias e q),
      rd_updRegion]
  · simp only [hst, decide_false, Block.when_false, if_false, rd_updRegion, Block.rd_wrF]

theorem lockSt_stateShown (e q : Nat) {st : Nat} (hst : st < 8) : (b.stateShown e q st).lockSt e q = st := by
  rw [Block.lockSt, Block.rdF, stateShown_fld e q st (by decide)]
  split
  · rw [fld_setFld_ne _ _ _ _ _ _ (by decide) (by decide), fld_setFld _ _ _ _ (by decide)]
    exact Nat.mod_eq_of_lt hst
  · rw [fld_setFld _ _ _ _ (by decide)]
    exact Nat.mod_eq_of_lt hst

/-- A region is in the state it was put in. -/
theorem lockSt_setLock {e q st : Nat} (h : b.leavesCal e q) (hst : st < 8) : (b.setLock e q st).lockSt e q = st := by
  by_cases heq : b.lockSt e q = st
  · rw [setLock_eq, if_pos heq, heq]
  · rw [setLock_of_leavesCal h heq, lockSt_congr (failNoted_rd e st (regionState_ne_istat e q)),
      lockSt_stateShown e q hst]

theorem bit_eq_fld (v : Word) (i : Nat) : bit v i = (fld v i 1).testBit 0 := by
  rw [fld_testBit]
  simp [bit]

/-- The flags of the state register that a change to a state other than Off leaves. -/
theorem setLock_flag {e q st : Nat} (h : b.leavesCal e q) (hst : st ≠ 0) {i : Nat} (hi : 4 ≤ i) :
    (b.setLock e q st).rdB (LCK_R_STATE e q) i = b.rdB (LCK_R_STATE e q) i := by
  by_cases heq : b.lockSt e q = st
  · rw [setLock_eq, if_pos heq]
  · rw [setLock_of_leavesCal h heq, Block.rdB, failNoted_rd e st (regionState_ne_istat e q), bit_eq_fld,
      stateShown_fld e q st (.inr hi), if_neg hst, fld_setFld_ne _ _ _ _ _ _ (by decide) (by omega), ← bit_eq_fld, Block.rdB]

theorem region_failNoted (e st d q : Nat) : (b.failNoted e st).region d q = b.region d q := by
  unfold Block.failNoted
  split
  · rw [region_ev, region_raise]
  · rfl

/-- The region itself after a change to a state other than Off. -/
theorem region_setLock {e q st : Nat} (h : b.leavesCal e q) (hne : b.lockSt e q ≠ st) (hst : st ≠ 0) :
    (b.setLock e q st).region e q = (b.region e q).entered (b.lockSt e q) st := by
  rw [setLock_of_leavesCal h hne, region_failNoted]
  unfold Block.stateShown
  dsimp only
  rw [region_congr ((showUnlocked_own (w := stateRegs e q) noEngine fun _ => id).eng e id),
    decide_eq_false hst, Block.when_false, Block.when_false, region_updRegion, region_wrF]

end Sys2Proof.Machine
end

section
/-! SUPPORT. The lock events of a region (R107, R119, R120, R122): sweeps broken off, failed code checks, and what each event
leaves of the region's state. -/

namespace Sys2Proof.Machine

variable {b : Block}

/-! ## Sweeps broken off (R95, R123) -/

theorem sweepOff_within {w : List Nat} (e g : Nat) : Within w (· = e) b (b.sweepOff e g) :=
  Within.each (fun _ _ _ => Within.ite (updRegion_within ..) (.refl ..)) b

theorem sweepBreak_within (e q : Nat) : Within [ASG_STAT e] (· = e) b (b.sweepBreak e q) := by
  unfold Block.sweepBreak
  split
  · exact .refl ..
  · refine Within.ite (.refl ..) ?_
    exact (Within.updOwn _).after <| (Within.ev ..).after <| (Within.setB (by simp) 5).after <|
      Within.when (sweepOff_within ..) _

theorem lockReg_ne_asgStat {e o : Nat} (h : P_LCK e ≤ o ∧ o < P_LCK e + 0x1000) : o ∉ [ASG_STAT e] := by
  simp only [P_LCK] at h
  simp only [ASG_STAT, P_ASG, List.mem_singleton]
  omega

theorem sweepBreak_state (e : Nat) {q : Nat} (hq : q < 64) :
    (b.sweepBreak e q).rd (LCK_R_STATE e q) = b.rd (LCK_R_STATE e q) :=
  (sweepBreak_within e q).rd _ (lockReg_ne_asgStat (by unfold LCK_R_STATE; omega))

theorem lockSt_sweepBreak (e : Nat) {q : Nat} (hq : q < 64) : (b.sweepBreak e q).lockSt e q = b.lockSt e q :=
  lockSt_congr (sweepBreak_state e hq)

@[simp] theorem stk_ev (c i : Nat) (l : List (Nat × Nat)) (s : Nat) : (b.ev c i l).stk s = b.stk s := rfl

theorem Within.stk {w : List Nat} {E : Nat → Prop} {c : Block} (h : Within w E b c) (s : Nat) : c.stk s = b.stk s := by
  rw [Block.stk, h.rest]
  rfl

/-- Whether a calibration would be abandoned depends on the region's state and on the stack. -/
theorem Block.leavesCal.of_eq {c : Block} {e q : Nat} (h : b.leavesCal e q) (hst : c.lockSt e q = b.lockSt e q)
    (hstk : c.stk (stackOf e) = b.stk (stackOf e)) : c.leavesCal e q := fun h3 => by
  rw [hstk]
  exact h (hst ▸ h3)

theorem Block.leavesCal.sweepBreak {e q : Nat} (h : b.leavesCal e q) (hq : q < 64) : (b.sweepBreak e q).leavesCal e q :=
  h.of_eq (lockSt_sweepBreak e hq) ((sweepBreak_within e q).stk _)

/-! ## Entry to Re-search (R119, R120) -/

theorem regionState_ne_rscnt (e q : Nat) : LCK_R_STATE e q ≠ LCK_RSCNT e := by unfold LCK_R_STATE LCK_RSCNT; omega

theorem lockSt_enterResearch {e q : Nat} (h : b.leavesCal e q) : (b.enterResearch e q).lockSt e q = 6 := by
  rw [Block.enterResearch, lockSt_congr (Block.rd_bump_ne _ _ (regionState_ne_rscnt e q))]
  exact lockSt_setLock h (by decide)

theorem enterResearch_flag {e q i : Nat} (h : b.leavesCal e q) (hi : 4 ≤ i) :
    (b.enterResearch e q).rdB (LCK_R_STATE e q) i = b.rdB (LCK_R_STATE e q) i := by
  rw [Block.enterResearch, Block.rdB, Block.rd_bump_ne _ _ (regionState_ne_rscnt e q)]
  exact setLock_flag h (by decide) hi

/-! ## A failed code check (R119) -/

/-- A region of which a failed code check is noted: its sweep broken off, its peak excluded, `WRONG_LINE` shown. -/
def Block.wrongNoted (b : Block) (e q : Nat) (corr : List Int) : Block :=
  let b := ((b.sweepBreak e q).exclude e q).setB (LCK_R_STATE e q) 4
  let b := b.setB (if q < 32 then LCK_WRONG_LO e else LCK_WRONG_HI e) (q % 32)
  (b.raise (P_LCK e) 1).ev 0x3A03 e ((List.range 4).map fun k => (1, unsx 8 (corr.getD k 0 / 256)))

theorem wrongLine_eq (e q : Nat) (corr : List Int) : b.wrongLine e q corr = (b.wrongNoted e q corr).enterResearch e q := rfl

theorem exclude_within (e q : Nat) : Within [LCK_R_STATE e q] (· = e) b (b.exclude e q) :=
  (Within.wrF (by simp) ..).after (updRegion_within ..)

theorem wrongNoted_state (e : Nat) {q : Nat} (hq : q < 64) (corr : List Int) :
    ∃ n, (b.wrongNoted e q corr).rd (LCK_R_STATE e q) = setFld (setFld (b.rd (LCK_R_STATE e q)) 8 3 n) 4 1 (b2n true) := by
  have hwrong : LCK_R_STATE e q ≠ if q < 32 then LCK_WRONG_LO e else LCK_WRONG_HI e := by
    simp only [LCK_R_STATE, LCK_WRONG_LO, LCK_WRONG_HI]
    split <;> omega
  refine ⟨(((b.sweepBreak e q).updRegion e q fun r =>
    { r with excl := (r.excl ++ [r.uB]).drop (r.excl.length + 1 - 4) }).region e q).excl.length, ?_⟩
  rw [Block.wrongNoted, Block.rd_ev, Block.rd_raise_ne _ _ (regionState_ne_istat e q), Block.rd_setB_ne _ _ hwrong,
    Block.setB, Block.wrB, Block.rd_wrF, Block.exclude, Block.showExcl, Block.rd_wrF, rd_updRegion, sweepBreak_state e hq]

theorem wrongNoted_stk (e q : Nat) (corr : List Int) (s : Nat) : (b.wrongNoted e q corr).stk s = b.stk s := by
  rw [Block.wrongNoted, stk_ev, Block.stk_raise, Block.stk_setB, Block.stk_setB, (exclude_within e q).stk,
    (sweepBreak_within e q).stk]

theorem lockSt_wrongNoted (e : Nat) {q : Nat} (hq : q < 64) (corr : List Int) :
    (b.wrongNoted e q corr).lockSt e q = b.lockSt e q := by
  obtain ⟨n, hn⟩ := wrongNoted_state (b := b) e hq corr
  rw [Block.lockSt, Block.rdF, hn, fld_setFld_ne _ _ _ _ _ _ (by decide) (by decide),
    fld_setFld_ne _ _ _ _ _ _ (by decide) (by decide)]
  rfl

theorem wrongNoted_flag (e : Nat) {q : Nat} (hq : q < 64) (corr : List Int) :
    (b.wrongNoted e q corr).rdB (LCK_R_STATE e q) 4 = true := by
  obtain ⟨n, hn⟩ := wrongNoted_state (b := b) e hq corr
  rw [Block.rdB, hn, bit_eq_fld, fld_setFld _ _ _ _ (by decide)]
  rfl

/-- A failed code check leads to Re-search, with `WRONG_LINE`. -/
theorem wrongLine_researches {e q : Nat} (hq : q < 64) (h : b.leavesCal e q) (corr : List Int) :
    (b.wrongLine e q corr).lockSt e q = 6 ∧ (b.wrongLine e q corr).rdB (LCK_R_STATE e q) 4 = true := by
  have hnoted : (b.wrongNoted e q corr).leavesCal e q := h.of_eq (lockSt_wrongNoted e hq corr) (wrongNoted_stk ..)
  rw [wrongLine_eq, lockSt_enterResearch hnoted, enterResearch_flag hnoted (by decide)]
  exact ⟨rfl, wrongNoted_flag e hq corr⟩

/-! ## The pilot code (R107, R119) -/

/-- Correlating takes free values and leaves the rest of the block. -/
theorem correlate_rest (b : Block) (xs : List (Nat × Nat)) :
    (b.correlate xs).2 = { b with free := (b.correlate xs).2.free } := by
  unfold Block.correlate
  refine List.foldlRecOn (motive := fun acc : List Int × Block => acc.2 = { b with free := acc.2.free }) _ _ rfl ?_
  intro acc hacc p _
  dsimp only
  split
  · exact hacc
  · dsimp only [Block.freeWord]
    rw [hacc]

/-- The correlations depend on the samples and the free values alone. -/
theorem correlate_congr {c : Block} (h : c.free = b.free) (xs : List (Nat × Nat)) :
    (c.correlate xs).1 = (b.correlate xs).1 := by
  unfold Block.correlate
  refine (List.foldl_rel (a := ([], c)) (b := ([], b))
    (r := fun x y : List Int × Block => x.1 = y.1 ∧ x.2.free = y.2.free) ⟨rfl, h⟩ ?_).1
  intro p _ x y ⟨hlist, hfree⟩
  dsimp only
  split
  · exact ⟨by rw [hlist], hfree⟩
  · exact ⟨by simp only [Block.freeWord, hlist, hfree], by simp only [Block.freeWord, hfree]⟩

/-- The correlations over the last `n` samples of a region. -/
def Block.corrs (b : Block) (e q n : Nat) : List Int := (b.correlate ((b.region e q).window n)).1

/-- The block after they were taken, the one with the region's pilot shown. -/
def Block.judged (b : Block) (e q n : Nat) : Block :=
  (b.correlate ((b.region e q).window n)).2.showCorr e q (b.corrs e q n)

theorem corrs_fresh (e q n : Nat) : b.fresh.corrs e q n = b.corrs e q n :=
  correlate_congr (b := b) (c := b.fresh) rfl ((b.region e q).window n)

theorem correlate_rd (xs : List (Nat × Nat)) (o : Nat) : (b.correlate xs).2.rd o = b.rd o := by
  rw [correlate_rest]
  rfl

theorem judged_rd (e q n : Nat) {o : Nat} (h : o ≠ LCK_R_STATE e q) : (b.judged e q n).rd o = b.rd o := by
  rw [Block.judged, Block.showCorr, Block.rd_wrF_ne _ _ _ _ h, correlate_rd]

theorem lockSt_judged (e q n : Nat) : (b.judged e q n).lockSt e q = b.lockSt e q := by
  rw [Block.lockSt, Block.rdF, Block.judged, Block.showCorr, Block.rd_wrF,
    fld_setFld_ne _ _ _ _ _ _ (by decide) (by decide), correlate_rd]
  rfl

theorem judged_stk (e q n s : Nat) : (b.judged e q n).stk s = b.stk s := by
  rw [Block.judged, correlate_rest]
  rfl

theorem judged_eng (e q n d : Nat) : (b.judged e q n).eng d = b.eng d := by
  rw [Block.judged, correlate_rest]
  rfl

/-- Showing a correlation does not change its judgement. -/
theorem codeJudge_judged (e : Nat) (q n : Nat) (corr : List Int) :
    (b.judged e q n).codeJudge e q corr = b.codeJudge e q corr := by
  have hcfg : LCK_R_CFG e q ≠ LCK_R_STATE e q := by unfold LCK_R_CFG LCK_R_STATE; omega
  have hcorr : LCK_CORR e ≠ LCK_R_STATE e q := by unfold LCK_CORR LCK_R_STATE; omega
  have htarget : (b.judged e q n).target32 e q corr = b.target32 e q corr := by
    simp only [Block.target32, Block.rdF, judged_rd e q n hcfg]
  unfold Block.codeJudge Block.rdF
  rw [htarget, judged_rd e q n hcorr]

/-- VERIFY_ATTEMPT_COMPLETE of a region that has the samples of an attempt. -/
theorem verifyEnd_ready {e q : Nat} (h2 : b.lockSt e q = 2) (hlen : b.verifyLen e ≤ (b.region e q).means.length) :
    verifyEnd e q b =
      if (b.codeJudge e q (b.corrs e q (b.verifyLen e))).1 then
        ((b.judged e q (b.verifyLen e)).clrB (LCK_R_STATE e q) 4).enterLocked e q true
      else if (b.codeJudge e q (b.corrs e q (b.verifyLen e))).2
          || ((b.judged e q (b.verifyLen e)).region e q).again then
        (b.judged e q (b.verifyLen e)).wrongLine e q (b.corrs e q (b.verifyLen e))
      else (b.judged e q (b.verifyLen e)).updRegion e q fun r => { r with again := true, means := [] } := by
  have hgo : ¬ (b.lockSt e q ≠ 2 ∨ (b.region e q).means.length < b.verifyLen e) := by omega
  rw [← codeJudge_judged e q (b.verifyLen e)]
  unfold verifyEnd
  rw [if_neg hgo]
  rfl

/-- CORRELATION_CHECK of a region that has its samples. -/
theorem corrCheck_ready {e q : Nat} (h3 : b.lockSt e q = 3) (hlen : 1024 ≤ (b.region e q).means.length) :
    corrCheck e q b =
      if !(b.codeJudge e q (b.corrs e q 1024)).1 && (b.codeJudge e q (b.corrs e q 1024)).2 then
        (b.judged e q 1024).wrongLine e q (b.corrs e q 1024)
      else b.judged e q 1024 := by
  have hgo : ¬ (b.lockSt e q ≠ 3 ∨ (b.region e q).means.length < 1024) := by omega
  rw [← codeJudge_judged e q 1024]
  unfold corrCheck Block.judged Block.corrs
  rw [if_neg hgo]

/-! ## Entry to Locked (R119, R121, R322) -/

theorem makeDue_rd (e q scope : Nat) (request : Bool) (o : Nat) : (b.makeDue e q scope request).rd o = b.rd o :=
  (makeDue_within (w := []) b e q scope request).rd o List.not_mem_nil

/-- The state register once a region has entered Locked is that of its change of state. -/
theorem enterLocked_state (e q : Nat) (relock : Bool) :
    (b.enterLocked e q relock).rd (LCK_R_STATE e q) = (b.setLock e q 3).rd (LCK_R_STATE e q) := by
  unfold Block.enterLocked
  dsimp only
  rw [Block.when_keep (g := fun c => c.rd (LCK_R_STATE e q)), rd_updRegion]
  rw [makeDue_rd, Block.rd_ev, Block.rd_raise_ne _ _ (regionState_ne_istat e q)]

theorem lockSt_enterLocked {e q : Nat} (relock : Bool) (h : b.leavesCal e q) : (b.enterLocked e q relock).lockSt e q = 3 :=
  (lockSt_congr (enterLocked_state e q relock)).trans (lockSt_setLock h (by decide))

theorem enterLocked_flag {e q i : Nat} (relock : Bool) (h : b.leavesCal e q) (hi : 4 ≤ i) :
    (b.enterLocked e q relock).rdB (LCK_R_STATE e q) i = b.rdB (LCK_R_STATE e q) i :=
  (congrArg (bit · i) (enterLocked_state e q relock)).trans (setLock_flag h (by decide) hi)

/-! ## Entry to Verify (R119, R145) -/

/-- The loop part of a region: its bias and its heater (R144). -/
def Region.loopPart (r : Region) : Int × Int := (r.uB, r.uH)

theorem lockSt_enterVerify {e q : Nat} (h : b.leavesCal e q) : (b.enterVerify e q).lockSt e q = 2 :=
  lockSt_setLock h (by decide)

theorem loopPart_enterVerify {e q : Nat} (h : b.leavesCal e q) (hne : b.lockSt e q ≠ 2) :
    ((b.enterVerify e q).region e q).loopPart = (b.region e q).loopPart := by
  rw [Block.enterVerify, Block.preset, region_updRegion, region_setLock h hne (by decide)]
  rfl

/-! ## Wide attempts (R108, R119) -/

/-- A wide attempt of a start-up measures `LCK_KBIAS`. -/
def Block.kbiasTaken (b : Block) (e q : Nat) (kbias : Option (BitVec 16)) : Block :=
  match kbias with
  | some k => if b.pw.startup.isSome then b.wrF (LCK_KBIAS e q) 0 16 k.toNat else b
  | none => b

theorem kbiasTaken_rd (e q : Nat) (kbias : Option (BitVec 16)) {o : Nat} (h : o ≠ LCK_KBIAS e q) :
    (b.kbiasTaken e q kbias).rd o = b.rd o := by
  unfold Block.kbiasTaken
  split
  · split
    · exact Block.rd_wrF_ne _ _ _ _ h
    · rfl
  · rfl

theorem region_kbiasTaken (e q : Nat) (kbias : Option (BitVec 16)) :
    (b.kbiasTaken e q kbias).region e q = b.region e q := by
  unfold Block.kbiasTaken
  split
  · split <;> rfl
  · rfl

/-- A peak that may be used: not excluded, and in the range of the loop part. -/
theorem wideEnd_peak {e q : Nat} {p h : Int} (h1 : b.lockSt e q = 1) (hex : excluded (b.region e q) p = false)
    (hp : -32768 ≤ p ∧ p ≤ 32767) (hh : 0 ≤ h ∧ h ≤ 32767) (kbias : Option (BitVec 16)) :
    wideEnd e q (some (p, h)) kbias b =
      ((b.kbiasTaken e q kbias).updRegion e q fun r => { r with uB := p, uH := h }).enterVerify e q := by
  have hok : ¬ (excluded ((b.kbiasTaken e q kbias).region e q) p = true ∨ p < -32768 ∨ 32767 < p ∨ h < 0 ∨ 32767 < h) := by
    rw [region_kbiasTaken, hex]
    simp only [Bool.false_eq_true, false_or]
    omega
  unfold wideEnd
  rw [if_neg (not_not_intro h1)]
  show (if excluded ((b.kbiasTaken e q kbias).region e q) p = true ∨ p < -32768 ∨ 32767 < p ∨ h < 0 ∨ 32767 < h then
    _ else _) = _
  rw [if_neg hok]
  rfl

theorem wideEnd_none {e q : Nat} (h1 : b.lockSt e q = 1) : wideEnd e q none none b = b.wideFailed e q := by
  unfold wideEnd
  rw [if_neg (not_not_intro h1)]

/-- The region with one wide attempt more. -/
def Block.wideCounted (b : Block) (e q : Nat) : Block := b.updRegion e q fun r => { r with wide := r.wide + 1 }

theorem wideFailed_eq (e q : Nat) : b.wideFailed e q =
    if b.rdF (LCK_RETRY e) 0 4 ≤ (b.region e q).wide + 1 then (b.wideCounted e q).setLock e q 7 else b.wideCounted e q := by
  unfold Block.wideFailed
  dsimp only
  rw [region_updRegion]
  rfl

/-! ## Light on a dark fibre (R122) -/

/-- A repeated effect that makes `P` hold of each element it meets, and does not undo it for another, makes it hold of all. -/
theorem foldl_establishes {σ α : Type} {f : σ → α → σ} {D : α → Prop} {P : α → σ → Prop}
    (hdo : ∀ s x, D x → P x (f s x)) (hkeep : ∀ s x y, D x → D y → y ≠ x → P y s → P y (f s x)) {xs : List α}
    (hxs : ∀ x ∈ xs, D x) {y : α} (hy : D y) {s : σ} (h : y ∈ xs ∨ P y s) : P y (xs.foldl f s) := by
  induction xs generalizing s with
  | nil => exact h.resolve_left List.not_mem_nil
  | cons x xs ih =>
    have hx := hxs x (List.mem_cons_self ..)
    refine ih (fun z hz => hxs z (List.mem_cons_of_mem _ hz)) ?_
    by_cases hyx : y = x
    · exact .inr (hyx ▸ hdo s x hx)
    · obtain hm | hP := h
      · exact .inl ((List.mem_cons.1 hm).resolve_left hyx)
      · exact .inr (hkeep s x y hx hy hyx hP)

/-- What DARK_LIGHT_CHECK does to one region of the fibre when light has returned. -/
def Block.relit (b : Block) (p : Nat × Nat) : Block :=
  if b.rdB (LCK_R_STATE p.1 p.2) 5 then
    let b := b.clrB (LCK_R_STATE p.1 p.2) 5
    if b.lockSt p.1 p.2 = 5 then b.setLock p.1 p.2 2 else b
  else b

theorem darkCheck_eq (f : Nat) : darkCheck f true b = b.each (fibreRegions f) Block.relit := rfl

/-- Engines and regions have state registers of their own, apart from the registers of a change of state of another. -/
theorem regionState_inj {d r e q : Nat} (hd : d < 72) (hr : r < 64) (he : e < 72) (hq : q < 64)
    (h : LCK_R_STATE d r ∈ stateRegs e q) : d = e ∧ r = q := by
  simp only [stateRegs, LCK_R_STATE, LCK_R_BIAS, LCK_STAT, LCK_UNLK_LO, LCK_UNLK_HI, PG_ISTAT, P_LCK, engBase,
    List.mem_cons, List.not_mem_nil, or_false] at h
  split at h <;> split at h <;> omega

theorem relit_flag {p : Nat × Nat} : (b.relit p).rdB (LCK_R_STATE p.1 p.2) 5 = false := by
  unfold Block.relit
  split
  · dsimp only
    split
    · next h5 =>
      rw [setLock_flag (leavesCal_of_ne (by rw [h5]; decide)) (by decide) (by decide), Block.rdB_clrB _ _ _ (by decide)]
    · exact Block.rdB_clrB _ _ _ (by decide)
  · next h => simpa using h

theorem relit_within (p : Nat × Nat) : Within (stateRegs p.1 p.2) (· = p.1) b (b.relit p) := by
  have hmem : LCK_R_STATE p.1 p.2 ∈ stateRegs p.1 p.2 := by simp [stateRegs]
  unfold Block.relit
  dsimp only
  split
  · split
    · next h5 => exact (Within.clrB hmem 5).trans (setLock_within (leavesCal_of_ne (by rw [h5]; decide)) 2)
    · exact Within.clrB hmem 5
  · exact .refl ..

/-- A region that is not flagged dark stays so while others are relit. -/
theorem relit_flag_keep {p r : Nat × Nat} (hp : p.1 < 72 ∧ p.2 < 64) (hr : r.1 < 72 ∧ r.2 < 64) (hne : r ≠ p)
    (h : b.rdB (LCK_R_STATE r.1 r.2) 5 = false) : (b.relit p).rdB (LCK_R_STATE r.1 r.2) 5 = false := by
  rw [Block.rdB, (relit_within p).rd _ fun hm => hne ?_]
  · exact h
  · obtain ⟨he, hq⟩ := regionState_inj hr.1 hr.2 hp.1 hp.2 hm
    exact Prod.ext he hq

theorem relit_all {ps : List (Nat × Nat)} (hps : ∀ p ∈ ps, p.1 < 72 ∧ p.2 < 64) {r : Nat × Nat} (hr : r ∈ ps) :
    (b.each ps Block.relit).rdB (LCK_R_STATE r.1 r.2) 5 = false :=
  foldl_establishes (f := Block.relit) (D := fun p => p.1 < 72 ∧ p.2 < 64)
    (P := fun r (c : Block) => c.rdB (LCK_R_STATE r.1 r.2) 5 = false) (fun _ _ _ => relit_flag)
    (fun _ _ _ hp hr hne h => relit_flag_keep hp hr hne h) hps (hps r hr) (.inl hr)

theorem fibreRegions_lt {f : Nat} {p : Nat × Nat} (h : p ∈ fibreRegions f) : p.1 < 72 ∧ p.2 < 64 := by
  obtain ⟨e, he, hp⟩ := List.mem_flatMap.1 h
  obtain ⟨q, hq, rfl⟩ := List.mem_map.1 hp
  exact ⟨List.mem_range.1 (List.mem_filter.1 he).1, lt_of_mem_regionsOf hq⟩

end Sys2Proof.Machine
end

section
/-! SUPPORT. Region lock as a whole: each clause of O22 as a command gives it. -/

namespace Sys2Proof.Machine

variable (s : State) (e : Fin 72) (q : Fin 64)

/-- A flag of a region's state register after a command. -/
theorem run_regionFlag (f : Block → Block) (e q i : Nat) :
    (s.run f).rdB (LCK_R_STATE e q) i = (f s.b.fresh).rdB (LCK_R_STATE e q) i :=
  run_rdB_engine s f i (enginePlain_regionState e q)

theorem wideAcquisitionEnd_gives (p h : Int) (kbias : Option (BitVec 16)) (h1 : s.b.lockSt e q = 1)
    (hex : excluded (s.b.region e q) p = false) (hp : -32768 ≤ p ∧ p ≤ 32767) (hh : 0 ≤ h ∧ h ≤ 32767) :
    Gives (.wideAcquisitionEnd e q (some (p, h)) kbias) s fun t =>
      t.b.lockSt e q = 2 ∧ (t.b.region e q).uB = p ∧ (t.b.region e q).uH = h := by
  have hst : (s.b.fresh.kbiasTaken e q kbias).lockSt e q = 1 :=
    (lockSt_congr (kbiasTaken_rd e q kbias (by unfold LCK_R_STATE LCK_KBIAS; omega))).trans h1
  have hleave : ((s.b.fresh.kbiasTaken e q kbias).updRegion e q fun r => { r with uB := p, uH := h }).leavesCal e q :=
    leavesCal_of_ne (by rw [lockSt_updRegion, hst]; decide)
  refine Gives.of_done (f := wideEnd e q (some (p, h)) kbias) rfl ?_
  rw [run_lockSt, run_region, wideEnd_peak (b := s.b.fresh) h1 hex hp hh]
  refine ⟨lockSt_enterVerify hleave, ?_⟩
  have hpart := loopPart_enterVerify hleave (by rw [lockSt_updRegion, hst]; decide)
  rw [region_updRegion] at hpart
  exact Prod.mk_inj.1 hpart

theorem acquireTimeout_counts (h1 : s.b.lockSt e q = 1)
    (hmore : (s.b.region e q).wide + 1 < s.rdF (LCK_RETRY e) 0 4) :
    Gives (.acquireTimeout e q) s fun t =>
      t.b.lockSt e q = 1 ∧ (t.b.region e q).wide = (s.b.region e q).wide + 1 := by
  have hlt : ¬ s.b.fresh.rdF (LCK_RETRY e) 0 4 ≤ (s.b.fresh.region e q).wide + 1 := Nat.not_le.2 hmore
  refine Gives.of_done (f := wideEnd e q none none) rfl ?_
  rw [run_lockSt, run_region, wideEnd_none (b := s.b.fresh) h1, wideFailed_eq, if_neg hlt, Block.wideCounted, region_updRegion]
  exact ⟨h1, rfl⟩

theorem acquireTimeout_fails (h1 : s.b.lockSt e q = 1)
    (hlast : s.rdF (LCK_RETRY e) 0 4 ≤ (s.b.region e q).wide + 1) :
    Gives (.acquireTimeout e q) s fun t => t.b.lockSt e q = 7 := by
  have hle : s.b.fresh.rdF (LCK_RETRY e) 0 4 ≤ (s.b.fresh.region e q).wide + 1 := hlast
  have hst : (s.b.fresh.wideCounted e q).lockSt e q = 1 := h1
  refine Gives.of_done (f := wideEnd e q none none) rfl ?_
  rw [run_lockSt, wideEnd_none (b := s.b.fresh) h1, wideFailed_eq, if_pos hle]
  exact lockSt_setLock (leavesCal_of_ne (by rw [hst]; decide)) (by decide)

/-- The judgement of a command's samples is that of the state it starts from. -/
theorem codeJudge_fresh (e q n : Nat) :
    s.b.fresh.codeJudge e q (s.b.fresh.corrs e q n) = s.b.codeJudge e q (s.b.corrs e q n) := by
  rw [corrs_fresh]
  rfl

theorem verifyAttemptComplete_locks (h2 : s.b.lockSt e q = 2)
    (hlen : s.b.verifyLen e ≤ (s.b.region e q).means.length)
    (hpass : (s.b.codeJudge e q (s.b.corrs e q (s.b.verifyLen e))).1 = true) :
    Gives (.verifyAttemptComplete e q) s fun t => t.b.lockSt e q = 3 ∧ t.rdB (LCK_R_STATE e q) 4 = false := by
  have hpass' : (s.b.fresh.codeJudge e q (s.b.fresh.corrs e q (s.b.fresh.verifyLen e))).1 = true := by
    rw [codeJudge_fresh]
    exact hpass
  have hst : ((s.b.fresh.judged e q (s.b.fresh.verifyLen e)).clrB (LCK_R_STATE e q) 4).lockSt e q = 2 := by
    rw [Block.lockSt, Block.rdF, Block.clrB, Block.wrB, Block.rd_wrF, fld_setFld_ne _ _ _ _ _ _ (by decide) (by decide)]
    exact (lockSt_judged ..).trans h2
  have hleave := leavesCal_of_ne (show _ ≠ 3 by rw [hst]; decide)
  refine Gives.of_done (f := verifyEnd e q) rfl ?_
  rw [run_lockSt, run_regionFlag, verifyEnd_ready (b := s.b.fresh) h2 hlen, if_pos hpass']
  exact ⟨lockSt_enterLocked true hleave, (enterLocked_flag true hleave (by decide)).trans (Block.rdB_clrB _ _ _ (by decide))⟩

theorem verifyAttemptComplete_researches (h2 : s.b.lockSt e q = 2)
    (hlen : s.b.verifyLen e ≤ (s.b.region e q).means.length)
    (hfail : s.b.codeJudge e q (s.b.corrs e q (s.b.verifyLen e)) = (false, true)) :
    Gives (.verifyAttemptComplete e q) s fun t => t.b.lockSt e q = 6 ∧ t.rdB (LCK_R_STATE e q) 4 = true := by
  have hfail' : s.b.fresh.codeJudge e q (s.b.fresh.corrs e q (s.b.fresh.verifyLen e)) = (false, true) := by
    rw [codeJudge_fresh]
    exact hfail
  have hst : (s.b.fresh.judged e q (s.b.fresh.verifyLen e)).lockSt e q = 2 := (lockSt_judged ..).trans h2
  refine Gives.of_done (f := verifyEnd e q) rfl ?_
  rw [run_lockSt, run_regionFlag, verifyEnd_ready (b := s.b.fresh) h2 hlen, hfail', if_neg Bool.false_ne_true, Bool.true_or,
    if_pos rfl]
  exact wrongLine_researches q.isLt (leavesCal_of_ne (by rw [hst]; decide)) _

theorem correlationCheck_researches (h3 : s.b.lockSt e q = 3) (hlen : 1024 ≤ (s.b.region e q).means.length)
    (hcal : (s.b.stk (stackOf e)).cal = none) (hfail : s.b.codeJudge e q (s.b.corrs e q 1024) = (false, true)) :
    Gives (.correlationCheck e q) s fun t => t.b.lockSt e q = 6 ∧ t.rdB (LCK_R_STATE e q) 4 = true := by
  have hfail' : s.b.fresh.codeJudge e q (s.b.fresh.corrs e q 1024) = (false, true) := by
    rw [codeJudge_fresh]
    exact hfail
  have hcal' : ((s.b.fresh.judged e q 1024).stk (stackOf e)).cal = none := by
    rw [judged_stk]
    exact hcal
  refine Gives.of_done (f := corrCheck e q) rfl ?_
  rw [run_lockSt, run_regionFlag, corrCheck_ready (b := s.b.fresh) h3 hlen, hfail', Bool.not_false, Bool.true_and, if_pos rfl]
  exact wrongLine_researches q.isLt (leavesCal_of_none hcal' _) _

theorem correlationCheck_stays (h3 : s.b.lockSt e q = 3) (hlen : 1024 ≤ (s.b.region e q).means.length)
    (hpass : (s.b.codeJudge e q (s.b.corrs e q 1024)).1 = true) :
    Gives (.correlationCheck e q) s fun t =>
      t.b.lockSt e q = 3 ∧ (t.b.region e q).means = (s.b.region e q).means := by
  have hpass' : (s.b.fresh.codeJudge e q (s.b.fresh.corrs e q 1024)).1 = true := by
    rw [codeJudge_fresh]
    exact hpass
  refine Gives.of_done (f := corrCheck e q) rfl ?_
  rw [run_lockSt, run_region, corrCheck_ready (b := s.b.fresh) h3 hlen, hpass', Bool.not_true, Bool.false_and,
    if_neg Bool.false_ne_true, lockSt_judged, region_congr (judged_eng ..)]
  exact ⟨h3, rfl⟩

theorem coastTimeout_gives (h5 : s.b.lockSt e q = 5) (hdark : s.rdB (LCK_R_STATE e q) 5 = false) :
    Gives (.coastTimeout e q) s fun t => t.b.lockSt e q = 6 := by
  have hend : coastTimeout e q s.b.fresh = s.b.fresh.enterResearch e q := by
    have hdark' : s.b.fresh.rdB (LCK_R_STATE e q) 5 = false := hdark
    exact if_pos ⟨h5, by rw [hdark']; rfl⟩
  have hst : s.b.fresh.lockSt e q = 5 := h5
  refine Gives.of_done (f := coastTimeout e q) rfl ?_
  rw [run_lockSt, hend]
  exact lockSt_enterResearch (leavesCal_of_ne (by rw [hst]; decide))

theorem reSearchComplete_gives (peaks : List Int) (p : Int) (h6 : s.b.lockSt e q = 6)
    (hpeak : nearestPeak (s.b.region e q) peaks = some p) :
    Gives (.reSearchComplete e q peaks) s fun t => t.b.lockSt e q = 2 ∧ (t.b.region e q).uB = p := by
  have hst : s.b.fresh.lockSt e q = 6 := h6
  have hpeak' : nearestPeak (s.b.fresh.region e q) peaks = some p := hpeak
  have hend : researchEnd e q peaks s.b.fresh =
      (s.b.fresh.updRegion e q fun r => { r with uB := p }).enterVerify e q := by
    unfold researchEnd
    rw [if_neg (not_not_intro hst), hpeak']
  have hleave : (s.b.fresh.updRegion e q fun r => { r with uB := p }).leavesCal e q :=
    leavesCal_of_ne (by rw [lockSt_updRegion, hst]; decide)
  refine Gives.of_done (f := researchEnd e q peaks) rfl ?_
  rw [run_lockSt, run_region, hend]
  refine ⟨lockSt_enterVerify hleave, ?_⟩
  have hpart := loopPart_enterVerify hleave (by rw [lockSt_updRegion, hst]; decide)
  rw [region_updRegion] at hpart
  exact (Prod.mk_inj.1 hpart).1

theorem exclusionExpiry_gives (h3 : s.b.lockSt e q = 3) :
    Gives (.exclusionExpiry e q) s fun t => (t.b.region e q).excl = [] ∧ t.rdF (LCK_R_STATE e q) 8 3 = 0 ∧
      t.b.lockSt e q = 3 := by
  have hend : exclExpiry e q s.b.fresh = (s.b.fresh.updRegion e q fun r => { r with excl := [] }).showExcl e q := if_pos h3
  refine Gives.of_done (f := exclExpiry e q) rfl ⟨?_, ?_, ?_⟩
  · rw [run_region, hend, Block.showExcl, region_wrF, region_updRegion]
  · rw [State.rdF, Block.rdF, run_rd_engine _ _ (enginePlain_regionState e q), hend, Block.showExcl, Block.rd_wrF,
      region_updRegion, fld_setFld _ _ _ _ (by decide)]
    rfl
  · rw [run_lockSt, hend, Block.lockSt, Block.rdF, Block.showExcl, Block.rd_wrF,
      fld_setFld_ne _ _ _ _ _ _ (by decide) (by decide), rd_updRegion]
    exact h3

theorem darkLightCheck_gives (fibre : Fin 16) : Gives (.darkLightCheck fibre true) s fun t =>
    ∀ p ∈ fibreRegions fibre, t.rdB (LCK_R_STATE p.1 p.2) 5 = false := by
  refine Gives.of_done (f := darkCheck fibre true) rfl fun p hp => ?_
  rw [run_regionFlag, darkCheck_eq]
  exact relit_all (fun _ => fibreRegions_lt) hp

/-- Settles O22: each event of a region's lock. -/
theorem regionLock : Obligations.RegionLock := by
  unfold Obligations.RegionLock
  refine ⟨?_, ?_, ?_, ?_, ?_, ?_, ?_, ?_, ?_, ?_, darkLightCheck_gives⟩
  · intro s e q p h kbias ⟨_, h1⟩ ⟨hex, hp0, hp1, hh⟩
    exact wideAcquisitionEnd_gives s e q p h kbias h1 hex ⟨hp0, hp1⟩ hh
  · exact fun s e q ⟨_, h1⟩ hmore => acquireTimeout_counts s e q h1 hmore
  · exact fun s e q ⟨_, h1⟩ hlast => acquireTimeout_fails s e q h1 hlast
  · exact fun s e q ⟨_, h2⟩ hlen hpass => verifyAttemptComplete_locks s e q h2 hlen hpass
  · exact fun s e q ⟨_, h2⟩ hlen hfail => verifyAttemptComplete_researches s e q h2 hlen hfail
  · exact fun s e q ⟨_, h3⟩ ⟨hlen, hcal⟩ hfail => correlationCheck_researches s e q h3 hlen hcal hfail
  · exact fun s e q ⟨_, h3⟩ hlen hpass => correlationCheck_stays s e q h3 hlen hpass
  · exact fun s e q ⟨_, h5⟩ hdark => coastTimeout_gives s e q h5 hdark
  · exact fun s e q peaks p ⟨_, h6⟩ hpeak => reSearchComplete_gives s e q peaks p h6 hpeak
  · exact fun s e q ⟨_, h3⟩ => exclusionExpiry_gives s e q h3

end Sys2Proof.Machine
end

section
/-! SUPPORT. What a write of `LCK_CMD` and of a region's configuration does to the region it names (R119, R120, R123, R125,
R126). -/

namespace Sys2Proof.Machine

variable {b : Block}

/-! ## Words with a bit set -/

/-- A field outside the bits that are set. -/
theorem fld_or_of_zero (v : Word) {w : Word} {lo n : Nat} (h : fld w lo n = 0) : fld (v ||| w) lo n = fld v lo n := by
  refine Nat.eq_of_testBit_eq fun i => ?_
  have hw := fld_testBit w lo n i
  rw [h, Nat.zero_testBit] at hw
  rw [fld_testBit, fld_testBit, BitVec.getLsbD_or]
  cases hi : decide (i < n)
  · rfl
  · rw [hi, Bool.true_and] at hw
    rw [← hw, Bool.or_false]

theorem bit_or_set (v : Word) {w : Word} {i : Nat} (h : bit w i = true) : bit (v ||| w) i = true := by
  rw [bit_or, h, Bool.or_true]

theorem bit_or_clear {v w : Word} {i : Nat} (hv : bit v i = false) (hw : bit w i = false) : bit (v ||| w) i = false := by
  rw [bit_or, hv, hw, Bool.or_false]

/-! ## `LCK_CMD` of one region (R125) -/

/-- RESEARCH of a region: from Locked or Coast. -/
def Block.researched (b : Block) (e q : Nat) : Block :=
  if b.lockSt e q = 3 ∨ b.lockSt e q = 5 then (b.sweepBreak e q).enterResearch e q else b

/-- RELEASE of a region: from Failed. -/
def Block.released (b : Block) (e q : Nat) : Block :=
  if b.lockSt e q = 7 then (b.updRegion e q fun r => { r with wide := 0 }).setLock e q 1 else b

/-- CLREXCL of a region. -/
def Block.unexcluded (b : Block) (e q : Nat) : Block := (b.updRegion e q fun r => { r with excl := [] }).showExcl e q

theorem regionsOf_filter {e q : Nat} (h : q ∈ regionsOf e) : (regionsOf e).filter (· == q) = [q] := by
  have hnodup : (regionsOf e).Nodup := List.nodup_range
  rw [List.filter_beq, List.count_eq_one_of_mem hnodup h, List.replicate_one]

/-- A command for the region that its word names. -/
theorem lckCmdWrite_one {e : Nat} {v : Word} (hall : bit v 11 = false) (hq : fld v 0 6 ∈ regionsOf e) :
    lckCmdWrite e v b =
      (((b.when (bit v 8) (·.researched e (fld v 0 6))).when (bit v 9) (·.released e (fld v 0 6))).when (bit v 10)
        (·.unexcluded e (fld v 0 6)), bit v 8 || bit v 9 || bit v 10) := by
  unfold lckCmdWrite
  rw [hall, if_neg Bool.false_ne_true, regionsOf_filter hq]
  rfl

theorem lockSt_researched {e q : Nat} (hq : q < 64) (hst : b.lockSt e q = 3 ∨ b.lockSt e q = 5) (h : b.leavesCal e q) :
    (b.researched e q).lockSt e q = 6 := by
  rw [Block.researched, if_pos hst]
  exact lockSt_enterResearch (h.sweepBreak hq)

theorem entered_wide {r : Region} (h : r.wide = 0) (old st : Nat) : (r.entered old st).wide = 0 := by
  unfold Region.entered
  dsimp only
  rw [h, ite_self]

theorem released_state {e q : Nat} (h7 : b.lockSt e q = 7) :
    (b.released e q).lockSt e q = 1 ∧ ((b.released e q).region e q).wide = 0 := by
  have hst : (b.updRegion e q fun r => { r with wide := 0 }).lockSt e q = 7 := h7
  have hleave := leavesCal_of_ne (show _ ≠ 3 by rw [hst]; decide)
  rw [Block.released, if_pos h7, region_setLock hleave (by rw [hst]; decide) (by decide), region_updRegion]
  exact ⟨lockSt_setLock hleave (by decide), entered_wide rfl ..⟩

theorem unexcluded_state (e q : Nat) :
    ((b.unexcluded e q).region e q).excl = [] ∧ (b.unexcluded e q).lockSt e q = b.lockSt e q := by
  rw [Block.unexcluded, Block.showExcl, region_wrF, region_updRegion, Block.lockSt, Block.rdF, Block.rd_wrF,
    fld_setFld_ne _ _ _ _ _ _ (by decide) (by decide)]
  exact ⟨rfl, rfl⟩

/-! ## A region's configuration (R123, R126) -/

theorem enChanged_within {e q : Nat} (hq : q < 64) (h : b.leavesCal e q) :
    Within (ASG_STAT e :: stateRegs e q) (· = e) b (b.enChanged e q) := by
  have hsub : ∀ o ∈ stateRegs e q, o ∈ ASG_STAT e :: stateRegs e q := fun _ => List.mem_cons_of_mem _
  have hbreak := (sweepBreak_within (b := b) e q).mono (w' := ASG_STAT e :: stateRegs e q) (fun o ho => by
    rw [List.mem_singleton.1 ho]
    exact List.mem_cons_self ..) fun _ => id
  refine Within.ite (hbreak.trans ((setLock_within (h.sweepBreak hq) 0).mono hsub fun _ => id)) ?_
  exact Within.ite ((setLock_within h 1).mono hsub fun _ => id) (.refl ..)

/-- A region disabled is Off. -/
theorem lockSt_enChanged_off {e q : Nat} (hq : q < 64) (h : b.leavesCal e q) (hen : b.loopEn e q = false) :
    (b.enChanged e q).lockSt e q = 0 := by
  unfold Block.enChanged
  rw [hen, Bool.not_false, if_pos rfl]
  exact lockSt_setLock (h.sweepBreak hq) (by decide)

/-- What a new target pilot does to a Locked region (R123). -/
def Block.retargeted (b : Block) (e q : Nat) : Block := (b.sweepBreak e q).setLock e q 1

theorem rcfgWrite_eq {e q : Nat} (hq : (regionsOf e).contains q = true) (v : Word) : rcfgWrite e q v b =
    (((b.wr (LCK_R_CFG e q) (v &&& 0xFF07)).enChanged e q).when (decide (b.rdF (LCK_R_CFG e q) 1 2 ≠ fld v 1 2 ∧
      ((b.wr (LCK_R_CFG e q) (v &&& 0xFF07)).enChanged e q).lockSt e q = 3)) (·.retargeted e q), true) := by
  unfold rcfgWrite
  rw [hq, Bool.not_true, if_neg Bool.false_ne_true]
  rfl

theorem regionCfg_not_written (e : Nat) {q : Nat} (hq : q < 64) : LCK_R_CFG e q ∉ ASG_STAT e :: stateRegs e q := by
  simp only [stateRegs, LCK_R_CFG, ASG_STAT, LCK_R_STATE, LCK_R_BIAS, LCK_STAT, LCK_UNLK_LO, LCK_UNLK_HI, PG_ISTAT, P_LCK,
    P_ASG, List.mem_cons, List.not_mem_nil, or_false]
  omega

section
variable {e q : Nat} (hq : q ∈ regionsOf e) (hcal : (b.stk (stackOf e)).cal = none) (v : Word)
include hq hcal

/-- The configuration is taken as written. -/
theorem rcfgWrite_rd : (rcfgWrite e q v b).1.rd (LCK_R_CFG e q) = v &&& 0xFF07 := by
  have hlt := lt_of_mem_regionsOf hq
  have hout := regionCfg_not_written e hlt
  have hen := enChanged_within hlt (leavesCal_of_none (b := b.wr (LCK_R_CFG e q) (v &&& 0xFF07)) hcal q)
  have hcal' : (((b.wr (LCK_R_CFG e q) (v &&& 0xFF07)).enChanged e q).stk (stackOf e)).cal = none := by
    rw [hen.stk]
    exact hcal
  rw [rcfgWrite_eq (List.contains_iff_mem.2 hq)]
  refine (Block.when_keep _ (·.rd (LCK_R_CFG e q)) _ _ ?_).trans ((hen.rd _ hout).trans (Block.rd_wr_same ..))
  have hset := setLock_within ((leavesCal_of_none hcal' q).sweepBreak hlt) 1
  rw [Block.retargeted, hset.rd _ fun hm => hout (List.mem_cons_of_mem _ hm),
    (sweepBreak_within e q).rd _ fun hm => hout (List.mem_singleton.1 hm ▸ List.mem_cons_self ..)]

/-- A region whose `EN` is cleared is Off. -/
theorem rcfgWrite_disables (hv : bit v 0 = false) : (rcfgWrite e q v b).1.lockSt e q = 0 := by
  have hlt := lt_of_mem_regionsOf hq
  have hen : (b.wr (LCK_R_CFG e q) (v &&& 0xFF07)).loopEn e q = false := by
    have hbit : (b.wr (LCK_R_CFG e q) (v &&& 0xFF07)).rdB (LCK_R_CFG e q) 0 = false := by
      rw [Block.rdB, Block.rd_wr_same, bit, BitVec.getLsbD_and]
      exact (congrArg (· && _) hv).trans (Bool.false_and _)
    rw [Block.loopEn, hbit, Bool.and_false]
  have hoff := lockSt_enChanged_off hlt (leavesCal_of_none (b := b.wr (LCK_R_CFG e q) (v &&& 0xFF07)) hcal q) hen
  rw [rcfgWrite_eq (List.contains_iff_mem.2 hq), hoff, decide_eq_false (by omega), Block.when_false]
  exact hoff

end

end Sys2Proof.Machine
end

section
/-! SUPPORT. The heaters of a stack (R114 to R117): the duties that a PWM period shows, Stow, and `HTR_TEST`. -/

namespace Sys2Proof.Machine

variable {b : Block}

/-! ## Registers beyond the board's pages -/

/-- An offset in the pages of the stacks and beyond that holds no `PG_SEQ`. -/
def unitPlain (o : Nat) : Prop := 0x100000 ≤ o ∧ o % 0x1000 ≠ 0x20

theorem unitPlain_not_log {o : Nat} (h : unitPlain o) : o ∉ logRegs := by
  obtain ⟨hlo, -⟩ := h
  simp only [logRegs, DBK_SUPPCNT, DBK_OVWCNT, DBK_DROPCNT, DBK_DROPSEV, PG_ISTAT, P_DBK, List.mem_cons,
    List.not_mem_nil, or_false]
  omega

theorem run_rd_unit (s : State) (f : Block → Block) {o : Nat} (h : unitPlain o) :
    (s.run f).b.rd o = (f s.b.fresh).rd o := run_rd s f (unitPlain_not_log h)

theorem run_counted_rd_unit (s : State) (b : Block) (off : Nat) (a : Bool) {o : Nat} (h : unitPlain o) :
    (s.run fun _ => b.counted off a).b.rd o = b.rd o := by
  rw [run_rd_unit _ _ h]
  refine counted_rd b off a fun hseq => h.2 ?_
  unfold PG_SEQ at hseq
  omega

theorem unitPlain_htrStat (st : Nat) : unitPlain (HTR_STAT st) := by simp only [unitPlain, HTR_STAT, P_HTR]; omega
theorem unitPlain_htrTest (st : Nat) : unitPlain (HTR_TEST st) := by simp only [unitPlain, HTR_TEST, P_HTR]; omega
theorem unitPlain_htrDuty (st : Nat) {k : Nat} (hk : k < 516) : unitPlain (HTR_DUTY st k) := by
  simp only [unitPlain, HTR_DUTY, P_HTR]
  omega

/-! ## The loops of a stack have registers of their own (R115) -/

theorem heatReg_ne {st i j : Nat} (hi : i < 1032) (hj : j < 1032) (hst : st < 4) (h : j ≠ i) : heatReg st j ≠ heatReg st i := by
  simp only [heatReg, loopOf, LCK_R_HEAT, P_LCK, engBase]
  split <;> split <;> simp only <;> split <;> split <;> omega

theorem loopOf_inj {st i j : Nat} (hi : i < 1032) (hj : j < 1032) (hst : st < 4) (h : loopOf st j = loopOf st i) : j = i := by
  simp only [loopOf] at h
  split at h <;> split at h <;> simp only [Prod.mk.injEq] at h <;> omega

theorem heatReg_far (e q : Nat) : 0x500000 ≤ LCK_R_HEAT e q := by
  have := engBase_page e
  simp only [LCK_R_HEAT, P_LCK]
  omega

/-! ## One heater of a PWM period (R114, R116) -/

/-- The pulse of heater `x.2` of stack `s` at duty `x.1`: its carry goes on, its registers show the duty. -/
def Block.pulse (s : Nat) (stag : Bool) : Block × List (Nat × Nat × Nat) → Nat × Nat → Block × List (Nat × Nat × Nat) :=
  fun (b, ps) (d, i) =>
    let (e, q) := loopOf s i
    let acc := (b.region e q).carry + d * 256
    let n := min (acc / 65536) 256
    let n' := if n < 2 then 0 else n
    let b := b.updRegion e q fun r => { r with carry := acc - n' * 65536 }
    let b := (b.wrF (HTR_DUTY s (i / 2)) (16 * (i % 2)) 16 d).wrF (LCK_R_HEAT e q) 0 16 d
    let b := b.when (n = 1) fun b => b.bump (HTR_SKIPCNT s)
    (b, if n' = 0 then ps else ps ++ [(i, if stag then 61 * i % 256 else 0, n')])

section
variable (s : Nat) (stag : Bool) (p : Block × List (Nat × Nat × Nat)) (x : Nat × Nat)

/-- A register other than the counter of skipped pulses, after the pulse. -/
theorem pulse_rd {o : Nat} (h : o ≠ HTR_SKIPCNT s) : (Block.pulse s stag p x).1.rd o =
    ((p.1.wrF (HTR_DUTY s (x.2 / 2)) (16 * (x.2 % 2)) 16 x.1).wrF (heatReg s x.2) 0 16 x.1).rd o := by
  have hskip : ∀ (n : Bool) (c : Block), (c.when n fun b => b.bump (HTR_SKIPCNT s)).rd o = c.rd o := fun n c =>
    Block.when_keep c (·.rd o) n _ (c.rd_bump_ne _ h)
  exact (hskip _ _).trans (Block.rd_congr rfl o)

theorem pulse_rd_other {o : Nat} (h : o ≠ HTR_SKIPCNT s) (hduty : o ≠ HTR_DUTY s (x.2 / 2)) (hheat : o ≠ heatReg s x.2) :
    (Block.pulse s stag p x).1.rd o = p.1.rd o := by
  rw [pulse_rd s stag p x h, Block.rd_wrF_ne _ _ _ _ hheat, Block.rd_wrF_ne _ _ _ _ hduty]

end

/-- A heater whose registers show its duty. -/
def Block.dutyShown (s : Nat) (x : Nat × Nat) (p : Block × List (Nat × Nat × Nat)) : Prop :=
  p.1.rdF (HTR_DUTY s (x.2 / 2)) (16 * (x.2 % 2)) 16 = x.1 % 65536 ∧ p.1.rdF (heatReg s x.2) 0 16 = x.1 % 65536

theorem htrDuty_ne {s k : Nat} : HTR_DUTY s k ≠ HTR_SKIPCNT s := by unfold HTR_DUTY HTR_SKIPCNT; omega
theorem heatReg_ne_htr {s i o : Nat} (ho : o < 0x500000) : heatReg s i ≠ o := by
  have := heatReg_far (loopOf s i).1 (loopOf s i).2
  unfold heatReg
  omega
theorem htrDuty_near {s : Nat} (hs : s < 4) {i : Nat} (hi : i < 1032) : HTR_DUTY s (i / 2) < 0x500000 := by
  simp only [HTR_DUTY, P_HTR]
  omega
theorem htrSkip_near {s : Nat} (hs : s < 4) : HTR_SKIPCNT s < 0x500000 := by simp only [HTR_SKIPCNT, P_HTR]; omega

section
variable {s : Nat} (hs : s < 4) (stag : Bool) (p : Block × List (Nat × Nat × Nat)) {x y : Nat × Nat} (hx : x.2 < 1032)
include hs hx

theorem pulse_shows : Block.dutyShown s x (Block.pulse s stag p x) := by
  have hheat : HTR_DUTY s (x.2 / 2) ≠ heatReg s x.2 := (heatReg_ne_htr (htrDuty_near hs hx)).symm
  refine ⟨?_, ?_⟩
  · rw [Block.rdF, pulse_rd _ _ _ _ htrDuty_ne, Block.rd_wrF_ne _ _ _ _ hheat, Block.rd_wrF]
    exact fld_setFld _ _ _ _ (by omega)
  · rw [Block.rdF, pulse_rd _ _ _ _ (heatReg_ne_htr (htrSkip_near hs)), Block.rd_wrF]
    exact fld_setFld _ _ _ _ (by decide)

/-- The pulse of another heater leaves what is shown of one: two share a register of `HTR_DUTY`, each its half. -/
theorem pulse_keeps (hy : y.2 < 1032) (hne : y.2 ≠ x.2) (h : Block.dutyShown s y p) :
    Block.dutyShown s y (Block.pulse s stag p x) := by
  obtain ⟨hduty, hheat⟩ := h
  have hfar : HTR_DUTY s (y.2 / 2) ≠ heatReg s x.2 := (heatReg_ne_htr (htrDuty_near hs hy)).symm
  refine ⟨?_, ?_⟩
  · rw [Block.rdF, pulse_rd _ _ _ _ htrDuty_ne, Block.rd_wrF_ne _ _ _ _ hfar, ← hduty]
    by_cases hreg : y.2 / 2 = x.2 / 2
    · rw [hreg, Block.rd_wrF, fld_setFld_ne _ _ _ _ _ _ (by omega) (by omega), Block.rdF]
    · rw [Block.rd_wrF_ne _ _ _ _ (by unfold HTR_DUTY; omega), Block.rdF]
  · rw [Block.rdF, pulse_rd_other _ _ _ _ (heatReg_ne_htr (htrSkip_near hs)) (heatReg_ne_htr (htrDuty_near hs hx))
      (heatReg_ne hx hy hs hne)]
    exact hheat

end

/-! ## A PWM period within the current limit (R114) -/

/-- The duties asked for the heaters `ix` of a stack, each with its heater. -/
def Block.askedFor (b : Block) (s : Nat) (ix : List Nat) : List (Nat × Nat) := ix.map fun i => (b.heaterDuty s i, i)

/-- The heater status of a stack whose current is within its limit. -/
def Block.withinLimit (b : Block) (s sum : Nat) : Block := (b.wrF (HTR_STAT s) 16 16 (sum * 33 / 655360)).wrB (HTR_STAT s) 0 false

theorem pwmPeriod_limited {s : Nat} {ix : List Nat} (hix : List.range 1032 = ix)
    (h : (ix.map fun i => b.heaterDuty s i).foldl (· + ·) 0 * 33 ≤ (b.rd (HTR_ILIM s)).toNat * 655360) :
    ∃ sum stag, pwmPeriod s b =
      ((b.askedFor s ix).foldl (Block.pulse s stag) (b.withinLimit s sum, [])).1.send
        (.pulses s ((b.askedFor s ix).foldl (Block.pulse s stag) (b.withinLimit s sum, [])).2) := by
  have hduties : ∀ p : Prop, ∀ [Decidable p], ¬ p → ∀ f : Nat → Nat, ((ix.map fun i => b.heaterDuty s i).map fun d =>
      if p then f d else d) = ix.map fun i => b.heaterDuty s i := fun p _ hp f => by
    simp only [if_neg hp, List.map_id']
  have hzip : (ix.map fun i => b.heaterDuty s i).zip ix = b.askedFor s ix := by
    have hmap := List.zip_map' (f := fun i => b.heaterDuty s i) (g := id) (l := ix)
    rwa [List.map_id] at hmap
  unfold pwmPeriod
  rw [hix]
  dsimp only
  rw [hduties _ (Nat.not_lt.2 h), hzip, decide_eq_false (Nat.not_lt.2 h), Block.when_false]
  exact ⟨_, _, rfl⟩

/-- The duties shown after such a period are those asked for. -/
theorem askedFor_shown {s : Nat} (hs : s < 4) (stag : Bool) (p : Block × List (Nat × Nat × Nat)) {ix : List Nat}
    (hix : ∀ i ∈ ix, i < 1032) {i : Nat} (hi : i ∈ ix) :
    Block.dutyShown s (b.heaterDuty s i, i) ((b.askedFor s ix).foldl (Block.pulse s stag) p) := by
  have hmem : ∀ x ∈ b.askedFor s ix, x.2 < 1032 ∧ x.1 = b.heaterDuty s x.2 := fun x hx => by
    obtain ⟨j, hj, rfl⟩ := List.mem_map.1 hx
    exact ⟨hix j hj, rfl⟩
  have hx : (b.heaterDuty s i, i) ∈ b.askedFor s ix := List.mem_map_of_mem hi
  refine foldl_establishes (f := Block.pulse s stag) (D := fun x => x.2 < 1032 ∧ x.1 = b.heaterDuty s x.2)
    (P := Block.dutyShown s) (fun p _ h => pulse_shows hs stag p h.1) ?_ hmem (hmem _ hx) (.inl hx)
  intro p x y hx hy hne h
  refine pulse_keeps hs stag p hx.1 hy.1 (fun heq => hne ?_) h
  exact Prod.ext (by rw [hx.2, hy.2, heq]) heq

theorem askedFor_stat {s : Nat} (hs : s < 4) (stag : Bool) (p : Block × List (Nat × Nat × Nat)) (ix : List Nat) :
    ((b.askedFor s ix).foldl (Block.pulse s stag) p).1.rd (HTR_STAT s) = p.1.rd (HTR_STAT s) := by
  have hfar : HTR_STAT s < 0x500000 := by simp only [HTR_STAT, P_HTR]; omega
  refine List.foldlRecOn (motive := fun c : Block × List (Nat × Nat × Nat) => c.1.rd (HTR_STAT s) = p.1.rd (HTR_STAT s))
    _ _ rfl fun c hc x _ => ?_
  rw [pulse_rd_other s stag c x (by unfold HTR_STAT HTR_SKIPCNT; omega) (by unfold HTR_STAT HTR_DUTY; omega)
    (heatReg_ne_htr hfar).symm]
  exact hc

/-! ## Stow (R117) -/

/-- Heater `i` of stack `s` switched off. -/
def Block.heaterOff (s : Nat) (b : Block) (i : Nat) : Block :=
  (b.updRegion (loopOf s i).1 (loopOf s i).2 fun r => { r with duty := 0, uH := 0 }).wrF (heatReg s i) 0 16 0

theorem stowHoldExpiry_off (s : Nat) {ix : List Nat} (hix : List.range 1032 = ix) (hlit : b.lit = false)
    (hstart : b.pw.startup = none) : stowHoldExpiry s b = b.each ix (Block.heaterOff s) := by
  unfold stowHoldExpiry
  rw [hix, hlit, hstart, if_neg (by decide)]
  rfl

/-- A heater that has no duty and shows none. -/
def Block.cold (s i : Nat) (b : Block) : Prop :=
  (b.region (loopOf s i).1 (loopOf s i).2).duty = 0 ∧ b.rdF (heatReg s i) 0 16 = 0

theorem heaterOff_cold (s : Nat) (b : Block) (i : Nat) : (b.heaterOff s i).cold s i := by
  refine ⟨?_, ?_⟩
  · rw [Block.heaterOff, region_wrF, region_updRegion]
  · rw [Block.heaterOff, Block.rdF_wrF _ _ _ _ _ (by decide), Nat.zero_mod]

theorem region_updRegion_ne (b : Block) {e q d r : Nat} (f : Region → Region) (h : (d, r) ≠ (e, q)) :
    (b.updRegion e q f).region d r = b.region d r := by
  rw [Block.region, Block.updRegion, Block.eng_updEng]
  split
  · next hd =>
    have hr : r ≠ q := fun hr => h (by rw [hd, hr])
    rw [SMap.upd, SMap.get_set_ne _ _ _ hr, hd]
    rfl
  · rfl

theorem heaterOff_keeps {s : Nat} (hs : s < 4) (b : Block) {i j : Nat} (hi : i < 1032) (hj : j < 1032) (hne : j ≠ i)
    (h : b.cold s j) : (b.heaterOff s i).cold s j := by
  obtain ⟨hduty, hheat⟩ := h
  have hloop : ((loopOf s j).1, (loopOf s j).2) ≠ ((loopOf s i).1, (loopOf s i).2) := fun heq =>
    hne (loopOf_inj hi hj hs heq)
  refine ⟨?_, ?_⟩
  · rw [Block.heaterOff, region_wrF, region_updRegion_ne _ _ hloop]
    exact hduty
  · rw [Block.rdF, Block.heaterOff, Block.rd_wrF_ne _ _ _ _ (heatReg_ne hi hj hs hne)]
    exact hheat

theorem heatersOff_cold {s : Nat} (hs : s < 4) {ix : List Nat} (hix : ∀ i ∈ ix, i < 1032) {i : Nat} (hi : i ∈ ix) :
    (b.each ix (Block.heaterOff s)).cold s i :=
  foldl_establishes (f := Block.heaterOff s) (D := (· < 1032)) (P := Block.cold s) (fun c i _ => heaterOff_cold s c i)
    (fun c _ _ hx hy hne => heaterOff_keeps hs c hx hy hne) hix (hix i hi) (.inl hi)

/-! ## `HTR_TEST` (R117) -/

theorem htrTestWrite_rd (s : Nat) (v : Word) : (htrTestWrite s v b).1.rd (HTR_TEST s) = v &&& 0xFFFF87FF := by
  refine (Block.each_keep _ (·.rd (HTR_TEST s)) _ _ fun c i => ?_).trans (b.rd_wr_same _ _)
  dsimp only
  split
  · refine (showUnlocked_own (w := stateRegs (loopOf s i).1 (loopOf s i).2) noEngine fun _ => id).rd _ ?_
    have hbase := engBase_page (loopOf s i).1
    simp only [stateRegs, HTR_TEST, P_HTR, LCK_R_STATE, LCK_R_BIAS, LCK_STAT, LCK_UNLK_LO, LCK_UNLK_HI, PG_ISTAT, P_LCK,
      List.mem_cons, List.not_mem_nil, or_false]
    omega
  · rfl

end Sys2Proof.Machine
end

section
/-! SUPPORT. Lock commands and heaters as a whole: each clause of O23 as a command gives it. -/

namespace Sys2Proof.Machine

variable (s : State) (m : Master)

/-! ## Lock commands (R119, R120, R125) -/

theorem lckResearch_gives (e : Fin 72) (v : Word) (ha : s.b.accepts m (LCK_CMD e) = true) (hall : v.getLsbD 11 = false)
    (hq : fld v 0 6 ∈ regionsOf e) (hv : fld v 9 2 = 0) (hst : s.b.lockSt e (fld v 0 6) = 3 ∨ s.b.lockSt e (fld v 0 6) = 5)
    (hcal : (s.b.stk (stackOf e)).cal = none) :
    Gives (.lckResearch m e v) s fun t => t.b.lockSt e (fld v 0 6) = 6 := by
  have hname : fld (v ||| 0x100) 0 6 = fld v 0 6 := fld_or_of_zero v rfl
  have hcmd : lckCmdWrite e (v ||| 0x100) s.b.fresh = (s.b.fresh.researched e (fld v 0 6), true) := by
    have h11 : bit (v ||| 0x100) 11 = false := bit_or_clear hall rfl
    rw [lckCmdWrite_one h11 (by rw [hname]; exact hq), hname, bit_or_set v rfl,
      bit_or_clear (bit_of_fld_zero 9 hv (by decide)) rfl, bit_or_clear (bit_of_fld_zero 10 hv (by decide)) rfl]
    rfl
  refine Gives.of_gate (eff := lckCmdWrite e (v ||| 0x100)) rfl ha hcmd ?_
  rw [run_counted_lockSt]
  exact lockSt_researched (b := s.b.fresh) (lt_of_mem_regionsOf hq) hst (leavesCal_of_none (b := s.b.fresh) hcal _)

theorem lckRelease_gives (e : Fin 72) (v : Word) (ha : s.b.accepts m (LCK_CMD e) = true) (hall : v.getLsbD 11 = false)
    (hq : fld v 0 6 ∈ regionsOf e) (h8 : v.getLsbD 8 = false) (h10 : v.getLsbD 10 = false)
    (h7 : s.b.lockSt e (fld v 0 6) = 7) :
    Gives (.lckRelease m e v) s fun t => t.b.lockSt e (fld v 0 6) = 1 ∧ (t.b.region e (fld v 0 6)).wide = 0 := by
  have hname : fld (v ||| 0x200) 0 6 = fld v 0 6 := fld_or_of_zero v rfl
  have hcmd : lckCmdWrite e (v ||| 0x200) s.b.fresh = (s.b.fresh.released e (fld v 0 6), true) := by
    have h11 : bit (v ||| 0x200) 11 = false := bit_or_clear hall rfl
    rw [lckCmdWrite_one h11 (by rw [hname]; exact hq), hname, bit_or_clear h8 rfl, bit_or_set v rfl, bit_or_clear h10 rfl]
    rfl
  refine Gives.of_gate (eff := lckCmdWrite e (v ||| 0x200)) rfl ha hcmd ?_
  rw [run_counted_lockSt, run_counted_region]
  exact released_state (b := s.b.fresh) h7

theorem lckClrexcl_gives (e : Fin 72) (v : Word) (ha : s.b.accepts m (LCK_CMD e) = true) (hall : v.getLsbD 11 = false)
    (hq : fld v 0 6 ∈ regionsOf e) (hv : fld v 8 2 = 0) :
    Gives (.lckClrexcl m e v) s fun t => (t.b.region e (fld v 0 6)).excl = [] ∧
      t.b.lockSt e (fld v 0 6) = s.b.lockSt e (fld v 0 6) := by
  have hname : fld (v ||| 0x400) 0 6 = fld v 0 6 := fld_or_of_zero v rfl
  have hcmd : lckCmdWrite e (v ||| 0x400) s.b.fresh = (s.b.fresh.unexcluded e (fld v 0 6), true) := by
    have h11 : bit (v ||| 0x400) 11 = false := bit_or_clear hall rfl
    rw [lckCmdWrite_one h11 (by rw [hname]; exact hq), hname, bit_or_clear (bit_of_fld_zero 8 hv (by decide)) rfl,
      bit_or_clear (bit_of_fld_zero 9 hv (by decide)) rfl, bit_or_set v rfl]
    rfl
  refine Gives.of_gate (eff := lckCmdWrite e (v ||| 0x400)) rfl ha hcmd ?_
  rw [run_counted_lockSt, run_counted_region]
  exact unexcluded_state e (fld v 0 6)

/-! ## The configuration and the sentinel word (R123, R126, R146) -/

theorem rswordWrite_rd {b : Block} {e q : Nat} (hq : (regionsOf e).contains q = true) (v : Word) :
    (rswordWrite e q v b).1.rd (LCK_R_SWORD e q) = v &&& 0x3FF0FFF := by
  unfold rswordWrite
  rw [hq, Bool.not_true, if_neg Bool.false_ne_true]
  dsimp only
  split
  · exact b.rd_wr_same _ _
  · rw [rd_updRegion, Block.rd_wr_same]

theorem lckRSwordWrite_gives (e : Fin 72) (q : Fin 64) (v : Word) (ha : s.b.accepts m (LCK_R_SWORD e q) = true)
    (hq : (regionsOf e).contains q.val = true) :
    Gives (.lckRSwordWrite m e q v) s fun t => t.rd (LCK_R_SWORD e q) = v &&& 0x3FF0FFF := by
  refine Gives.of_gate (eff := rswordWrite e q v) rfl ha rfl ?_
  exact (run_counted_rd _ _ _ _ (enginePlain_regionSword e q)).trans (rswordWrite_rd hq v)

theorem lckRCfgWrite_gives (e : Fin 72) (q : Fin 64) (v : Word) (ha : s.b.accepts m (LCK_R_CFG e q) = true)
    (hq : (regionsOf e).contains q.val = true) (hcal : (s.b.stk (stackOf e)).cal = none) :
    Gives (.lckRCfgWrite m e q v) s fun t => t.rd (LCK_R_CFG e q) = v &&& 0xFF07 ∧
      (v.getLsbD 0 = false → t.b.lockSt e q = 0) := by
  have hmem := List.contains_iff_mem.1 hq
  refine Gives.of_gate (eff := rcfgWrite e q v) rfl ha rfl ⟨?_, fun hv => ?_⟩
  · exact (run_counted_rd _ _ _ _ (enginePlain_regionCfg e q.isLt)).trans (rcfgWrite_rd (b := s.b.fresh) hmem hcal v)
  · exact (run_counted_lockSt ..).trans (rcfgWrite_disables (b := s.b.fresh) hmem hcal v hv)

/-! ## Heaters (R114, R117) -/

theorem heaterPwmPeriod_gives (st : Fin 4)
    (hlim : ((List.range 1032).map fun i => s.b.heaterDuty st i).foldl (· + ·) 0 * 33 ≤ (s.rd (HTR_ILIM st)).toNat * 655360) :
    Gives (.heaterPwmPeriod st) s fun t => (∃ ps, Output.pulses st ps ∈ t.b.out) ∧ t.rdB (HTR_STAT st) 0 = false ∧
      ∀ i : Fin 1032, t.rdF (HTR_DUTY st (i / 2)) (16 * (i % 2)) 16 = s.b.heaterDuty st i % 65536 ∧
      t.rdF (LCK_R_HEAT (loopOf st i).1 (loopOf st i).2) 0 16 = s.b.heaterDuty st i % 65536 := by
  obtain ⟨ix, hix⟩ : ∃ l, List.range 1032 = l := ⟨_, rfl⟩ -- so that the kernel does not evaluate it
  have hlt : ∀ i, i ∈ ix ↔ i < 1032 := fun i => by rw [← hix, List.mem_range]
  rw [hix] at hlim
  obtain ⟨sum, stag, hend⟩ := pwmPeriod_limited (b := s.b.fresh) hix hlim
  obtain ⟨ps, hps⟩ : ∃ ps, Output.pulses st ps ∈ (pwmPeriod st s.b.fresh).out :=
    ⟨_, hend ▸ Block.mem_out_send_self ..⟩
  refine Gives.of_done (f := pwmPeriod st) rfl ⟨⟨ps, mem_out_run hps⟩, ?_, fun i => ?_⟩
  · rw [State.rdB, Block.rdB, run_rd_unit _ _ (unitPlain_htrStat _), hend, Block.rd_send, askedFor_stat st.isLt]
    exact Block.rdB_wrB _ _ _ _ (by decide)
  · have hshown := askedFor_shown (b := s.b.fresh) st.isLt stag (s.b.fresh.withinLimit st sum, [])
      (fun i hi => (hlt i).1 hi) ((hlt i).2 i.isLt)
    obtain ⟨hduty, hheat⟩ := hshown
    refine ⟨?_, ?_⟩
    · rw [State.rdF, Block.rdF, run_rd_unit _ _ (unitPlain_htrDuty _ (by omega)), hend, Block.rd_send]
      exact hduty
    · rw [State.rdF, Block.rdF, run_rd_engine _ _ (enginePlain_regionHeat ..), hend, Block.rd_send]
      exact hheat

theorem heaterStowHoldExpiry_gives (st : Fin 4) (hlit : s.b.lit = false) (hstart : s.b.pw.startup = none) :
    Gives (.heaterStowHoldExpiry st) s fun t => ∀ i : Fin 1032,
      (t.b.region (loopOf st i).1 (loopOf st i).2).duty = 0 ∧
      t.rdF (LCK_R_HEAT (loopOf st i).1 (loopOf st i).2) 0 16 = 0 := by
  obtain ⟨ix, hix⟩ : ∃ l, List.range 1032 = l := ⟨_, rfl⟩ -- so that the kernel does not evaluate it
  have hlt : ∀ i, i ∈ ix ↔ i < 1032 := fun i => by rw [← hix, List.mem_range]
  have hend := stowHoldExpiry_off (b := s.b.fresh) st hix hlit hstart
  refine Gives.of_done (f := stowHoldExpiry st) rfl fun i => ?_
  obtain ⟨hduty, hheat⟩ := heatersOff_cold (b := s.b.fresh) st.isLt (fun i hi => (hlt i).1 hi) ((hlt i).2 i.isLt)
  refine ⟨?_, ?_⟩
  · rw [run_region, hend]
    exact hduty
  · rw [State.rdF, Block.rdF, run_rd_engine _ _ (enginePlain_regionHeat ..), hend]
    exact hheat

theorem htrTestWrite_gives (st : Fin 4) (v : Word) (ha : s.b.accepts m (HTR_TEST st) = true) :
    Gives (.htrTestWrite m st v) s fun t => t.rd (HTR_TEST st) = v &&& 0xFFFF87FF := by
  refine Gives.of_gate (eff := htrTestWrite st v) rfl ha rfl ?_
  exact (run_counted_rd_unit _ _ _ _ (unitPlain_htrTest st)).trans (htrTestWrite_rd st v)

/-- Settles O23: each command of the lock block and of the heaters. -/
theorem lockCommands : Obligations.LockCommands := by
  unfold Obligations.LockCommands
  refine ⟨?_, ?_, ?_, lckRSwordWrite_gives, ?_, heaterPwmPeriod_gives, ?_, htrTestWrite_gives⟩
  · intro s m e v ⟨ha, hall, hq, hv⟩ ⟨hst, hcal⟩
    exact lckResearch_gives s m e v ha hall hq hv hst hcal
  · intro s m e v ⟨ha, hall, hq, h8, h10⟩ h7
    exact lckRelease_gives s m e v ha hall hq h8 h10 h7
  · intro s m e v ⟨ha, hall, hq, hv⟩
    exact lckClrexcl_gives s m e v ha hall hq hv
  · intro s m e q v ha ⟨hq, hcal⟩
    exact lckRCfgWrite_gives s m e q v ha hq hcal
  · exact fun s st ⟨hlit, hstart⟩ => heaterStowHoldExpiry_gives s st hlit hstart

end Sys2Proof.Machine
end

section
/-! SUPPORT. Resonance assignment (R93 to R104, R127, R128): what searches, replacements and commits leave of the engine, of its
pending map and of `ASG_STAT`. -/

namespace Sys2Proof.Machine

/-! ## What work on a map leaves alone -/

/-- The engines are read from the engine store alone. -/
theorem Block.eng_congr {b c : Block} (h : c.engs = b.engs) (k : Nat) : c.eng k = b.eng k := by rw [Block.eng, h, Block.eng]

/-- Whether anything waits for a stack is told by the frame and by the work of the dynamic engines. -/
theorem StackIdle.of_dyn {b c : Block} {k : Nat} (h : StackIdle b k) (hf : c.frm = b.frm)
    (hd : ∀ k, (c.eng k).dyn = (b.eng k).dyn) : StackIdle c k := by
  obtain ⟨hm, h1, h2⟩ := h
  exact ⟨by simpa only [Block.mintQ, hf] using hm, by rw [hd, h1], by rw [hd, h2]⟩

/-- `c` follows from `b` by work on the maps, trims and builds of engine `e` that leaves its search, its pending map, the work
of the dynamic engines, the frame, and `ASG_STAT` but for `COMPLETE` and `DIRTY`. -/
structure MapWork (e : Nat) (b c : Block) : Prop where
  frm : c.frm = b.frm
  dyn : ∀ k, (c.eng k).dyn = (b.eng k).dyn
  search : (c.eng e).search = (b.eng e).search
  mapP : (c.eng e).mapP = (b.eng e).mapP
  stat : ∀ i, i ≠ 1 → i ≠ 2 → c.rdB (ASG_STAT e) i = b.rdB (ASG_STAT e) i

namespace MapWork

variable {e : Nat} {b c : Block}

theorem refl (e : Nat) (b : Block) : MapWork e b b := ⟨rfl, fun _ => rfl, rfl, rfl, fun _ _ _ => rfl⟩

theorem trans {a : Block} (h : MapWork e a b) (k : MapWork e b c) : MapWork e a c :=
  ⟨k.frm.trans h.frm, fun j => (k.dyn j).trans (h.dyn j), k.search.trans h.search, k.mapP.trans h.mapP,
    fun i h1 h2 => (k.stat i h1 h2).trans (h.stat i h1 h2)⟩

/-- `trans` from its end: the last step, then what came before it. -/
theorem after {a : Block} (k : MapWork e b c) (h : MapWork e a b) : MapWork e a c := h.trans k

theorem when {f : Block → Block} {p : Bool} (h : MapWork e b (f b)) : MapWork e b (b.when p f) := by
  cases p
  · exact refl ..
  · exact h

theorem ite {p : Prop} [Decidable p] {d : Block} (h : MapWork e b c) (k : MapWork e b d) :
    MapWork e b (if p then c else d) := by
  split
  · exact h
  · exact k

theorem each {α : Type} {f : Block → α → Block} {xs : List α} (h : ∀ b x, MapWork e b (f b x)) :
    MapWork e b (b.each xs f) := by
  induction xs generalizing b with
  | nil => exact refl ..
  | cons x xs ih => exact (h b x).trans ih

/-- The same of what changes neither frame nor engines nor registers. -/
theorem of_eq (hf : c.frm = b.frm) (he : c.engs = b.engs) (hr : c.regs = b.regs) : MapWork e b c := by
  have heng := Block.eng_congr he
  exact ⟨hf, fun k => by rw [heng], by rw [heng], by rw [heng], fun i _ _ => congrArg (bit · i) (Block.rd_congr hr _)⟩

theorem wr {o : Nat} (h : ASG_STAT e ≠ o) {v : Word} : MapWork e b (b.wr o v) :=
  ⟨rfl, fun _ => rfl, rfl, rfl, fun i _ _ => b.rdB_wr_ne v i h⟩
/-- `COMPLETE` or `DIRTY` shown. -/
theorem wrStat {i : Nat} (h : i = 1 ∨ i = 2) {x : Bool} : MapWork e b (b.wrB (ASG_STAT e) i x) where
  frm := Block.wrB_frm ..
  dyn _ := by rw [Block.eng_congr (Block.wrB_engs ..)]
  search := by rw [Block.eng_congr (Block.wrB_engs ..)]
  mapP := by rw [Block.eng_congr (Block.wrB_engs ..)]
  stat j h1 h2 := b.rdB_wrB_ne _ i j x (by omega) (by omega)
theorem ev {code i : Nat} {l : List (Nat × Nat)} : MapWork e b (b.ev code i l) :=
  of_eq (Block.ev_frm ..) (Block.ev_engs ..) (Block.ev_regs ..)
theorem updStk {s : Nat} {f : Stk → Stk} : MapWork e b (b.updStk s f) := of_eq rfl rfl rfl
theorem stage {x : Stage} : MapWork e b { b with pw := { b.pw with stage := x } } := of_eq rfl rfl rfl
theorem free {n : Nat} : MapWork e b { b with free := n } := of_eq rfl rfl rfl

theorem setEng_dyn {x : Eng} (hd : x.dyn = (b.eng e).dyn) (k : Nat) : ((b.setEng e x).eng k).dyn = (b.eng k).dyn := by
  by_cases hk : k = e
  · rw [hk, eng_setEng_same, hd]
  · exact congrArg Eng.dyn (SMap.get_set_ne _ b.engs x hk)

theorem setEng {x : Eng} (hd : x.dyn = (b.eng e).dyn) (hs : x.search = (b.eng e).search) (hm : x.mapP = (b.eng e).mapP) :
    MapWork e b (b.setEng e x) := by
  have hown : (b.setEng e x).eng e = x := eng_setEng_same b e x
  exact ⟨rfl, setEng_dyn hd, by rw [hown, hs], by rw [hown, hm], fun _ _ _ => rfl⟩
theorem updEng {f : Eng → Eng} (hd : (f (b.eng e)).dyn = (b.eng e).dyn) (hs : (f (b.eng e)).search = (b.eng e).search)
    (hm : (f (b.eng e)).mapP = (b.eng e).mapP) : MapWork e b (b.updEng e f) := setEng hd hs hm

/-- Nothing waits after such work for a stack that was idle. -/
theorem idle (h : MapWork e b c) {k : Nat} (hi : StackIdle b k) : StackIdle c k := hi.of_dyn h.frm h.dyn

/-! ### Maps, trims and builds of the engine -/

theorem asgStat_ne {o : Nat} (h : o < P_ASG e ∨ P_ASG e + 0x1000 ≤ o) : ASG_STAT e ≠ o := by
  unfold ASG_STAT
  omega

theorem below {o : Nat} (h : o < P_ASG e) {v : Word} : MapWork e b (b.wr o v) := wr (asgStat_ne (.inl h))

theorem engReg_below (e : Nat) : ENG_STATE e < P_ASG e ∧ ENG_LOAD_STAT e < P_ASG e ∧ PG_ISTAT (P_ENG e) < P_ASG e ∧
    ENG_PARK e < P_ASG e ∧ DEN_PARK e < P_ASG e ∧ TRM_QREFUSED e < P_ASG e ∧ TRM_STAT e < P_ASG e := by
  simp only [ENG_STATE, ENG_LOAD_STAT, PG_ISTAT, ENG_PARK, DEN_PARK, TRM_QREFUSED, TRM_STAT, P_ENG, P_DEN, P_TRM, P_ASG]
  omega

theorem mapDirty : MapWork e b (b.mapDirty e) := wrStat (.inr rfl)
theorem stageMarks : MapWork e b (b.stageMarks e) := stage
theorem showComplete : MapWork e b (b.showComplete e) := wrStat (.inl rfl)

theorem commitMap : MapWork e b (b.commitMap e) := by
  obtain ⟨-, -, -, hpark, hdpark, -, -⟩ := engReg_below e
  unfold Block.commitMap
  exact stageMarks.after <| showComplete.after <| (wrStat (.inr rfl)).after <| (ite (below hpark) (below hdpark)).after <|
    setEng rfl rfl rfl

theorem setTrim {ring : Nat} {v : Word} : MapWork e b (b.setTrim e ring v).1 := by
  obtain ⟨-, -, -, -, -, href, hstat⟩ := engReg_below e
  unfold Block.setTrim
  dsimp only
  split
  · exact refl ..
  · split
    · exact setEng rfl rfl rfl
    · split
      · exact (below hstat).after (below href)
      · exact (below hstat).after (setEng rfl rfl rfl)

theorem assignOfs {ring : Nat} {o : Fr} : MapWork e b (b.assignOfs e ring o) := setTrim

theorem parkEvents {park0 off0 park off : List Nat} : MapWork e b (b.parkEvents park0 off0 park off) :=
  (each fun _ _ => ev).after (each fun _ _ => ev)

theorem buildOver : MapWork e b (b.buildOver e) := by
  obtain ⟨hstate, hload, -⟩ := engReg_below e
  exact (below hload).after <| (below hstate).after <| updStk.after (updEng rfl rfl rfl)

theorem buildFail {k : Nat} : MapWork e b (b.buildFail e k) := by
  obtain ⟨-, hload, histat, -⟩ := engReg_below e
  exact (below histat).after <| (below hload).after buildOver

theorem beginRebuild {bd : Build} : MapWork e b (b.beginRebuild e bd) := by
  obtain ⟨-, hload, -⟩ := engReg_below e
  unfold Block.beginRebuild
  obtain ⟨inputs, hinputs⟩ : ∃ l, List.range 262144 = l := ⟨_, rfl⟩ -- so that the kernel does not evaluate it
  rw [hinputs]
  dsimp only
  refine ite buildFail ?_
  split
  · exact buildFail.after (below hload)
  · split
    · exact buildFail.after ev
    · exact free.after (updEng rfl rfl rfl)

theorem beginBuild {x : Ecc} (h : (b.eng e).build.all (·.rebuild) = true) : MapWork e b (b.beginBuild e x) := by
  unfold Block.beginBuild
  split
  · next bd hbd =>
    rw [hbd, Option.all_some] at h
    rw [if_pos h]
    exact beginRebuild
  · exact refl ..

theorem requestRebuild {x : Ecc} : MapWork e b (b.requestBuild e true x) := by
  obtain ⟨hstate, hload, -⟩ := engReg_below e
  unfold Block.requestBuild
  dsimp only
  refine (when (beginBuild ?_)).after <| updStk.after <| (updEng rfl rfl rfl).after <| (below hstate).after <|
    (below hload).after (below hstate)
  rw [Block.eng_updStk, Block.eng_updEng_same]
  rfl

theorem autoRebuild : MapWork e b (b.autoRebuild e) := ite (refl ..) requestRebuild

theorem sweepOff {g : Nat} : MapWork e b (b.sweepOff e g) :=
  each fun _ _ => ite (updEng rfl rfl rfl) (refl ..)

end MapWork

end Sys2Proof.Machine
end

section
/-! SUPPORT. Resonance assignment (R93 to R104, R127, R128): what the commands and the steps of a search make of the search, of
the pending map and of `ASG_STAT`. -/

namespace Sys2Proof.Machine

variable {b : Block} {e : Nat}

/-! ## The bits of ASG_CTRL (R128) -/

theorem asgCtrlWrite_start {v : Word} (h4 : bit v 4 = false) (h3 : bit v 3 = false) (h0 : bit v 0 = true)
    (hok : b.asgRefused e (some (fld v 1 2)) = false) :
    asgCtrlWrite e v b =
      (b.newSearch e (fld v 1 2) (b.rdF (ASG_TARGET e) 0 9) (b.rdF (ASG_TARGET e) 9 3) false false, true) := by
  unfold asgCtrlWrite
  rw [h4, h0, h3, Block.when_false]
  dsimp only
  rw [Block.when_true, Block.when_false, if_neg (by rw [hok]; decide)]
  rfl

theorem asgCtrlWrite_replace {v : Word} (h4 : bit v 4 = false) (h0 : bit v 0 = false) (h3 : bit v 3 = true)
    (hok : b.asgRefused e none = false) : asgCtrlWrite e v b = (b.replaceRing e, true) := by
  unfold asgCtrlWrite
  simp only [h4, h3, h0, Block.when_true, Block.when_false, hok, Bool.false_eq_true, if_false, Bool.or_false, Bool.false_or]

theorem asgCtrlWrite_abort {v : Word} (h0 : bit v 0 = false) (h3 : bit v 3 = false) (h4 : bit v 4 = true) :
    asgCtrlWrite e v b = (b.abortSearch e, true) := by
  unfold asgCtrlWrite
  simp only [h4, h3, h0, Block.when_true, Block.when_false, Bool.false_or]

/-! ## A search (R95, R99, R128) -/

theorem engHeld_ne_asgStat (e : Nat) : ASG_STAT e ≠ ENG_HELD e := by
  simp only [ASG_STAT, ENG_HELD, P_ASG, P_ENG]
  omega

theorem searchHolds_work (b : Block) (e : Nat) : MapWork e b (b.searchHolds e) :=
  .when (.wr (engHeld_ne_asgStat e))

theorem newSearch_begun (scope row group : Nat) (startup wait : Bool) :
    ((b.newSearch e scope row group startup wait).eng e).search.map (·.scope) = some scope ∧
      (b.newSearch e scope row group startup wait).rdB (ASG_STAT e) 0 = true := by
  unfold Block.newSearch
  dsimp only
  generalize hc : Block.setB _ _ _ = c
  have hwork : ∀ p, MapWork e c (c.when p fun b => b.searchHolds e) := fun _ => .when (searchHolds_work c e)
  rw [(hwork _).search, (hwork _).stat 0 (by decide) (by decide)]
  subst hc
  refine ⟨?_, Block.rdB_setB _ _ _ (by decide)⟩
  rw [Block.eng_setB, Block.eng_updEng_same]
  rfl

/-- A waiting search whose bank is free. -/
theorem searchAfterWait_served {r : Search} (hs : (b.eng e).search = some r) (hw : r.waiting = true)
    (hst : r.startup = false) (hfree : b.bankFree e = true) :
    ((searchAfterWait e b).eng e).search = some { r with waiting := false, start := b.time } := by
  unfold searchAfterWait
  simp only [hs]
  rw [if_neg (by simp [hw, hst, hfree]), (searchHolds_work _ e).search, Block.eng_updEng_same]

theorem sweepBegin_swept {r : Search} {g : Nat} {rest : List Nat} (hs : (b.eng e).search = some r)
    (hw : r.waiting = false) (hsw : r.sweeping = none) (htodo : r.todo = g :: rest)
    (hlocked : ((sweepRegions e g).all fun q => b.lockSt e q == 3) = true) :
    ((sweepBegin e b).eng e).search = some { r with sweeping := some g, todo := rest } := by
  unfold sweepBegin
  simp only [hs, hw, hsw, htodo]
  rw [if_pos hlocked, Block.eng_updEng_same]

theorem sweepEnd_found {r : Search} {g : Nat} (peaks : List Peak) (hs : (b.eng e).search = some r)
    (hsw : r.sweeping = some g) :
    ((sweepEnd e peaks b).eng e).search.map (fun r => (r.sweeping, r.swept, r.peaks)) =
      some (none, r.swept ++ [g], r.peaks ++ peaks.filter fun p => p.group == g) := by
  unfold sweepEnd
  simp only [hs, hsw]
  rw [Block.eng_updEng_same]
  rfl

/-- The search of engine `e` gone, and `ABORTED` shown. -/
def Block.searchGone (b : Block) (e : Nat) : Block :=
  ((b.updEng e fun x => { x with search := none }).clrB (ASG_STAT e) 0).setB (ASG_STAT e) 5

theorem abortSearch_eq {sr : Search} (h : (b.eng e).search = some sr) :
    b.abortSearch e = (((match sr.sweeping with | some g => b.sweepOff e g | none => b).searchGone e).ev 0x3B02 0
      [(1, e)]).pumpAll (stackOf e) := by
  unfold Block.abortSearch
  rw [h]
  rfl

theorem searchGone_engs (b : Block) (e : Nat) :
    (b.searchGone e).engs = (b.updEng e fun x => { x with search := none }).engs := by
  rw [Block.searchGone, Block.setB_engs, Block.clrB_engs]
theorem searchGone_frm (b : Block) (e : Nat) : (b.searchGone e).frm = (b.updEng e fun x => { x with search := none }).frm := by
  rw [Block.searchGone, Block.setB_frm, Block.clrB_frm]

theorem searchGone_bits (b : Block) (e : Nat) :
    (b.searchGone e).rdB (ASG_STAT e) 0 = false ∧ (b.searchGone e).rdB (ASG_STAT e) 5 = true :=
  ⟨(Block.rdB_wrB_ne _ _ _ _ _ (by decide) (by decide)).trans (Block.rdB_clrB _ _ _ (by decide)),
    Block.rdB_setB _ _ _ (by decide)⟩

theorem StackIdle.searchGone {k : Nat} (h : StackIdle b k) : StackIdle (b.searchGone e) k :=
  (h.updEng e (f := fun x => { x with search := none }) fun _ => id).of_fields (searchGone_engs b e) (searchGone_frm b e)

/-- What an abort leaves while no computation waits. -/
theorem abortSearch_ended (hs : (b.eng e).search.isSome) (hidle : StackIdle b (stackOf e)) :
    ((b.abortSearch e).eng e).search = none ∧ (b.abortSearch e).rdB (ASG_STAT e) 0 = false ∧
      (b.abortSearch e).rdB (ASG_STAT e) 5 = true ∧ ((b.abortSearch e).eng e).mapP = (b.eng e).mapP := by
  obtain ⟨sr, hsr⟩ := Option.isSome_iff_exists.1 hs
  rw [abortSearch_eq hsr]
  generalize hc : (match sr.sweeping with | some g => b.sweepOff e g | none => b) = c
  have hwork : MapWork e b c := by
    subst hc
    split
    · exact .sweepOff
    · exact .refl ..
  have hev : StackIdle ((c.searchGone e).ev 0x3B02 0 [(1, e)]) (stackOf e) :=
    (hwork.idle hidle).searchGone.of_fields (Block.ev_engs ..) (Block.ev_frm ..)
  obtain ⟨hbusy, haborted⟩ := searchGone_bits c e
  rw [hev.pumpAll, Block.eng_ev, Block.eng_congr (searchGone_engs c e), Block.eng_updEng_same, Block.rdB, Block.rdB,
    Block.rd_ev]
  exact ⟨rfl, hbusy, haborted, hwork.mapP⟩

/-! ## A search that is complete (R96 to R100) -/

theorem asgIstat_ne (e : Nat) : ASG_STAT e ≠ PG_ISTAT (P_ASG e) := by
  simp only [ASG_STAT, PG_ISTAT]
  omega

/-- `BUSY` of a search ends and `DONE` is shown, with the time that it took. -/
def Block.searchDone (b : Block) (e : Nat) (us : Word) : Block :=
  ((b.wr (ASG_TIME e) us).clrB (ASG_STAT e) 0).setB (ASG_STAT e) 3

theorem searchDone_engs (b : Block) (e : Nat) (us : Word) : (b.searchDone e us).engs = b.engs := by
  rw [Block.searchDone, Block.setB_engs, Block.clrB_engs, Block.wr_engs]
theorem searchDone_frm (b : Block) (e : Nat) (us : Word) : (b.searchDone e us).frm = b.frm := by
  rw [Block.searchDone, Block.setB_frm, Block.clrB_frm, Block.wr_frm]

theorem searchDone_bits (b : Block) (e : Nat) (us : Word) :
    (b.searchDone e us).rdB (ASG_STAT e) 0 = false ∧ (b.searchDone e us).rdB (ASG_STAT e) 3 = true :=
  ⟨(Block.rdB_wrB_ne _ _ _ _ _ (by decide) (by decide)).trans (Block.rdB_clrB _ _ _ (by decide)),
    Block.rdB_setB _ _ _ (by decide)⟩

/-- A completed search: the engine keeps what it chose and no search, `BUSY` ends and `DONE` is shown, between work on the maps
and trims; then what waited may begin. -/
theorem searchComplete_steps {sr : Search} (fails : List (Nat × Nat)) (peaks : List Peak) (hs : (b.eng e).search = some sr)
    (hw : sr.waiting = false) (hsw : sr.sweeping = none) (htodo : sr.todo = []) :
    ∃ (x : Eng) (c : Block) (us : Word) (d : Block), x.search = none ∧ x.dyn = (b.eng e).dyn ∧
      MapWork e (b.setEng e x) c ∧ MapWork e (c.searchDone e us) d ∧ searchComplete e fails peaks b = d.pumpAll (stackOf e) := by
  have hgo : ¬ (sr.waiting ∨ sr.sweeping.isSome ∨ !sr.todo.isEmpty) := by simp [hw, hsw, htodo]
  unfold searchComplete
  rw [hs]
  show ∃ x c us d, _ ∧ _ ∧ _ ∧ _ ∧ ite _ _ _ = _
  rw [if_neg hgo]
  extract_lets again second allPeaks good x rows step
  split
  next m ln sp os _ =>
    extract_lets want
    split
    next park off _ =>
      extract_lets b1 b2 b3 b4 us b5 b6 b7
      have hraise : ∀ (b : Block) i, MapWork e b (b.raise (P_ASG e) i) := fun _ _ => .wr (asgIstat_ne e)
      have h14 : MapWork e b1 b4 :=
        (MapWork.when .commitMap).after <| (MapWork.when .mapDirty).after <| .each fun _ _ => .assignOfs
      have h67 : MapWork e b6 b7 := .ite .ev (MapWork.ev.after (hraise ..))
      refine ⟨_, b4, wd us, _, ?_, ?_, h14, MapWork.parkEvents.after (h67.after (hraise b5 0)), rfl⟩ <;> rfl

theorem searchComplete_ended {sr : Search} (fails : List (Nat × Nat)) (peaks : List Peak) (hs : (b.eng e).search = some sr)
    (hw : sr.waiting = false) (hsw : sr.sweeping = none) (htodo : sr.todo = []) (hidle : StackIdle b (stackOf e)) :
    ((searchComplete e fails peaks b).eng e).search = none ∧ (searchComplete e fails peaks b).rdB (ASG_STAT e) 0 = false ∧
      (searchComplete e fails peaks b).rdB (ASG_STAT e) 3 = true := by
  obtain ⟨x, c, us, d, hnone, hdyn, hchosen, hshown, hend⟩ := searchComplete_steps fails peaks hs hw hsw htodo
  have hset : StackIdle (b.setEng e x) (stackOf e) := hidle.of_dyn rfl (MapWork.setEng_dyn hdyn)
  have hdidle := (hchosen.idle hset).of_fields (searchDone_engs c e us) (searchDone_frm c e us)
  obtain ⟨hbusy, hdone⟩ := searchDone_bits c e us
  rw [hend, (hshown.idle hdidle).pumpAll, hshown.search, hshown.stat 0 (by decide) (by decide),
    hshown.stat 3 (by decide) (by decide), Block.eng_congr (searchDone_engs c e us), hchosen.search, eng_setEng_same]
  exact ⟨hnone, hbusy, hdone⟩

end Sys2Proof.Machine
end

section
/-! SUPPORT. Resonance assignment as a whole (R103, R104, R127): replacements and the map windows, and each clause of O21 as a
command gives it. -/

namespace Sys2Proof.Machine

variable {b : Block} {e : Nat}

/-! ## Replacement (R104) -/

/-- The pending map marks ring `i` failed. -/
def Block.marks (b : Block) (e i : Nat) : Prop := mRole (mapGet (b.eng e).mapP i) = 2

theorem marks_congr {c : Block} (h : c.engs = b.engs) {i : Nat} : c.marks e i ↔ b.marks e i := by
  rw [Block.marks, Block.eng_congr h, Block.marks]

theorem MapWork.marks {c : Block} (h : MapWork e b c) {i : Nat} : c.marks e i ↔ b.marks e i := by
  rw [Block.marks, h.mapP, Block.marks]

theorem mRole_failed (w : Word) : mRole (setFld w 6 2 2) = 2 := fld_setFld w 6 2 2 (by decide)

/-- An engine whose pending map is written, once it marks the ring. -/
theorem marks_setEng {i : Nat} {x : Eng} (h : mRole (mapGet x.mapP i) = 2) : (b.setEng e x).marks e i := by
  rw [Block.marks, eng_setEng_same]
  exact h

/-- A ring marked failed in a map. -/
theorem mRole_marked (m : SMap Word) (i : Nat) (w : Word) : mRole (mapGet (mapSet m i (setFld w 6 2 2)) i) = 2 := by
  rw [mapGet, mapSet, SMap.get_set_same, mRole_failed]

/-- It stays so when the entry of another ring is written. -/
theorem mRole_marked_other (m : SMap Word) {i j : Nat} (w v : Word) (h : i ≠ j) :
    mRole (mapGet (mapSet (mapSet m i (setFld w 6 2 2)) j v) i) = 2 := by
  rw [mapGet, mapSet, SMap.get_set_ne _ _ _ h]
  exact mRole_marked m i w

/-- A choice by pairs from a list is one of its elements. -/
theorem foldl_choice_mem {α : Type} {f : Option α → α → Option α} (hf : ∀ o a, f o a = some a ∨ f o a = o) :
    ∀ (xs : List α) (o : Option α) {k : α}, xs.foldl f o = some k → k ∈ xs ∨ o = some k
  | [], _, _, h => .inr h
  | a :: xs, o, k, h => by
    rcases foldl_choice_mem hf xs (f o a) h with hmem | heq
    · exact .inl (List.mem_cons_of_mem a hmem)
    · rcases hf o a with ha | ho
      · exact .inl (by simp [Option.some.inj (ha.symm.trans heq)])
      · exact .inr (ho.symm.trans heq)

/-- A spare's entry is of role 1. -/
theorem bestSpare_role {x : Eng} {r g l k : Nat} (h : bestSpare e x r g l = some k) :
    mRole (mapGet x.mapP (ringIx e r g k)) = 1 := by
  unfold bestSpare at h
  refine (foldl_choice_mem (fun o a => ?_) _ _ h).elim (fun hmem => ?_) fun hnone => absurd hnone (by simp)
  · cases o with
    | none => exact .inl rfl
    | some k0 =>
      dsimp only
      split
      · exact .inl rfl
      · exact .inr rfl
  · have hspare := (List.mem_filter.1 hmem).2
    exact beq_iff_eq.1 (Bool.and_eq_true_iff.1 hspare).1

theorem replaceAt_marks (b : Block) (e r g k : Nat) :
    (b.replaceAt e r g k).marks e (ringIx e r g k) ∧ (b.replaceAt e r g k).rdB (ASG_STAT e) 3 = true := by
  have hdone : ∀ c : Block, c.marks e (ringIx e r g k) →
      ((c.setB (ASG_STAT e) 3).raise (P_ASG e) 0).marks e (ringIx e r g k) ∧
        ((c.setB (ASG_STAT e) 3).raise (P_ASG e) 0).rdB (ASG_STAT e) 3 = true := fun c hc =>
    ⟨(marks_congr (by rw [Block.raise, Block.setB_engs, Block.setB_engs])).2 hc,
      (Block.rdB_raise _ 0 3 (asgIstat_ne e)).trans (Block.rdB_setB _ _ _ (by decide))⟩
  unfold Block.replaceAt
  have hraise : ∀ (c : Block) i, MapWork e c (c.raise (P_ASG e) i) := fun _ _ => .wr (asgIstat_ne e)
  extract_lets x i w done mark b1 here b2 n b4 b3
  have hmark : mRole (mapGet mark i) = 2 := mRole_marked ..
  split
  · next hfailed => exact hdone b hfailed
  · have h4 : b4.marks e i := by
      dsimp only [b4]
      split
      · exact MapWork.ev.marks.2 (marks_setEng hmark)
      · exact MapWork.ev.marks.2 (marks_setEng hmark)
    refine hdone b3 ?_
    dsimp only [b3]
    split
    · exact marks_setEng hmark
    · next hactive =>
      split
      · next k' hspare =>
        have hne : ringIx e r g k ≠ ringIx e r g k' := fun heq => by
          have hrole := bestSpare_role hspare
          rw [← heq] at hrole
          exact hactive fun h0 => absurd (hrole.symm.trans h0) (by decide)
        exact (MapWork.assignOfs.trans MapWork.ev).marks.2 (marks_setEng (mRole_marked_other _ _ _ hne))
      · split
        · exact marks_setEng hmark
        · exact (hraise b4 2).marks.2 h4

/-- What follows a replacement is work on the maps: the marks staged, and a rebuild or a commit. -/
theorem replaceRing_work (b : Block) (e : Nat) :
    MapWork e (b.replaceAt e (b.rdF (ASG_TARGET e) 0 9) (b.rdF (ASG_TARGET e) 9 3) (b.rdF (ASG_TARGET e) 12 7))
      (b.replaceRing e) := by
  have hrest : ∀ (c : Block) (p : Bool), MapWork e c (if 64 ≤ e || p then c.stageMarks e
      else if (c.stageMarks e).rdB (ENG_STATE e) 2 then (c.stageMarks e).autoRebuild e else (c.stageMarks e).commitMap e) :=
    fun c p => .ite .stageMarks (.ite (.trans .stageMarks .autoRebuild) (.trans .stageMarks .commitMap))
  exact hrest _ _

theorem replaceRing_marks (b : Block) (e : Nat) :
    (b.replaceRing e).marks e (ringIx e (b.rdF (ASG_TARGET e) 0 9) (b.rdF (ASG_TARGET e) 9 3) (b.rdF (ASG_TARGET e) 12 7)) ∧
      (b.replaceRing e).rdB (ASG_STAT e) 3 = true := by
  have hwork := replaceRing_work b e
  obtain ⟨hmark, hdone⟩ :=
    replaceAt_marks b e (b.rdF (ASG_TARGET e) 0 9) (b.rdF (ASG_TARGET e) 9 3) (b.rdF (ASG_TARGET e) 12 7)
  exact ⟨hwork.marks.2 hmark, (hwork.stat 3 (by decide) (by decide)).trans hdone⟩

/-! ## The map windows (R103, R127) -/

theorem asgNext_eng (b : Block) (e k : Nat) : (b.asgNext e).eng k = b.eng k := by
  unfold Block.asgNext
  split
  · exact Block.eng_congr (Block.wrF_engs ..) k
  · rfl

theorem asgDataWrite_maps {v : Word} (h : b.rdF (ASG_ADDR e) 0 19 < ringsOf e) :
    mapGet ((asgDataWrite e v b).1.eng e).mapP (b.rdF (ASG_ADDR e) 0 19) = v ∧
      ((asgDataWrite e v b).1.eng e).mapF = (b.eng e).mapF := by
  have heng : (asgDataWrite e v b).1.eng e =
      { b.eng e with mapP := mapSet (b.eng e).mapP (b.rdF (ASG_ADDR e) 0 19) v } := by
    unfold asgDataWrite
    dsimp only
    rw [if_neg (by omega), asgNext_eng, Block.mapDirty, Block.eng_setB, Block.eng_updEng_same]
  rw [heng]
  exact ⟨SMap.get_set_same .., rfl⟩

/-! ## The clauses of O21 -/

variable (s : State) (m : Master)

theorem asgStart_gives (e : Fin 72) (v : Word) (ha : s.b.accepts m (ASG_CTRL e) = true) (hv : fld v 3 2 = 0)
    (hok : s.b.asgRefused e (some (fld v 1 2)) = false) :
    Gives (.asgStart m e v) s fun t =>
      (t.b.eng e).search.map (·.scope) = some (fld v 1 2) ∧ t.rdB (ASG_STAT e) 0 = true := by
  have hscope : fld (v ||| 1) 1 2 = fld v 1 2 := fld_or_of_zero v rfl
  have hcmd := asgCtrlWrite_start (b := s.b.fresh) (e := e) (v := v ||| 1)
    (bit_or_clear (bit_of_fld_zero 4 hv (by decide)) rfl) (bit_or_clear (bit_of_fld_zero 3 hv (by decide)) rfl)
    (bit_or_set v rfl) (by rw [hscope]; exact hok)
  rw [hscope] at hcmd
  refine Gives.of_gate (eff := asgCtrlWrite e (v ||| 1)) rfl ha hcmd ?_
  rw [run_eng, counted_eng, State.rdB, run_counted_rdB _ _ _ _ _ (enginePlain_asgStat e)]
  exact newSearch_begun ..

theorem asgReplace_gives (e : Fin 72) (v : Word) (ha : s.b.accepts m (ASG_CTRL e) = true) (h0 : v.getLsbD 0 = false)
    (h4 : v.getLsbD 4 = false) (hok : s.b.asgRefused e none = false) :
    Gives (.asgReplace m e v) s fun t => mRole (mapGet (t.b.eng e).mapP (ringIx e (s.rdF (ASG_TARGET e) 0 9)
      (s.rdF (ASG_TARGET e) 9 3) (s.rdF (ASG_TARGET e) 12 7))) = 2 ∧ t.rdB (ASG_STAT e) 3 = true := by
  have hcmd := asgCtrlWrite_replace (b := s.b.fresh) (e := e) (v := v ||| 8) (bit_or_clear h4 rfl) (bit_or_clear h0 rfl)
    (bit_or_set v rfl) hok
  refine Gives.of_gate (eff := asgCtrlWrite e (v ||| 8)) rfl ha hcmd ?_
  rw [run_eng, counted_eng, State.rdB, run_counted_rdB _ _ _ _ _ (enginePlain_asgStat e)]
  exact replaceRing_marks s.b.fresh e

theorem asgAbort_gives (e : Fin 72) (v : Word) (ha : s.b.accepts m (ASG_CTRL e) = true) (h0 : v.getLsbD 0 = false)
    (h3 : v.getLsbD 3 = false) (hs : (s.b.eng e).search.isSome) (hidle : StackIdle s.b (stackOf e)) :
    Gives (.asgAbort m e v) s fun t => (t.b.eng e).search = none ∧ t.rdB (ASG_STAT e) 0 = false ∧
      t.rdB (ASG_STAT e) 5 = true ∧ (t.b.eng e).mapP = (s.b.eng e).mapP := by
  have hcmd := asgCtrlWrite_abort (b := s.b.fresh) (e := e) (v := v ||| 16) (bit_or_clear h0 rfl) (bit_or_clear h3 rfl)
    (bit_or_set v rfl)
  refine Gives.of_gate (eff := asgCtrlWrite e (v ||| 16)) rfl ha hcmd ?_
  rw [run_eng, counted_eng, State.rdB, State.rdB, run_counted_rdB _ _ _ _ _ (enginePlain_asgStat e),
    run_counted_rdB _ _ _ _ _ (enginePlain_asgStat e)]
  exact abortSearch_ended (b := s.b.fresh) hs (hidle.of_fields rfl rfl)

theorem searchStartAfterWait_gives (e : Fin 72) (r : Search) (hs : (s.b.eng e).search = some r) (hw : r.waiting = true)
    (hst : r.startup = false) (hfree : s.b.bankFree e = true) :
    Gives (.searchStartAfterWait e) s fun t =>
      (t.b.eng e).search = some { r with waiting := false, start := s.b.time } := by
  refine Gives.of_done (f := searchAfterWait e) rfl ?_
  rw [run_eng]
  exact searchAfterWait_served (b := s.b.fresh) hs hw hst hfree

theorem groupSweepBegin_gives (e : Fin 72) (r : Search) (g : Nat) (rest : List Nat) (hs : (s.b.eng e).search = some r)
    (hw : r.waiting = false) (hsw : r.sweeping = none) (htodo : r.todo = g :: rest)
    (hlocked : ((sweepRegions e g).all fun q => s.b.lockSt e q == 3) = true) :
    Gives (.groupSweepBegin e) s fun t => (t.b.eng e).search = some { r with sweeping := some g, todo := rest } := by
  refine Gives.of_done (f := sweepBegin e) rfl ?_
  rw [run_eng]
  exact sweepBegin_swept (b := s.b.fresh) hs hw hsw htodo hlocked

theorem sweepEnd_gives (e : Fin 72) (peaks : List Peak) (r : Search) (g : Nat) (hs : (s.b.eng e).search = some r)
    (hsw : r.sweeping = some g) :
    Gives (.sweepEnd e peaks) s fun t => (t.b.eng e).search.map (fun r => (r.sweeping, r.swept, r.peaks)) =
      some (none, r.swept ++ [g], r.peaks ++ peaks.filter fun p => p.group == g) := by
  refine Gives.of_done (f := sweepEnd e peaks) rfl ?_
  rw [run_eng]
  exact sweepEnd_found (b := s.b.fresh) peaks hs hsw

theorem searchComplete_gives (e : Fin 72) (fails : List (Nat × Nat)) (peaks : List Peak) (r : Search)
    (hs : (s.b.eng e).search = some r) (hw : r.waiting = false) (hsw : r.sweeping = none) (htodo : r.todo = [])
    (hidle : StackIdle s.b (stackOf e)) :
    Gives (.searchComplete e fails peaks) s fun t => (t.b.eng e).search = none ∧ t.rdB (ASG_STAT e) 0 = false ∧
      t.rdB (ASG_STAT e) 3 = true := by
  refine Gives.of_done (f := searchComplete e fails peaks) rfl ?_
  rw [run_eng, State.rdB, State.rdB, run_rdB_engine _ _ _ (enginePlain_asgStat e),
    run_rdB_engine _ _ _ (enginePlain_asgStat e)]
  exact searchComplete_ended (b := s.b.fresh) fails peaks hs hw hsw htodo (hidle.of_fields rfl rfl)

theorem asgDataWrite_gives (e : Fin 72) (v : Word) (ha : s.b.accepts m (ASG_DATA e) = true)
    (hix : s.rdF (ASG_ADDR e) 0 19 < ringsOf e) :
    Gives (.asgDataWrite m e v) s fun t =>
      mapGet (t.b.eng e).mapP (s.rdF (ASG_ADDR e) 0 19) = v ∧ (t.b.eng e).mapF = (s.b.eng e).mapF := by
  refine Gives.of_gate (eff := asgDataWrite e v) rfl ha rfl ?_
  rw [run_eng, counted_eng]
  exact asgDataWrite_maps (b := s.b.fresh) hix

theorem asgDataRead_gives (e : Fin 72) (ha : s.b.answers m (ASG_DATA e) = true) :
    Gives (.asgDataRead m e) s fun t => Output.data m [s.b.asgWord e] ∈ t.b.out :=
  Gives.of_read (eff := asgDataRead e) rfl ha rfl (mem_out_run (Block.mem_out_send_self ..))

/-- Settles O21: each command and step of a search, of a replacement and of the map windows. -/
theorem assignmentSearch : Obligations.AssignmentSearch := by
  unfold Obligations.AssignmentSearch
  refine ⟨?_, ?_, ?_, ?_, ?_, ?_, ?_, asgDataWrite_gives, asgDataRead_gives⟩
  · exact fun s m e v ⟨ha, hv⟩ => asgStart_gives s m e v ha hv
  · exact fun s m e v ⟨ha, h0, h4⟩ => asgReplace_gives s m e v ha h0 h4
  · exact fun s m e v ⟨ha, h0, h3⟩ hs ⟨hmint, hfirst, hsecond⟩ =>
      asgAbort_gives s m e v ha h0 h3 hs ⟨hmint, hfirst, hsecond⟩
  · exact fun s e r ⟨hs, hw, hst⟩ => searchStartAfterWait_gives s e r hs hw hst
  · exact fun s e r g rest ⟨hs, hw, hsw, htodo⟩ ⟨hlocked, _⟩ =>
      groupSweepBegin_gives s e r g rest hs hw hsw htodo hlocked
  · exact fun s e peaks r g ⟨hs, hsw⟩ => sweepEnd_gives s e peaks r g hs hsw
  · exact fun s e fails peaks r ⟨hs, hw, hsw, htodo⟩ ⟨hmint, hfirst, hsecond⟩ =>
      searchComplete_gives s e fails peaks r hs hw hsw htodo ⟨hmint, hfirst, hsecond⟩

end Sys2Proof.Machine
end

section
/-! SUPPORT. Coefficient banks, the slope table and table access (R138, R150 to R154, R158): what each command makes of the bank
registers and of the tables, and the clauses of O24 about them. -/

namespace Sys2Proof.Machine

variable {b : Block} {s : Nat}

/-! ## The registers of the compute element -/

theorem unitPlain_bankStat (s : Nat) : unitPlain (CE_BANK_STAT s) := by simp only [unitPlain, CE_BANK_STAT, P_CE]; omega
theorem unitPlain_bankArm (s : Nat) : unitPlain (CE_BANK_ARM s) := by simp only [unitPlain, CE_BANK_ARM, P_CE]; omega
theorem unitPlain_trefcnt (s : Nat) : unitPlain (CE_TREFCNT s) := by simp only [unitPlain, CE_TREFCNT, P_CE]; omega
theorem unitPlain_ovrTotal (s : Nat) : unitPlain (CE_OVR_TOTAL s) := by simp only [unitPlain, CE_OVR_TOTAL, P_CE]; omega

theorem bankArm_ne_stat (s : Nat) : CE_BANK_ARM s ≠ CE_BANK_STAT s := by unfold CE_BANK_ARM CE_BANK_STAT; omega
theorem bankStat_ne_trefcnt (s : Nat) : CE_BANK_STAT s ≠ CE_TREFCNT s := by unfold CE_BANK_STAT CE_TREFCNT; omega
theorem taddr_ne (s : Nat) : CE_BANK_STAT s ≠ CE_TADDR s ∧ CE_TREFCNT s ≠ CE_TADDR s := by
  unfold CE_BANK_STAT CE_TREFCNT CE_TADDR
  omega

/-- A counter as it shows after `n` more. -/
theorem rdF_bump (b : Block) (o n : Nat) : (b.bump o n).rdF o 0 32 = min (b.rdF o 0 32 + n) (2 ^ 32 - 1) := by
  have hlt : min (b.rdF o 0 32 + n) (2 ^ 32 - 1) < 2 ^ 32 := by omega
  rw [Block.bump, Block.bumpF, Block.rdF_wrF _ _ _ _ _ (by decide), Nat.mod_eq_of_lt hlt]

/-! ## Arming and the check (R152, R154) -/

theorem showArmed_arm (b : Block) (s : Nat) : (b.showArmed s).rd (CE_BANK_ARM s) = b.rd (CE_BANK_ARM s) := by
  rw [Block.showArmed, Block.rd_wrB_ne _ _ _ (bankArm_ne_stat s)]
theorem showArmed_checking (b : Block) (s : Nat) : (b.showArmed s).rdB (CE_BANK_STAT s) 0 = b.rdB (CE_BANK_STAT s) 0 := by
  rw [Block.showArmed, Block.rdB_wrB_ne _ _ _ _ _ (by decide) (by decide)]
theorem stk_wr (b : Block) (o : Nat) (v : Word) (k : Nat) : (b.wr o v).stk k = b.stk k := rfl
theorem stk_showArmed (b : Block) (s k : Nat) : (b.showArmed s).stk k = b.stk k := by
  rw [Block.showArmed]
  exact stk_wrF ..

/-- The arm bits shown and the check of the groups begun. -/
def Block.armsSet (b : Block) (s g : Nat) : Block :=
  ((b.wr (CE_BANK_ARM s) (b.rd (CE_BANK_ARM s) ||| wd g)).setB (CE_BANK_STAT s) 0).showArmed s

theorem bankArmWrite_eq {v : Word} (hv : fld v 0 18 ≠ 0) : (bankArmWrite s v b).1 =
    (b.armsSet s (fld v 0 18)).updStk s fun k => { k with checking := k.checking ||| fld v 0 18 } := by
  unfold bankArmWrite
  dsimp only
  rw [if_neg hv]
  rfl

theorem bankArmWrite_arms {v : Word} (hv : fld v 0 18 ≠ 0) :
    (bankArmWrite s v b).1.rd (CE_BANK_ARM s) = b.rd (CE_BANK_ARM s) ||| wd (fld v 0 18) ∧
      ((bankArmWrite s v b).1.stk s).checking = (b.stk s).checking ||| fld v 0 18 ∧
      (bankArmWrite s v b).1.rdB (CE_BANK_STAT s) 0 = true := by
  have hstk : (b.armsSet s (fld v 0 18)).stk s = b.stk s := by
    rw [Block.armsSet, stk_showArmed, Block.stk_setB]
    exact stk_wr ..
  rw [bankArmWrite_eq hv, Block.rd_updStk, Block.stk_updStk_same, Block.rdB_updStk, hstk]
  refine ⟨?_, rfl, ?_⟩
  · rw [Block.armsSet, showArmed_arm, Block.rd_setB_ne _ _ (bankArm_ne_stat s), Block.rd_wr_same]
  · rw [Block.armsSet, showArmed_checking]
    exact Block.rdB_setB _ _ _ (by decide)

theorem bankDisarmWrite_arm (v : Word) :
    (bankDisarmWrite s v b).1.rd (CE_BANK_ARM s) = b.rd (CE_BANK_ARM s) &&& ~~~(wd (fld v 0 18)) := by
  unfold bankDisarmWrite
  dsimp only
  rw [Block.rd_wrB_ne _ _ _ (bankArm_ne_stat s), Block.rd_updStk, showArmed_arm, Block.rd_wr_same]

theorem bankCheckDone_over (h : (b.stk s).checking ≠ 0) :
    ((bankCheckDone s b).stk s).checking = 0 ∧ (bankCheckDone s b).rdB (CE_BANK_STAT s) 0 = false := by
  unfold bankCheckDone
  extract_lets k c gs armed pend bad loads b1 heavy dith b2 b3 b4
  rw [if_neg h]
  exact ⟨by rw [Block.stk_clrB, Block.stk_updStk_same], Block.rdB_clrB _ _ _ (by decide)⟩

/-! ## The slope table (R138) -/

theorem slopeTab_ne_nil (b : Block) (s g : Nat) : b.slopeTab s g ≠ [] := by
  unfold Block.slopeTab
  extract_lets k l
  split
  · exact List.ne_nil_of_length_pos (by rw [slopeOf, List.length_map, List.length_range]; decide)
  · next h => simpa using h

/-- What a list of groups holds for one of its groups. -/
theorem find_group {α : Type} (f : Nat → α) {n g : Nat} (h : g < n) :
    ((List.range n).map fun g => (g, f g)).find? (fun w => w.1 == g) = some (g, f g) := by
  have hrange : (List.range n).find? (fun i => i == g) = some g :=
    List.find?_range_eq_some.2 (by simpa [h] using fun j (hj : j < g) => hj.ne)
  rw [List.find?_map]
  simp only [Function.comp_def, hrange, Option.map_some]

/-- A group goes on with the slopes it had until its next boundary. -/
theorem slopeRecompute_slopeTab {g : Nat} (hg : g < 18) : (slopeRecompute s b).slopeTab s g = b.slopeTab s g := by
  have hwait : ((slopeRecompute s b).stk s).slopeWait.find? (fun w => w.1 == g) = some (g, b.slopeTab s g) := by
    rw [slopeRecompute, Block.stk_updStk_same]
    exact find_group (b.slopeTab s) hg
  have hne : (b.slopeTab s g).isEmpty = false := by simpa using slopeTab_ne_nil b s g
  rw [Block.slopeTab, hwait]
  dsimp only
  rw [hne, if_neg Bool.false_ne_true]

/-! ## Table access (R154, R158) -/

theorem stk_tabNext (b : Block) (s k : Nat) : (b.tabNext s).stk k = b.stk k := by
  unfold Block.tabNext
  split
  · exact stk_wrF ..
  · rfl

theorem rd_tabNext {o : Nat} (h : o ≠ CE_TADDR s) : (b.tabNext s).rd o = b.rd o := by
  unfold Block.tabNext
  split
  · exact Block.rd_wrF_ne _ _ _ _ h
  · rfl

/-- A bank address of a loop's record is that of its word. -/
theorem recAddr_of_bankAt {a bank g i : Nat} (h : bankAt a = some (bank, g, some i)) : recAddr bank i (a % 128) = a := by
  unfold bankAt at h
  extract_lets k o at h
  split at h
  · cases h
  · split at h
    · obtain ⟨rfl, -, rfl⟩ : k = bank ∧ groupOfLoop (o / 128) = g ∧ o / 128 = i := by simpa using h
      simp only [recAddr, k, o]
      omega
    · split at h <;> simp at h

theorem activeBank_fresh (b : Block) (s : Nat) : b.fresh.activeBank s = b.activeBank s := funext fun g => by
  rw [Block.activeBank, Block.rdF, Block.fresh_rd]
  rfl

theorem tabRead_fresh (b : Block) (s a : Nat) : b.fresh.tabRead s a = b.tabRead s a := by
  have hstk : b.fresh.stk s = b.stk s := rfl
  have hcurve : b.fresh.curveOf (PLT_CURVE s) = b.curveOf (PLT_CURVE s) := by simp only [Block.curveOf, Block.fresh_rd]
  have hregion : b.fresh.region = b.region := funext fun e => funext (region_fresh b e)
  unfold Block.tabRead
  rw [hstk, hcurve, activeBank_fresh, hregion]

/-- The word put at byte address `a` of the tables of stack `s`. -/
def Block.putTab (b : Block) (s a : Nat) (v : Word) : Block :=
  b.updStk s fun k => { k with ceTab := k.ceTab.set tabDefault (a / 4) v }

theorem tab_putTab (b : Block) (s a : Nat) (v : Word) : ((b.putTab s a v).stk s).tab a = v := by
  rw [Block.putTab, Block.stk_updStk_same]
  exact SMap.get_set_same ..

/-- A write that its bank takes, to the word alone. -/
theorem ceTdataWrite_taken {v : Word} {bank g : Nat} {loop : Option Nat} (hall : b.rdB (CE_TADDR s) 30 = false)
    (hat : bankAt (b.rdF (CE_TADDR s) 0 24 / 4 * 4) = some (bank, g, loop)) (hok : b.bankRefuses s bank g = false) :
    (ceTdataWrite s v b).1 = (b.putTab s (b.rdF (CE_TADDR s) 0 24 / 4 * 4) v).tabNext s := by
  unfold ceTdataWrite
  simp only [hat, hok, hall, Bool.false_eq_true, if_false]
  cases loop with
  | none => rfl
  | some i => simp only [Block.each_cons, Block.each_nil, recAddr_of_bankAt hat, Block.putTab]

/-- A write that its bank refuses. -/
theorem ceTdataWrite_refused {v : Word} {bank g : Nat} {loop : Option Nat}
    (hat : bankAt (b.rdF (CE_TADDR s) 0 24 / 4 * 4) = some (bank, g, loop)) (hno : b.bankRefuses s bank g = true) :
    (ceTdataWrite s v b).1 = ((b.setB (CE_BANK_STAT s) 7).bump (CE_TREFCNT s)).tabNext s := by
  unfold ceTdataWrite
  simp only [hat, hno, if_true]

theorem ceTdataWrite_counts {v : Word} {bank g : Nat} {loop : Option Nat}
    (hat : bankAt (b.rdF (CE_TADDR s) 0 24 / 4 * 4) = some (bank, g, loop)) (hno : b.bankRefuses s bank g = true) :
    (ceTdataWrite s v b).1.stk s = b.stk s ∧ (ceTdataWrite s v b).1.rdB (CE_BANK_STAT s) 7 = true ∧
      (ceTdataWrite s v b).1.rdF (CE_TREFCNT s) 0 32 = min (b.rdF (CE_TREFCNT s) 0 32 + 1) (2 ^ 32 - 1) := by
  obtain ⟨hstat, hcnt⟩ := taddr_ne s
  rw [ceTdataWrite_refused hat hno, stk_tabNext, Block.rdB, rd_tabNext hstat, Block.rdF, rd_tabNext hcnt]
  refine ⟨(stk_wrF ..).trans (b.stk_setB ..), ?_, ?_⟩
  · rw [Block.rd_bump_ne _ _ (bankStat_ne_trefcnt s)]
    exact Block.rdB_setB _ _ _ (by decide)
  · refine (rdF_bump ..).trans ?_
    rw [Block.rdF, Block.rd_setB_ne _ _ (bankStat_ne_trefcnt s).symm, Block.rdF]

/-! ## The clauses of O24 about banks and tables -/

variable (s : State) (m : Master)

theorem run_curveOf (f : Block → Block) (st : Nat) :
    (s.run f).b.curveOf (PLT_CURVE st) = (f s.b.fresh).curveOf (PLT_CURVE st) := by
  refine List.map_congr_left fun i hi => ?_
  have hplain : unitPlain (PLT_CURVE st (i / 2)) := by
    have := List.mem_range.1 hi
    simp only [unitPlain, PLT_CURVE, P_PLT]
    omega
  rw [run_rd_unit _ _ hplain]

theorem ceBankArm_gives (st : Fin 4) (v : Word) (ha : s.b.accepts m (CE_BANK_ARM st) = true) (hv : fld v 0 18 ≠ 0) :
    Gives (.ceBankArm m st v) s fun t => t.rd (CE_BANK_ARM st) = s.rd (CE_BANK_ARM st) ||| wd (fld v 0 18) ∧
      (t.b.stk st).checking = (s.b.stk st).checking ||| fld v 0 18 ∧ t.rdB (CE_BANK_STAT st) 0 = true := by
  refine Gives.of_gate (eff := bankArmWrite st v) rfl ha rfl ?_
  rw [State.rd, run_counted_rd_unit _ _ _ _ (unitPlain_bankArm _), run_stk, counted_stk, State.rdB, Block.rdB,
    run_counted_rd_unit _ _ _ _ (unitPlain_bankStat _)]
  exact bankArmWrite_arms (b := s.b.fresh) hv

theorem ceBankDisarm_gives (st : Fin 4) (v : Word) (ha : s.b.accepts m (CE_BANK_DISARM st) = true) :
    Gives (.ceBankDisarm m st v) s fun t => t.rd (CE_BANK_ARM st) = s.rd (CE_BANK_ARM st) &&& ~~~(wd (fld v 0 18)) := by
  refine Gives.of_gate (eff := bankDisarmWrite st v) rfl ha rfl ?_
  rw [State.rd, run_counted_rd_unit _ _ _ _ (unitPlain_bankArm _)]
  exact bankDisarmWrite_arm (b := s.b.fresh) v

theorem bankCheckComplete_gives (st : Fin 4) (h : (s.b.stk st).checking ≠ 0) :
    Gives (.bankCheckComplete st) s fun t => (t.b.stk st).checking = 0 ∧ t.rdB (CE_BANK_STAT st) 0 = false := by
  refine Gives.of_done (f := bankCheckDone st) rfl ?_
  rw [run_stk, State.rdB, Block.rdB, run_rd_unit _ _ (unitPlain_bankStat _)]
  exact bankCheckDone_over (b := s.b.fresh) h

theorem slopeTableRecompute_gives (st : Fin 4) :
    Gives (.slopeTableRecompute st) s fun t => (t.b.stk st).slope = slopeOf (s.b.curveOf (PLT_CURVE st)) ∧
      ∀ g : Fin 18, ∀ i : Fin 255, t.b.slopeFor st g i = s.b.slopeFor st g i := by
  refine Gives.of_done (f := slopeRecompute st) rfl ⟨?_, fun g i => ?_⟩
  · rw [run_stk, slopeRecompute, Block.stk_updStk_same]
    rfl
  · have hstk := run_stk s (slopeRecompute st) st
    rw [Block.slopeFor, Block.slopeTab, hstk, run_curveOf]
    exact congrArg (List.getD · i.val 4096) (slopeRecompute_slopeTab (b := s.b.fresh) g.isLt)

theorem ceTdataWrite_gives (st : Fin 4) (v : Word) (bank g : Nat) (loop : Option Nat)
    (ha : s.b.accepts m (CE_TDATA st) = true) (hall : s.rdB (CE_TADDR st) 30 = false)
    (hat : bankAt (s.rdF (CE_TADDR st) 0 24 / 4 * 4) = some (bank, g, loop)) (hok : s.b.bankRefuses st bank g = false) :
    Gives (.ceTdataWrite m st v) s fun t => (t.b.stk st).tab (s.rdF (CE_TADDR st) 0 24 / 4 * 4) = v := by
  refine Gives.of_gate (eff := ceTdataWrite st v) (b' := (ceTdataWrite st v s.b.fresh).1)
    (acted := (ceTdataWrite st v s.b.fresh).2) rfl ha rfl ?_
  rw [run_stk, counted_stk, ceTdataWrite_taken (b := s.b.fresh) hall hat hok, stk_tabNext]
  exact tab_putTab ..

theorem ceTdataWrite_refused_gives (st : Fin 4) (v : Word) (bank g : Nat) (loop : Option Nat)
    (ha : s.b.accepts m (CE_TDATA st) = true)
    (hat : bankAt (s.rdF (CE_TADDR st) 0 24 / 4 * 4) = some (bank, g, loop)) (hno : s.b.bankRefuses st bank g = true) :
    Gives (.ceTdataWrite m st v) s fun t => (t.b.stk st).ceTab = (s.b.stk st).ceTab ∧ t.rdB (CE_BANK_STAT st) 7 = true ∧
      t.rdF (CE_TREFCNT st) 0 32 = min (s.rdF (CE_TREFCNT st) 0 32 + 1) (2 ^ 32 - 1) := by
  refine Gives.of_gate (eff := ceTdataWrite st v) (b' := (ceTdataWrite st v s.b.fresh).1)
    (acted := (ceTdataWrite st v s.b.fresh).2) rfl ha rfl ?_
  obtain ⟨hstk, hstat, hcnt⟩ := ceTdataWrite_counts (b := s.b.fresh) (v := v) hat hno
  rw [run_stk, counted_stk, State.rdB, Block.rdB, run_counted_rd_unit _ _ _ _ (unitPlain_bankStat _), State.rdF, Block.rdF,
    run_counted_rd_unit _ _ _ _ (unitPlain_trefcnt _), hstk]
  exact ⟨rfl, hstat, hcnt⟩

theorem ceTdataRead_gives (st : Fin 4) (ha : s.b.answers m (CE_TDATA st) = true) :
    Gives (.ceTdataRead m st) s fun t => Output.data m [s.b.tabRead st (s.rdF (CE_TADDR st) 0 24 / 4 * 4)] ∈ t.b.out := by
  refine Gives.of_read (eff := ceTdataAns st) (b' := (ceTdataRead st s.b.fresh).1)
    (w := s.b.fresh.tabRead st (s.b.fresh.rdF (CE_TADDR st) 0 24 / 4 * 4)) rfl ha rfl ?_
  rw [tabRead_fresh]
  exact mem_out_run (Block.mem_out_send_self ..)

end Sys2Proof.Machine
end

section
/-! SUPPORT. The temperature a region shows (R126) stands in a register that no other work writes: neither the work of the units
(the Mint, passes, dynamic engines, calibration) nor a change of a region's state. -/

namespace Sys2Proof.Machine

/-- The place of `LCK_R_RTEMP` in the pages of the engines, for whatever engine and region. -/
def tempReg (o : Nat) : Prop := o < 0x700000 ∧ 0x1800 ≤ o % 0x4000 ∧ o % 0x4000 < 0x2000 ∧ o % 32 = 24

/-- The registers of temperatures are the same. -/
def TempsKept (b c : Block) : Prop := ∀ o, tempReg o → c.rd o = b.rd o

theorem engBase_mod (e : Nat) : engBase e % 0x4000 = 0 := by
  unfold engBase
  split <;> omega

theorem tempReg_rtemp {e q : Nat} (he : e < 72) (hq : q < 64) : tempReg (LCK_R_RTEMP e q) := by
  simp only [tempReg, LCK_R_RTEMP, P_LCK, engBase]
  split <;> omega

/-! ### The registers of the units are none of them -/

/-- A register of an engine, off the pages of its regions. -/
theorem engine_not_temp {e k : Nat} (h : k < 0x1800 ∨ 0x2000 ≤ k ∧ k < 0x4000) : ¬ tempReg (engBase e + k) := by
  have := engBase_mod e
  unfold tempReg
  omega

@[simp] theorem eng_not_temp (e : Nat) : ¬ tempReg (ENG_STATE e) ∧ ¬ tempReg (ENG_ADCSAT e) := by
  constructor
  all_goals exact engine_not_temp (.inl (by decide))

@[simp] theorem den_not_temp (e : Nat) :
    ¬ tempReg (DEN_STATE e) ∧ ¬ tempReg (DEN_ERR e) ∧ ¬ tempReg (DEN_ADCSAT e) ∧ ¬ tempReg (DEN_NEGCNT e) ∧
      ¬ tempReg (DEN_SYMCNT e) ∧ ¬ tempReg (PG_ISTAT (P_DEN e)) := by
  and_intros
  all_goals exact engine_not_temp (.inl (by decide))

@[simp] theorem engState_not_temp (e : Nat) : ¬ tempReg (engState e) := by
  unfold engState
  split
  · exact (eng_not_temp e).1
  · exact (den_not_temp e).1

theorem beyond_not_temp {o : Nat} (h : 0x700000 ≤ o) : ¬ tempReg o := fun ht => by
  have := ht.1
  omega

@[simp] theorem mint_not_temp :
    ¬ tempReg MNT_REJCNT ∧ ¬ tempReg MNT_ERR ∧ ¬ tempReg MNT_NONFIN ∧ ¬ tempReg (PG_ISTAT P_MNT) := by
  and_intros
  all_goals exact beyond_not_temp (by decide)
@[simp] theorem mintSat_not_temp (k : Nat) : ¬ tempReg (MNT_SATCNT k) :=
  beyond_not_temp (Nat.le_trans (by decide) (Nat.le_add_right (P_MNT + 0x090) _))
@[simp] theorem hbm_not_temp :
    ¬ tempReg HBM_CECNT ∧ ¬ tempReg HBM_ERR ∧ ¬ tempReg HBM_UECNT ∧ ¬ tempReg HBM_UEADDR_LO ∧ ¬ tempReg HBM_UEADDR_HI ∧
      ¬ tempReg HBM_AFCNT ∧ ¬ tempReg HBM_AFADDR_LO ∧ ¬ tempReg HBM_AFADDR_HI ∧ ¬ tempReg (PG_ISTAT P_HBM) := by
  and_intros
  all_goals exact beyond_not_temp (by decide)
@[simp] theorem msq_not_temp : ¬ tempReg MSQ_REJCNT ∧ ¬ tempReg MSQ_LASTREJ ∧ ¬ tempReg (PG_ISTAT P_MSQ) := by
  and_intros
  all_goals exact beyond_not_temp (by decide)

@[simp] theorem stack_not_temp (s : Nat) :
    ¬ tempReg (SEQ_REJCNT s) ∧ ¬ tempReg (SEQ_LASTREJ s) ∧ ¬ tempReg (PG_ISTAT (P_SEQ s)) ∧ ¬ tempReg (TLY_ALSTALL s) ∧
      ¬ tempReg (ASY_LAST s) ∧ ¬ tempReg (ASY_ABNCNT s) ∧ ¬ tempReg (PG_ISTAT (P_ASY s)) ∧ ¬ tempReg (CE_SATCNT s) ∧
      ¬ tempReg (CE_CLAMPCNT s) := by
  simp only [tempReg, SEQ_REJCNT, SEQ_LASTREJ, TLY_ALSTALL, ASY_LAST, ASY_ABNCNT, CE_SATCNT, CE_CLAMPCNT, PG_ISTAT, P_SEQ,
    P_TLY, P_ASY, P_CE]
  omega

/-- The registers of the lock page, but for those of temperatures. -/
@[simp] theorem lock_not_temp (e : Nat) :
    ¬ tempReg (LCK_STAT e) ∧ ¬ tempReg (LCK_UNLK_LO e) ∧ ¬ tempReg (LCK_UNLK_HI e) ∧ ¬ tempReg (LCK_COASTCNT e) ∧
      ¬ tempReg (PG_ISTAT (P_LCK e)) ∧ ¬ tempReg (ASG_STAT e) := by
  have := engBase_mod e
  simp only [tempReg, LCK_STAT, LCK_UNLK_LO, LCK_UNLK_HI, LCK_COASTCNT, ASG_STAT, PG_ISTAT, P_LCK, P_ASG]
  omega
@[simp] theorem region_not_temp (e q : Nat) :
    ¬ tempReg (LCK_R_STATE e q) ∧ ¬ tempReg (LCK_R_BIAS e q) ∧ ¬ tempReg (LCK_R_HEAT e q) := by
  have := engBase_mod e
  simp only [tempReg, LCK_R_STATE, LCK_R_BIAS, LCK_R_HEAT, P_LCK]
  omega

namespace TempsKept

variable {b c : Block}

theorem refl (b : Block) : TempsKept b b := fun _ _ => rfl

/-- One step after what came before it, the last step first. -/
theorem after {a : Block} (k : TempsKept b c) (h : TempsKept a b) : TempsKept a c := fun o ho => (k o ho).trans (h o ho)

theorem when {f : Block → Block} {x : Bool} (h : TempsKept b (f b)) : TempsKept b (b.when x f) := by
  cases x
  · exact refl _
  · exact h

theorem ite {P : Prop} [Decidable P] {d : Block} (h : TempsKept b c) (k : TempsKept b d) :
    TempsKept b (if P then c else d) := by
  split
  · exact h
  · exact k

theorem each {α : Type} {f : Block → α → Block} {xs : List α} (h : ∀ b x, TempsKept b (f b x)) :
    TempsKept b (b.each xs f) := fun o ho => b.each_keep (·.rd o) xs f fun b x => h b x o ho

/-- The same of a fold that carries something along. -/
theorem foldl_fst {α β : Type} {f : Block × β → α → Block × β} {xs : List α} {p : Block × β}
    (h : ∀ p x, TempsKept p.1 (f p x).1) : TempsKept p.1 (xs.foldl f p).1 := by
  induction xs generalizing p with
  | nil => exact refl _
  | cons x xs ih => exact ih.after (h p x)

theorem foldl_snd {α β : Type} {f : β × Block → α → β × Block} {xs : List α} {p : β × Block}
    (h : ∀ p x, TempsKept p.2 (f p x).2) : TempsKept p.2 (xs.foldl f p).2 := by
  induction xs generalizing p with
  | nil => exact refl _
  | cons x xs ih => exact ih.after (h p x)

/-! ### One operation -/

theorem wr {o : Nat} (ho : ¬ tempReg o) {v : Word} : TempsKept b (b.wr o v) := fun _ hj =>
  b.rd_wr_ne v fun h => ho (h ▸ hj)

/-- What changes no register. -/
theorem of_regs (h : c.regs = b.regs) : TempsKept b c := fun o _ => Block.rd_congr h o

theorem ev {code i : Nat} {l : List (Nat × Nat)} : TempsKept b (b.ev code i l) := of_regs (Block.ev_regs ..)
theorem setEng {e : Nat} {x : Eng} : TempsKept b (b.setEng e x) := of_regs rfl
theorem updEng {e : Nat} {f : Eng → Eng} : TempsKept b (b.updEng e f) := setEng
theorem updStk {s : Nat} {f : Stk → Stk} : TempsKept b (b.updStk s f) := of_regs rfl
theorem updFrm {f : Frame → Frame} : TempsKept b (b.updFrm f) := of_regs rfl
theorem wrBytes {a : Nat} {bs : List Byte} : TempsKept b (b.wrBytes a bs) := of_regs rfl
theorem free {n : Nat} : TempsKept b { b with free := n } := of_regs rfl
theorem host {x : HostIf} : TempsKept b { b with host := x } := of_regs rfl

/-! ### Memory and rejections (R277, R417, R419, R420) -/

theorem hbmTouch {a n : Nat} : TempsKept b (b.hbmTouch a n) := ite (refl b) host
theorem eccSeen {x : Ecc} {cons : Nat} : TempsKept b (b.eccSeen x cons) :=
  after (each fun _ _ => after ev <| after (wr (by simp)) <| after (wr (by simp)) <| after (wr (by simp)) <|
    after (wr (by simp)) (wr (by simp))) <|
    each fun _ _ => after ev <| after (wr (by simp)) (wr (by simp))
theorem accessFault {a m : Nat} : TempsKept b (b.accessFault a m) :=
  after ev <| after (wr (by simp)) <| after (wr (by simp)) <| after (wr (by simp)) <| after (wr (by simp)) <|
    after (wr (by simp)) (wr (by simp))
theorem reject {idx tgt reason : Nat} : TempsKept b (b.reject idx tgt reason) :=
  after updFrm <| after ev <| after (ite (after (wr (by simp)) <|
    after (wr (by simp)) (wr (by simp))) (after (wr (by simp)) <|
      after (wr (by simp)) (wr (by simp)))) updFrm
theorem contributes {e : Nat} : TempsKept b (b.contributes e) :=
  after (when (f := (·.flag fOVERRUN)) updFrm) updFrm

/-! ### The Mint (R215, R216, R236) -/

theorem mintReject {j : MintJob} {reason : Nat} : TempsKept b (b.mintReject j reason) :=
  after reject <| after ev <| after (wr (by simp)) <| after (wr (by simp)) <| after (wr (by simp)) (wr (by simp))
theorem mintSpanErr {j : MintJob} {x : SpanErr} : TempsKept b (b.mintSpanErr j x) := by
  cases x
  · exact reject
  · exact after mintReject accessFault
theorem mintStats {j : MintJob} {cset conv clip nonfin : Nat} {first : Option (Nat × Nat)} :
    TempsKept b (b.mintStats j cset conv clip nonfin first).1 := by
  unfold Block.mintStats
  dsimp only
  refine after (when ?_) <| after updFrm ?_
  · exact after updFrm <| after ev <| after (wr (by simp)) <| after (wr (by simp)) (wr (by simp))
  · split
    · exact after ev <| after (wr (by simp)) <| after (wr (by simp)) (wr (by simp))
    · exact refl _
theorem mintRead {j : MintJob} {n : Nat} : TempsKept b (b.mintRead j n) :=
  after (when (f := (·.flag fTAINTED)) updFrm) <| after eccSeen <| each fun _ _ => hbmTouch
theorem mintConvert {j : MintJob} {p : MProf} : TempsKept b (b.mintConvert j p).1 := by
  have pad (c : Block) : TempsKept c (if p.fmt = 3 ∧ j.n % 2 = 1 then c.freeUpTo 15 else (0, c)).2 := by
    split
    · exact free
    · exact refl c
  exact after mintStats <| after (each fun c x => after hbmTouch <| after wrBytes (pad c)) <|
    after mintRead (each fun c x => wrBytes)
theorem mintWeights {j : MintJob} {p : MProf} : TempsKept b (b.mintWeights j p).1 :=
  after mintStats <| after hbmTouch <| after wrBytes mintRead
theorem mintReplay {j : MintJob} : TempsKept b (b.mintReplay j).1 := by
  unfold Block.mintReplay
  dsimp only
  split
  · exact mintReject
  · split
    · exact mintSpanErr
    · split
      · exact mintReject
      · exact after (when (f := (·.flag fCLIP)) updFrm) <| after hbmTouch <| after hbmTouch mintRead
theorem mintBegin {j : MintJob} : TempsKept b (b.mintBegin j).1 := by
  unfold Block.mintBegin
  dsimp only
  split
  · exact mintReplay
  · split
    · exact mintReject
    · split
      · exact mintSpanErr
      · split
        · exact mintWeights
        · exact mintConvert
theorem workBegin {w : MintWork} {earlier : List MintWork} : TempsKept b (b.workBegin w earlier).1 := by
  unfold Block.workBegin
  split
  · exact refl _
  · have hb := mintBegin (b := b) (j := w.job)
    split
    all_goals
      next heq =>
        rw [heq] at hb
        exact after updFrm hb
theorem workEnd {w : MintWork} : TempsKept b (b.workEnd w) :=
  after updFrm <| after updFrm <| each fun _ _ => after hbmTouch wrBytes

/-! ### Passes and the Mint's rounds (R179, R218, R281, R316) -/

theorem updCon {s n : Nat} {f : Con → Con} : TempsKept b (b.updCon s n f) := updStk
theorem passSymbol {e : Nat} {y : Sym} {p : PassQ} {k : Con} : TempsKept b (b.passSymbol e y p k) :=
  after setEng <| after (wr (by simp)) <| after updFrm <| after updCon <| after setEng <|
    when contributes
theorem passStall {e : Nat} {p : PassQ} : TempsKept b (b.passStall e p) := ite (refl b) (after updEng (wr (by simp)))
theorem sendOn {w : MintWork} {u : Nat} : TempsKept b (b.sendOn w u).1 := by
  unfold Block.sendOn
  split
  · exact refl b
  · dsimp only
    split
    · exact refl b
    · split
      · exact refl b
      · split
        · exact each fun _ _ => passStall
        · exact after updFrm <| each fun _ _ => passSymbol
theorem workTurn {idx : Nat} : TempsKept b (b.workTurn idx).1 := by
  unfold Block.workTurn
  split
  · exact refl b
  · split
    · exact workBegin
    · split
      · exact workEnd
      · refine foldl_fst (p := (b, false)) fun acc u => ?_
        exact sendOn
theorem pumpRounds (n : Nat) : TempsKept b (Block.pumpRounds n b) := by
  induction n generalizing b with
  | zero => exact refl b
  | succ n ih =>
    have hround : TempsKept b ((b.mintQ.map (·.job.idx)).foldl (fun (acc : Block × Bool) i =>
        ((acc.1.workTurn i).1, acc.2 || (acc.1.workTurn i).2)) (b, false)).1 := by
      refine foldl_fst (p := (b, false)) fun acc i => ?_
      exact workTurn
    exact ite (after ih hround) hround
theorem pump : TempsKept b b.pump := pumpRounds _

/-! ### Dynamic engines (R249 to R262, R268) -/

theorem dynFill {e : Nat} {j : DJob} : TempsKept b (b.dynFill e j) :=
  after updFrm <| after (wr (by simp)) <| after updEng <|
    after (when (f := (·.flag fTAINTED)) updFrm) <| after eccSeen <|
    each fun _ _ => hbmTouch
theorem probDrive {a7u : Bool} {x : Int} : TempsKept b (b.probDrive a7u x).2 := by
  unfold Block.probDrive
  split
  · exact refl b
  · split
    · exact free
    · split <;> exact refl b
theorem probSyms {j : DJob} {codes : List (List Int)} : TempsKept b (b.probSyms j codes).2 := by
  refine foldl_snd (p := ([], b)) fun acc row => ?_
  refine foldl_snd (p := ([], acc.2)) fun a x => ?_
  exact probDrive
theorem negCodes {e : Nat} {codes : List (List Int)} : TempsKept b (b.negCodes e codes) := by
  unfold Block.negCodes
  dsimp only
  split
  · exact refl b
  · exact after ev <| after (wr (by simp)) <| after (wr (by simp)) (wr (by simp))
theorem drive {e rows sid flags : Nat} {j : DJob} {syms : List DSym} {offset : Bool} {vis : Nat → Nat → Bool}
    {fac : Nat → Word} : TempsKept b (b.drive e j rows syms offset sid flags vis fac) :=
  after (each fun _ _ => after setEng <| after (wr (by simp)) <| after (wr (by simp)) updStk) <|
    after updFrm contributes
theorem dynRead {j : DJob} {addrs : List Nat} {len : Nat} : TempsKept b (b.dynRead j addrs len) :=
  after (when (f := (·.flag fTAINTED)) updFrm) <| after eccSeen <| each fun _ _ => hbmTouch
theorem dynScore {e : Nat} {j : DJob} : TempsKept b (b.dynScore e j) :=
  after wrBytes <| after drive <| after hbmTouch dynRead
theorem dynValue {e : Nat} {j : DJob} : TempsKept b (b.dynValue e j) := by
  unfold Block.dynValue
  dsimp only
  exact after drive <| after (when negCodes) <| after dynRead probSyms
theorem dynStep {e : Nat} : TempsKept b (b.dynStep e) := by
  unfold Block.dynStep
  dsimp only
  split
  · exact refl b
  · refine ite (refl b) ?_
    split
    · exact ite (refl b) (after dynFill updEng)
    · exact ite (refl b) (after dynScore updEng)
    · exact ite (refl b) (after dynValue updEng)
theorem dynPump {e : Nat} : TempsKept b (b.dynPump e) :=
  each (xs := List.range (b.eng e).dyn.jobs.length) (f := fun b _ => b.dynStep e) fun _ _ => dynStep
theorem pumpAll {s : Nat} : TempsKept b (b.pumpAll s) := after dynPump <| after dynPump pump

/-! ### Calibration: how it ends and what it leaves to be done (R322, R331, R334, R337, R358) -/

theorem updRegion {e q : Nat} {f : Region → Region} : TempsKept b (b.updRegion e q f) := updEng
theorem setPs {e : Nat} {p : PState} : TempsKept b (b.setPs e p) := after (wr (by simp)) updEng
theorem releaseHold {k : Cal} : TempsKept b (b.releaseHold k) := by
  unfold Block.releaseHold
  exact after (when (after updEng setPs)) <| after updEng <| each fun _ _ => updEng
theorem calStop {s outcome cause : Nat} : TempsKept b (b.calStop s outcome cause) := by
  unfold Block.calStop
  split
  · exact refl b
  · exact after pumpAll <| after ev <| after (wr (by simp)) <| after (wr (by simp)) <| after (wr (by simp)) <|
      after (each fun _ _ => updEng) <|
      after updStk releaseHold
theorem calAbandon {e cause : Nat} : TempsKept b (b.calAbandon e cause) := by
  unfold Block.calAbandon
  split
  · exact ite calStop (refl b)
  · exact refl b

/-! ### A region's state (R119, R122, R123) -/

theorem showUnlocked {e q : Nat} : TempsKept b (b.showUnlocked e q) :=
  after (wr (by simp)) <| after (wr (by simp)) <| after (wr (by simp)) (wr (by simp))
theorem stateShown {e q st : Nat} : TempsKept b (b.stateShown e q st) :=
  after showUnlocked <| after (when (after (wr (by simp)) (wr (by simp)))) <|
    after (when (f := fun b => b.updRegion e q Region.off) updRegion) <| after updRegion (wr (by simp))
theorem failNoted {e st : Nat} : TempsKept b (b.failNoted e st) := ite (after ev (wr (by simp))) (refl b)
theorem setLock {e q st : Nat} : TempsKept b (b.setLock e q st) := by
  rw [setLock_eq]
  exact ite (refl b) (after failNoted (after (when calAbandon) stateShown))
theorem sweepOff {e g : Nat} : TempsKept b (b.sweepOff e g) := each fun _ _ => ite updRegion (refl _)
theorem sweepBreak {e q : Nat} : TempsKept b (b.sweepBreak e q) := by
  unfold Block.sweepBreak
  split
  · exact refl b
  · exact ite (refl b) (after updEng (after ev (after (wr (by simp)) (when sweepOff))))
theorem judgeDark {e q : Nat} {before : List (Nat × Nat)} : TempsKept b (b.judgeDark e q before) :=
  ite (after ev <| after (each fun _ _ => wr (by simp)) <| after (each fun _ _ => wr (by simp)) <| after updStk updStk) updStk
theorem enterCoast {e q cause : Nat} : TempsKept b (b.enterCoast e q cause) := by
  have hcoast : TempsKept b (((((b.sweepBreak e q).updRegion e q fun r => { r with pre := r.uB }).setLock e q 5).bump
      (LCK_COASTCNT e)).raise (P_LCK e) 0) :=
    after (wr (by simp)) <| after (wr (by simp)) <| after setLock <| after updRegion sweepBreak
  exact ite (after judgeDark (after ev hcoast)) (after ev hcoast)
theorem enterLocked {e q : Nat} : TempsKept b (b.enterLocked e q false) := after updRegion setLock

end TempsKept

end Sys2Proof.Machine
end

section
/-! SUPPORT. Loop samples and overruns (R110, R119, R126, R136, R139, R142 to R144): what the output stage, the feedback monitor
and the cascade leave of a region. -/

namespace Sys2Proof.Machine

variable {b : Block} {s i e q : Nat}

/-! ## The output stage (R118, R126, R141, R142, R144) -/

/-- What the outputs of a loop leave of its region: the hold, what the monitor has gathered, the overruns, the dither. -/
def Region.watched (r : Region) : Bool × List Int × List (Nat × Nat) × Nat × BitVec 32 × BitVec 64 :=
  (r.held, r.errs, r.means, r.ovr, r.ph, r.phAt)

/-- The search writes the loop parts of its region, some with a free value. -/
theorem searchPart_cases (b : Block) (h : loopOf s i = (e, q)) : b.searchPart s i = b ∨
    ∃ n f, b.searchPart s i = ({ b with free := n } : Block).updRegion e q f ∧ ∀ r : Region, (f r).watched = r.watched := by
  unfold Block.searchPart
  rw [h]
  dsimp only
  split
  · exact .inr ⟨_, _, rfl, fun _ => rfl⟩
  · split
    · exact .inr ⟨b.free, _, rfl, fun _ => rfl⟩
    · split
      · exact .inr ⟨_, _, rfl, fun _ => rfl⟩
      · exact .inl rfl

theorem searchPart_rest (b : Block) (s i : Nat) : b.searchPart s i =
    { b with engs := (b.searchPart s i).engs, free := (b.searchPart s i).free } := by
  obtain hsame | ⟨n, f, hupd, -⟩ := searchPart_cases b (e := (loopOf s i).1) (q := (loopOf s i).2) rfl
  · rw [hsame]
  · rw [hupd]
    rfl

theorem searchPart_watched (b : Block) (h : loopOf s i = (e, q)) :
    ((b.searchPart s i).region e q).watched = (b.region e q).watched := by
  obtain hsame | ⟨n, f, hupd, hf⟩ := searchPart_cases b h
  · rw [hsame]
  · rw [hupd, region_updRegion, hf]
    rfl

theorem searchPart_rd (b : Block) (s i o : Nat) : (b.searchPart s i).rd o = b.rd o := by rw [searchPart_rest]; rfl

/-- In Verify and Locked the search is over. -/
theorem searchPart_running (h : loopOf s i = (e, q)) (hst : b.lockSt e q = 2 ∨ b.lockSt e q = 3) : b.searchPart s i = b := by
  unfold Block.searchPart
  rw [h]
  dsimp only
  rw [if_neg (by omega), if_neg (by omega), if_neg (by omega)]

/-- The registers that the output stage of a loop writes. -/
def outputRegs (s e q : Nat) : List Nat := [LCK_R_RTEMP e q, LCK_R_BIAS e q, LCK_R_HEAT e q, CE_SATCNT s]

theorem showRtemp_within (b : Block) (h : loopOf s i = (e, q)) : Within (outputRegs s e q) (· = e) b (b.showRtemp s i) := by
  unfold Block.showRtemp
  rw [h]
  exact Within.wrF (by simp [outputRegs]) ..

/-- The outputs of a loop whose region is not Off. -/
def Block.outputs (b : Block) (s i e q : Nat) : Block :=
  let r := b.region e q
  let raw := r.uB + (b.sillage s i).1 + b.moveTerm e q
  let bb := sat16 raw
  let d := clampI 0 32767 (r.uH + (b.sillage s i).2)
  let b' := b.when (raw != bb) fun b => b.bump (CE_SATCNT s)
  let b' := b'.updRegion e q fun r =>
    { r with sB := (b.sillage s i).1, sD := (b.sillage s i).2, b := bb, d := d, duty := 2 * d.toNat }
  (b'.wrF (LCK_R_BIAS e q) 0 14 (unsx 14 (clampI (-8192) 8191 (⟨bb, 4⟩ : Fr).rneInt))).wrF (LCK_R_HEAT e q) 16 16
    (unsx 16 (b.sillage s i).2)

theorem outputStage_eq (b : Block) (h : loopOf s i = (e, q)) : b.outputStage s i =
    if ((b.searchPart s i).showRtemp s i).lockSt e q = 0 then (b.searchPart s i).showRtemp s i
    else ((b.searchPart s i).showRtemp s i).outputs s i e q := by
  unfold Block.outputStage
  rw [h]
  rfl

theorem outputs_within (b : Block) (s i e q : Nat) : Within (outputRegs s e q) (· = e) b (b.outputs s i e q) :=
  (Within.wrF (by simp [outputRegs]) ..).after <| (Within.wrF (by simp [outputRegs]) ..).after <|
    (updRegion_within ..).after (Within.when (Within.bump (by simp [outputRegs]) _) _)

theorem outputs_watched (b : Block) (s i e q : Nat) : ((b.outputs s i e q).region e q).watched = (b.region e q).watched := by
  unfold Block.outputs
  dsimp only
  rw [region_wrF, region_wrF, region_updRegion, region_when _ (region_bump ..)]
  rfl

theorem outputs_temps (b : Block) (s i e q : Nat) : TempsKept b (b.outputs s i e q) :=
  .after (.wr (by simp)) <| .after (.wr (by simp)) <| .after .updRegion (.when (.wr (by simp)))

theorem outputStage_within (b : Block) (h : loopOf s i = (e, q)) :
    Within (outputRegs s e q) (· = e) (b.searchPart s i) (b.outputStage s i) := by
  rw [outputStage_eq b h]
  exact .ite (showRtemp_within _ h) ((outputs_within ..).after (showRtemp_within _ h))

theorem outputStage_watched (b : Block) (h : loopOf s i = (e, q)) :
    ((b.outputStage s i).region e q).watched = (b.region e q).watched := by
  have hshown : ((b.searchPart s i).showRtemp s i).region e q = (b.searchPart s i).region e q := by
    unfold Block.showRtemp
    rw [h]
    exact region_wrF ..
  rw [outputStage_eq b h]
  split
  · rw [hshown, searchPart_watched b h]
  · rw [outputs_watched, hshown, searchPart_watched b h]

theorem outputStage_temps (b : Block) (h : loopOf s i = (e, q)) :
    TempsKept ((b.searchPart s i).showRtemp s i) (b.outputStage s i) := by
  rw [outputStage_eq b h]
  exact .ite (.refl _) (outputs_temps _ s i e q)

/-! ## The sample (R109, R110) -/

theorem meanLevel_rest (b : Block) (xs : List (BitVec 12)) : (b.meanLevel xs).2 = { b with free := (b.meanLevel xs).2.free } := by
  unfold Block.meanLevel
  dsimp only
  split <;> rfl

theorem meanLevel_congr {c : Block} (h : c.free = b.free) (xs : List (BitVec 12)) : (c.meanLevel xs).1 = (b.meanLevel xs).1 := by
  unfold Block.meanLevel Block.freeUpTo
  dsimp only
  rw [h]
  split <;> rfl

/-- A measurement takes a free value at most. -/
theorem measure_rest (b : Block) (e q : Nat) (xs : List (BitVec 12)) :
    (b.measure e q xs).2 = { b with free := (b.measure e q xs).2.free } := meanLevel_rest b xs

/-- The integral depends on the time, the dither and the demodulator's phase, beside the stream. -/
theorem demodulate_congr {c : Block} (xs : List (BitVec 12)) (htime : c.time = b.time)
    (hword : c.rd (LCK_R_SWORD e q) = b.rd (LCK_R_SWORD e q)) (hinc : c.rd (LCK_R_DFREQ e q) = b.rd (LCK_R_DFREQ e q))
    (hr : (c.region e q).watched = (b.region e q).watched) : c.demodulate e q xs = b.demodulate e q xs := by
  obtain ⟨-, -, -, -, hph, hphAt⟩ : _ ∧ _ ∧ _ ∧ _ ∧ _ ∧ _ := by simpa only [Region.watched, Prod.mk.injEq] using hr
  have hphase : c.ditherPhase e q = b.ditherPhase e q := funext fun t => by
    simp only [Block.ditherPhase, hph, hphAt, hinc]
  unfold Block.demodulate
  rw [hphase, htime, Block.rdF, hword, Block.rdF]

theorem demodulate_meanLevel (b : Block) (e q : Nat) (xs : List (BitVec 12)) :
    (b.meanLevel xs).2.demodulate e q xs = b.demodulate e q xs := by
  rw [meanLevel_rest]
  exact demodulate_congr xs rfl rfl rfl rfl

theorem measure_congr {c : Block} (xs : List (BitVec 12)) (hfree : c.free = b.free) (htime : c.time = b.time)
    (hword : c.rd (LCK_R_SWORD e q) = b.rd (LCK_R_SWORD e q)) (hinc : c.rd (LCK_R_DFREQ e q) = b.rd (LCK_R_DFREQ e q))
    (hr : (c.region e q).watched = (b.region e q).watched) : (c.measure e q xs).1 = (b.measure e q xs).1 := by
  unfold Block.measure
  dsimp only
  rw [demodulate_meanLevel, demodulate_meanLevel, meanLevel_congr hfree, demodulate_congr xs htime hword hinc hr]

/-! ## The feedback monitor and the cascade (R119, R138, R139) -/

/-- What the monitor makes of a region, the detector being inside the rails. -/
def Region.monitored (r : Region) (err : Int) (mean chip floor : Nat) : Region :=
  { r with e := err, mean := mean, errs := (r.errs ++ [err]).drop (r.errs.length + 1 - 64), rail := 0,
           clear := if !lowVar ((r.errs ++ [err]).drop (r.errs.length + 1 - 64)) floor then r.clear + 1 else 0,
           means := (r.means ++ [(mean, chip)]).drop (r.means.length + 1 - 1024), lastOvr := false, lastClamp := false }

theorem monitor_inside {err : Int} {mean : Nat} (hlo : b.rdF (LCK_RAIL e) 0 12 < mean)
    (hhi : mean < b.rdF (LCK_RAIL e) 16 12) (hne : LCK_VFLOOR e ≠ LCK_R_STATE e q) :
    b.monitor e q err mean = (b.wrB (LCK_R_STATE e q) 6 false).updRegion e q fun r =>
      r.monitored err mean (chipAt b.time) (b.rd (LCK_VFLOOR e)).toNat := by
  have hrail : (decide (mean ≤ b.rdF (LCK_RAIL e) 0 12) || decide (b.rdF (LCK_RAIL e) 16 12 ≤ mean)) = false := by
    simp only [Bool.or_eq_false_iff, decide_eq_false_iff_not]
    omega
  unfold Block.monitor
  rw [hrail]
  dsimp only
  rw [Block.rd_wrB_ne _ _ _ hne]
  rfl

/-- What the cascade leaves of its region. -/
def Region.sampled (r : Region) : Int × Nat × List (Nat × Nat) := (r.e, r.mean, r.means)

theorem cascade_cases (b : Block) (h : loopOf s i = (e, q)) (err : Int) : ∃ n m f,
    b.cascade s i err = ((b.bump (CE_SATCNT s) n).bump (CE_CLAMPCNT s) m).updRegion e q f ∧
      ∀ r : Region, (f r).sampled = r.sampled := by
  unfold Block.cascade
  rw [h]
  exact ⟨_, _, _, rfl, fun _ => rfl⟩

/-! ## A sample in Verify or Locked (R119, R142) -/

/-- A loop at a boundary, before its sample is latched: its outputs applied, its slope table taken. -/
def Block.readied (b : Block) (s i : Nat) : Block := (b.outputStage s i).takeSlope s (groupOfLoop i)

theorem readied_rd (b : Block) (h : loopOf s i = (e, q)) {o : Nat} (ho : o ∉ outputRegs s e q) :
    (b.readied s i).rd o = b.rd o := by
  rw [Block.readied, Block.takeSlope, Block.rd_updStk, (outputStage_within b h).rd o ho, searchPart_rd]

theorem readied_time (b : Block) (h : loopOf s i = (e, q)) : (b.readied s i).time = b.time := by
  rw [Block.readied, Block.takeSlope, Block.updStk_time, (outputStage_within b h).rest, searchPart_rest]

theorem readied_watched (b : Block) (h : loopOf s i = (e, q)) :
    ((b.readied s i).region e q).watched = (b.region e q).watched := by
  rw [Block.readied, Block.takeSlope, region_updStk, outputStage_watched b h]

theorem readied_free (h : loopOf s i = (e, q)) (hst : b.lockSt e q = 2 ∨ b.lockSt e q = 3) :
    (b.readied s i).free = b.free := by
  rw [Block.readied, Block.takeSlope, Block.updStk_free, (outputStage_within b h).rest, searchPart_running h hst]

/-- The registers of the lock page that a sample reads are none that the output stage writes. -/
theorem lockReg_not_output (s e q : Nat) {o : Nat} (hlo : P_LCK e + 0x40 ≤ o) (hhi : o < P_LCK e + 0x800) :
    o ∉ outputRegs s e q := by
  have := engBase_mod e
  simp only [P_LCK] at hlo hhi
  simp only [outputRegs, LCK_R_RTEMP, LCK_R_BIAS, LCK_R_HEAT, CE_SATCNT, P_LCK, P_CE, List.mem_cons, List.not_mem_nil,
    or_false]
  omega
theorem regionReg_not_output (s e : Nat) {q : Nat} (hq : q < 64) :
    LCK_R_STATE e q ∉ outputRegs s e q ∧ LCK_R_SWORD e q ∉ outputRegs s e q ∧ LCK_R_DFREQ e q ∉ outputRegs s e q := by
  have := engBase_mod e
  simp only [outputRegs, LCK_R_STATE, LCK_R_SWORD, LCK_R_DFREQ, LCK_R_RTEMP, LCK_R_BIAS, LCK_R_HEAT, CE_SATCNT, P_LCK, P_CE,
    List.mem_cons, List.not_mem_nil, or_false]
  omega

theorem readied_lockSt (b : Block) (h : loopOf s i = (e, q)) (hq : q < 64) : (b.readied s i).lockSt e q = b.lockSt e q :=
  lockSt_congr (readied_rd b h (regionReg_not_output s e hq).1)

/-- What a loop of region `q` in state `st` does with its sample, once the monitor has seen it. -/
def Block.acts (b : Block) (s i e q : Nat) (err : Int) (st : Nat) : Block :=
  let r := b.region e q
  match st with
  | 2 | 3 =>
    if 64 ≤ r.rail then b.enterCoast e q 0
    else if lowVar r.errs (b.rd (LCK_VFLOOR e)).toNat then b.enterCoast e q 1
    else b.cascade s i err
  | 4 =>
    match r.back with
    | none => b
    | some n =>
      if err.natAbs < 8192 then b.enterLocked e q false
      else if 8 ≤ n + 1 then b.enterCoast e q 0
      else b.updRegion e q fun r => { r with back := some (n + 1) }
  | 5 => if 64 ≤ r.clear ∧ r.errs.length = 64 ∧ !b.rdB (LCK_R_STATE e q) 5 then b.setLock e q 2 else b
  | _ => b

/-- A sample latched: measured and monitored. -/
def Block.latched (b : Block) (e q : Nat) (xs : List (BitVec 12)) : Block :=
  (b.measure e q xs).2.monitor e q (b.measure e q xs).1.1 (b.measure e q xs).1.2

theorem loopSample_eq (b : Block) (h : loopOf s i = (e, q)) (xs : List (BitVec 12)) : loopSample s i xs b =
    if (b.readied s i).lockSt e q = 0 ∨ ((b.readied s i).region e q).held then b.readied s i
    else ((b.readied s i).latched e q xs).acts s i e q ((b.readied s i).measure e q xs).1.1 ((b.readied s i).lockSt e q) := by
  unfold loopSample
  rw [h]
  rfl

/-- A loop in Verify or Locked whose detector is inside the rails and whose errors vary: the cascade computes it. -/
theorem acts_cascade {err : Int} {st : Nat} (hst : st = 2 ∨ st = 3) (hrail : (b.region e q).rail = 0)
    (hvar : lowVar (b.region e q).errs (b.rd (LCK_VFLOOR e)).toNat = false) :
    b.acts s i e q err st = b.cascade s i err := by
  have hgo : (if 64 ≤ (b.region e q).rail then b.enterCoast e q 0
      else if lowVar (b.region e q).errs (b.rd (LCK_VFLOOR e)).toNat then b.enterCoast e q 1
      else b.cascade s i err) = b.cascade s i err := by
    rw [hrail, hvar]
    rfl
  obtain rfl | rfl := hst <;> exact hgo

/-- The region of a readied loop as the monitor leaves it. -/
theorem latched_inside (b : Block) (h : loopOf s i = (e, q)) (hq : q < 64) {xs : List (BitVec 12)} {err : Int} {mean : Nat}
    (hm : ((b.readied s i).measure e q xs).1 = (err, mean)) (hlo : b.rdF (LCK_RAIL e) 0 12 < mean)
    (hhi : mean < b.rdF (LCK_RAIL e) 16 12) :
    ((b.readied s i).latched e q xs).region e q =
        ((b.readied s i).region e q).monitored err mean (chipAt b.time) (b.rd (LCK_VFLOOR e)).toNat ∧
      ((b.readied s i).latched e q xs).rd (LCK_VFLOOR e) = b.rd (LCK_VFLOOR e) ∧
      ((b.readied s i).latched e q xs).rd (LCK_R_STATE e q) = setFld (b.rd (LCK_R_STATE e q)) 6 1 0 := by
  obtain ⟨c, hc⟩ : ∃ c, ((b.readied s i).measure e q xs).2 = c := ⟨_, rfl⟩
  have hrest : c = { b.readied s i with free := c.free } := hc ▸ measure_rest ..
  have hrd : ∀ o, o ∉ outputRegs s e q → c.rd o = b.rd o := fun o ho => by
    rw [hrest]
    exact readied_rd b h ho
  have hregion : c.region e q = (b.readied s i).region e q := by rw [hrest]; rfl
  have htime : c.time = b.time := by rw [hrest]; exact readied_time b h
  have hrail := hrd (LCK_RAIL e) (lockReg_not_output s e q (by unfold LCK_RAIL; omega) (by unfold LCK_RAIL; omega))
  have hfloor := hrd (LCK_VFLOOR e) (lockReg_not_output s e q (by unfold LCK_VFLOOR; omega) (by unfold LCK_VFLOOR; omega))
  have hne : LCK_VFLOOR e ≠ LCK_R_STATE e q := by unfold LCK_VFLOOR LCK_R_STATE; omega
  rw [Block.latched, hm, hc, monitor_inside (by rw [Block.rdF, hrail]; exact hlo) (by rw [Block.rdF, hrail]; exact hhi) hne,
    region_updRegion, region_wrB, hregion, htime, hfloor, rd_updRegion, rd_updRegion, Block.rd_wrB_ne _ _ _ hne, hfloor,
    Block.wrB, Block.rd_wrF, hrd _ (regionReg_not_output s e hq).1]
  exact ⟨rfl, rfl, rfl⟩

theorem getLast_window {α : Type} (xs : List α) (x : α) {n : Nat} (h : n ≤ xs.length) :
    ((xs ++ [x]).drop n).getLast? = some x := by
  rw [List.drop_append_of_le_length h, List.getLast?_append]
  rfl

/-- The newest of the mean levels that a region keeps. -/
theorem monitored_last (r : Region) (err : Int) (mean chip floor : Nat) :
    (r.monitored err mean chip floor).means.getLast? = some (mean, chip) := by
  have hn : r.means.length + 1 - 1024 ≤ r.means.length := by omega
  dsimp only [Region.monitored]
  generalize r.means.length + 1 - 1024 = n at hn ⊢
  exact getLast_window r.means (mean, chip) hn

/-- A sample inside the rails. -/
theorem loopSample_inside (b : Block) (h : loopOf s i = (e, q)) (hq : q < 64) {xs : List (BitVec 12)} {err : Int} {mean : Nat}
    (hst : b.lockSt e q = 2 ∨ b.lockSt e q = 3) (hheld : (b.region e q).held = false)
    (hm : (b.measure e q xs).1 = (err, mean)) (hlo : b.rdF (LCK_RAIL e) 0 12 < mean)
    (hhi : mean < b.rdF (LCK_RAIL e) 16 12)
    (hvar : lowVar (((b.region e q).errs ++ [err]).drop ((b.region e q).errs.length + 1 - 64))
      (b.rd (LCK_VFLOOR e)).toNat = false) :
    ((loopSample s i xs b).region e q).e = err ∧ ((loopSample s i xs b).region e q).mean = mean ∧
      ((loopSample s i xs b).region e q).means.getLast? = some (mean, chipAt b.time) ∧
      (loopSample s i xs b).rd (LCK_R_STATE e q) = setFld (b.rd (LCK_R_STATE e q)) 6 1 0 := by
  obtain ⟨hstate, hword, hinc⟩ := regionReg_not_output s e hq
  have hw := readied_watched b h
  obtain ⟨hh, herrs, hmeans, -⟩ : _ ∧ _ ∧ _ ∧ _ := by simpa only [Region.watched, Prod.mk.injEq] using hw
  have hmeasure : ((b.readied s i).measure e q xs).1 = (err, mean) := (measure_congr xs (readied_free h hst)
    (readied_time b h) (readied_rd b h hword) (readied_rd b h hinc) hw).trans hm
  obtain ⟨hregion, hfloor, hrd⟩ := latched_inside b h hq hmeasure hlo hhi
  have hgo : ¬ ((b.readied s i).lockSt e q = 0 ∨ ((b.readied s i).region e q).held = true) := by
    rw [hh, hheld, readied_lockSt b h hq]
    rintro (h0 | h1)
    · omega
    · cases h1
  have hloop : loopSample s i xs b = ((b.readied s i).latched e q xs).cascade s i err := by
    rw [loopSample_eq b h, if_neg hgo, acts_cascade (by rwa [readied_lockSt b h hq]) (by rw [hregion]; rfl), hmeasure]
    rw [hregion, hfloor, ← hvar, ← herrs]
    rfl
  obtain ⟨n, m, f, hcascade, hf⟩ := cascade_cases ((b.readied s i).latched e q xs) h err
  have hsampled := hf (((b.readied s i).latched e q xs).region e q)
  rw [hregion] at hsampled
  obtain ⟨he, hmean, hms⟩ : _ ∧ _ ∧ _ := by simpa only [Region.sampled, Prod.mk.injEq] using hsampled
  have hsat : LCK_R_STATE e q ≠ CE_SATCNT s := fun heq => hstate (by rw [heq]; simp [outputRegs])
  have hclamp : LCK_R_STATE e q ≠ CE_CLAMPCNT s := by
    have := engBase_mod e
    simp only [LCK_R_STATE, CE_CLAMPCNT, P_LCK, P_CE]
    omega
  rw [hloop, hcascade, region_updRegion, region_bump, region_bump, hregion, he, hmean, hms, rd_updRegion,
    Block.rd_bump_ne _ _ hclamp, Block.rd_bump_ne _ _ hsat, hrd]
  exact ⟨rfl, rfl, monitored_last .., rfl⟩

end Sys2Proof.Machine
end

section
/-! SUPPORT. Loop samples and banks as a whole (R126, R136, R142, R143): the temperature a sample shows, overruns, and each
clause of O24 as a command gives it. -/

namespace Sys2Proof.Machine

variable {b : Block} {s i e q : Nat}

/-! ## The temperature of a region (R126) -/

/-- The temperature that a loop of stack `s` shows: the nearest diode's, and the rise that the heater makes. -/
def Block.rtemp (b : Block) (s i e q : Nat) : Nat :=
  b.rdF (THM_T (24 + 12 * s + (Config.nearestDiode (1032 * s + i)).val)) 0 16 +
    (Config.heaterRise (match b.inForce with | some x => x.prod.bytes | none => []) s i
      (BitVec.ofNat 16 (b.rdF (LCK_R_HEAT e q) 0 16))).toNat

theorem showRtemp_eq (b : Block) (h : loopOf s i = (e, q)) :
    b.showRtemp s i = b.wrF (LCK_R_RTEMP e q) 0 16 (b.rtemp s i e q) := by
  unfold Block.showRtemp
  rw [h]
  rfl

theorem rtemp_congr {c : Block} (hrd : c.rd = b.rd) (hvlt : c.vlt = b.vlt) : c.rtemp s i e q = b.rtemp s i e q := by
  have hforce : c.inForce = b.inForce := by
    unfold Block.inForce Block.rdB Block.rdF
    rw [hrd, hvlt]
  unfold Block.rtemp Block.rdF
  rw [hrd, hforce]

theorem rtemp_searchPart (b : Block) : (b.searchPart s i).rtemp s i e q = b.rtemp s i e q :=
  rtemp_congr (funext (searchPart_rd b s i)) (by rw [searchPart_rest])

namespace TempsKept

theorem latched {xs : List (BitVec 12)} : TempsKept b (b.latched e q xs) := by
  have hmeasure : TempsKept b (b.measure e q xs).2 := by
    rw [measure_rest]
    exact free
  exact after updRegion (after (wr (by simp)) hmeasure)

theorem cascade {err : Int} : TempsKept b (b.cascade s i err) := by
  obtain ⟨n, m, f, hcascade, -⟩ := cascade_cases b (e := (loopOf s i).1) (q := (loopOf s i).2) rfl err
  rw [hcascade]
  exact after updRegion (after (wr (by simp)) (wr (by simp)))

theorem acts {err : Int} {st : Nat} : TempsKept b (b.acts s i e q err st) := by
  have hrun : TempsKept b (if 64 ≤ (b.region e q).rail then b.enterCoast e q 0
      else if lowVar (b.region e q).errs (b.rd (LCK_VFLOOR e)).toNat then b.enterCoast e q 1
      else b.cascade s i err) := ite enterCoast (ite enterCoast cascade)
  unfold Block.acts
  dsimp only
  split
  · exact hrun
  · exact hrun
  · split
    · exact refl b
    · exact ite enterLocked (ite enterCoast updRegion)
  · exact ite setLock (refl b)
  · exact refl b

end TempsKept

/-- A sample shows the temperature of its region and leaves it shown. -/
theorem loopSample_temps (b : Block) (h : loopOf s i = (e, q)) (xs : List (BitVec 12)) :
    TempsKept ((b.searchPart s i).showRtemp s i) (loopSample s i xs b) := by
  have hready : TempsKept ((b.searchPart s i).showRtemp s i) (b.readied s i) := .after .updStk (outputStage_temps b h)
  rw [loopSample_eq b h]
  exact .ite hready (.after .acts (.after .latched hready))

theorem loopSample_rtemp (b : Block) (h : loopOf s i = (e, q)) (he : e < 72) (hq : q < 64) (xs : List (BitVec 12)) :
    (loopSample s i xs b).rdF (LCK_R_RTEMP e q) 0 16 = b.rtemp s i e q % 65536 := by
  rw [Block.rdF, loopSample_temps b h xs _ (tempReg_rtemp he hq), showRtemp_eq _ h, rtemp_searchPart]
  exact Block.rdF_wrF _ _ _ _ _ (by decide)

/-! ## Overruns (R136, R143) -/

/-- An overrun noted: in the region, in the counter of its stack and in the flags of its group. -/
def Block.overrun (b : Block) (s i e q : Nat) : Block :=
  let b := b.updRegion e q fun r => { r with ovr := min (r.ovr + 1) 65535, ovrs := r.ovrs + 1, lastOvr := true }
  (((b.bump (CE_OVR_TOTAL s)).setB (CE_OVR_GRP s) (groupOfLoop i)).raise (P_CE s) 2).ev 0x3D01 s [(1, laneOf i), (2, i)]

/-- The frame that runs learns of an overrun of one of its engines. -/
def Block.overrunFlagged (b : Block) (e : Nat) : Block :=
  if !b.inFrame then b else
  let b := b.updEng e fun x => { x with ovr := true }
  match b.frm with
  | some f => if f.engines.contains e then b.flag fOVERRUN else b
  | none => b

theorem loopOverrun_eq (b : Block) (h : loopOf s i = (e, q)) : loopOverrun s i b =
    if b.lockSt e q = 0 ∨ (b.region e q).held ∨ (b.stk s).laneLoad (b.activeBank s) (laneOf i) ≤ 900 then b
    else ((b.outputStage s i).overrun s i e q).overrunFlagged e := by
  unfold loopOverrun
  rw [h]
  rfl

theorem overrunFlagged_keeps (b : Block) (e q : Nat) :
    (∀ o, (b.overrunFlagged e).rd o = b.rd o) ∧ (b.overrunFlagged e).region e q = b.region e q := by
  have hupd : (b.updEng e fun x => { x with ovr := true }).region e q = b.region e q := by
    rw [Block.region, Block.eng_updEng_same]
    rfl
  unfold Block.overrunFlagged
  split
  · exact ⟨fun _ => rfl, rfl⟩
  · dsimp only
    split
    · split
      · exact ⟨fun _ => rfl, hupd⟩
      · exact ⟨fun _ => rfl, hupd⟩
    · exact ⟨fun _ => rfl, hupd⟩

theorem overrun_region (b : Block) (s i e q : Nat) :
    ((b.overrun s i e q).region e q).ovr = min ((b.region e q).ovr + 1) 65535 := by
  unfold Block.overrun
  dsimp only
  rw [region_ev, region_raise, region_congr (Block.eng_setB ..), region_bump, region_updRegion]

theorem ovrTotal_ne (s : Nat) : CE_OVR_TOTAL s ≠ CE_OVR_GRP s ∧ CE_OVR_TOTAL s ≠ PG_ISTAT (P_CE s) := by
  unfold CE_OVR_TOTAL CE_OVR_GRP PG_ISTAT
  omega

theorem overrun_total (b : Block) (s i e q : Nat) : (b.overrun s i e q).rdF (CE_OVR_TOTAL s) 0 32 =
    min (b.rdF (CE_OVR_TOTAL s) 0 32 + 1) (2 ^ 32 - 1) := by
  obtain ⟨hgrp, histat⟩ := ovrTotal_ne s
  unfold Block.overrun
  dsimp only
  rw [Block.rdF, Block.rd_ev, Block.rd_raise_ne _ _ histat, Block.rd_setB_ne _ _ hgrp]
  exact rdF_bump ..

/-- The registers of the compute element are none of a region's. -/
theorem regionState_ne_ce (e s q : Nat) : LCK_R_STATE e q ≠ CE_OVR_TOTAL s ∧
    LCK_R_STATE e q ≠ CE_OVR_GRP s ∧ LCK_R_STATE e q ≠ PG_ISTAT (P_CE s) := by
  have := engBase_mod e
  simp only [LCK_R_STATE, CE_OVR_TOTAL, CE_OVR_GRP, PG_ISTAT, P_LCK, P_CE]
  omega

theorem overrun_state (b : Block) (s i e q : Nat) :
    (b.overrun s i e q).rd (LCK_R_STATE e q) = b.rd (LCK_R_STATE e q) := by
  obtain ⟨htotal, hgrp, histat⟩ := regionState_ne_ce e s q
  unfold Block.overrun
  dsimp only
  rw [Block.rd_ev, Block.rd_raise_ne _ _ histat, Block.rd_setB_ne _ _ hgrp, Block.rd_bump_ne _ _ htotal, rd_updRegion]

theorem ovrTotal_not_output (s e q : Nat) : CE_OVR_TOTAL s ∉ outputRegs s e q := by
  have := engBase_mod e
  simp only [outputRegs, LCK_R_RTEMP, LCK_R_BIAS, LCK_R_HEAT, CE_SATCNT, CE_OVR_TOTAL, P_LCK, P_CE, List.mem_cons,
    List.not_mem_nil, or_false]
  omega

/-- An overrun of a loop that runs, in a loaded lane. -/
theorem loopOverrun_counts (b : Block) (h : loopOf s i = (e, q)) (hq : q < 64) (hst : b.lockSt e q ≠ 0)
    (hheld : (b.region e q).held = false) (hload : 900 < (b.stk s).laneLoad (b.activeBank s) (laneOf i)) :
    ((loopOverrun s i b).region e q).ovr = min ((b.region e q).ovr + 1) 65535 ∧
      (loopOverrun s i b).rdF (CE_OVR_TOTAL s) 0 32 = min (b.rdF (CE_OVR_TOTAL s) 0 32 + 1) (2 ^ 32 - 1) ∧
      (loopOverrun s i b).lockSt e q = b.lockSt e q := by
  have hgo : ¬ (b.lockSt e q = 0 ∨ (b.region e q).held = true ∨ (b.stk s).laneLoad (b.activeBank s) (laneOf i) ≤ 900) := by
    rw [hheld]
    rintro (h0 | h1 | h2)
    · exact hst h0
    · cases h1
    · omega
  have hout : ∀ o, o ∉ outputRegs s e q → (b.outputStage s i).rd o = b.rd o := fun o ho =>
    ((outputStage_within b h).rd o ho).trans (searchPart_rd b s i o)
  obtain ⟨-, -, -, hovr, -⟩ : _ ∧ _ ∧ _ ∧ _ ∧ _ := by
    simpa only [Region.watched, Prod.mk.injEq] using outputStage_watched b h
  obtain ⟨hrd, hregion⟩ := overrunFlagged_keeps ((b.outputStage s i).overrun s i e q) e q
  rw [loopOverrun_eq b h, if_neg hgo, hregion, overrun_region, hovr, Block.rdF, hrd]
  refine ⟨rfl, ?_, ?_⟩
  · refine (overrun_total ..).trans ?_
    rw [Block.rdF, hout _ (ovrTotal_not_output s e q), Block.rdF]
  · exact lockSt_congr ((hrd _).trans ((overrun_state _ s i e q).trans (hout _ (regionReg_not_output s e hq).1)))

/-! ## The clauses of O24 about loops -/

variable (s : State)

theorem loopSample_gives (st : Fin 4) (i : Fin 1032) (stream : List (BitVec 12)) (e q : Nat) (err : Int) (mean : Nat)
    (h : loopOf st i = (e, q)) (hst : s.b.lockSt e q = 2 ∨ s.b.lockSt e q = 3) (hheld : (s.b.region e q).held = false)
    (hm : (s.b.measure e q stream).1 = (err, mean)) (hlo : s.rdF (LCK_RAIL e) 0 12 < mean)
    (hhi : mean < s.rdF (LCK_RAIL e) 16 12)
    (hvar : lowVar (((s.b.region e q).errs ++ [err]).drop ((s.b.region e q).errs.length + 1 - 64))
      (s.rd (LCK_VFLOOR e)).toNat = false) :
    Gives (.loopSample st i stream) s fun t => (t.b.region e q).e = err ∧ (t.b.region e q).mean = mean ∧
      (t.b.region e q).means.getLast? = some (mean, chipAt s.b.time) ∧ t.b.lockSt e q = s.b.lockSt e q ∧
      t.rdB (LCK_R_STATE e q) 6 = false := by
  have hq : q < 64 := by simpa only [h] using (loopOf_lt st i.isLt).2
  have hmeasure : (s.b.fresh.measure e q stream).1 = (err, mean) :=
    (measure_congr (b := s.b) (c := s.b.fresh) stream rfl rfl rfl rfl rfl).trans hm
  have hend := loopSample_inside s.b.fresh h hq hst hheld hmeasure hlo hhi hvar
  refine Gives.of_done (f := loopSample st i stream) rfl ?_
  rw [run_region, run_lockSt, State.rdB, run_rdB_engine _ _ _ (enginePlain_regionState e q)]
  generalize loopSample st i stream s.b.fresh = c at hend ⊢
  obtain ⟨he, hmean, hlast, hrd⟩ := hend
  refine ⟨he, hmean, hlast, ?_, ?_⟩
  · rw [Block.lockSt, Block.rdF, hrd, fld_setFld_ne _ _ _ _ _ _ (by decide) (by decide)]
    rfl
  · rw [Block.rdB, hrd, bit_eq_fld, fld_setFld _ _ _ _ (by decide)]
    rfl

theorem loopSample_rtemp_gives (st : Fin 4) (i : Fin 1032) (stream : List (BitVec 12)) (e q : Nat)
    (h : loopOf st i = (e, q)) :
    Gives (.loopSample st i stream) s fun t => t.rdF (LCK_R_RTEMP e q) 0 16 = (s.rdF (THM_T (24 + 12 * st.val +
      (Config.nearestDiode (1032 * st + i)).val)) 0 16 + (Config.heaterRise (match s.b.inForce with
      | some x => x.prod.bytes | none => []) st i (BitVec.ofNat 16 (s.rdF (LCK_R_HEAT e q) 0 16))).toNat) % 65536 := by
  obtain ⟨he, hq⟩ : e < 72 ∧ q < 64 := by simpa only [h] using loopOf_lt st i.isLt
  refine Gives.of_done (f := loopSample st i stream) rfl ?_
  rw [State.rdF, Block.rdF, run_rd_engine _ _ (enginePlain_regionTemp e q)]
  refine (loopSample_rtemp s.b.fresh h he hq stream).trans ?_
  rw [rtemp_congr (b := s.b) (funext (Block.fresh_rd s.b)) rfl]
  rfl

theorem loopOverrun_gives (st : Fin 4) (i : Fin 1032) (e q : Nat) (h : loopOf st i = (e, q)) (hst : s.b.lockSt e q ≠ 0)
    (hheld : (s.b.region e q).held = false) (hload : 900 < (s.b.stk st).laneLoad (s.b.activeBank st) (laneOf i)) :
    Gives (.loopOverrun st i) s fun t => (t.b.region e q).ovr = min ((s.b.region e q).ovr + 1) 65535 ∧
      t.rdF (CE_OVR_TOTAL st) 0 32 = min (s.rdF (CE_OVR_TOTAL st) 0 32 + 1) (2 ^ 32 - 1) ∧
      t.b.lockSt e q = s.b.lockSt e q := by
  have hq : q < 64 := by simpa only [h] using (loopOf_lt st i.isLt).2
  refine Gives.of_done (f := loopOverrun st i) rfl ?_
  rw [run_region, run_lockSt, State.rdF, Block.rdF, run_rd_unit _ _ (unitPlain_ovrTotal _)]
  exact loopOverrun_counts s.b.fresh h hq hst hheld (by rw [activeBank_fresh]; exact hload)

theorem loopOverrun_light_gives (st : Fin 4) (i : Fin 1032) (e q : Nat) (h : loopOf st i = (e, q))
    (hload : (s.b.stk st).laneLoad (s.b.activeBank st) (laneOf i) ≤ 900) :
    Gives (.loopOverrun st i) s fun t => (t.b.region e q).ovr = (s.b.region e q).ovr ∧
      t.rd (CE_OVR_TOTAL st) = s.rd (CE_OVR_TOTAL st) := by
  have hsame : loopOverrun st i s.b.fresh = s.b.fresh := by
    rw [loopOverrun_eq _ h, if_pos (.inr (.inr (by rw [activeBank_fresh]; exact hload)))]
  refine Gives.of_done (f := loopOverrun st i) rfl ?_
  rw [run_region, State.rd, run_rd_unit _ _ (unitPlain_ovrTotal _), hsame]
  exact ⟨rfl, rfl⟩

/-- Settles O24: samples and overruns of loops, the coefficient banks and the tables. -/
theorem loopsAndBanks : Obligations.LoopsAndBanks := by
  unfold Obligations.LoopsAndBanks
  refine ⟨?_, loopSample_rtemp_gives, ?_, loopOverrun_light_gives, ceBankArm_gives, ceBankDisarm_gives,
    bankCheckComplete_gives, slopeTableRecompute_gives, ?_, ?_, ceTdataRead_gives⟩
  · intro s st i stream e q err mean h ⟨hst, hheld⟩ hm ⟨hlo, hhi⟩ hvar
    exact loopSample_gives s st i stream e q err mean h hst hheld hm hlo hhi hvar
  · exact fun s st i e q h ⟨hst, hheld⟩ hload => loopOverrun_gives s st i e q h hst hheld hload
  · exact fun s m st v bank g loop ⟨ha, hall⟩ ⟨hat, hok⟩ => ceTdataWrite_gives s m st v bank g loop ha hall hat hok
  · exact fun s m st v bank g loop ha ⟨hat, hno⟩ => ceTdataWrite_refused_gives s m st v bank g loop ha hat hno

end Sys2Proof.Machine
end

section
/-! SUPPORT. Trace buffers (R155 to R157): what ARM, FORCE, STOP, a sample and Done leave of a buffer and of `CE_TRC_STAT`. -/

namespace Sys2Proof.Machine

variable {b : Block} {s t : Nat} {v : Word}

/-! ## A buffer and its registers -/

theorem trcStat_ne (s t : Nat) : CE_TRC_STAT s t ≠ CE_TRC_CTRL s t ∧ CE_TRC_STAT s t ≠ CE_TRC_TIME s t ∧
    CE_TRC_STAT s t ≠ CE_TRC_FRAME s t ∧ CE_TRC_STAT s t ≠ PG_ISTAT (P_CE s) := by
  simp only [CE_TRC_STAT, CE_TRC_CTRL, CE_TRC_TIME, CE_TRC_FRAME, PG_ISTAT]
  omega

theorem trcTrig_ne (s t : Nat) : CE_TRC_TRIG s t ≠ CE_TRC_CTRL s t ∧ CE_TRC_TRIG s t ≠ CE_TRC_STAT s t ∧
    CE_TRC_TRIG s t ≠ CE_TRC_TIME s t ∧ CE_TRC_TRIG s t ≠ CE_TRC_FRAME s t := by
  simp only [CE_TRC_TRIG, CE_TRC_CTRL, CE_TRC_STAT, CE_TRC_TIME, CE_TRC_FRAME]
  omega

theorem unitPlain_trcStat (s : Nat) {t : Nat} (ht : t < 4) : unitPlain (CE_TRC_STAT s t) := by
  simp only [unitPlain, CE_TRC_STAT, P_CE]
  omega

theorem unitPlain_ceIstat (s : Nat) : unitPlain (PG_ISTAT (P_CE s)) := by
  simp only [unitPlain, PG_ISTAT, P_CE]
  omega

/-- Buffers depend on the stacks alone. -/
theorem trace_congr {c : Block} (h : c.stks = b.stks) (s t : Nat) : c.trace s t = b.trace s t := by
  rw [Block.trace, Block.trace, Block.stk, Block.stk, h]

theorem trace_updTrace (b : Block) (s t : Nat) (f : Trace → Trace) : (b.updTrace s t f).trace s t = f (b.trace s t) := by
  rw [Block.trace, Block.updTrace, Block.stk_updStk_same]
  exact SMap.get_set_same ..

theorem rd_updTrace (b : Block) (s t : Nat) (f : Trace → Trace) (o : Nat) : (b.updTrace s t f).rd o = b.rd o := rfl

theorem run_trace (st : State) (f : Block → Block) (s t : Nat) : (st.run f).b.trace s t = (f st.b.fresh).trace s t :=
  trace_congr (run_stks st f) s t

theorem counted_trace (b : Block) (off : Nat) (a : Bool) (s t : Nat) : (b.counted off a).trace s t = b.trace s t := by
  rw [Block.trace, counted_stk]
  rfl

/-! ## The steps of a write of `CE_TRC_CTRL` (R157) -/

/-- The mode bit is taken first. -/
def Block.trcMode (b : Block) (s t : Nat) (v : Word) : Block := b.wrB (CE_TRC_CTRL s t) 0 (bit v 0)

/-- ARM, where it acts. -/
def Block.trcArm (b : Block) (s t : Nat) (v : Word) : Block :=
  if bit v 4 ∧ (b.rdF (CE_TRC_STAT s t) 0 2 = 0 ∨ b.rdF (CE_TRC_STAT s t) 0 2 = 3) ∧ b.rdF (CE_TRC_TRIG s t) 0 4 < 12 then
    let seen := b.traceCount s t
    let (e, q) := loopOf s ((b.traceNode s t (b.rdF (CE_TRC_TRIG s t) 4 2)).1 % 1032)
    let b := b.updTrace s t fun x =>
      { x with mem := [], skip := 0, seen := seen, prev := 0, prevSt := b.lockSt e q, mode := bit v 0 }
    b.wr (CE_TRC_STAT s t) (wd (1 + 8 * b.rdF (CE_TRC_STAT s t) 3 1))
  else b

/-- FORCE, where it acts. -/
def Block.trcForce (b : Block) (s t : Nat) (v : Word) : Block :=
  if bit v 5 ∧ b.rdF (CE_TRC_STAT s t) 0 2 = 1 then
    ((b.traceMark s t).ev 0x3D06 t [(1, t), (1, b.rdF (CE_TRC_TRIG s t) 0 4)]).traceTriggered s t
  else b

/-- STOP, where it acts; of an Armed buffer it shows the write pointer as the place of the trigger. -/
def Block.trcStop (b : Block) (s t : Nat) (v : Word) : Block :=
  if bit v 6 ∧ (b.rdF (CE_TRC_STAT s t) 0 2 = 1 ∨ b.rdF (CE_TRC_STAT s t) 0 2 = 2) then
    (if b.rdF (CE_TRC_STAT s t) 0 2 = 1 then b.wrF (CE_TRC_STAT s t) 4 12 (b.rdF (CE_TRC_STAT s t) 16 12)
      else b).traceDone s t
  else b

theorem trcCtrlWrite_eq (b : Block) (s t : Nat) (v : Word) : trcCtrlWrite s t v b =
    ((((b.trcMode s t v).trcArm s t v).trcForce s t v).trcStop s t v, true) := rfl

theorem trcArm_clear (b : Block) (s t : Nat) (h : bit v 4 = false) : b.trcArm s t v = b := if_neg (by simp [h])
theorem trcForce_clear (b : Block) (s t : Nat) (h : bit v 5 = false) : b.trcForce s t v = b := if_neg (by simp [h])
theorem trcStop_clear (b : Block) (s t : Nat) (h : bit v 6 = false) : b.trcStop s t v = b := if_neg (by simp [h])

theorem trcMode_stat (b : Block) (s t : Nat) (v : Word) (lo w : Nat) :
    (b.trcMode s t v).rdF (CE_TRC_STAT s t) lo w = b.rdF (CE_TRC_STAT s t) lo w :=
  congrArg (fld · lo w) (b.rd_wrB_ne _ _ (trcStat_ne s t).1)
theorem trcMode_trig (b : Block) (s t : Nat) (v : Word) (lo w : Nat) :
    (b.trcMode s t v).rdF (CE_TRC_TRIG s t) lo w = b.rdF (CE_TRC_TRIG s t) lo w :=
  congrArg (fld · lo w) (b.rd_wrB_ne _ _ (trcTrig_ne s t).1)
theorem trcMode_trace (b : Block) (s t : Nat) (v : Word) : (b.trcMode s t v).trace s t = b.trace s t :=
  trace_congr (Block.wrB_stks ..) s t

/-! ## ARM -/

theorem trcArm_acts (h4 : bit v 4 = true) (hst : b.rdF (CE_TRC_STAT s t) 0 2 = 0 ∨ b.rdF (CE_TRC_STAT s t) 0 2 = 3)
    (hsrc : b.rdF (CE_TRC_TRIG s t) 0 4 < 12) :
    (b.trcArm s t v).rd (CE_TRC_STAT s t) = wd (1 + 8 * b.rdF (CE_TRC_STAT s t) 3 1) ∧
      ((b.trcArm s t v).trace s t).mem = [] ∧ ((b.trcArm s t v).trace s t).mode = bit v 0 := by
  rw [Block.trcArm, if_pos ⟨h4, hst, hsrc⟩]
  dsimp only
  rw [trace_congr (Block.wr_stks ..) s t, trace_updTrace]
  exact ⟨Block.rd_wr_same .., rfl, rfl⟩

/-! ## Triggers and FORCE -/

/-- A trigger leaves the source as it is, keeps the state and the write pointer, and is counted. -/
theorem traceMark_leaves (b : Block) (s t : Nat) :
    (b.traceMark s t).rd (CE_TRC_TRIG s t) = b.rd (CE_TRC_TRIG s t) ∧
      (b.traceMark s t).rd (CE_TRC_STAT s t) =
        setFld (setFld (b.rd (CE_TRC_STAT s t)) 4 12 (b.rdF (CE_TRC_STAT s t) 16 12)) 2 1 (b2n !b.inFrame) ∧
      (b.traceMark s t).trace s t = { b.trace s t with trigs := (b.trace s t).trigs + 1 } := by
  obtain ⟨-, htime, hframe, -⟩ := trcStat_ne s t
  obtain ⟨-, gstat, gtime, gframe⟩ := trcTrig_ne s t
  unfold Block.traceMark
  dsimp only
  refine ⟨?_, ?_, ?_⟩
  · rw [rd_updTrace, Block.when_keep _ (·.rd (CE_TRC_TRIG s t)) _ _ (Block.rd_wr_ne _ _ gframe),
      Block.rd_wrB_ne _ _ _ gstat, Block.rd_wr_ne _ _ gtime, Block.rd_wrF_ne _ _ _ _ gstat]
  · rw [rd_updTrace, Block.when_keep _ (·.rd (CE_TRC_STAT s t)) _ _ (Block.rd_wr_ne _ _ hframe), Block.wrB, Block.rd_wrF,
      Block.rd_wr_ne _ _ htime, Block.rd_wrF, Block.inFrame, Block.inFrame, Block.wrF_frm]
  · rw [trace_updTrace, Block.when_keep _ (·.trace s t) _ _ (trace_congr (Block.wr_stks ..) s t),
      trace_congr (Block.wrB_stks ..) s t, trace_congr (Block.wr_stks ..) s t, trace_congr (Block.wrF_stks ..) s t]

theorem trcForce_acts (h5 : bit v 5 = true) (hst : b.rdF (CE_TRC_STAT s t) 0 2 = 1) :
    (b.trcForce s t v).rdF (CE_TRC_STAT s t) 0 2 = 2 ∧
      (b.trcForce s t v).rdF (CE_TRC_STAT s t) 4 12 = b.rdF (CE_TRC_STAT s t) 16 12 ∧
      ((b.trcForce s t v).trace s t).left = b.rdF (CE_TRC_TRIG s t) 16 12 ∧
      ((b.trcForce s t v).trace s t).trigs = (b.trace s t).trigs + 1 := by
  obtain ⟨htrig, hstat, htrace⟩ := traceMark_leaves b s t
  rw [Block.trcForce, if_pos ⟨h5, hst⟩, Block.traceTriggered]
  refine ⟨Block.rdF_wrF _ _ _ _ _ (by decide), ?_, ?_⟩
  · rw [Block.rdF, Block.rd_wrF, rd_updTrace, Block.rd_ev, hstat, fld_setFld_ne _ _ _ _ _ _ (by decide) (by decide),
      fld_setFld_ne _ _ _ _ _ _ (by decide) (by decide), fld_setFld _ _ _ _ (by decide)]
    exact fld_mod ..
  · rw [trace_congr (Block.wrF_stks ..) s t, trace_updTrace, trace_congr (Block.ev_stks ..) s t, htrace, Block.rdF,
      Block.rd_ev, htrig]
    exact ⟨rfl, rfl⟩

/-! ## STOP and Done -/

theorem traceDone_leaves (b : Block) (s : Nat) {t : Nat} (ht : t < 4) :
    (b.traceDone s t).rdF (CE_TRC_STAT s t) 0 2 = 3 ∧ (b.traceDone s t).rdB (PG_ISTAT (P_CE s)) (4 + t) = true ∧
      (b.traceDone s t).trace s t = b.trace s t := by
  obtain ⟨-, -, -, histat⟩ := trcStat_ne s t
  rw [Block.traceDone]
  refine ⟨?_, Block.rdB_setB _ _ _ (by omega),
    (trace_congr (Block.raise_stks ..) s t).trans (trace_congr (Block.wrF_stks ..) s t)⟩
  rw [Block.rdF, Block.rd_raise_ne _ _ histat]
  exact b.rdF_wrF _ _ _ _ (by decide)

theorem trcStop_acts (ht : t < 4) (h6 : bit v 6 = true)
    (hst : b.rdF (CE_TRC_STAT s t) 0 2 = 1 ∨ b.rdF (CE_TRC_STAT s t) 0 2 = 2) :
    (b.trcStop s t v).rdF (CE_TRC_STAT s t) 0 2 = 3 ∧ (b.trcStop s t v).trace s t = b.trace s t := by
  rw [Block.trcStop, if_pos ⟨h6, hst⟩]
  obtain ⟨hdone, -, htrace⟩ := traceDone_leaves
    (if b.rdF (CE_TRC_STAT s t) 0 2 = 1 then b.wrF (CE_TRC_STAT s t) 4 12 (b.rdF (CE_TRC_STAT s t) 16 12) else b) s ht
  refine ⟨hdone, htrace.trans ?_⟩
  split
  · exact trace_congr (Block.wrF_stks ..) s t
  · rfl

/-! ## Samples (R155, R156) -/

/-- The four node values of a buffer, as one entry packs them (R155). -/
def Block.traceEntry (b : Block) (s t : Nat) : Nat :=
  (List.range 4).foldl (fun a j => a + h16 (b.nodeValue s (b.traceNode s t j)) * 2 ^ (16 * j)) 0

/-- The write pointer is noted to have wrapped, if it has. -/
def Block.traceWrap (b : Block) (s t : Nat) (wrapped : Bool) : Block :=
  b.when wrapped fun b => b.setB (CE_TRC_STAT s t) 28

/-- An entry stored at the write pointer, which advances. -/
def Block.traceStore (b : Block) (s t : Nat) : Block :=
  let w := b.rdF (CE_TRC_STAT s t) 16 12
  let c := (b.updTrace s t fun x => { x with mem := x.mem.set (fun _ => 0) w (b.traceEntry s t) }).wrF
    (CE_TRC_STAT s t) 16 12 ((w + 1) % 4096)
  c.traceWrap s t (w = 4095)

theorem traceWrap_stat (b : Block) (s t : Nat) (x : Bool) {lo w : Nat} (h : lo + w ≤ 28) :
    (b.traceWrap s t x).rdF (CE_TRC_STAT s t) lo w = b.rdF (CE_TRC_STAT s t) lo w := by
  cases x
  · rfl
  · rw [Block.traceWrap, Block.when_true, Block.setB, Block.wrB, Block.rdF, Block.rd_wrF]
    exact fld_setFld_ne _ _ _ _ _ _ (by decide) (.inl h)

theorem traceWrap_trig (b : Block) (s t : Nat) (x : Bool) :
    (b.traceWrap s t x).rd (CE_TRC_TRIG s t) = b.rd (CE_TRC_TRIG s t) :=
  Block.when_keep _ (·.rd (CE_TRC_TRIG s t)) _ _ (b.rd_setB_ne _ (trcTrig_ne s t).2.1)

theorem traceWrap_trace (b : Block) (s t : Nat) (x : Bool) : (b.traceWrap s t x).trace s t = b.trace s t :=
  trace_congr (Block.when_keep _ (·.stks) _ _ (Block.setB_stks ..)) s t

theorem traceStore_leaves (b : Block) (s t : Nat) :
    (b.traceStore s t).rdF (CE_TRC_STAT s t) 0 2 = b.rdF (CE_TRC_STAT s t) 0 2 ∧
      (b.traceStore s t).rdF (CE_TRC_STAT s t) 16 12 = (b.rdF (CE_TRC_STAT s t) 16 12 + 1) % 4096 ∧
      (b.traceStore s t).rd (CE_TRC_TRIG s t) = b.rd (CE_TRC_TRIG s t) ∧
      ((b.traceStore s t).trace s t).mem = (b.trace s t).mem.set (fun _ => 0) (b.rdF (CE_TRC_STAT s t) 16 12)
        (b.traceEntry s t) := by
  obtain ⟨-, gstat, -, -⟩ := trcTrig_ne s t
  unfold Block.traceStore
  dsimp only
  rw [traceWrap_stat _ _ _ _ (by decide), traceWrap_stat _ _ _ _ (by decide), traceWrap_trig, traceWrap_trace]
  refine ⟨?_, ?_, ?_, ?_⟩
  · rw [Block.rdF, Block.rd_wrF]
    exact fld_setFld_ne _ _ _ _ _ _ (by decide) (by decide)
  · rw [Block.rdF_wrF _ _ _ _ _ (by decide)]
    omega
  · rw [Block.rd_wrF_ne _ _ _ _ gstat, rd_updTrace]
  · rw [trace_congr (Block.wrF_stks ..) s t, trace_updTrace]

/-- A sample of an Armed buffer whose trigger does not fire is stored, and its timebase begins again. -/
theorem traceSample_stores (hst : b.rdF (CE_TRC_STAT s t) 0 2 = 1) (hfire : b.traceFires s t = false)
    (hskip : (b.trace s t).skip = 0) : ∃ f : Trace → Trace, traceSample s t b = (b.traceStore s t).updTrace s t f ∧
      ∀ x, (f x).mem = x.mem ∧ (f x).skip = (b.traceStore s t).rdF (CE_TRC_TRIG s t) 8 8 := by
  have hgo : ¬ (b.rdF (CE_TRC_STAT s t) 0 2 ≠ 1 ∧ b.rdF (CE_TRC_STAT s t) 0 2 ≠ 2) := by simp [hst]
  have hrec : (b.trace s t).skip = 0 ∧ (b.rdF (CE_TRC_STAT s t) 0 2 = 1 ∨ (b.trace s t).left ≠ 0) := ⟨hskip, .inl hst⟩
  have hf : decide (b.rdF (CE_TRC_STAT s t) 0 2 = 1 ∧ b.traceFires s t = true) = false := by simp [hfire]
  unfold traceSample Block.traceStore Block.traceWrap Block.traceEntry
  rw [if_neg hgo]
  dsimp only
  rw [hf, decide_eq_true hrec, Block.when_false, Block.when_true]
  simp only [if_pos hrec]
  exact ⟨_, rfl, fun x => ⟨rfl, rfl⟩⟩

/-! ## The clauses of O25 -/

variable (s : State) (m : Master) (st n : Fin 4) (v : Word)

/-- What holds of a buffer and its registers after the effect of a write of `CE_TRC_CTRL` that reaches it holds after the
command. -/
theorem Gives.of_trcCtrl {c : Instr} {P : State → Prop} (h : exec c s = s.done fun b => b.gate m (CE_TRC_CTRL st n)
      (trcCtrlWrite st n v)) (ha : s.b.accepts m (CE_TRC_CTRL st n) = true)
    (hP : ∀ t : State, t.rd (CE_TRC_STAT st n) = (trcCtrlWrite st n v s.b.fresh).1.rd (CE_TRC_STAT st n) →
      t.b.trace st n = (trcCtrlWrite st n v s.b.fresh).1.trace st n → P t) : Gives c s P := by
  refine Gives.of_gate (b' := (trcCtrlWrite st n v s.b.fresh).1) (acted := true) h ha rfl (hP _ ?_ ?_)
  · exact run_counted_rd_unit _ _ _ _ (unitPlain_trcStat st n.isLt)
  · exact (run_trace ..).trans (counted_trace ..)

theorem traceArm_gives (ha : s.b.accepts m (CE_TRC_CTRL st n) = true) (h5 : v.getLsbD 5 = false) (h6 : v.getLsbD 6 = false)
    (hst : s.rdF (CE_TRC_STAT st n) 0 2 = 0 ∨ s.rdF (CE_TRC_STAT st n) 0 2 = 3) (hsrc : s.rdF (CE_TRC_TRIG st n) 0 4 < 12) :
    Gives (.traceArm m st n v) s fun t => t.rd (CE_TRC_STAT st n) = wd (1 + 8 * s.rdF (CE_TRC_STAT st n) 3 1) ∧
      (t.b.trace st n).mem = [] ∧ (t.b.trace st n).mode = v.getLsbD 0 := by
  refine Gives.of_trcCtrl s m st n (v ||| 0x10) rfl ha fun t hrd htrace => ?_
  have hmode : bit (v ||| 0x10) 0 = v.getLsbD 0 := (bit_or ..).trans (Bool.or_false _)
  rw [trcCtrlWrite_eq, trcStop_clear _ _ _ (bit_or_clear h6 rfl), trcForce_clear _ _ _ (bit_or_clear h5 rfl)] at hrd htrace
  obtain ⟨hstat, hmem, hm⟩ := trcArm_acts (b := s.b.fresh.trcMode st n (v ||| 0x10)) (s := st) (t := n) (v := v ||| 0x10)
    (bit_or_set v rfl) (by rw [trcMode_stat]; exact hst) (by rw [trcMode_trig]; exact hsrc)
  rw [hrd, htrace, hstat, hmem, hm, trcMode_stat, hmode]
  exact ⟨rfl, rfl, rfl⟩

theorem traceForce_gives (ha : s.b.accepts m (CE_TRC_CTRL st n) = true) (h4 : v.getLsbD 4 = false)
    (h6 : v.getLsbD 6 = false) (hst : s.rdF (CE_TRC_STAT st n) 0 2 = 1) :
    Gives (.traceForce m st n v) s fun t => t.rdF (CE_TRC_STAT st n) 0 2 = 2 ∧
      (t.b.trace st n).left = s.rdF (CE_TRC_TRIG st n) 16 12 ∧ (t.b.trace st n).trigs = (s.b.trace st n).trigs + 1 ∧
      t.rdF (CE_TRC_STAT st n) 4 12 = s.rdF (CE_TRC_STAT st n) 16 12 := by
  refine Gives.of_trcCtrl s m st n (v ||| 0x20) rfl ha fun t hrd htrace => ?_
  rw [trcCtrlWrite_eq, trcStop_clear _ _ _ (bit_or_clear h6 rfl), trcArm_clear _ _ _ (bit_or_clear h4 rfl)] at hrd htrace
  obtain ⟨hstate, hpos, hleft, htrigs⟩ := trcForce_acts (b := s.b.fresh.trcMode st n (v ||| 0x20)) (s := st) (t := n)
    (v := v ||| 0x20) (bit_or_set v rfl) (by rw [trcMode_stat]; exact hst)
  rw [trcMode_stat] at hpos
  rw [trcMode_trig] at hleft
  rw [trcMode_trace] at htrigs
  rw [htrace]
  exact ⟨(congrArg (fld · 0 2) hrd).trans hstate, hleft, htrigs, (congrArg (fld · 4 12) hrd).trans hpos⟩

theorem traceStop_gives (ha : s.b.accepts m (CE_TRC_CTRL st n) = true) (h4 : v.getLsbD 4 = false)
    (h5 : v.getLsbD 5 = false) (hst : s.rdF (CE_TRC_STAT st n) 0 2 = 1 ∨ s.rdF (CE_TRC_STAT st n) 0 2 = 2) :
    Gives (.traceStop m st n v) s fun t => t.rdF (CE_TRC_STAT st n) 0 2 = 3 ∧
      (t.b.trace st n).mem = (s.b.trace st n).mem := by
  refine Gives.of_trcCtrl s m st n (v ||| 0x40) rfl ha fun t hrd htrace => ?_
  rw [trcCtrlWrite_eq, trcForce_clear _ _ _ (bit_or_clear h5 rfl), trcArm_clear _ _ _ (bit_or_clear h4 rfl)] at hrd htrace
  obtain ⟨hstate, hkept⟩ := trcStop_acts (b := s.b.fresh.trcMode st n (v ||| 0x40)) (s := st) (v := v ||| 0x40) n.isLt
    (bit_or_set v rfl) (by rw [trcMode_stat]; exact hst)
  rw [htrace, hkept, trcMode_trace]
  exact ⟨(congrArg (fld · 0 2) hrd).trans hstate, rfl⟩

theorem traceSample_gives (hst : s.rdF (CE_TRC_STAT st n) 0 2 = 1) (hfire : s.b.traceFires st n = false)
    (hskip : (s.b.trace st n).skip = 0) :
    Gives (.traceSample st n) s fun t => t.rdF (CE_TRC_STAT st n) 0 2 = 1 ∧
      t.rdF (CE_TRC_STAT st n) 16 12 = (s.rdF (CE_TRC_STAT st n) 16 12 + 1) % 4096 ∧
      (t.b.trace st n).skip = s.rdF (CE_TRC_TRIG st n) 8 8 ∧
      (t.b.trace st n).mem.get (fun _ => 0) (s.rdF (CE_TRC_STAT st n) 16 12) = s.b.traceEntry st n := by
  refine Gives.of_done (f := traceSample st n) rfl ?_
  obtain ⟨hstate, hptr, htrig, hmem⟩ := traceStore_leaves s.b.fresh st n
  obtain ⟨f, hsample, hf⟩ := traceSample_stores (b := s.b.fresh) (s := st) (t := n) hst hfire hskip
  obtain ⟨hfmem, hfskip⟩ := hf ((s.b.fresh.traceStore st n).trace st n)
  rw [State.rdF, State.rdF, Block.rdF, Block.rdF, run_rd_unit _ _ (unitPlain_trcStat st n.isLt), run_trace, hsample,
    trace_updTrace, rd_updTrace, hfmem, hfskip, hmem]
  refine ⟨hstate.trans hst, hptr, congrArg (fld · 8 8) htrig, ?_⟩
  exact SMap.get_set_same ..

theorem tracePostComplete_gives (hst : s.rdF (CE_TRC_STAT st n) 0 2 = 2) (hleft : (s.b.trace st n).left = 0) :
    Gives (.tracePostComplete st n) s fun t => t.rdF (CE_TRC_STAT st n) 0 2 = 3 ∧
      t.rdB (PG_ISTAT (P_CE st)) (4 + n) = true := by
  refine Gives.of_done (f := tracePostDone st n) rfl ?_
  obtain ⟨hstate, histat, -⟩ := traceDone_leaves s.b.fresh st n.isLt
  rw [State.rdF, Block.rdF, run_rd_unit _ _ (unitPlain_trcStat st n.isLt), State.rdB, Block.rdB,
    run_rd_unit _ _ (unitPlain_ceIstat st), tracePostDone, if_pos ⟨hst, hleft⟩]
  exact ⟨hstate, histat⟩

/-- Settles O25: ARM, FORCE and STOP, a sample that is stored, and Done. -/
theorem traceBuffers : Obligations.TraceBuffers := by
  unfold Obligations.TraceBuffers
  refine ⟨?_, ?_, ?_, ?_, ?_⟩
  · exact fun s m st n v ⟨ha, h5, h6⟩ ⟨hst, hsrc⟩ => traceArm_gives s m st n v ha h5 h6 hst hsrc
  · exact fun s m st n v ⟨ha, h4, h6⟩ hst => traceForce_gives s m st n v ha h4 h6 hst
  · exact fun s m st n v ⟨ha, h4, h5⟩ hst => traceStop_gives s m st n v ha h4 h5 hst
  · exact fun s st n ⟨hst, hfire, hskip⟩ => traceSample_gives s st n hst hfire hskip
  · exact fun s st n ⟨hst, hleft⟩ => tracePostComplete_gives s st n hst hleft

end Sys2Proof.Machine
end

section
/-! SUPPORT. The counter that a completed descriptor signals (R282): a descriptor in flight names it by any number. -/

namespace Sys2Proof.Machine

variable {b : Block} {f : Frame} {i : Infl} {idx : Nat}

/-- A descriptor at its completion point leaves the frame and signals its counter. -/
theorem descriptorDone_found (hf : b.frm = some f) (hi : (f.infl.find? fun j => j.idx == idx && j.reached) = some i) :
    descriptorDone idx b = (b.updFrm fun f =>
      { f with infl := f.infl.erase i, vops := f.vops.filter fun v => v.1 != idx }).countSig i := by
  unfold descriptorDone
  rw [hf]
  dsimp only
  rw [hi]

theorem countSig_rdF (b : Block) (h : i.sig = true) :
    (b.countSig i).rdF (MSQ_CTR i.ctr) 0 16 = min (b.rdF (MSQ_CTR i.ctr) 0 16 + 1) 65535 := by
  rw [Block.countSig, h, Block.when_true, Block.bumpF, Block.rdF_wrF _ _ _ _ _ (by decide)]
  omega

/-- Descriptor 0, at its completion point, with `SIG` and counter 16. A descriptor has four bits for its counter, so none that
the module issues names this one, but nothing in the statement excludes it. -/
def strayDescriptor : Infl := { idx := 0, tgt := 4, sig := true, ctr := 16, reached := true }

/-- A frame in which that descriptor alone is in flight. -/
def strayFrame : Frame :=
  { sr := { frame := 1, seed := 0, paddr := 0, plen := 64, pbase := 0, ncand := 1 }, begun := 0, ended := true,
    irq := false, saddr := none, stopped := false, tlimit := false, abandon := false, byEnd := true, flags := 0,
    rej := false, nrej := 0, ridx := 0, rreason := 0, nlate := 0, nheld := 0, pc := 1, queue := [],
    infl := [strayDescriptor], fences := [], lastIdx := 0, mint := none, mq := [], vops := [], vrecvs := [],
    engines := [], mOrd := 0, mConv := 0, mClip := 0, mNsat := 0, mWorst := 0, mWorstOrd := 0 }

/-- The module as reset leaves it, but for that frame. -/
def strayCounter : State := { State.reset with b := { Block.reset with frm := some strayFrame } }

theorem strayCounter_zero : strayCounter.b.rdF (MSQ_CTR 16) 0 16 = 0 := by decide

/-- The completion counts at offset `MSQ_CTR 16`, behind the sixteen counters. -/
theorem strayCounter_counts : (descriptorDone 0 strayCounter.b.fresh).rdF (MSQ_CTR 16) 0 16 = 1 := by
  rw [descriptorDone_found (f := strayFrame) (i := strayDescriptor) rfl rfl]
  refine (countSig_rdF _ rfl).trans ?_
  exact congrArg (min (· + 1) 65535) strayCounter_zero

theorem msqCtr_beyond : MSQ_CTR 16 ∉ (List.range 16).map MSQ_CTR := by decide

theorem unitPlain_msqCtr : unitPlain (MSQ_CTR 16) := by unfold unitPlain; decide

/-- Refutes O47: the clause on the completion of a descriptor does not exclude a descriptor in flight whose counter is none of
the sixteen. In `strayCounter` one signals counter 16, and the register at offset `MSQ_CTR 16`, which is not among those
named, goes from 0 to 1. -/
theorem not_frameStacks : ¬ Obligations.FrameStacks := by
  unfold Obligations.FrameStacks
  rintro ⟨-, -, -, -, -, -, -, -, -, -, -, -, -, -, -, -, hcomplete⟩
  obtain ⟨t, hexec, -, hkept⟩ := hcomplete strayCounter 0
  have ht : strayCounter.run (descriptorDone 0) = t := by injection hexec
  have hrd := hkept (MSQ_CTR 16) msqCtr_beyond (unitPlain_not_log unitPlain_msqCtr)
  rw [← ht, State.rd, run_rd_unit _ _ unitPlain_msqCtr] at hrd
  have hone := strayCounter_counts
  rw [Block.rdF, hrd] at hone
  exact absurd (strayCounter_zero.symm.trans hone) (by decide)

end Sys2Proof.Machine
end

section
/-! SUPPORT. A descriptor taken whose effect keeps what is in flight (R281, R282): it is in flight afterwards, or has reached its
completion point, and no rejection is counted. -/

namespace Sys2Proof.Machine

variable {x : State} {idx op : Nat} {d : Desc} {stackTgt : Bool} {masks : List Nat} {c : Block}

theorem inFlight_of_taken (ht : x.b.takes idx d op stackTgt masks = true)
    (hc : c.flight = (x.b.fresh.issued idx d).flight) :
    (x.run fun _ => c.fetch).nrej = x.nrej ∧ (x.run fun _ => c.fetch).inFlight idx = true :=
  inFlight_of_issued (b := x.b.fresh) rfl (takes_frm ht) (((run_flight ..).trans (fetch_flight c)).trans hc)

theorem hasReached_of_taken (ht : x.b.takes idx d op stackTgt masks = true)
    (hc : c.flight = (x.b.fresh.issued idx d).flight) :
    (x.run fun _ => (c.reached idx).fetch).hasReached idx = true ∧ (x.run fun _ => (c.reached idx).fetch).nrej = x.nrej :=
  hasReached_of_issued (b := x.b.fresh) (c := c) rfl (takes_frm ht) hc ((run_flight ..).trans (fetch_flight _))

end Sys2Proof.Machine
end

section
/-! SUPPORT. Tile slots and the bytes of the Ledger (R182, R187): what an operation on a stack leaves of its tiles, and what a
stretch of the Ledger reads as after it is written. -/

namespace Sys2Proof.Machine

variable (b : Block) (s slot : Nat)

theorem tile_updTile (f : Tile → Tile) (k j : Nat) :
    (b.updTile s slot f).tile k j = if k = s ∧ j = slot then f (b.tile s slot) else b.tile k j := by
  rw [Block.tile, Block.updTile, Block.stk_updStk]
  by_cases hk : k = s
  · subst hk
    rw [if_pos rfl, Stk.tile, SMap.upd, SMap.get_set]
    simp only [true_and]
    rfl
  · rw [if_neg hk, if_neg fun h => hk h.1]
    rfl

@[simp] theorem tile_updTile_same (f : Tile → Tile) : (b.updTile s slot f).tile s slot = f (b.tile s slot) := by
  rw [tile_updTile, if_pos ⟨rfl, rfl⟩]

/-- Tiles stand in the stacks alone. -/
theorem tile_of_stks {b c : Block} (h : c.stks = b.stks) (k j : Nat) : c.tile k j = b.tile k j := by
  rw [Block.tile, Block.stk, h]
  rfl

theorem stk_of_stks {b c : Block} (h : c.stks = b.stks) (k : Nat) : c.stk k = b.stk k := by
  rw [Block.stk, h]
  rfl

/-- A change of a stack that keeps its tiles. -/
theorem tile_updStk {f : Stk → Stk} (h : ∀ x, (f x).tiles = x.tiles) (k j : Nat) : (b.updStk s f).tile k j = b.tile k j := by
  rw [Block.tile, Block.stk_updStk]
  split
  · next hk => rw [hk, Stk.tile, h]; rfl
  · rfl

theorem run_tile (x : State) (f : Block → Block) (k j : Nat) : (x.run f).b.tile k j = (f x.b.fresh).tile k j :=
  tile_of_stks (run_stks x f) k j

theorem counted_tile (off : Nat) (a : Bool) (k j : Nat) : (b.counted off a).tile k j = b.tile k j := by
  rw [counted_rest]
  rfl

theorem issued_tile (idx : Nat) (d : Desc) (k j : Nat) : (b.issued idx d).tile k j = b.tile k j :=
  tile_of_stks (issued_stks ..) k j

/-- A stretch of the Ledger just written. -/
theorem rdLed_wrLed (a : Nat) (bs : List Byte) : (b.wrLed s a bs).rdLed s a bs.length = bs := by
  refine List.ext_getElem (by simp [Block.rdLed, SMap.getMany]) fun i hi hi' => ?_
  simp only [Block.rdLed, Block.wrLed, SMap.getMany, Block.stk_updStk_same, List.getElem_map, List.getElem_range]
  rw [SMap.get_setMany, dif_pos (by omega)]
  simp

theorem length_bytesLE (n v : Nat) : (bytesLE n v).length = n := by
  induction n generalizing v with
  | zero => rfl
  | succ n ih => rw [bytesLE, List.length_cons, ih]

theorem length_emptyElem (fmt op : Nat) : (emptyElem fmt op).length = elemBytes fmt op := by
  rw [emptyElem, elemBytes, List.length_append, length_bytesLE]
  split
  · rw [length_bytesLE]
  · rfl

/-- The storage area of a record filled with the empty value (R187). -/
def emptyArea (tr : List Word) : List Byte :=
  (List.replicate (stRows tr * stCols tr) (emptyElem (tFmt tr) (tOp tr))).flatten

theorem length_emptyArea (tr : List Word) : (emptyArea tr).length = stBytes tr := by
  simp only [emptyArea, List.length_flatten, List.map_replicate, List.sum_replicate, length_emptyElem, smul_eq_mul,
    stBytes, tEB]

end Sys2Proof.Machine
end

section
/-! SUPPORT. Tile records, the fill, and host writes of records and scale tables (R178, R183, R187, R193, R291). -/

namespace Sys2Proof.Machine

variable {b : Block} {s slot : Nat}

/-! ## A record reaches its slot -/

/-- May a slot take a record at once: does it hold no live tile (R193)? -/
def TState.takesRecord : TState → Bool
  | .empty | .closed | .err => true
  | .filling | .opn | .wait => false

theorem writeRecord_now (h : (b.tile s slot).st.takesRecord = true) (idx : Option Nat) (tr : List Word) :
    b.writeRecord s slot idx tr = b.takeRecord s slot tr idx := by
  unfold Block.writeRecord
  split
  · next hst => rw [hst] at h; cases h
  · next hst => rw [hst] at h; cases h
  · next hst => rw [hst] at h; cases h
  · rfl

theorem writeRecord_waits (h : (b.tile s slot).st.takesRecord = false) (idx : Option Nat) (tr : List Word) :
    b.writeRecord s slot idx tr = b.updStk s fun k => { k with trecQ := k.trecQ ++ [(slot, idx, tr)] } := by
  unfold Block.writeRecord
  split
  · rfl
  · rfl
  · rfl
  · next hfill hopn hwait =>
    cases hst : (b.tile s slot).st with
    | filling => exact absurd hst hfill
    | opn => exact absurd hst hopn
    | wait => exact absurd hst hwait
    | empty => rw [hst] at h; cases h
    | closed => rw [hst] at h; cases h
    | err => rw [hst] at h; cases h

/-- A valid record begins a fill. -/
theorem takeRecord_valid {tr : List Word} (h : recValid tr = true) (idx : Option Nat) :
    b.takeRecord s slot tr idx = (b.updTile s slot fun _ => { Tile.reset with trec := tr, recIdx := idx }).updTile s slot
      fun t => { t with st := .filling } := if_pos h

/-- What a record taken makes of its stack: a fill, or an error (R185, R187). -/
theorem takeRecord_stks (tr : List Word) (idx : Option Nat) : (b.takeRecord s slot tr idx).stks =
    ((b.updTile s slot fun _ => { Tile.reset with trec := tr, recIdx := idx }).updTile s slot fun t =>
      if recValid tr then { t with st := .filling } else { t with st := .err, recIdx := none }).stks := by
  by_cases h : recValid tr = true
  · rw [takeRecord_valid h]
    simp only [h, if_true]
  · unfold Block.takeRecord
    simp only [h]
    cases idx <;> rfl

/-- Valid or not, the slot holds the record. -/
theorem takeRecord_trec (tr : List Word) (idx : Option Nat) : ((b.takeRecord s slot tr idx).tile s slot).trec = tr := by
  rw [tile_of_stks (takeRecord_stks tr idx), tile_updTile_same, tile_updTile_same]
  split <;> rfl

theorem takeRecord_stage (tr : List Word) (idx : Option Nat) :
    ((b.takeRecord s slot tr idx).stk s).stage = (b.stk s).stage := by
  rw [stk_of_stks (takeRecord_stks tr idx)]
  simp only [Block.updTile, Block.stk_updStk_same]

/-! ## TREC and the fill -/

/-- A TREC for a slot that holds no live tile (R187, R291). -/
theorem dTrec_gives (x : State) (idx : Nat) (d : Desc) (ht : x.b.takes idx d 0x18 true [0x3FF, 0xFFFFFFFF, 0xFFFFFFFF,
      0xFFFFFFFF, 0xFFFFFFFF, 0xFFFFFFFF, 0xFFFFFFFF, 0xFFFFFFFF, 0xFFFFFFFF] = true)
    (hst : (x.b.tile (dTgt d) (dF d 1 0 10)).st.takesRecord = true) {tr : List Word}
    (htr : ((List.range 8).map fun i => d.word (2 + i)) = tr) (hv : recValid tr = true) :
    Gives (.dTrec idx d) x fun t => (t.b.tile (dTgt d) (dF d 1 0 10)).st = .filling ∧
      (t.b.tile (dTgt d) (dF d 1 0 10)).trec = tr ∧ t.nrej = x.nrej ∧ t.inFlight idx = true := by
  refine Gives.of_takes rfl (by decide) ht ?_
  rw [htr, writeRecord_now (by rw [issued_tile]; exact hst), takeRecord_valid hv]
  refine ⟨?_, ?_, inFlight_of_taken ht rfl⟩
  · rw [run_tile]
    exact congrArg Tile.st (tile_updTile_same ..)
  · rw [run_tile]
    refine (congrArg Tile.trec (tile_updTile_same ..)).trans ?_
    exact congrArg Tile.trec (tile_updTile_same ..)

/-- The block in which the fill of a tile has written its storage and its running-sum buffer (R187, R194, R198). -/
def Block.filled (b : Block) (s slot : Nat) : Block :=
  let t := b.tile s slot
  (b.wrLed s (tBase t.trec) (emptyArea t.trec)).when (tChin t.trec) fun c => c.wrLed s (tCbase t.trec) (b.filledBuffer s t)

/-- The end of a fill opens the slot, and makes a tile wait to which no contribution is to come. -/
theorem tileFill_stks (h : (b.tile s slot).st = .filling) : (tileFill s slot b).stks =
    (((b.filled s slot).updTile s slot fun t => { t with st := .opn }).when (tNcon (b.tile s slot).trec = 0) fun b =>
      b.updTile s slot fun t => { t with st := .wait }).stks := by
  unfold tileFill
  simp only [h, ne_eq, not_true_eq_false, if_false]
  cases decide (tNcon (b.tile s slot).trec = 0) <;> cases (b.tile s slot).recIdx <;> rfl

theorem tileFillComplete_opens (x : State) (st : Fin 4) (slot : Fin 1024) (hst : (x.b.tile st slot).st = .filling)
    (hn : tNcon (x.b.tile st slot).trec ≠ 0) (hch : tChin (x.b.tile st slot).trec = false) :
    Gives (.tileFillComplete st slot) x fun t => (t.b.tile st slot).st = .opn ∧
      t.b.rdLed st (tBase (x.b.tile st slot).trec) (stBytes (x.b.tile st slot).trec) =
        emptyArea (x.b.tile st slot).trec := by
  have hstks : (tileFill st slot x.b.fresh).stks =
      ((x.b.fresh.wrLed st (tBase (x.b.tile st slot).trec) (emptyArea (x.b.tile st slot).trec)).updTile st slot
        fun t => { t with st := .opn }).stks := by
    refine (tileFill_stks (b := x.b.fresh) hst).trans ?_
    have hn' : decide (tNcon (x.b.fresh.tile st slot).trec = 0) = false := decide_eq_false hn
    have hch' : tChin (x.b.fresh.tile st slot).trec = false := hch
    rw [hn', Block.when_false, Block.filled, hch', Block.when_false]
    rfl
  refine Gives.of_done rfl ⟨?_, ?_⟩
  · rw [run_tile, tile_of_stks hstks, tile_updTile_same]
  · rw [Block.rdLed, run_stk, stk_of_stks hstks, ← length_emptyArea, Block.updTile, Block.stk_updStk_same]
    exact rdLed_wrLed ..

theorem tileFillComplete_waits (x : State) (st : Fin 4) (slot : Fin 1024) (hst : (x.b.tile st slot).st = .filling)
    (hn : tNcon (x.b.tile st slot).trec = 0) :
    Gives (.tileFillComplete st slot) x fun t => (t.b.tile st slot).st = .wait := by
  refine Gives.of_done rfl ?_
  have hn' : decide (tNcon (x.b.fresh.tile st slot).trec = 0) = true := decide_eq_true hn
  rw [run_tile, tile_of_stks (tileFill_stks (b := x.b.fresh) hst), hn', Block.when_true, tile_updTile_same]

/-! ## Host writes of a record (R183) -/

/-- The record of a slot with the words staged for it and word 7. -/
def Block.stagedRecord (b : Block) (s slot : Nat) (v : Word) : List Word :=
  (List.range 8).map fun j => if j = 7 then v else ((b.stk s).stage.find j).getD (tW (b.tile s slot).trec j)

/-- The block in which the staging copy of a stack is empty. -/
def Block.unstaged (b : Block) (s i : Nat) (v : Word) : Block :=
  (b.updStk s fun k => { k with stage := k.stage.put i v }).updStk s fun k => { k with stage := [] }

theorem unstaged_tile (i : Nat) (v : Word) (k j : Nat) : (b.unstaged s i v).tile k j = b.tile k j := by
  rw [Block.unstaged, tile_updStk, tile_updStk]
  all_goals exact fun _ => rfl

/-- A word before the last is staged. -/
theorem ldgTrecWrite_stages (hf : b.frm = none) {i : Nat} (hi : i < 7) (v : Word) :
    ldgTrecWrite s i v b = (b.updStk s fun k => { k with stage := k.stage.put i v }, true) := by
  have hframe : b.inFrame = false := by rw [Block.inFrame, hf]; rfl
  simp only [ldgTrecWrite, hframe, hi, if_true, Bool.false_eq_true, if_false]

/-- With word 7 the record goes to its slot. -/
theorem ldgTrecWrite_takes (hf : b.frm = none) (v : Word) : ldgTrecWrite s 7 v b =
    ((b.unstaged s 7 v).writeRecord s (b.rdF (LDG_TSEL s) 0 10) none (b.stagedRecord s (b.rdF (LDG_TSEL s) 0 10) v), true) := by
  have hframe : b.inFrame = false := by rw [Block.inFrame, hf]; rfl
  have hrec : ((List.range 8).map fun j => (if j = 7 then some v else (b.stk s).stage.find j).getD
      (tW (b.tile s (b.rdF (LDG_TSEL s) 0 10)).trec j)) = b.stagedRecord s (b.rdF (LDG_TSEL s) 0 10) v := by
    refine List.map_congr_left fun j _ => ?_
    split <;> rfl
  simp only [ldgTrecWrite, hframe, Bool.false_eq_true, if_false, Nat.lt_irrefl, Block.stk_updStk_same, SMap.find_put]
  rw [hrec]
  rfl

section
variable (x : State) (m : Master) (st : Fin 4) (i : Fin 8) (v : Word)

theorem ldgTrecWrite_stage_gives (ha : x.b.accepts m (LDG_TREC st i) = true) (hf : x.b.frm = none) (hi : i.val < 7) :
    Gives (.ldgTrecWrite m st i v) x fun t => (t.b.stk st).stage.find i = some v := by
  refine Gives.of_gate rfl ha (ldgTrecWrite_stages (b := x.b.fresh) hf hi v) ?_
  rw [run_stk, counted_stk, Block.stk_updStk_same, SMap.find_put, if_pos rfl]

theorem ldgTrecWrite_take_gives (ha : x.b.accepts m (LDG_TREC st i) = true) (hf : x.b.frm = none) (hi : i.val = 7)
    {slot : Nat} (hslot : x.rdF (LDG_TSEL st) 0 10 = slot) (hst : (x.b.tile st slot).st.takesRecord = true) :
    Gives (.ldgTrecWrite m st i v) x fun t => (t.b.stk st).stage = [] ∧
      (t.b.tile st slot).trec = x.b.stagedRecord st slot v := by
  have heff := ldgTrecWrite_takes (b := x.b.fresh) (s := st) hf v
  rw [← hi, show x.b.fresh.rdF (LDG_TSEL st) 0 10 = slot from hslot,
    writeRecord_now (by rw [unstaged_tile]; exact hst)] at heff
  refine Gives.of_gate rfl ha heff ⟨?_, ?_⟩
  · rw [run_stk, counted_stk, takeRecord_stage, Block.unstaged, Block.stk_updStk_same]
  · rw [run_tile, counted_tile, takeRecord_trec]
    rfl

theorem ldgTrecWrite_wait_gives (ha : x.b.accepts m (LDG_TREC st i) = true) (hf : x.b.frm = none) (hi : i.val = 7)
    {slot : Nat} (hslot : x.rdF (LDG_TSEL st) 0 10 = slot) (hst : (x.b.tile st slot).st.takesRecord = false) :
    Gives (.ldgTrecWrite m st i v) x fun t => (t.b.stk st).stage = [] ∧ t.b.tile st slot = x.b.tile st slot ∧
      (t.b.stk st).trecQ = (x.b.stk st).trecQ ++ [(slot, none, x.b.stagedRecord st slot v)] := by
  have heff := ldgTrecWrite_takes (b := x.b.fresh) (s := st) hf v
  rw [← hi, show x.b.fresh.rdF (LDG_TSEL st) 0 10 = slot from hslot,
    writeRecord_waits (by rw [unstaged_tile]; exact hst)] at heff
  refine Gives.of_gate rfl ha heff ⟨?_, ?_, ?_⟩
  · rw [run_stk, counted_stk, Block.stk_updStk_same]
    simp only [Block.unstaged, Block.stk_updStk_same]
  · rw [run_tile, counted_tile, tile_updStk, unstaged_tile]
    · rfl
    · exact fun _ => rfl
  · rw [run_stk, counted_stk, Block.stk_updStk_same]
    simp only [Block.unstaged, Block.stk_updStk_same]
    rfl

end

/-! ## The slot selected, and the scale tables (R178, R183) -/

theorem unitPlain_tsel (s : Nat) : unitPlain (LDG_TSEL s) := by simp only [unitPlain, LDG_TSEL, P_LDG]; omega
theorem unitPlain_tlyCtrl (s : Nat) : unitPlain (TLY_CTRL s) := by simp only [unitPlain, TLY_CTRL, P_TLY]; omega
theorem unitPlain_tlyStat (s : Nat) : unitPlain (TLY_STAT s) := by simp only [unitPlain, TLY_STAT, P_TLY]; omega
theorem unitPlain_scales (s : Nat) {k : Nat} (hk : k < 256) : unitPlain (TLY_SCALE_P s k) ∧ unitPlain (TLY_SCALE s k) := by
  simp only [unitPlain, TLY_SCALE_P, TLY_SCALE, P_TLY]
  omega

theorem scaleP_ne_scale (s k : Nat) : TLY_SCALE s k ≠ TLY_SCALE_P s k := by
  simp only [TLY_SCALE_P, TLY_SCALE]
  omega
theorem tlyCtrl_ne_tlyStat (s : Nat) : TLY_CTRL s ≠ TLY_STAT s := by
  simp only [TLY_CTRL, TLY_STAT]
  omega

section
variable (x : State) (m : Master) (st : Fin 4) (v : Word)

theorem ldgTselWrite_gives (ha : x.b.accepts m (LDG_TSEL st) = true) :
    Gives (.ldgTselWrite m st v) x fun t => t.rd (LDG_TSEL st) = v &&& 0x3FF ∧ (t.b.stk st).stage = [] := by
  refine Gives.of_gate (eff := ldgTselWrite st v) rfl ha rfl ⟨?_, ?_⟩
  · rw [State.rd, run_counted_rd_unit _ _ _ _ (unitPlain_tsel st), Block.rd_updStk, Block.rd_wr_same]
  · rw [run_stk, counted_stk, Block.stk_updStk_same]

theorem scArm_gives (ha : x.b.accepts m (TLY_CTRL st) = true) (hv : v.getLsbD 0 = true) :
    Gives (.scArm m st v) x fun t => t.rdB (TLY_CTRL st) 0 = true ∧ t.rdB (TLY_STAT st) 0 = true := by
  have heff : scArmWrite st v x.b.fresh = ((x.b.fresh.setB (TLY_CTRL st) 0).setB (TLY_STAT st) 0, true) := by
    rw [scArmWrite, bit, hv, Block.when_true]
  refine Gives.of_gate rfl ha heff ⟨?_, ?_⟩
  · rw [State.rdB, Block.rdB, run_counted_rd_unit _ _ _ _ (unitPlain_tlyCtrl st),
      Block.rd_setB_ne _ _ (tlyCtrl_ne_tlyStat st)]
    exact Block.rdB_setB _ _ _ (by decide)
  · rw [State.rdB, Block.rdB, run_counted_rd_unit _ _ _ _ (unitPlain_tlyStat st)]
    exact Block.rdB_setB _ _ _ (by decide)

theorem tlyScalePWrite_gives (k : Fin 256) (ha : x.b.accepts m (TLY_SCALE_P st k) = true)
    (harm : x.rdB (TLY_CTRL st) 0 = false) (hok : scaleOk v = true) :
    Gives (.tlyScalePWrite m st k v) x fun t => t.rd (TLY_SCALE_P st k) = v ∧
      t.rd (TLY_SCALE st k) = x.rd (TLY_SCALE st k) := by
  have harm' : x.b.fresh.rdB (TLY_CTRL st) 0 = false := harm
  have heff : scaleWrite st k v x.b.fresh = (x.b.fresh.wr (TLY_SCALE_P st k) v, true) := by
    simp only [scaleWrite, harm', hok, Bool.not_true, Bool.or_self, Bool.false_eq_true, if_false]
  obtain ⟨hp, hs⟩ := unitPlain_scales st k.isLt
  refine Gives.of_gate rfl ha heff ⟨?_, ?_⟩
  · rw [State.rd, run_counted_rd_unit _ _ _ _ hp, Block.rd_wr_same]
  · rw [State.rd, run_counted_rd_unit _ _ _ _ hs, Block.rd_wr_ne _ _ (scaleP_ne_scale st k)]
    rfl

end

end Sys2Proof.Machine
end

section
/-! SUPPORT. Tile records as a whole. -/

namespace Sys2Proof.Machine

/-- The two cases of R193 as the statements write them. -/
theorem takesRecord_of_closed {t : TState} (h : t = .empty ∨ t = .closed ∨ t = .err) : t.takesRecord = true := by
  obtain rfl | rfl | rfl := h <;> rfl
theorem takesRecord_of_live {t : TState} (h : t = .filling ∨ t = .opn ∨ t = .wait) : t.takesRecord = false := by
  obtain rfl | rfl | rfl := h <;> rfl

/-- Settles O12, clause by clause from what each command gives. -/
theorem tileRecords : Obligations.TileRecords := by
  unfold Obligations.TileRecords
  refine ⟨?_, ?_, ?_, ?_, ?_, ?_, ?_, ?_, ?_⟩
  · exact fun s idx d ht hst hv => dTrec_gives s idx d ht (takesRecord_of_closed hst) rfl hv
  · exact fun s st slot ⟨hst, hn, hch⟩ => tileFillComplete_opens s st slot hst hn hch
  · exact fun s st slot ⟨hst, hn⟩ => tileFillComplete_waits s st slot hst hn
  · exact fun s m st i v ha ⟨hf, hi⟩ => ldgTrecWrite_stage_gives s m st i v ha hf hi
  · exact fun s m st i v ha ⟨hf, hi⟩ hst =>
      ldgTrecWrite_take_gives s m st i v ha hf hi rfl (takesRecord_of_closed hst)
  · exact fun s m st i v ha ⟨hf, hi⟩ hst => ldgTrecWrite_wait_gives s m st i v ha hf hi rfl (takesRecord_of_live hst)
  · exact fun s m st v ha => ldgTselWrite_gives s m st v ha
  · exact fun s m st v ha hv => scArm_gives s m st v ha hv
  · exact fun s m st k v ha ⟨harm, hok⟩ => tlyScalePWrite_gives s m st v k ha harm hok

end Sys2Proof.Machine
end

section
/-! SUPPORT. Accumulation (R184 to R194): applying values to a tile changes bytes of the Ledger, the marks of tiles and the flags of
the frame, events, memory and counters, and nothing else of the tiles and the stacks. -/

namespace Sys2Proof.Machine

/-- A tile but for the marks that accumulation leaves on it (R177, R189, R190, R193). -/
def Tile.unmarked (t : Tile) : Tile := { t with sat := false, ue := false, mixerr := false, flags := 0 }

/-- A stack but for its Ledger and its tiles. -/
def Stk.queues (k : Stk) : Stk := { k with led := [], tiles := [] }

/-- `c` follows from `b` by work that leaves tiles alone but for their marks, stacks but for Ledger and tiles, what is in
flight, the status of the tally trees, and Vyivim. -/
structure Accrues (b c : Block) : Prop where
  tile : ∀ k j, (c.tile k j).unmarked = (b.tile k j).unmarked
  stk : ∀ k, (c.stk k).queues = (b.stk k).queues
  flight : c.flight = b.flight
  stat : ∀ k, c.rd (TLY_STAT k) = b.rd (TLY_STAT k)
  vyv : c.vyv = b.vyv

namespace Accrues

variable {b c : Block}

theorem refl (b : Block) : Accrues b b := ⟨fun _ _ => rfl, fun _ => rfl, rfl, fun _ => rfl, rfl⟩

theorem trans {a : Block} (h : Accrues a b) (k : Accrues b c) : Accrues a c :=
  ⟨fun i j => (k.tile i j).trans (h.tile i j), fun i => (k.stk i).trans (h.stk i), k.flight.trans h.flight,
    fun i => (k.stat i).trans (h.stat i), k.vyv.trans h.vyv⟩

/-- `trans` from its end: the last step, then what came before it. -/
theorem after {a : Block} (k : Accrues b c) (h : Accrues a b) : Accrues a c := h.trans k

theorem when {f : Block → Block} {x : Bool} (h : Accrues b (f b)) : Accrues b (b.when x f) := by
  cases x
  · exact refl _
  · exact h

theorem ite {P : Prop} [Decidable P] {d : Block} (h : Accrues b c) (k : Accrues b d) : Accrues b (if P then c else d) := by
  split
  · exact h
  · exact k

theorem each {α : Type} {f : Block → α → Block} {xs : List α} (h : ∀ b x, Accrues b (f b x)) : Accrues b (b.each xs f) := by
  induction xs generalizing b with
  | nil => exact refl _
  | cons x xs ih => exact (h b x).trans ih

/-! ### What it leaves of one tile and one stack -/

section
variable (h : Accrues b c) (k j : Nat)
include h

theorem trec : (c.tile k j).trec = (b.tile k j).trec := (congrArg Tile.trec (h.tile k j) :)
theorem st : (c.tile k j).st = (b.tile k j).st := (congrArg Tile.st (h.tile k j) :)
theorem nappl : (c.tile k j).nappl = (b.tile k j).nappl := (congrArg Tile.nappl (h.tile k j) :)
theorem zf : (c.tile k j).zf = (b.tile k j).zf := (congrArg Tile.zf (h.tile k j) :)
theorem rsCols : (c.tile k j).rsCols = (b.tile k j).rsCols := (congrArg Tile.rsCols (h.tile k j) :)
theorem cons : (c.stk k).cons = (b.stk k).cons := (congrArg Stk.cons (h.stk k) :)
theorem trecQ : (c.stk k).trecQ = (b.stk k).trecQ := (congrArg Stk.trecQ (h.stk k) :)
theorem store : (c.stk k).store = (b.stk k).store := (congrArg Stk.store (h.stk k) :)
theorem hopQ : (c.stk k).hopQ = (b.stk k).hopQ := (congrArg Stk.hopQ (h.stk k) :)

end

/-! ### One operation -/

/-- What changes none of these fields. -/
theorem of_eq (hs : c.stks = b.stks) (hf : c.flight = b.flight) (hr : c.regs = b.regs) (hv : c.vyv = b.vyv) :
    Accrues b c :=
  ⟨fun k j => by rw [tile_of_stks hs], fun k => by rw [stk_of_stks hs], hf, fun _ => Block.rd_congr hr _, hv⟩

theorem wr {o : Nat} {v : Word} (h : ∀ k, TLY_STAT k ≠ o) : Accrues b (b.wr o v) :=
  ⟨fun _ _ => rfl, fun _ => rfl, rfl, fun k => b.rd_wr_ne v (h k), rfl⟩

theorem ev {code i : Nat} {l : List (Nat × Nat)} : Accrues b (b.ev code i l) := of_eq rfl rfl rfl rfl
theorem free {n : Nat} : Accrues b { b with free := n } := of_eq rfl rfl rfl rfl
theorem flag {x : Nat} : Accrues b (b.flag x) := of_eq rfl (updFrm_flight b fun _ => rfl) rfl rfl

theorem wrLed {s a : Nat} {bs : List Byte} : Accrues b (b.wrLed s a bs) := by
  refine ⟨fun k j => ?_, fun k => ?_, rfl, fun _ => rfl, rfl⟩
  · rw [Block.wrLed, tile_updStk]
    exact fun _ => rfl
  · rw [Block.wrLed, Block.stk_updStk]
    split
    · next h => rw [h]; rfl
    · rfl

/-- A tile marked. -/
theorem updTile {s slot : Nat} {f : Tile → Tile} (h : ∀ t, (f t).unmarked = t.unmarked) : Accrues b (b.updTile s slot f) := by
  refine ⟨fun k j => ?_, fun k => ?_, rfl, fun _ => rfl, rfl⟩
  · rw [tile_updTile]
    split
    · next hk => rw [h, hk.1, hk.2]
    · rfl
  · rw [Block.updTile, Block.stk_updStk]
    split
    · next h => rw [h]; rfl
    · rfl

theorem tileFlags {s slot f : Nat} : Accrues b (b.tileFlags s slot f) := after flag (updTile fun _ => rfl)

end Accrues

/-! ## The registers that accumulation writes are none of `TLY_STAT` -/

theorem tlyStat_ne_satlive (k s : Nat) {slot : Nat} (h : slot < 1024) : TLY_STAT k ≠ LDG_SATLIVE s (slot / 32) := by
  simp only [TLY_STAT, P_TLY, LDG_SATLIVE, P_LDG]
  omega
theorem tlyStat_ne_ledger (k s : Nat) : TLY_STAT k ≠ LDG_SATCNT s ∧ TLY_STAT k ≠ PG_ISTAT (P_LDG s) ∧
    TLY_STAT k ≠ LDG_CECNT s ∧ TLY_STAT k ≠ LDG_UECNT s := by
  simp only [TLY_STAT, P_TLY, LDG_SATCNT, LDG_CECNT, LDG_UECNT, PG_ISTAT, P_LDG]
  omega
theorem tlyStat_ne_tally (k s : Nat) : TLY_STAT k ≠ TLY_DISCNT s ∧ TLY_STAT k ≠ TLY_LASTERR s ∧
    TLY_STAT k ≠ TLY_HOPRX s ∧ TLY_STAT k ≠ PG_ISTAT (P_TLY s) := by
  simp only [TLY_STAT, P_TLY, TLY_DISCNT, TLY_LASTERR, TLY_HOPRX, PG_ISTAT]
  omega
theorem tlyStat_ne_seq (k s : Nat) : TLY_STAT k ≠ SEQ_REJCNT s ∧ TLY_STAT k ≠ SEQ_LASTREJ s ∧
    TLY_STAT k ≠ PG_ISTAT (P_SEQ s) := by
  simp only [TLY_STAT, P_TLY, SEQ_REJCNT, SEQ_LASTREJ, PG_ISTAT, P_SEQ]
  omega

/-! ## Values, columns and contributions applied -/

namespace Accrues

variable {b : Block} {s slot : Nat}

theorem saturated (hslot : slot < 1024) (r c : Nat) : Accrues b (b.saturated s slot r c) := by
  unfold Block.saturated
  dsimp only
  split
  · exact tileFlags
  · exact after ev <| after (wr fun k => (tlyStat_ne_ledger k s).2.1) <| after (wr fun k => (tlyStat_ne_ledger k s).1) <|
      after (wr fun k => tlyStat_ne_satlive k s hslot) <| after (updTile fun _ => rfl) tileFlags

theorem applyElem (hslot : slot < 1024) {r c : Nat} {iv : Int} {fv : Word} {site ord : Nat} :
    Accrues b (b.applyElem s slot r c iv fv site ord) := by
  unfold Block.applyElem
  dsimp only
  split
  · exact refl b
  · split
    · split
      · exact ite (after (when (saturated hslot ..)) wrLed) (refl b)
      · exact ite (after (when (saturated hslot ..)) wrLed) (refl b)
    · split
      · exact after (when (saturated hslot ..)) wrLed
      · exact wrLed

theorem applyDyn (hslot : slot < 1024) {d row0 col : Nat} {v : List (Option Int)} {sid : Nat} {w : Word} {tag draw ord : Nat} :
    Accrues b (b.applyDyn s slot d row0 col v sid w tag draw ord) := by
  refine each fun b y => ?_
  obtain ⟨y, r⟩ := y
  cases y with
  | none => exact refl b
  | some y =>
    dsimp only
    split
    · exact applyElem hslot
    · split
      · exact after (applyElem hslot) free
      · exact applyElem hslot

theorem applyCon {c : Con} (hslot : c.slot < 1024) {ord : Nat} : Accrues b (b.applyCon s c ord) := by
  refine each fun b x => ?_
  obtain ⟨x, k⟩ := x
  dsimp only
  split
  · exact applyDyn hslot
  · exact each fun _ _ => applyElem hslot

theorem ledCe {a : Nat} : Accrues b (b.ledCe s a) := after ev (wr fun k => (tlyStat_ne_ledger k s).2.2.1)

theorem ledUe {a : Nat} : Accrues b (b.ledUe s slot a) := by
  refine after ev <| after (wr fun k => (tlyStat_ne_ledger k s).2.1) <|
    after (wr fun k => (tlyStat_ne_ledger k s).2.2.2) <| after tileFlags <| after (updTile fun _ => rfl) ?_
  split
  · exact wrLed
  · exact refl b

theorem ledEcc {x : Ecc} : Accrues b (b.ledEcc s slot x) := after (each fun _ _ => ledUe) (each fun _ _ => ledCe)

end Accrues

/-! ## A tile closes (R187, R190) -/

/-- What statements read of a tile that closes: the tile, and the status of its stack's tally tree. -/
def Block.tileView (b : Block) (s slot : Nat) : Tile × Word := (b.tile s slot, b.rd (TLY_STAT s))

section
variable {b : Block} {s slot : Nat}

theorem reject_stks (idx tgt reason : Nat) : (b.reject idx tgt reason).stks = b.stks := by
  unfold Block.reject
  generalize hc : b.updFrm _ = c
  have hb : c.stks = b.stks := by rw [← hc, Block.updFrm_stks]
  dsimp only
  rw [← hb]
  unfold Block.reached
  split
  · rw [Block.updFrm_stks, Block.ev_stks, Block.raise_stks, Block.wr_stks, Block.bump_stks]
  · rw [Block.updFrm_stks, Block.ev_stks, Block.raise_stks, Block.wr_stks, Block.bump_stks]

theorem reject_tileView (idx : Nat) {tgt : Nat} (htgt : tgt < 4) (reason : Nat) :
    (b.reject idx tgt reason).tileView s slot = b.tileView s slot := by
  rw [Block.tileView, tile_of_stks (reject_stks ..)]
  refine congrArg (Prod.mk _) ?_
  obtain ⟨hcnt, hlast, histat⟩ := tlyStat_ne_seq s tgt
  unfold Block.reject
  generalize hc : b.updFrm _ = c
  have hb : c.rd (TLY_STAT s) = b.rd (TLY_STAT s) := by rw [← hc, Block.rd_updFrm]
  dsimp only
  rw [if_pos htgt, ← hb]
  unfold Block.reached
  rw [Block.rd_updFrm, Block.rd_ev, Block.rd_raise_ne _ _ histat, Block.rd_wr_ne _ _ hlast, Block.rd_bump_ne _ _ hcnt]

/-- A readback writes memory alone, or is rejected. -/
theorem doReadback_tileView (hs : s < 4) (q : Rdbk) : (b.doReadback s q).tileView s slot = b.tileView s slot := by
  unfold Block.doReadback
  dsimp only
  generalize (if q.ncol = 0 then stCols (b.tile s q.slot).trec - q.c0 else q.ncol) = n
  split
  · exact reject_tileView _ hs _
  · rfl

/-- A change of a stack that keeps its tiles. -/
theorem updStk_tileView {f : Stk → Stk} (h : ∀ x, (f x).tiles = x.tiles) :
    (b.updStk s f).tileView s slot = b.tileView s slot := by
  rw [Block.tileView, tile_updStk _ _ h]
  rfl

/-- The block in which a tile has closed, before a record that waits for its slot is taken. -/
def Block.tileClosed (b : Block) (s slot : Nat) : Block :=
  let b := b.updTile s slot fun t => { t with st := .closed }
  let t := b.tile s slot
  let b := b.flag t.flags
  let mine := (b.stk s).rdbkQ.filter fun q => q.slot == slot
  let b := b.updStk s fun k => { k with rdbkQ := k.rdbkQ.filter fun q => q.slot != slot }
  let b := b.each mine fun b q => b.doReadback s q
  let data := b.rdLed s (tBase t.trec) (stBytes t.trec)
  b.updStk s fun k =>
    { k with hopQ := k.hopQ.map fun h =>
        if h.slot = slot ∧ h.ready.isNone then { h with ready := some (t.trec, data, t.flags) } else h }

theorem closeTile_eq (hq : (b.stk s).trecQ = []) : b.closeTile s slot = b.tileClosed s slot := by
  have hq' : ∀ g, (((b.updTile s slot fun t => { t with st := .closed }).flag g).stk s).trecQ = [] := fun g => by
    show ((b.updTile s slot fun t => { t with st := .closed }).stk s).trecQ = []
    rw [Block.updTile, Block.stk_updStk_same]
    exact hq
  unfold Block.closeTile
  dsimp only
  split
  · next h => rw [hq'] at h; cases h
  · rfl

/-- Without a record that waits for its slot the tile is closed and otherwise as it was. -/
theorem closeTile_tileView (hs : s < 4) (hq : (b.stk s).trecQ = []) :
    (b.closeTile s slot).tileView s slot = ({ b.tile s slot with st := .closed }, b.rd (TLY_STAT s)) := by
  rw [closeTile_eq hq, Block.tileClosed]
  rw [updStk_tileView, Block.each_keep _ (·.tileView s slot) _ _ fun b q => doReadback_tileView hs q, updStk_tileView]
  · exact Prod.ext (tile_updTile_same ..) rfl
  · exact fun _ => rfl
  · exact fun _ => rfl

/-! ## Running sums (R194) -/

/-- The elements of a running sum applied to those of its tile. -/
def Block.runningElems (b : Block) (s slot : Nat) : Block :=
  let tr := (b.tile s slot).trec
  let fmt := tFmt tr
  b.each (List.range (stRows tr)) fun b r => b.each (List.range (stCols tr)) fun b c =>
    let a := elemAddr tr (tBase tr) r c
    let ra := elemAddr tr (tCbase tr) r c
    let raw := b.ledVal s ra fmt
    if isIndexOp (tOp tr) then
      let mx := tOp tr = 3 ∨ tOp tr = 5
      let traw := b.ledVal s a fmt
      let key (x : Nat) : Int := if fmt = 0 then sext 40 x else f32key (Sys2Proof.Machine.widen fmt x)
      let i := ofBytesLE (b.rdLed s (ra + valBytes fmt) 4)
      let ti := ofBytesLE (b.rdLed s (a + valBytes fmt) 4)
      if replaces mx (key raw) i (key traw) ti then b.wrLed s a (bytesLE (valBytes fmt) raw ++ bytesLE 4 i) else b
    else b.applyElem s slot r c (sext 40 raw) (Sys2Proof.Machine.widen fmt raw) 32 (tNcon tr)

theorem runningElems_accrues (hslot : slot < 1024) : Accrues b (b.runningElems s slot) :=
  Accrues.each fun _ _ => Accrues.each fun c _ =>
    Accrues.ite (Accrues.ite Accrues.wrLed (Accrues.refl c)) (Accrues.applyElem hslot)

/-- A running sum applied is the last contribution. -/
theorem applyRunning_eq : b.applyRunning s slot =
    ((((b.runningElems s slot).updTile s slot fun t => { t with nappl := t.nappl + 1 }).tileFlags s slot
      (b.tile s slot).rsFlags).bump (TLY_HOPRX s)).closeTile s slot := rfl

theorem applyRunning_tile (hs : s < 4) (hslot : slot < 1024) (hq : (b.stk s).trecQ = []) :
    ((b.applyRunning s slot).tile s slot).st = .closed ∧
      ((b.applyRunning s slot).tile s slot).nappl = (b.tile s slot).nappl + 1 ∧
      ((b.applyRunning s slot).tile s slot).zf = (b.tile s slot).zf ∧
      (b.applyRunning s slot).rd (TLY_STAT s) = b.rd (TLY_STAT s) := by
  generalize hc : (b.runningElems s slot).updTile s slot (fun t => { t with nappl := t.nappl + 1 }) = c
  have helems : Accrues b (b.runningElems s slot) := runningElems_accrues hslot
  have hlast : Accrues c ((c.tileFlags s slot (b.tile s slot).rsFlags).bump (TLY_HOPRX s)) :=
    .after (.wr fun k => (tlyStat_ne_tally k s).2.2.1) .tileFlags
  have hq' : (((c.tileFlags s slot (b.tile s slot).rsFlags).bump (TLY_HOPRX s)).stk s).trecQ = [] := by
    rw [hlast.trecQ, ← hc, Block.updTile, Block.stk_updStk_same]
    exact (helems.trecQ s).trans hq
  have hview := closeTile_tileView (slot := slot) hs hq'
  rw [applyRunning_eq, hc]
  obtain ⟨htile, hstat⟩ := Prod.mk.inj hview
  rw [htile]
  refine ⟨rfl, ?_, ?_, ?_⟩
  · refine (hlast.nappl s slot).trans ?_
    rw [← hc, tile_updTile_same]
    exact congrArg (· + 1) (helems.nappl s slot)
  · refine (hlast.zf s slot).trans ?_
    rw [← hc, tile_updTile_same]
    exact helems.zf s slot
  · refine hstat.trans ((hlast.stat s).trans ?_)
    rw [← hc]
    exact helems.stat s

end

end Sys2Proof.Machine
end

section
/-! SUPPORT. Columns of the tally tree and contributions applied (R176, R179, R188). -/

namespace Sys2Proof.Machine

variable {b : Block} {s slot : Nat} {c : Con}

/-! ## The tally tree -/

/-- The tree forms a column of a contribution that is ready for it: it joins its results. -/
theorem treeColumn_ready {con : Nat} (hc : (b.stk s).cons.find? (fun c => c.id == con) = some c) (hr : c.ready = true) :
    ((treeColumn s con b).stk s).cons =
        (b.stk s).cons.map (fun d => if d.id = con then { d with res := d.res ++ [c.column] } else d) ∧
      (treeColumn s con b).frm = b.frm := by
  have hcons : ((b.updCon s con fun d => { d with res := d.res ++ [c.column] }).stk s).cons =
      (b.stk s).cons.map fun d => if d.id = con then { d with res := d.res ++ [c.column] } else d := by
    rw [Block.updCon, Block.stk_updStk_same]
  unfold treeColumn
  simp only [hc, hr, Bool.not_true, Bool.false_eq_true, if_false]
  split
  · exact ⟨hcons, rfl⟩
  · exact ⟨hcons, rfl⟩

/-- The first entry with an identifier, after every entry with it has changed. -/
theorem find?_map_updated {l : List Con} {con : Nat} (hc : l.find? (fun c => c.id == con) = some c) (r : ColRes) :
    (l.map fun d => if d.id = con then { d with res := d.res ++ [r] } else d).find? (fun c => c.id == con) =
      some { c with res := c.res ++ [r] } := by
  have hid : c.id = con := by simpa using List.find?_some hc
  have hkeep : ((fun c : Con => c.id == con) ∘ fun d => if d.id = con then { d with res := d.res ++ [r] } else d) =
      fun c => c.id == con := by
    funext d
    simp only [Function.comp_apply]
    split <;> rfl
  rw [List.find?_map, hkeep, hc, Option.map_some, if_pos hid]

theorem treeColumnResult_gives (x : State) (st : Fin 4) (con : Nat) (hmq : x.b.mintQ = [])
    (hc : (x.b.stk st).cons.find? (fun c => c.id == con) = some c) (hr : c.ready = true) :
    Gives (.treeColumnResult st con) x fun t =>
      ((t.b.stk st).cons.find? fun c => c.id == con) = some { c with res := c.res ++ [c.column] } := by
  obtain ⟨hcons, hfrm⟩ := treeColumn_ready (b := x.b.fresh) hc hr
  have hidle : (treeColumn st con x.b.fresh).mintQ = [] := by
    rw [Block.mintQ, hfrm]
    exact hmq
  refine Gives.of_done rfl ?_
  rw [run_stk, pump_idle hidle, hcons]
  exact find?_map_updated hc _

/-! ## A contribution applied -/

/-- The contribution next for a slot is one to that slot. -/
theorem nextFor_slot {k : Stk} (h : k.nextFor slot = some c) : c.slot = slot := by
  unfold Stk.nextFor at h
  refine (foldl_choice_mem (fun o a => ?_) _ _ h).elim (fun hmem => ?_) fun hnone => ?_
  · cases o with
    | none => exact .inl rfl
    | some y =>
      dsimp only
      split
      · exact .inl rfl
      · exact .inr rfl
  · simp only [List.mem_filter, Bool.and_eq_true, beq_iff_eq] at hmem
    exact hmem.2.1
  · cases hnone

/-- The block in which contribution `c` has left its stack, and the descriptors that it was the last of are complete. -/
def Block.conGone (b : Block) (s : Nat) (c : Con) : Block :=
  let b := b.updStk s fun k => { k with cons := k.cons.filter fun d => d.id != c.id }
  b.reachedAll (c.idxs.filter fun i => !(b.stk s).cons.any fun d => d.idxs.contains i)

theorem conGone_stks (b : Block) (s : Nat) (c : Con) : (b.conGone s c).stks =
    (b.updStk s fun k => { k with cons := k.cons.filter fun d => d.id != c.id }).stks :=
  Block.each_keep _ (·.stks) _ _ fun _ _ => rfl

theorem conGone_tile (k j : Nat) : (b.conGone s c).tile k j = b.tile k j := by
  rw [tile_of_stks (conGone_stks b s c), tile_updStk]
  exact fun _ => rfl

theorem conGone_none : (((b.conGone s c).stk s).cons.any fun d => d.id == c.id) = false := by
  rw [stk_of_stks (conGone_stks b s c), Block.stk_updStk_same, List.any_eq_false]
  intro d hd
  simpa using (List.mem_filter.1 hd).2

/-- The block in which a contribution has been applied to its tile and counted. -/
def Block.conCounted (b : Block) (s slot : Nat) (x : Ecc) (c : Con) : Block :=
  (((((b.conGone s c).ledEcc s slot x).applyCon s c (b.tile s slot).nappl).tileFlags s slot c.flags).updTile s slot
    fun t => { t with nappl := t.nappl + 1 })

/-- The oldest contribution, whole and alone, to an open tile whose format takes it. -/
theorem contributionApply_open (hn : (b.stk s).nextFor slot = some c) (hres : c.ncol ≤ c.res.length)
    (hlink : c.link = .plain) (hst : (b.tile s slot).st = .opn) (hmix : mixes (b.tile s slot).trec c.res = none)
    (x : Ecc) : contributionApply s slot x b = (b.conCounted s slot x c).afterCon s slot := by
  have hwhole : ¬ (c.res.length < c.ncol ∨ DLink.plain = .index none) := by
    rintro (h | h)
    · omega
    · cases h
  have htell : b.tellIndex s c = b := by rw [Block.tellIndex, hlink]
  unfold contributionApply
  simp only [hn, hlink, hwhole, htell, hst, hmix, if_false]
  rfl

/-- What a contribution leaves of its tile. -/
theorem conCounted_leaves (hslot : slot < 1024) (hc : c.slot = slot) (x : Ecc) : ∃ b', Accrues (b.conGone s c) b' ∧
    b.conCounted s slot x c = b'.updTile s slot fun t => { t with nappl := t.nappl + 1 } :=
  ⟨_, .after .tileFlags (.after (.applyCon (hc ▸ hslot)) .ledEcc), rfl⟩

theorem contributionApply_gives (x : State) (st : Fin 4) (slot : Fin 1024) (ecc : Ecc)
    (hn : (x.b.stk st).nextFor slot = some c) (hres : c.ncol ≤ c.res.length) (hlink : c.link = .plain)
    (hst : (x.b.tile st slot).st = .opn) (hmix : (mixes (x.b.tile st slot).trec c.res).isNone = true)
    (hmore : (x.b.tile st slot).nappl + 1 < tNcon (x.b.tile st slot).trec) :
    Gives (.contributionApply st slot ecc) x fun t => (t.b.tile st slot).nappl = (x.b.tile st slot).nappl + 1 ∧
      (t.b.tile st slot).st = .opn ∧ (t.b.stk st).cons.any (fun d => d.id == c.id) = false := by
  have heff := contributionApply_open (b := x.b.fresh) hn hres hlink hst (Option.isNone_iff_eq_none.1 hmix) ecc
  obtain ⟨b', hb', hcount⟩ := conCounted_leaves (b := x.b.fresh) (s := st) slot.isLt (nextFor_slot hn) ecc
  have hnappl : (b'.tile st slot).nappl = (x.b.tile st slot).nappl :=
    (hb'.nappl ..).trans (congrArg Tile.nappl (conGone_tile ..))
  have htrec : (b'.tile st slot).trec = (x.b.tile st slot).trec :=
    (hb'.trec ..).trans (congrArg Tile.trec (conGone_tile ..))
  have hst' : (b'.tile st slot).st = .opn :=
    (hb'.st ..).trans ((congrArg Tile.st (conGone_tile ..)).trans hst)
  have hafter : (b'.updTile st slot fun t => { t with nappl := t.nappl + 1 }).afterCon st slot =
      b'.updTile st slot fun t => { t with nappl := t.nappl + 1 } := by
    refine if_pos ?_
    rw [tile_updTile_same, hnappl, htrec]
    exact hmore
  rw [hcount, hafter] at heff
  refine Gives.of_done rfl ⟨?_, ?_, ?_⟩
  · rw [run_tile, heff, tile_updTile_same, hnappl]
  · rw [run_tile, heff, tile_updTile_same, hst']
  · rw [run_stk, heff, Block.updTile, Block.stk_updStk_same, hb'.cons]
    exact conGone_none

end Sys2Proof.Machine
end

section
/-! SUPPORT. Running sums (R194, R198): their application, the end of their wait, and the messages and hops that fill their
buffers. -/

namespace Sys2Proof.Machine

variable {b : Block} {s slot : Nat}

/-- A tile in WAIT whose running sum is complete. -/
theorem runningSumApply_gives (x : State) (st : Fin 4) (slot : Fin 1024) (ecc : Ecc)
    (hst : (x.b.tile st slot).st = .wait) (hrs : (x.b.tile st slot).rsComplete = true) (hq : (x.b.stk st).trecQ = []) :
    Gives (.runningSumApply st slot ecc) x fun t => (t.b.tile st slot).st = .closed ∧
      (t.b.tile st slot).nappl = (x.b.tile st slot).nappl + 1 := by
  have heff : runningSumApply st slot ecc x.b.fresh = (x.b.fresh.ledEcc st slot ecc).applyRunning st slot :=
    if_pos ⟨hst, hrs⟩
  have hecc : Accrues x.b.fresh (x.b.fresh.ledEcc st slot ecc) := .ledEcc
  obtain ⟨hclosed, hnappl, -, -⟩ := applyRunning_tile st.isLt slot.isLt ((hecc.trecQ st).trans hq)
  refine Gives.of_done rfl ⟨?_, ?_⟩
  · rw [run_tile, heff, hclosed]
  · rw [run_tile, heff, hnappl, hecc.nappl]
    rfl

/-- The block in which the wait of a tile for its running sum has ended and is counted (R194). -/
def Block.waitCounted (b : Block) (s slot : Nat) (x : Ecc) : Block :=
  (((b.ledEcc s slot x).updTile s slot fun t => { t with rsEnded := true, zf := true }).tileFlags s slot fTAINTED).bump
    (TLY_TOCNT s)

/-- The block in which it shows and has raised its event. -/
def Block.waitEnded (b : Block) (s slot : Nat) (x : Ecc) : Block :=
  (((b.waitCounted s slot x).setB (TLY_STAT s) 4).raise (P_TLY s) 1).ev 0x4201 s
    [(2, slot), (2, tTag (b.tile s slot).trec),
      (4, ((List.range (stCols (b.tile s slot).trec)).filter fun c => !(b.tile s slot).rsCols.contains c).length)]

theorem tlyStat_ne_tocnt (k s : Nat) : TLY_STAT k ≠ TLY_TOCNT s := by
  simp only [TLY_STAT, P_TLY, TLY_TOCNT]
  omega

/-- What the end of the wait leaves of the tile, its stack and the status of the tally trees. -/
theorem waitEnded_leaves (x : Ecc) : ((b.waitEnded s slot x).tile s slot).zf = true ∧
    ((b.waitEnded s slot x).stk s).trecQ = (b.stk s).trecQ ∧ (b.waitEnded s slot x).rdB (TLY_STAT s) 4 = true := by
  have hecc : Accrues b (b.ledEcc s slot x) := .ledEcc
  have hcount : Accrues ((b.ledEcc s slot x).updTile s slot fun t => { t with rsEnded := true, zf := true })
      (b.waitCounted s slot x) := .after (.wr fun k => tlyStat_ne_tocnt k s) .tileFlags
  have hstks : (b.waitEnded s slot x).stks = (b.waitCounted s slot x).stks := by
    rw [Block.waitEnded, Block.ev_stks, Block.raise_stks, Block.setB_stks]
  refine ⟨?_, ?_, ?_⟩
  · rw [tile_of_stks hstks, hcount.zf, tile_updTile_same]
  · rw [stk_of_stks hstks, hcount.trecQ, Block.updTile, Block.stk_updStk_same]
    exact hecc.trecQ s
  · rw [Block.rdB, Block.waitEnded, Block.rd_ev, Block.rd_raise_ne _ _ (tlyStat_ne_tally s s).2.2.2]
    exact Block.rdB_setB _ _ _ (by decide)

/-- A tile in WAIT whose running sum has not come in time. -/
theorem runningSumTimeout_gives (x : State) (st : Fin 4) (slot : Fin 1024) (ecc : Ecc)
    (hst : (x.b.tile st slot).st = .wait) (hrs : (x.b.tile st slot).rsComplete = false) (hq : (x.b.stk st).trecQ = []) :
    Gives (.runningSumTimeout st slot ecc) x fun t => (t.b.tile st slot).st = .closed ∧ (t.b.tile st slot).zf = true ∧
      t.rdB (TLY_STAT st) 4 = true := by
  have hwaits : ¬ ((x.b.fresh.tile st slot).st ≠ .wait ∨ (x.b.fresh.tile st slot).rsComplete = true) := by
    rintro (h | h)
    · exact h hst
    · exact absurd (hrs.symm.trans h) (by decide)
  have heff : runningSumTimeout st slot ecc x.b.fresh = (x.b.fresh.waitEnded st slot ecc).applyRunning st slot :=
    if_neg hwaits
  obtain ⟨hzf, htq, hbit⟩ := waitEnded_leaves (b := x.b.fresh) (s := st) (slot := slot) ecc
  obtain ⟨hclosed, -, hzf', hstat⟩ := applyRunning_tile st.isLt slot.isLt (htq.trans hq)
  refine Gives.of_done rfl ⟨?_, ?_, ?_⟩
  · rw [run_tile, heff, hclosed]
  · rw [run_tile, heff, hzf', hzf]
  · rw [State.rdB, Block.rdB, run_rd_unit _ _ (unitPlain_tlyStat st), heff, hstat]
    exact hbit

/-! ## Tally messages and hops for an open tile (R195, R198, R199) -/

/-- Columns placed in a running-sum buffer, before they are noted in the tile. -/
def Block.columnsWritten (b : Block) (s slot col0 cols : Nat) (data : List Byte) : Block :=
  let tr := (b.tile s slot).trec
  let eb := tEB tr
  let rows := stRows tr
  b.each (List.range cols) fun b c => b.each (List.range rows) fun b r =>
    let bs := (data.drop ((c * rows + r) * eb)).take eb
    let raw := ofBytesLE (bs.take (valBytes (tFmt tr)))
    let bad := badElem (tFmt tr) (tOp tr) raw
    let b := b.when bad fun b => (b.bump (TLY_DISCNT s)).wr (TLY_LASTERR s) (wd (slot + 4 * 2 ^ 16))
    let bs := if bad then List.replicate (valBytes (tFmt tr)) 0 ++ bs.drop (valBytes (tFmt tr)) else bs
    b.wrLed s (elemAddr tr (tCbase tr) r (col0 + c)) bs

theorem columnsWritten_accrues (col0 cols : Nat) (data : List Byte) :
    Accrues b (b.columnsWritten s slot col0 cols data) :=
  .each fun _ _ => .each fun _ _ => .after .wrLed <| .when <|
    .after (.wr fun k => (tlyStat_ne_tally k s).2.1) (.wr fun k => (tlyStat_ne_tally k s).1)

theorem placeColumns_eq (col0 cols : Nat) (data : List Byte) (flags : Nat) :
    b.placeColumns s slot col0 cols data flags = (b.columnsWritten s slot col0 cols data).updTile s slot fun t =>
      { t with rsCols := t.rsCols ++ (List.range cols).map (col0 + ·), rsFlags := t.rsFlags ||| flags } := rfl

theorem placeColumns_rsCols (col0 cols : Nat) (data : List Byte) (flags : Nat) :
    ((b.placeColumns s slot col0 cols data flags).tile s slot).rsCols =
      (b.tile s slot).rsCols ++ (List.range cols).map (col0 + ·) := by
  rw [placeColumns_eq, tile_updTile_same, (columnsWritten_accrues ..).rsCols]

/-- What decides where a message for a tile goes: the tile's record and state, and the arrival store. -/
def Block.arrivalView (b : Block) (s slot : Nat) : TState × List Word × List TMsg :=
  ((b.tile s slot).st, (b.tile s slot).trec, (b.stk s).store)

theorem placeColumns_arrivalView (col0 cols : Nat) (data : List Byte) (flags : Nat) :
    (b.placeColumns s slot col0 cols data flags).arrivalView s slot = b.arrivalView s slot := by
  have hacc : Accrues b (b.columnsWritten s slot col0 cols data) := columnsWritten_accrues ..
  rw [placeColumns_eq, Block.arrivalView, tile_updTile_same, Block.updTile, Block.stk_updStk_same]
  simp only [hacc.st, hacc.trec, hacc.store, Block.arrivalView]

theorem tallyDiscard_stks (m : TMsg) (reason : Nat) : (b.tallyDiscard s m reason).stks = b.stks := by
  unfold Block.tallyDiscard
  dsimp only
  generalize hc : b.when m.net _ = c
  have hstks : c.stks = b.stks := hc ▸ Block.when_keep _ (·.stks) _ _ rfl
  generalize hd : ((c.bump (TLY_DISCNT s)).wr (TLY_LASTERR s) _).when _ _ = d
  have hd' : d.stks = b.stks := by
    rw [← hd, Block.when_keep _ (·.stks) _ _ (Block.flag_stks ..), Block.wr_stks, Block.bump_stks, hstks]
  split
  · rw [Block.ev_stks, Block.raise_stks, Block.setB_stks, hd']
  · rw [Block.ev_stks, Block.raise_stks, Block.setB_stks, hd']

/-- Is a message for this open tile, which takes a running sum? -/
structure Block.Awaits (b : Block) (s : Nat) (m : TMsg) : Prop where
  opn : (b.tile s m.dslot).st = .opn
  tag : tTag (b.tile s m.dslot).trec = m.dtag
  chain : tChin (b.tile s m.dslot).trec = true

/-- A message for an open tile is placed or discarded. -/
theorem tallyArrive_awaited {m : TMsg} (h : b.Awaits s m) : b.tallyArrive s m =
    match tallyFault (b.tile s m.dslot) m with
    | some r => b.tallyDiscard s m r
    | none => b.placeColumns s m.dslot m.col0 m.cols m.data m.flags := by
  refine if_pos ⟨?_, .inr ⟨h.tag, h.chain⟩⟩
  rw [h.opn]
  decide

theorem tallyArrive_arrivalView {m : TMsg} (h : b.Awaits s m) :
    (b.tallyArrive s m).arrivalView s m.dslot = b.arrivalView s m.dslot := by
  rw [tallyArrive_awaited h]
  split
  · rw [Block.arrivalView, tile_of_stks (tallyDiscard_stks ..), stk_of_stks (tallyDiscard_stks ..), Block.arrivalView]
  · exact placeColumns_arrivalView ..

/-- Messages for one open tile leave the store as it is. -/
theorem each_tallyArrive_store {ms : List TMsg} (hopn : (b.tile s slot).st = .opn)
    (hch : tChin (b.tile s slot).trec = true)
    (hms : ∀ m ∈ ms, m.dslot = slot ∧ m.dtag = tTag (b.tile s slot).trec) :
    ((b.each ms fun b m => b.tallyArrive s m).stk s).store = (b.stk s).store := by
  induction ms generalizing b with
  | nil => rfl
  | cons m ms ih =>
    obtain ⟨rfl, htag⟩ := hms m (List.mem_cons_self ..)
    have hview := tallyArrive_arrivalView (b := b) (s := s) (m := m) ⟨hopn, htag.symm, hch⟩
    simp only [Block.arrivalView, Prod.mk.injEq] at hview
    obtain ⟨hst, htrec, hstore⟩ := hview
    rw [Block.each_cons, ih (hst.trans hopn) (by rw [htrec]; exact hch), hstore]
    intro m' hm'
    rw [htrec]
    exact hms m' (List.mem_cons_of_mem _ hm')

theorem arrivalStoreMove_gives (x : State) (st : Fin 4) (slot : Fin 1024) (hst : (x.b.tile st slot).st = .opn)
    (hch : tChin (x.b.tile st slot).trec = true) :
    Gives (.arrivalStoreMove st slot) x fun t => ((t.b.stk st).store.any fun m => m.dslot == slot.val && m.dtag ==
      tTag (x.b.tile st slot).trec) = false := by
  generalize hmine : (fun m : TMsg => m.dslot == slot.val && m.dtag == tTag (x.b.tile st slot).trec) = mine
  have heff : arrivalStoreMove st slot x.b.fresh =
      (x.b.fresh.updStk st fun k => { k with store := k.store.filter fun m => !mine m }).each
        ((x.b.stk st).store.filter mine) fun b m => b.tallyArrive st m := by
    have hst' : (x.b.fresh.tile st slot).st = .opn := hst
    have hch' : tChin (x.b.fresh.tile st slot).trec = true := hch
    unfold arrivalStoreMove
    simp only [hst', hch', Bool.and_true]
    subst hmine
    rfl
  generalize hb : x.b.fresh.updStk st (fun k => { k with store := k.store.filter fun m => !mine m }) = b₀ at heff
  have htile : b₀.tile st slot = x.b.tile st slot := by
    rw [← hb, tile_updStk]
    · rfl
    · exact fun _ => rfl
  have hstore : (b₀.stk st).store = (x.b.stk st).store.filter fun m => !mine m := by
    rw [← hb, Block.stk_updStk_same]
    rfl
  refine Gives.of_done rfl ?_
  rw [run_stk, heff, each_tallyArrive_store (slot := slot) (by rw [htile]; exact hst) (by rw [htile]; exact hch), hstore]
  · rw [List.any_eq_false]
    intro m hm
    simpa using (List.mem_filter.1 hm).2
  · intro m hm
    have hm' := (List.mem_filter.1 hm).2
    rw [← hmine, Bool.and_eq_true, beq_iff_eq, beq_iff_eq] at hm'
    rw [htile]
    exact hm'

theorem reached_stks (b : Block) (idx : Nat) : (b.reached idx).stks = b.stks := rfl

/-- A stack hop that reaches an open tile it suits. -/
theorem stackHopDelivery_gives (x : State) (st : Fin 4) (hop : Nat) (h : HopFly)
    (hfly : (x.b.stk st).fly.find? (fun h => h.idx == hop) = some h) (hopn : (x.b.tile h.dstk h.dslot).st = .opn)
    (htag : tTag (x.b.tile h.dstk h.dslot).trec = h.dtag) (hch : tChin (x.b.tile h.dstk h.dslot).trec = true)
    (hok : tallyFault (x.b.tile h.dstk h.dslot) h.msg = none) :
    Gives (.stackHopDelivery st hop) x fun t => (t.b.tile h.dstk h.dslot).rsCols = (x.b.tile h.dstk h.dslot).rsCols
      ++ List.range (stCols h.trec) := by
  generalize hb : x.b.fresh.updStk st (fun k => { k with fly := k.fly.filter fun g => g.idx != hop }) = b₀
  have htile : b₀.tile h.dstk h.dslot = x.b.tile h.dstk h.dslot := by
    rw [← hb, tile_updStk]
    · rfl
    · exact fun _ => rfl
  have htile' : b₀.tile h.dstk h.msg.dslot = x.b.tile h.dstk h.dslot := htile
  have hawaits : b₀.Awaits h.dstk h.msg :=
    ⟨by rw [htile']; exact hopn, by rw [htile']; exact htag, by rw [htile']; exact hch⟩
  have harrive : b₀.tallyArrive h.dstk h.msg =
      b₀.placeColumns h.dstk h.dslot 0 (stCols h.trec) h.msg.data h.flags := by
    rw [tallyArrive_awaited hawaits, htile', hok]
    rfl
  have heff : stackHopDelivery st hop x.b.fresh =
      (b₀.placeColumns h.dstk h.dslot 0 (stCols h.trec) h.msg.data h.flags).reached hop := by
    have hfly' : (x.b.fresh.stk st).fly.find? (fun h => h.idx == hop) = some h := hfly
    unfold stackHopDelivery
    simp only [hfly', hb, harrive]
  refine Gives.of_done rfl ?_
  rw [run_tile, heff, tile_of_stks (reached_stks ..), placeColumns_rsCols, htile]
  simp only [Nat.zero_add, List.map_id']

end Sys2Proof.Machine
end

section
/-! SUPPORT. RDBK and THOP (R191, R195, R291, R292): the readback of a closed tile and the one that waits, and the queue of hops. -/

namespace Sys2Proof.Machine

variable {b : Block} {s : Nat}

theorem issued_grade (b : Block) (idx : Nat) (d : Desc) : (b.issued idx d).grade = b.grade :=
  Block.when_keep _ (·.grade) _ _ rfl
theorem issued_vyv (b : Block) (idx : Nat) (d : Desc) : (b.issued idx d).vyv = b.vyv :=
  Block.when_keep _ (·.vyv) _ _ rfl
theorem issued_flow (b : Block) (idx : Nat) (d : Desc) (f : Nat) : (b.issued idx d).flow f = b.flow f := by
  rw [Block.flow, issued_vyv]
  rfl
theorem updStk_flight (b : Block) (s : Nat) (f : Stk → Stk) : (b.updStk s f).flight = b.flight := rfl

/-! ## RDBK -/

/-- The readback that an RDBK asks for (R291). -/
def rdbkOf (idx : Nat) (d : Desc) : Rdbk := ⟨idx, dF d 1 0 10, dF d 1 16 2, dAddr d 2, dF d 4 0 12, dF d 4 16 13⟩

/-- What an RDBK does that is taken. -/
def Block.rdbk (b : Block) (s : Nat) (q : Rdbk) (x : Ecc) : Block :=
  if q.conv = 3 then b.reject q.idx s 3
  else if mspace b.grade q.dst ≠ .vsram then b.reject q.idx s 4
  else if (b.tile s q.slot).st = .closed then (b.ledEcc s q.slot x).doReadback s q
  else b.updStk s fun k => { k with rdbkQ := k.rdbkQ ++ [q] }

section
variable {q : Rdbk} (hconv : q.conv ≠ 3) (hdst : mspace b.grade q.dst = .vsram)
include hconv hdst

theorem rdbk_waits (hst : (b.tile s q.slot).st ≠ .closed) (x : Ecc) :
    b.rdbk s q x = b.updStk s fun k => { k with rdbkQ := k.rdbkQ ++ [q] } := by
  simp only [Block.rdbk, hconv, hdst, hst, ne_eq, not_true_eq_false, if_false]

theorem rdbk_reads (hst : (b.tile s q.slot).st = .closed) (x : Ecc) :
    b.rdbk s q x = (b.ledEcc s q.slot x).doReadback s q := by
  simp only [Block.rdbk, hconv, hdst, hst, ne_eq, not_true_eq_false, if_false, if_true]

end

/-- The columns from `c0` of a readback lie in storage of width `w` (R191): all that remain, where none are counted. -/
theorem readback_columns {c0 n w : Nat} (h : c0 + n ≤ w) : ¬ w < c0 + if n = 0 then w - c0 else n := by
  split <;> omega

/-- A raw readback of columns that the tile has is carried out. -/
theorem doReadback_raw {q : Rdbk} (hconv : q.conv = 0) (hcols : q.c0 + q.ncol ≤ stCols (b.tile s q.slot).trec) :
    ∃ bs, b.doReadback s q = (b.wrBytes q.dst bs).reached q.idx := by
  refine ⟨_, if_neg ?_⟩
  rintro (⟨hone, -⟩ | hlt)
  · exact absurd (hconv.symm.trans hone) (by decide)
  · exact readback_columns hcols hlt

section
variable (x : State) (idx : Nat) (d : Desc) (ecc : Ecc)

theorem exec_dRdbk : exec (.dRdbk idx d ecc) x = x.done fun b =>
    b.descr idx d 0x19 true [0x303FF, mLo, mHi, 0x1FFF0FFF] fun b => b.rdbk (dTgt d) (rdbkOf idx d) ecc := rfl

variable (ht : x.b.takes idx d 0x19 true [0x303FF, 0xFFFFFFFF, 0xFF, 0x1FFF0FFF] = true)
  (hdst : mspace x.b.grade (dAddr d 2) = .vsram)
include ht hdst

/-- A readback of a tile that is not closed waits. -/
theorem dRdbk_waits (hconv : dF d 1 16 2 ≠ 3) (hst : (x.b.tile (dTgt d) (dF d 1 0 10)).st ≠ .closed) :
    Gives (.dRdbk idx d ecc) x fun t =>
      (t.b.stk (dTgt d)).rdbkQ = (x.b.stk (dTgt d)).rdbkQ ++ [rdbkOf idx d] ∧ t.nrej = x.nrej := by
  refine Gives.of_takes (exec_dRdbk x idx d ecc) (by decide) ht ?_
  rw [rdbk_waits (q := rdbkOf idx d) hconv (by rw [issued_grade]; exact hdst) (by rw [issued_tile]; exact hst)]
  refine ⟨?_, (inFlight_of_taken ht (updStk_flight ..)).1⟩
  rw [run_stk, fetch_stk, Block.stk_updStk_same, issued_stk]
  rfl

/-- A raw readback of columns that a closed tile has completes. -/
theorem dRdbk_completes (hconv : dF d 1 16 2 = 0) (hst : (x.b.tile (dTgt d) (dF d 1 0 10)).st = .closed)
    (hcols : dF d 4 0 12 + dF d 4 16 13 ≤ stCols (x.b.tile (dTgt d) (dF d 1 0 10)).trec) :
    Gives (.dRdbk idx d ecc) x fun t => t.hasReached idx = true ∧ t.nrej = x.nrej := by
  have hecc : Accrues (x.b.fresh.issued idx d) ((x.b.fresh.issued idx d).ledEcc (dTgt d) (rdbkOf idx d).slot ecc) := .ledEcc
  obtain ⟨bs, hread⟩ := doReadback_raw (b := (x.b.fresh.issued idx d).ledEcc (dTgt d) (rdbkOf idx d).slot ecc)
    (s := dTgt d) (q := rdbkOf idx d) hconv (by rw [hecc.trec, issued_tile]; exact hcols)
  have hconv' : (rdbkOf idx d).conv ≠ 3 := fun h => absurd (hconv.symm.trans h) (by decide)
  refine Gives.of_takes (exec_dRdbk x idx d ecc) (by decide) ht ?_
  rw [rdbk_reads hconv' (by rw [issued_grade]; exact hdst) (by rw [issued_tile]; exact hst), hread]
  exact hasReached_of_taken ht hecc.flight

end

/-! ## THOP -/

/-- The hop that a THOP asks for of its tile as it stands (R292). -/
def Block.hopOf (b : Block) (idx : Nat) (d : Desc) : Hop :=
  let t := b.tile (dTgt d) (dF d 1 0 10)
  { idx := idx, slot := dF d 1 0 10, remote := dB d 1 16, dstk := dF d 1 20 2, dslot := dF d 2 0 10,
    dtag := dF d 2 16 14, flow := dF d 3 0 12, link := dF d 3 16 8,
    ready := if t.st = .closed then
      some (t.trec, b.rdLed (dTgt d) (tBase t.trec) (stBytes t.trec), t.flags) else none }

/-- Is the destination of a THOP one that R292 allows: an open flow, or another stack? -/
def Block.hopLegal (b : Block) (d : Desc) : Prop :=
  if dB d 1 16 then b.flowState (dF d 3 0 12) = 2 else dF d 1 20 2 ≠ dTgt d

/-- The block in which ECC has shown what it sees of the tile of a THOP. -/
def Block.hopRead (b : Block) (d : Desc) (x : Ecc) : Block :=
  b.when ((b.tile (dTgt d) (dF d 1 0 10)).st == .closed) fun b => b.ledEcc (dTgt d) (dF d 1 0 10) x

/-- What a THOP does that is taken. -/
def Block.thop (b : Block) (idx : Nat) (d : Desc) (x : Ecc) : Block :=
  let s := dTgt d
  let bad := if dB d 1 16 then b.flowState (dF d 3 0 12) != 2 else dF d 1 20 2 == s
  let b := b.when (!bad && (b.tile s (dF d 1 0 10)).st == .closed) fun b => b.ledEcc s (dF d 1 0 10) x
  let h := b.hopOf idx d
  if !h.remote && h.dstk == s then b.reject idx s 3
  else if h.remote && b.flowState h.flow != 2 then b.reject idx s 11
  else b.updStk s fun k => { k with hopQ := k.hopQ ++ [h] }

theorem hopRead_accrues (d : Desc) (x : Ecc) : Accrues b (b.hopRead d x) := .when .ledEcc

/-- A legal THOP joins the hops of its stack, once its tile has been read if that is closed. -/
theorem thop_legal {idx : Nat} {d : Desc} (h : b.hopLegal d) (x : Ecc) : b.thop idx d x =
    (b.hopRead d x).updStk (dTgt d) fun k => { k with hopQ := k.hopQ ++ [(b.hopRead d x).hopOf idx d] } := by
  have hflow : (b.hopRead d x).flowState (dF d 3 0 12) = b.flowState (dF d 3 0 12) := by
    rw [Block.flowState, Block.flow, (hopRead_accrues d x).vyv]
    rfl
  have hread : (b.when (!(if dB d 1 16 then b.flowState (dF d 3 0 12) != 2 else dF d 1 20 2 == dTgt d) &&
      (b.tile (dTgt d) (dF d 1 0 10)).st == .closed) fun b => b.ledEcc (dTgt d) (dF d 1 0 10) x) = b.hopRead d x := by
    unfold Block.hopLegal at h
    rw [Block.hopRead]
    congr 1
    split at h
    · next hr => simp [hr, h]
    · next hr => simp [hr, h]
  unfold Block.thop
  dsimp only
  rw [hread]
  unfold Block.hopLegal at h
  split at h
  · next hr =>
    rw [if_neg (by simp [Block.hopOf, hr]), if_neg (by simp [Block.hopOf, hflow, h])]
  · next hr =>
    rw [if_neg (by simp [Block.hopOf, h]), if_neg (by simp [Block.hopOf, hr])]

/-- A legal THOP is in flight with its hop. -/
theorem dThop_gives (x : State) (idx : Nat) (d : Desc) (ecc : Ecc)
    (ht : x.b.takes idx d 0x1A true [0x3103FF, 0x3FFF03FF, 0xFF0FFF] = true) (hl : x.b.hopLegal d) :
    Gives (.dThop idx d ecc) x fun t => (t.b.stk (dTgt d)).hopQ.length = (x.b.stk (dTgt d)).hopQ.length + 1 ∧
      t.nrej = x.nrej ∧ t.inFlight idx = true := by
  have hl' : (x.b.fresh.issued idx d).hopLegal d := by
    unfold Block.hopLegal at hl ⊢
    rw [Block.flowState, issued_flow]
    exact hl
  have hread : Accrues (x.b.fresh.issued idx d) ((x.b.fresh.issued idx d).hopRead d ecc) := hopRead_accrues ..
  refine Gives.of_takes (eff := fun b => b.thop idx d ecc) rfl (by decide) ht ?_
  rw [thop_legal hl']
  refine ⟨?_, inFlight_of_taken ht ((updStk_flight ..).trans hread.flight)⟩
  rw [run_stk, fetch_stk, Block.stk_updStk_same]
  simp only [List.length_append, hread.hopQ, issued_stk]
  rfl

end Sys2Proof.Machine
end

section
/-! SUPPORT. Accumulation as a whole: the clause on a THOP to a module. -/

namespace Sys2Proof.Machine

/-- A THOP of stack 0 to a module, on flow context 0. -/
def remoteThop : Desc := ⟨[0x1A, 0x10000]⟩

/-- A frame that issues it now. -/
def thopFrame : Frame := { strayFrame with queue := [⟨0, 0, remoteThop⟩], infl := [] }

/-- The module as reset leaves it, every flow context FREE, but for that frame. -/
def thopToFreeFlow : State := { State.reset with b := { Block.reset with frm := some thopFrame } }

theorem thopToFreeFlow_takes : thopToFreeFlow.b.takes 0 remoteThop 0x1A true [0x3103FF, 0x3FFF03FF, 0xFF0FFF] = true := by
  decide

/-- The last clause of O13: its conditional reaches over the rest of the implication, so of a THOP to a module it says that the
flow is OPEN, and it says what a THOP does only of one to a stack. -/
def ThopClause : Prop :=
  ∀ (x : State) (idx : Nat) (d : Desc) (ecc : Ecc), x.b.takes idx d 0x1A true [0x3103FF, 0x3FFF03FF, 0xFF0FFF] = true →
    if dB d 1 16 then x.b.flowState (dF d 3 0 12) = 2 else dF d 1 20 2 ≠ dTgt d →
    Gives (.dThop idx d ecc) x fun t => (t.b.stk (dTgt d)).hopQ.length = (x.b.stk (dTgt d)).hopQ.length + 1 ∧
      t.nrej = x.nrej ∧ t.inFlight idx = true

/-- The other clauses hold: O13 says no more than its last clause. -/
theorem accumulation_iff_thopClause : Obligations.Accumulation ↔ ThopClause := by
  unfold Obligations.Accumulation
  refine ⟨fun ⟨_, _, _, _, _, _, _, _, hthop⟩ => hthop, fun hthop => ⟨?_, ?_, ?_, ?_, ?_, ?_, ?_, ?_, hthop⟩⟩
  case refine_1 =>
    rintro x st con c hmq ⟨hc, hr⟩
    exact treeColumnResult_gives x st con hmq hc hr
  case refine_2 =>
    rintro x st slot ecc c ⟨hn, hres, hlink⟩ ⟨hst, hmix, hmore⟩
    exact contributionApply_gives x st slot ecc hn hres hlink hst hmix hmore
  case refine_3 =>
    rintro x st slot ecc ⟨hst, hrs⟩ hq
    exact runningSumApply_gives x st slot ecc hst hrs hq
  case refine_4 =>
    rintro x st slot ecc ⟨hst, hrs⟩ hq
    exact runningSumTimeout_gives x st slot ecc hst hrs hq
  case refine_5 =>
    rintro x st slot ⟨hst, hch⟩
    exact arrivalStoreMove_gives x st slot hst hch
  case refine_6 =>
    rintro x st hop h hfly ⟨hopn, htag, hch, hok⟩
    exact stackHopDelivery_gives x st hop h hfly hopn htag hch hok
  case refine_7 =>
    rintro x idx d ecc ht ⟨hconv, hdst⟩ hst
    exact dRdbk_waits x idx d ecc ht hdst hconv hst
  case refine_8 =>
    rintro x idx d ecc ht ⟨hconv, hdst⟩ hst hcols
    exact dRdbk_completes x idx d ecc ht hdst hconv hst hcols

/-- In `thopToFreeFlow` a THOP to a module is taken whose flow is FREE (R277 rejects it). -/
theorem not_thopClause : ¬ ThopClause := by
  intro h
  have hopen : thopToFreeFlow.b.flowState (dF remoteThop 3 0 12) = 2 :=
    h thopToFreeFlow 0 remoteThop ⟨[], []⟩ thopToFreeFlow_takes
  exact absurd hopen (by decide)

/-- Refutes O13 by its last clause, on a THOP to a module whose flow is not OPEN. With the conditional as a hypothesis of its
own that clause is `dThop_gives`. -/
theorem not_accumulation : ¬ Obligations.Accumulation := mt accumulation_iff_thopClause.mp not_thopClause

end Sys2Proof.Machine
end

section
/-! SUPPORT. Messages sent on a flow context (R384, R389, R395): what they leave of its sequences and of the frame. -/

namespace Sys2Proof.Machine

/-- What statements on sending read: the tensor and control sequences of flow context `f`, its kind, and the frame. -/
def Block.flowView (b : Block) (f : Nat) : BitVec 32 × BitVec 32 × Nat × Option Frame :=
  ((b.flow f).txSeq, (b.flow f).ctlTx, (b.flow f).kind, b.frm)

variable {b : Block} {f : Nat}

/-- A change of the context that keeps its sequences and its kind. -/
theorem updFlow_flowView {g : Flow → Flow} (htx : ∀ x, (g x).txSeq = x.txSeq) (hctl : ∀ x, (g x).ctlTx = x.ctlTx)
    (hkind : ∀ x, (g x).kind = x.kind) : (b.updFlow f g).flowView f = b.flowView f := by
  simp only [Block.flowView, Block.flow_updFlow_same, htx, hctl, hkind, Block.updFlow_frm]

theorem emit_flowView (d : Dgram) : (b.emit d).flowView f = b.flowView f := by
  unfold Block.emit
  split
  · rfl
  · rfl

theorem emitOn_flowView (m : Msg) : (b.emitOn f m).flowView f = b.flowView f :=
  (emit_flowView _).trans
    (Block.when_keep _ (·.flowView f) _ _ (updFlow_flowView (fun _ => rfl) (fun _ => rfl) fun _ => rfl))

theorem bumpW_kind (x : Flow) (n : Nat) : (x.bumpW 12 n).kind = x.kind :=
  congrArg (fld · 3 2) (Flow.w_setW_ne x _ (by decide))

/-- A tensor message on a unicast context takes the next number of its sequence. -/
theorem tensorOne_flowView (type flags : Nat) (frame : BitVec 32) (payload : List Byte) (to_ : Option Nat) :
    (b.tensorOne f type flags frame payload to_).flowView f =
      ((b.flow f).txSeq + 1, (b.flow f).ctlTx, (b.flow f).kind, b.frm) := by
  refine (emitOn_flowView _).trans ?_
  generalize hc : b.updFlow f (fun x => { x with txSeq := x.txSeq + 1 }.bumpW 12 1) = c
  have hview : c.flowView f = ((b.flow f).txSeq + 1, (b.flow f).ctlTx, (b.flow f).kind, b.frm) := by
    rw [← hc, Block.flowView, Block.flow_updFlow_same, bumpW_kind]
    rfl
  exact hview

theorem targets_unicast (h : (b.flow f).kind ≠ 1) : b.targets f = (b, [f]) := if_pos h

theorem tensor_unicast (h : (b.flow f).kind ≠ 1) (type flags : Nat) (frame : BitVec 32) (payload : List Byte)
    (to_ : Option Nat) : b.tensor f type flags frame payload to_ = b.tensorOne f type flags frame payload to_ := by
  unfold Block.tensor
  rw [targets_unicast h]
  rfl

/-- Tensor messages on a unicast context are numbered one after the other. -/
theorem each_tensor_flowView {α : Type} (l : List α) (type : Nat) (flags : α → Nat) (payload : α → List Byte)
    (h : (b.flow f).kind ≠ 1) :
    (b.each l fun b q => b.tensor f type (flags q) b.frameId (payload q)).flowView f =
      ((b.flow f).txSeq + BitVec.ofNat 32 l.length, (b.flow f).ctlTx, (b.flow f).kind, b.frm) := by
  induction l generalizing b with
  | nil => simp [Block.flowView]
  | cons q l ih =>
    have hview := tensorOne_flowView (b := b) (f := f) type (flags q) b.frameId (payload q) none
    simp only [Block.flowView, Prod.mk.injEq] at hview
    obtain ⟨htx, hctl, hkind, hfrm⟩ := hview
    rw [Block.each_cons, tensor_unicast h, ih (hkind ▸ h), htx, hctl, hkind, hfrm]
    refine congrArg (Prod.mk · _) ?_
    rw [List.length_cons, Nat.add_comm, BitVec.ofNat_add, BitVec.add_assoc]
    rfl

theorem ctlFill_flowView : (b.ctlFill f).flowView f = b.flowView f := by
  unfold Block.ctlFill
  exact (Block.each_keep _ (·.flowView f) _ _ fun _ _ => emitOn_flowView _).trans
    (updFlow_flowView (fun _ => rfl) (fun _ => rfl) fun _ => rfl)

/-- A control message takes the next number of the control sequence. -/
theorem ctlSend_flowView (type flags : Nat) (dpath : BitVec 64) (frame : BitVec 32) (payload : List Byte) :
    (b.ctlSend f type flags dpath frame payload).flowView f =
      ((b.flow f).txSeq, (b.flow f).ctlTx + 1, (b.flow f).kind, b.frm) := by
  refine ctlFill_flowView.trans ?_
  rw [Block.flowView, Block.flow_updFlow_same]
  rfl

end Sys2Proof.Machine
end

section
/-! SUPPORT. VSEND, VRECV and hops that leave (R195, R292, R294, R384, R387). -/

namespace Sys2Proof.Machine

variable {b : Block}

/-- A command whose effect on the block it finds is known gives what holds of that. -/
theorem Gives.of_effect {i : Instr} {x : State} {P : State → Prop} {f : Block → Block} {c : Block}
    (h : exec i x = x.done f) (hf : f x.b.fresh = c) (hP : P (x.run fun _ => c)) : Gives i x P :=
  .of_done h (run_congr (g := fun _ => c) hf ▸ hP)

/-- A completion point and fetching leave every flow context. -/
theorem run_reached_flow (x : State) (c : Block) (idx f : Nat) : (x.run fun _ => (c.reached idx).fetch).b.flow f = c.flow f := by
  rw [run_flow]
  rfl

/-! ## VSEND -/

/-- The block in which a VSEND has read its data (R419). -/
def Block.vsendRead (b : Block) (d : Desc) (x : Ecc) : Block :=
  ((b.eccSeen x 3).hbmTouch (dAddr d 2) (dF d 4 0 25)).when (!x.ue.isEmpty) fun b => b.flag fTAINTED

/-- What ECC observes leaves Vyivim and the frame (R419). -/
theorem eccSeen_flows (b : Block) (x : Ecc) (cons : Nat) :
    ((b.eccSeen x cons).vyv, (b.eccSeen x cons).frm) = (b.vyv, b.frm) := by
  refine (Block.each_keep _ (fun b => (b.vyv, b.frm)) _ _ ?_).trans (Block.each_keep _ (fun b => (b.vyv, b.frm)) _ _ ?_)
  · exact fun _ _ => rfl
  · exact fun _ _ => rfl

theorem hbmTouch_flows (b : Block) (a n : Nat) : ((b.hbmTouch a n).vyv, (b.hbmTouch a n).frm) = (b.vyv, b.frm) := by
  obtain ⟨cnt, h⟩ := hbmTouch_eq b a n
  rw [h]

/-- Reading the data of a VSEND leaves Vyivim and what is in flight. -/
theorem vsendRead_keeps (d : Desc) (x : Ecc) : (b.vsendRead d x).vyv = b.vyv ∧ (b.vsendRead d x).flight = b.flight := by
  have hread := (hbmTouch_flows (b.eccSeen x 3) (dAddr d 2) (dF d 4 0 25)).trans (eccSeen_flows b x 3)
  rw [Prod.mk.injEq] at hread
  obtain ⟨hvyv, hfrm⟩ := hread
  have hflight : ((b.eccSeen x 3).hbmTouch (dAddr d 2) (dF d 4 0 25)).flight = b.flight := by
    rw [Block.flight, hfrm]
    rfl
  exact ⟨(Block.when_keep _ (·.vyv) _ _ (Block.flag_vyv ..)).trans hvyv,
    (Block.when_keep _ Block.flight _ _ Accrues.flag.flight).trans hflight⟩

theorem vsendRead_flow (d : Desc) (x : Ecc) (f : Nat) : (b.vsendRead d x).flow f = b.flow f := by
  rw [Block.flow, (vsendRead_keeps d x).1]
  rfl

/-- The data that a VSEND sends: what its source reads as, poisoned where a sector is uncorrectable (R419). -/
def Block.vsendData (b : Block) (d : Desc) (x : Ecc) : List Byte :=
  poisonBytes x.ue (dAddr d 2) ((b.vsendRead d x).rdBytes (dAddr d 2) (dF d 4 0 25))

/-- The extension and data of the WRITE that carries stretch `q`, offset and bytes, of the data of a VSEND (R384). -/
def writePayload (d : Desc) (data : List Byte) (q : Nat × Nat) : List Byte :=
  bytesBE 2 (dF d 6 0 16) ++ [0, 0] ++ bytesBE 4 (dF d 5 0 32 + q.1) ++ bytesBE 4 (dF d 4 0 25) ++ [0, 0, 0, 0] ++
    (data.drop q.1).take q.2

/-- The data of a VSEND sent as WRITEs, the last of them marked. -/
def Block.sendWrites (b : Block) (d : Desc) (data : List Byte) : Block :=
  b.each (chunks (dF d 4 0 25)) fun b q =>
    b.tensor (dF d 1 0 12) tWRITE (if q.1 + q.2 = dF d 4 0 25 then fgLAST else 0) b.frameId (writePayload d data q)

theorem sendWrites_flowView {d : Desc} (h : (b.flow (dF d 1 0 12)).kind ≠ 1) (data : List Byte) :
    (b.sendWrites d data).flowView (dF d 1 0 12) = ((b.flow (dF d 1 0 12)).txSeq +
      BitVec.ofNat 32 ((dF d 4 0 25 + 8191) / 8192), (b.flow (dF d 1 0 12)).ctlTx, (b.flow (dF d 1 0 12)).kind, b.frm) := by
  rw [Block.sendWrites, each_tensor_flowView _ _ _ _ h, chunks, List.length_map, List.length_range]

/-- The data of a VSEND with STREC sent as a START to the peer. -/
def Block.sendStart (b : Block) (f : Nat) (data : List Byte) : Block := b.ctlSend f tSTART 0 (b.flow f).peer 0 data

section
variable {idx : Nat} {d : Desc} {x : Ecc}
  (ht : b.takes idx d 0x38 false [0x10FFF, mLo, mHi, 0x1FFFFFF, mLo, 0xFFFF] = true)
  (hopen : b.flowState (dF d 1 0 12) = 2) (hspan : opSpan b.grade (dAddr d 2) (dF d 4 0 25) = none)
include ht hopen hspan

/-- A VSEND on an open flow sends its data as WRITEs. -/
theorem vsendEff_writes (hrec : dB d 1 16 = false) : vsendEff idx d x b =
    ((((b.issued idx d).vsendRead d x).sendWrites d ((b.issued idx d).vsendData d x)).reached idx).fetch := by
  have hopen' : (b.issued idx d).flowState (dF d 1 0 12) = 2 := by rw [Block.flowState, issued_flow]; exact hopen
  refine (descr_takes (by decide) ht _).trans ?_
  simp only [hopen', hrec, issued_grade, hspan, ne_eq, not_true_eq_false, Bool.false_and, Bool.false_eq_true, if_false]
  rfl

/-- With STREC one on a unicast context sends them as one START. -/
theorem vsendEff_start (hkind : (b.flow (dF d 1 0 12)).kind ≠ 1) (hrec : dB d 1 16 = true) (hlen : dF d 4 0 25 = 32) :
    vsendEff idx d x b = ((((b.issued idx d).vsendRead d x).sendStart (dF d 1 0 12)
      ((b.issued idx d).vsendData d x)).reached idx).fetch := by
  have hopen' : (b.issued idx d).flowState (dF d 1 0 12) = 2 := by rw [Block.flowState, issued_flow]; exact hopen
  have hkind' : (((b.issued idx d).vsendRead d x).flow (dF d 1 0 12)).kind ≠ 1 := by
    rw [vsendRead_flow, issued_flow]
    exact hkind
  have hlen' : (dF d 4 0 25 != 32) = false := by simp [hlen]
  refine (descr_takes (by decide) ht _).trans ?_
  simp only [hopen', hrec, hlen', issued_grade, hspan, ne_eq, not_true_eq_false, Bool.and_false, Bool.false_eq_true,
    if_false, if_true]
  rw [← Block.vsendRead, targets_unicast hkind']
  rfl

end

section
variable (x : State) (idx : Nat) (d : Desc) (ecc : Ecc)
  (ht : x.b.takes idx d 0x38 false [0x10FFF, mLo, mHi, 0x1FFFFFF, mLo, 0xFFFF] = true)
  (hopen : x.b.flowState (dF d 1 0 12) = 2) (hkind : (x.b.flow (dF d 1 0 12)).kind ≠ 1)
  (hspan : opSpan x.b.grade (dAddr d 2) (dF d 4 0 25) = none)
include ht hopen hkind hspan

/-- A VSEND moves the tensor sequence of its flow on by its WRITEs and completes. -/
theorem dVsend_gives (hrec : dB d 1 16 = false) :
    Gives (.dVsend idx d ecc) x fun t => (t.b.flow (dF d 1 0 12)).txSeq = (x.b.flow (dF d 1 0 12)).txSeq +
      BitVec.ofNat 32 ((dF d 4 0 25 + 8191) / 8192) ∧ t.hasReached idx = true ∧ t.nrej = x.nrej := by
  have hflow : ((x.b.fresh.issued idx d).vsendRead d ecc).flow (dF d 1 0 12) = x.b.flow (dF d 1 0 12) := by
    rw [vsendRead_flow, issued_flow]
    rfl
  have hview := sendWrites_flowView (b := (x.b.fresh.issued idx d).vsendRead d ecc) (d := d) (by rw [hflow]; exact hkind)
    ((x.b.fresh.issued idx d).vsendData d ecc)
  simp only [Block.flowView, Prod.mk.injEq, hflow] at hview
  obtain ⟨htx, -, -, hfrm⟩ := hview
  have hflight := (congrArg (Option.map Frame.flight) hfrm).trans (vsendRead_keeps d ecc).2
  refine Gives.of_effect rfl (vsendEff_writes (b := x.b.fresh) ht hopen hspan hrec) ?_
  rw [run_reached_flow]
  exact ⟨htx, hasReached_of_taken ht hflight⟩

/-- With STREC it moves the control sequence on by one, and completes. -/
theorem dVsendStartRecord_gives (hrec : dB d 1 16 = true) (hlen : dF d 4 0 25 = 32) :
    Gives (.dVsendStartRecord idx d ecc) x fun t => (t.b.flow (dF d 1 0 12)).ctlTx = (x.b.flow (dF d 1 0 12)).ctlTx + 1 ∧
      (t.b.flow (dF d 1 0 12)).txSeq = (x.b.flow (dF d 1 0 12)).txSeq ∧ t.hasReached idx = true ∧ t.nrej = x.nrej := by
  have hflow : ((x.b.fresh.issued idx d).vsendRead d ecc).flow (dF d 1 0 12) = x.b.flow (dF d 1 0 12) := by
    rw [vsendRead_flow, issued_flow]
    rfl
  have hview : (((x.b.fresh.issued idx d).vsendRead d ecc).sendStart (dF d 1 0 12)
      ((x.b.fresh.issued idx d).vsendData d ecc)).flowView (dF d 1 0 12) = _ := ctlSend_flowView ..
  simp only [Block.flowView, Prod.mk.injEq, hflow] at hview
  obtain ⟨htx, hctl, -, hfrm⟩ := hview
  have hflight := (congrArg (Option.map Frame.flight) hfrm).trans (vsendRead_keeps d ecc).2
  refine Gives.of_effect rfl (vsendEff_start (b := x.b.fresh) ht hopen hspan hkind hrec hlen) ?_
  rw [run_reached_flow]
  exact ⟨hctl, htx, hasReached_of_taken ht hflight⟩

end

/-! ## VRECV -/

/-- The receive that a VRECV opens (R294). -/
def vrecvOf (idx : Nat) (d : Desc) : Vrecv :=
  { idx := idx, flow := dF d 1 0 12, rtag := dF d 5 0 16, dst := dAddr d 2, len := dF d 4 0 25, spans := [], done := false }

theorem issued_pw (b : Block) (idx : Nat) (d : Desc) : (b.issued idx d).pw = b.pw := Block.when_keep _ (·.pw) _ _ rfl

/-- What a VRECV does once its receive `v` is open: messages held for it are moved to its buffer, and in a drain it ends. -/
def Block.heldMoved (b : Block) (v : Vrecv) : Block :=
  let mine (h : HeldMsg) : Bool := h.flow == v.flow && h.frame == b.frameId &&
    match h.write with | some (t, _, _) => t == v.rtag | none => false
  let ms := b.vyv.held.filter mine
  let b := { b with vyv := { b.vyv with held := b.vyv.held.filter fun h => !mine h } }
  let b := b.each ms fun b h => match h.write, b.vrecvFor v.flow v.rtag with
    | some (_, o, data), some w => b.placeWrite w h.frame h.seq o data
    | _, _ => b
  (b.when b.pw.drain Block.vrecvEndAll).pump

/-- The block in which receive `v` of the frame is open. -/
def Block.receiveOpened (b : Block) (v : Vrecv) : Block := b.updFrm fun fr => { fr with vrecvs := fr.vrecvs ++ [v] }

theorem receiveOpened_mintQ (b : Block) (v : Vrecv) : (b.receiveOpened v).mintQ = b.mintQ := updFrm_mintQ b fun _ => rfl

theorem receiveOpened_flight (b : Block) (v : Vrecv) : (b.receiveOpened v).flight = b.flight :=
  updFrm_flight b fun _ => rfl

theorem heldMoved_idle (hheld : b.vyv.held = []) (hdrain : b.pw.drain = false) (hmq : b.mintQ = []) (v : Vrecv) :
    b.heldMoved v = b := by
  have hsame : { b with vyv := { b.vyv with held := [] } } = b := by rw [← hheld]
  simp only [Block.heldMoved, hheld, List.filter_nil, Block.each_nil, hsame, hdrain, Block.when_false, pump_idle hmq]

theorem vrecvEff_opens {idx : Nat} {d : Desc} (ht : b.takes idx d 0x39 false [0xFFF, mLo, mHi, 0x1FFFFFF, mLo] = true)
    (hopen : b.flowState (dF d 1 0 12) = 2) (hkind : (b.flow (dF d 1 0 12)).kind ≠ 1)
    (hspan : opSpan b.grade (dAddr d 2) (dF d 4 0 25) = none) (hlen : dF d 4 0 25 ≠ 0) : vrecvEff idx d b =
      (((b.issued idx d).receiveOpened (vrecvOf idx d)).heldMoved (vrecvOf idx d)).fetch := by
  have hopen' : (b.issued idx d).flowState (dF d 1 0 12) = 2 := by rw [Block.flowState, issued_flow]; exact hopen
  have hlen' : (dF d 4 0 25 == 0) = false := by simp [hlen]
  refine (descr_takes (by decide) ht _).trans ?_
  simp only [hopen', issued_flow, hkind, issued_grade, hspan, hlen', ne_eq, not_true_eq_false, if_false, Block.when_false]
  rfl

theorem fetch_vrecvs (b : Block) : b.fetch.frm.map (·.vrecvs) = b.frm.map (·.vrecvs) := by
  have hkeep (f : Frame) : (Frame.fetch b.progDesc 257 f).vrecvs = f.vrecvs := by rw [Frame.fetch_keeps]
  simp only [Block.fetch, Block.updFrm, Option.map_map, Function.comp_def, hkeep]

/-- A VRECV on an open unicast flow, no message being held and the Mint idle, opens its receive. -/
theorem dVrecv_gives (x : State) (idx : Nat) (d : Desc) (f : Frame) (hfrm : x.b.frm = some f)
    (ht : x.b.takes idx d 0x39 false [0xFFF, mLo, mHi, 0x1FFFFFF, mLo] = true) (hopen : x.b.flowState (dF d 1 0 12) = 2)
    (hkind : (x.b.flow (dF d 1 0 12)).kind ≠ 1) (hspan : opSpan x.b.grade (dAddr d 2) (dF d 4 0 25) = none)
    (hlen : dF d 4 0 25 ≠ 0) (hheld : x.b.vyv.held = []) (hdrain : x.b.pw.drain = false) (hmq : f.mq = []) :
    Gives (.dVrecv idx d) x fun t =>
      t.b.frm.map (·.vrecvs) = some (f.vrecvs ++ [vrecvOf idx d]) ∧ t.nrej = x.nrej := by
  have hfrm' : x.b.fresh.frm = some f := hfrm
  have hheld' : ((x.b.fresh.issued idx d).receiveOpened (vrecvOf idx d)).vyv.held = [] :=
    (congrArg Vyv.held (issued_vyv x.b.fresh idx d)).trans hheld
  have hdrain' : ((x.b.fresh.issued idx d).receiveOpened (vrecvOf idx d)).pw.drain = false :=
    (congrArg Power.drain (issued_pw x.b.fresh idx d)).trans hdrain
  have hmq' : ((x.b.fresh.issued idx d).receiveOpened (vrecvOf idx d)).mintQ = [] := by
    rw [receiveOpened_mintQ, issued_mintQ, Block.mintQ, hfrm']
    exact hmq
  refine Gives.of_effect rfl (vrecvEff_opens (b := x.b.fresh) ht hopen hkind hspan hlen) ?_
  rw [heldMoved_idle hheld' hdrain' hmq']
  refine ⟨?_, (inFlight_of_taken ht (receiveOpened_flight ..)).1⟩
  rw [run_frm, fetch_vrecvs, Block.receiveOpened, Block.updFrm, issued_frm, hfrm']
  rfl

/-! ## A receive that ends its wait -/

/-- The receives of the frame, and the Mint's work. -/
def Block.receives (b : Block) : Option (List Vrecv × List MintWork) := b.frm.map fun f => (f.vrecvs, f.mq)

theorem updFrm_receives {g : Frame → Frame} (hv : ∀ f, (g f).vrecvs = f.vrecvs) (hm : ∀ f, (g f).mq = f.mq) :
    (b.updFrm g).receives = b.receives := by
  simp only [Block.receives, Block.updFrm, Option.map_map, Function.comp_def, hv, hm]

theorem flag_store (b : Block) (i : Nat) : (b.flag i).store = b.store := rfl
theorem reached_store (b : Block) (i : Nat) : (b.reached i).store = b.store := rfl
theorem flag_receives (b : Block) (i : Nat) : (b.flag i).receives = b.receives := updFrm_receives (fun _ => rfl) fun _ => rfl
theorem reached_receives (b : Block) (i : Nat) : (b.reached i).receives = b.receives :=
  updFrm_receives (fun _ => rfl) fun _ => rfl
theorem hbmTouch_receives (b : Block) (a n : Nat) : (b.hbmTouch a n).receives = b.receives := by
  rw [Block.receives, (Prod.mk.inj (hbmTouch_flows b a n)).2]
  rfl

/-- The bytes of receive `v` that never came. -/
def Vrecv.gaps (v : Vrecv) : List Nat := (List.range v.len).filter fun o => v.missing o

theorem mem_gaps {v : Vrecv} {o : Nat} (hlt : o < v.len) (h : v.missing o = true) : o ∈ v.gaps :=
  List.mem_filter.mpr ⟨List.mem_range.mpr hlt, h⟩

/-- The block with zero at each of them. -/
def Block.gapsZeroed (b : Block) (v : Vrecv) : Block := b.each v.gaps fun b o => b.wrBytes (v.dst + o) [0]

theorem rd8_each_zero {l : List Nat} {a o : Nat} (h : o ∈ l ∨ b.rd8 (a + o) = 0) :
    (b.each l fun b o => b.wrBytes (a + o) [0]).rd8 (a + o) = 0 := by
  induction l generalizing b with
  | nil => exact h.resolve_left List.not_mem_nil
  | cons p l ih =>
    refine ih ?_
    by_cases hp : o = p
    · subst hp
      exact .inr (rd8_wrBytes_in b (a + o) [0] 0 (by decide))
    · rw [rd8_wrBytes_out _ _ _ _ (by simp only [List.length_singleton]; omega)]
      exact h.imp_left fun h => (List.mem_cons.mp h).resolve_left hp

/-- The frame with receive `v` complete. -/
def Block.receiveDone (b : Block) (v : Vrecv) : Block :=
  b.updFrm fun f => { f with vrecvs := f.vrecvs.map fun w => if w.idx = v.idx then { w with done := true } else w }

theorem receiveDone_store (b : Block) (v : Vrecv) : (b.receiveDone v).store = b.store := rfl

theorem receiveDone_receives (b : Block) (v : Vrecv) : (b.receiveDone v).receives = b.receives.map fun q =>
    (q.1.map fun w => if w.idx = v.idx then { w with done := true } else w, q.2) := by
  simp only [Block.receives, Block.receiveDone, Block.updFrm, Option.map_map]
  rfl

theorem vrecvEnd_eq {v : Vrecv} (hdone : v.done = false) : b.vrecvEnd v = (((b.gapsZeroed v).when (!v.gaps.isEmpty)
    fun b => (b.hbmTouch v.dst v.len).flag fTAINTED).receiveDone v).reached v.idx := by
  unfold Block.vrecvEnd
  rw [hdone]
  rfl

/-- A receive that is open ends its wait with every missing byte 0, is complete, and leaves the Mint's work. -/
theorem vrecvEnd_open {v : Vrecv} (hdone : v.done = false) :
    (b.vrecvEnd v).store = (b.gapsZeroed v).store ∧ (b.vrecvEnd v).receives = b.receives.map fun q =>
      (q.1.map fun w => if w.idx = v.idx then { w with done := true } else w, q.2) := by
  have hzero : (b.gapsZeroed v).receives = b.receives := Block.each_keep _ Block.receives _ _ fun _ _ => rfl
  rw [vrecvEnd_eq hdone, reached_store, receiveDone_store, reached_receives, receiveDone_receives, ← hzero]
  refine ⟨Block.when_keep _ Block.store _ _ ((flag_store ..).trans (hbmTouch_store ..)), ?_⟩
  rw [Block.when_keep _ Block.receives _ _ ((flag_receives ..).trans (hbmTouch_receives ..))]

theorem vrecvWaitExpiry_gives (x : State) (f : Frame) (v : Vrecv) (hfrm : x.b.frm = some f) (hv : f.vrecvs = [v])
    (hmq : f.mq = []) (hdone : v.done = false) :
    Gives (.vrecvWaitExpiry v.idx) x fun t => t.b.frm.map (·.vrecvs) = some [{ v with done := true }] ∧
      ∀ o : Fin v.len, v.missing o = true → t.b.rd8 (v.dst + o) = 0 := by
  obtain ⟨hstore, hrec⟩ := vrecvEnd_open (b := x.b.fresh) hdone
  have hfrm' : x.b.fresh.frm = some f := hfrm
  have hrec' : (x.b.fresh.vrecvEnd v).receives = some ([{ v with done := true }], []) := by
    rw [hrec, Block.receives, hfrm']
    simp [hv, hmq]
  have hidle : (x.b.fresh.vrecvEnd v).mintQ = [] := by
    obtain ⟨g, hg, hq⟩ := Option.map_eq_some_iff.mp hrec'
    rw [Block.mintQ, hg]
    exact congrArg Prod.snd hq
  have hexp : vrecvExpiry v.idx x.b.fresh = x.b.fresh.vrecvEnd v := by
    rw [vrecvExpiry, hfrm']
    simp only [hv, List.find?_cons, beq_self_eq_true, hdone, Bool.not_false, Bool.and_true, pump_idle hidle]
  refine Gives.of_effect rfl hexp ⟨?_, fun o ho => ?_⟩
  · rw [run_frm]
    have hall := congrArg (Option.map Prod.fst) hrec'
    rw [Block.receives, Option.map_map] at hall
    exact hall
  · rw [run_rd8, rd8_of_store hstore]
    exact rd8_each_zero (.inl (mem_gaps o.isLt ho))

/-! ## A hop that leaves -/

theorem unitPlain_hoptx (st : Nat) : unitPlain (TLY_HOPTX st) := by simp only [unitPlain, TLY_HOPTX, P_TLY]; omega

theorem run_rdF_unit (x : State) (f : Block → Block) {o : Nat} (h : unitPlain o) (lo w : Nat) :
    (x.run f).rdF o lo w = (f x.b.fresh).rdF o lo w := by
  simp only [State.rdF, Block.rdF, run_rd_unit x f h]
theorem updStk_rdF (b : Block) (s : Nat) (f : Stk → Stk) (o lo w : Nat) : (b.updStk s f).rdF o lo w = b.rdF o lo w := rfl
theorem fresh_rdF (x : State) (o lo w : Nat) : x.b.fresh.rdF o lo w = x.rdF o lo w := rfl
theorem bump_stk (b : Block) (o s : Nat) : (b.bump o).stk s = b.stk s := rfl

theorem tallyHopForward_stack {s idx : Nat} {h : Hop} {tr : List Word} {bytes : List Byte} {flags : Nat}
    (hq : (b.stk s).hopQ = [h]) (hidx : h.idx = idx) (hready : h.ready = some (tr, bytes, flags))
    (hstack : h.remote = false) : tallyHopForward s idx b =
      ((b.updStk s fun k => { k with hopQ := k.hopQ.filter fun g => g.idx != idx }).bump (TLY_HOPTX s)).updStk s fun k =>
        { k with fly := k.fly ++ [⟨idx, h.dstk, h.dslot, h.dtag, tr, bytes, flags, h.link⟩] } := by
  unfold tallyHopForward
  rw [hq]
  simp only [List.find?_cons, hidx, beq_self_eq_true, hready, hstack, Bool.false_eq_true, if_false]

/-- A stack hop whose tile has closed leaves for its stack, and is counted. -/
theorem tallyHopForward_gives (x : State) (st : Fin 4) (hop : Nat) (h : Hop) (tr : List Word) (bytes : List Byte) (flags : Nat)
    (hq : (x.b.stk st).hopQ = [h]) (hidx : h.idx = hop) (hready : h.ready = some (tr, bytes, flags))
    (hstack : h.remote = false) :
    Gives (.tallyHopForward st hop) x fun t => (t.b.stk st).hopQ = [] ∧
      (t.b.stk st).fly = (x.b.stk st).fly ++ [⟨hop, h.dstk, h.dslot, h.dtag, tr, bytes, flags, h.link⟩] ∧
      t.rdF (TLY_HOPTX st) 0 32 = min (x.rdF (TLY_HOPTX st) 0 32 + 1) (2 ^ 32 - 1) := by
  refine Gives.of_effect rfl (tallyHopForward_stack (b := x.b.fresh) (s := st) hq hidx hready hstack) ⟨?_, ?_, ?_⟩
  · rw [run_stk, Block.stk_updStk_same, bump_stk, Block.stk_updStk_same]
    exact (congrArg (List.filter _) hq).trans (by simp [hidx])
  · rw [run_stk, Block.stk_updStk_same, bump_stk, Block.stk_updStk_same]
    rfl
  · rw [run_rdF_unit _ _ (unitPlain_hoptx st), updStk_rdF, rdF_bump, updStk_rdF, fresh_rdF]

end Sys2Proof.Machine
end

section
/-! SUPPORT. Tensor sends and receives of a frame as a whole. -/

namespace Sys2Proof.Machine

/-- Settles O32, by its clauses: sends number their messages on the flow, a receive opens and ends its wait, a hop leaves. -/
theorem networkDescriptors : Obligations.NetworkDescriptors := by
  unfold Obligations.NetworkDescriptors
  refine ⟨?_, ?_, ?_, ?_, ?_⟩
  case refine_1 =>
    rintro x idx d ecc ⟨ht, hrec⟩ ⟨hopen, hkind, hspan⟩
    exact dVsend_gives x idx d ecc ht hopen hkind (Option.isNone_iff_eq_none.mp hspan) hrec
  case refine_2 =>
    rintro x idx d ecc ⟨ht, hrec, hlen⟩ ⟨hopen, hkind, hspan⟩
    exact dVsendStartRecord_gives x idx d ecc ht hopen hkind (Option.isNone_iff_eq_none.mp hspan) hrec hlen
  case refine_3 =>
    rintro x idx d f ⟨hfrm, ht⟩ ⟨hopen, hkind, hspan, hlen⟩ ⟨hheld, hdrain, hmq⟩
    exact dVrecv_gives x idx d f hfrm ht hopen hkind (Option.isNone_iff_eq_none.mp hspan) hlen hheld hdrain hmq
  case refine_4 =>
    rintro x idx f v ⟨hfrm, hv, hmq⟩ ⟨rfl, hdone⟩
    exact vrecvWaitExpiry_gives x f v hfrm hv hmq hdone
  case refine_5 =>
    rintro x st hop h tr bytes flags ⟨hq, hidx⟩ ⟨hready, hstack⟩
    exact tallyHopForward_gives x st hop h tr bytes flags hq hidx hready hstack

end Sys2Proof.Machine
end

section
/-! SUPPORT. The work of the Mint while it has one job (R218, R236, R281): the job begins, and then waits for the passes that
it feeds, or ends. -/

namespace Sys2Proof.Machine

variable {b c : Block} {j : MintJob} {w : MintWork} {out : List MintOut} {fin : List (Nat × List Byte)}

/-- Job `j` as it comes to its units. -/
def MintJob.waiting (j : MintJob) : MintWork := ⟨j, false, [], []⟩

/-- The block in which job `j` has begun, with what it leaves to do. -/
def Block.jobBegun (b : Block) (j : MintJob) (out : List MintOut) (fin : List (Nat × List Byte)) : Block :=
  b.setWork j.idx fun w => { w with begun := true, out := out, fin := fin }

theorem setWork_mintQ (b : Block) (idx : Nat) (g : MintWork → MintWork) :
    (b.setWork idx g).mintQ = b.mintQ.map fun w => if w.job.idx = idx then g w else w := by
  simp only [Block.mintQ, Block.setWork, Block.updFrm]
  cases b.frm <;> rfl

theorem dropWork_mintQ (b : Block) (idx : Nat) : (b.dropWork idx).mintQ = b.mintQ.filter fun w => w.job.idx != idx := by
  simp only [Block.mintQ, Block.dropWork, Block.updFrm]
  cases b.frm <;> rfl

theorem jobBegun_mintQ (hq : b.mintQ = [j.waiting]) : (b.jobBegun j out fin).mintQ = [⟨j, true, out, fin⟩] := by
  simp [Block.jobBegun, setWork_mintQ, hq, MintJob.waiting]

/-! ## Turns and rounds -/

theorem pumpRounds_idle (hq : b.mintQ = []) (n : Nat) : Block.pumpRounds n b = b := by
  cases n with
  | zero => rfl
  | succ n => simp [Block.pumpRounds, hq]

/-- A round over one job is one turn of it; where that does something, another round follows. -/
theorem pumpRounds_single (hq : b.mintQ = [w]) (n : Nat) : Block.pumpRounds (n + 1) b =
    if (b.workTurn w.job.idx).2 then Block.pumpRounds n (b.workTurn w.job.idx).1 else (b.workTurn w.job.idx).1 := by
  simp [Block.pumpRounds, hq]

theorem workTurn_begins (hq : b.mintQ = [j.waiting]) (hready : b.mintReady j = true)
    (hbegin : b.mintBegin j = (c, some (out, fin))) : b.workTurn j.idx = (c.jobBegun j out fin, true) := by
  simp [Block.workTurn, Block.workBegin, hq, MintJob.waiting, hready, hbegin, Block.jobBegun]

theorem workTurn_ends (hq : b.mintQ = [⟨j, true, [], fin⟩]) : b.workTurn j.idx = (b.workEnd ⟨j, true, [], fin⟩, true) := by
  simp [Block.workTurn, hq]

theorem turns_waiting (hq : b.mintQ = [j.waiting]) : ∃ n, b.turns = n + 3 :=
  ⟨2 * j.rows * j.slices, by simp [Block.turns, hq, MintJob.waiting]; omega⟩

/-- A job whose checks pass begins, and rounds remain. -/
theorem pump_begins (hq : b.mintQ = [j.waiting]) (hready : b.mintReady j = true)
    (hbegin : b.mintBegin j = (c, some (out, fin))) : ∃ n, b.pump = Block.pumpRounds (n + 2) (c.jobBegun j out fin) := by
  obtain ⟨n, hn⟩ := turns_waiting hq
  refine ⟨n, ?_⟩
  rw [Block.pump, hn, pumpRounds_single hq, MintJob.waiting, workTurn_begins hq hready hbegin, if_pos rfl]

/-! ## Deliveries that no pass takes -/

/-- Does delivery `o` wait for engines none of which has a pass? -/
def Block.Blocked (b : Block) (o : MintOut) : Prop := o.engs ≠ [] ∧ ∀ e ∈ o.engs, (b.eng e).passes = []

theorem passTakes_none {e : Nat} (h : (b.eng e).passes = []) (bus : Nat) : b.passTakes e bus = none := by
  simp only [Block.passTakes, h]

theorem sendOn_blocked (h : ∀ o ∈ w.out, b.Blocked o) (u : Nat) : b.sendOn w u = (b, false) := by
  unfold Block.sendOn
  split
  · rfl
  · next o ho =>
    obtain ⟨hne, hpass⟩ := h o (List.mem_of_find?_eq_some ho)
    have hts : (o.engs.filterMap fun e => (b.passTakes e o.sym.bus).map fun q => (e, q.1, q.2)) = [] :=
      List.filterMap_eq_nil_iff.mpr fun e he => by rw [passTakes_none (hpass e he)]; rfl
    simp only [hts, List.length_nil, List.length_pos_iff.mpr hne, if_true]
    split <;> rfl

/-- A job that has begun and whose deliveries no pass takes has nothing to do. -/
theorem workTurn_blocked (hq : b.mintQ = [⟨j, true, out, fin⟩]) (hout : out ≠ []) (h : ∀ o ∈ out, b.Blocked o) :
    b.workTurn j.idx = (b, false) := by
  have hfind : (b.mintQ.find? fun w => w.job.idx == j.idx) = some ⟨j, true, out, fin⟩ := by simp [hq]
  have hempty : out.isEmpty = false := by simpa using hout
  simp only [Block.workTurn, hfind, hempty, Bool.not_true, Bool.false_eq_true, if_false]
  generalize j.units = us
  induction us with
  | nil => rfl
  | cons u us ih =>
    rw [List.foldl_cons, hfind, Option.getD_some, sendOn_blocked h, Bool.or_self]
    exact ih

/-- A job that begins with deliveries that no pass takes holds them. -/
theorem pump_holds (hq : b.mintQ = [j.waiting]) (hready : b.mintReady j = true)
    (hbegin : b.mintBegin j = (c, some (out, fin))) (hcq : c.mintQ = [j.waiting]) (hout : out ≠ [])
    (h : ∀ o ∈ out, c.Blocked o) : b.pump = c.jobBegun j out fin := by
  obtain ⟨n, hn⟩ := pump_begins hq hready hbegin
  have hq' : (c.jobBegun j out fin).mintQ = _ := jobBegun_mintQ hcq
  rw [hn, pumpRounds_single hq', workTurn_blocked hq' hout h, if_neg Bool.false_ne_true]

theorem workEnd_mintQ (hq : b.mintQ = [w]) : (b.workEnd w).mintQ = [] := by
  have hkeep : (b.each w.fin fun b x => (b.wrBytes x.1 x.2).hbmTouch x.1 x.2.length).mintQ = b.mintQ :=
    Block.each_keep _ Block.mintQ _ _ fun b x => by
      obtain ⟨cnt, h⟩ := hbmTouch_eq (b.wrBytes x.1 x.2) x.1 x.2.length
      rw [h]
      rfl
  exact (reached_mintQ ..).trans ((dropWork_mintQ ..).trans (by rw [hkeep, hq]; simp))

/-- A job that begins with nothing to deliver ends. -/
theorem pump_completes (hq : b.mintQ = [j.waiting]) (hready : b.mintReady j = true)
    (hbegin : b.mintBegin j = (c, some ([], fin))) (hcq : c.mintQ = [j.waiting]) :
    b.pump = (c.jobBegun j [] fin).workEnd ⟨j, true, [], fin⟩ := by
  obtain ⟨n, hn⟩ := pump_begins hq hready hbegin
  have hq' : (c.jobBegun j [] fin).mintQ = _ := jobBegun_mintQ hcq
  rw [hn, pumpRounds_single hq', workTurn_ends hq', if_pos rfl, pumpRounds_idle (workEnd_mintQ hq')]

end Sys2Proof.Machine
end

section
/-! SUPPORT. The deliveries of a tensor (R218, R289): there is one at least, and each feeds an engine of its unit. -/

namespace Sys2Proof.Machine

variable {j : MintJob} {flags k : Nat} {syms : Nat → Nat → List (List Nat × Bool)} {o : MintOut}

/-- A job that names elements, rows and units (R236). -/
structure MintJob.Shaped (j : MintJob) : Prop where
  n : j.n ≠ 0
  rows : j.rows ≠ 0
  units : j.units ≠ []

/-- The unit of slice `k` of a row, and the engines it feeds with it. -/
def MintJob.unitOf (j : MintJob) (k : Nat) : Nat := j.units.getD (k % j.units.length) 0
def MintJob.engsOf (j : MintJob) (k : Nat) : List Nat :=
  if j.bcast then j.emask (j.unitOf k) else
    match (j.emask (j.unitOf k))[k / j.units.length]? with | some e => [e] | none => []

theorem mem_deliveries (h : o ∈ deliveries j flags syms) :
    ∃ k < j.slices, o.engs = (j.engsOf k).map (16 * (j.unitOf k / 4) + ·) := by
  simp only [deliveries, List.mem_flatMap, List.mem_map, List.mem_range] at h
  obtain ⟨r, -, k, hk, ⟨y, i⟩, -, rfl⟩ := h
  exact ⟨k, hk, rfl⟩

theorem MintJob.Shaped.slices (h : j.Shaped) : 0 < j.slices := by
  have := h.n
  unfold MintJob.slices
  omega

theorem deliveries_ne_nil (h : j.Shaped) (hsyms : ∀ r k, syms r k ≠ []) : deliveries j flags syms ≠ [] := by
  intro hnil
  have hrow := List.flatMap_eq_nil_iff.mp hnil 0 (List.mem_range.mpr (Nat.pos_of_ne_zero h.rows))
  have hslice := List.flatMap_eq_nil_iff.mp hrow 0 (List.mem_range.mpr h.slices)
  refine hsyms 0 0 ?_
  simpa [List.zip_eq_nil_iff] using hslice

theorem sliceSyms_ne_nil (a13 : Bool) (codes : List Int) : sliceSyms a13 codes ≠ [] := by
  cases a13 <;> exact List.cons_ne_nil _ _

theorem rowSyms_ne_nil (a13 : Bool) (rows : List (List Int)) (r k : Nat) : rowSyms a13 rows r k ≠ [] :=
  sliceSyms_ne_nil _ _

theorem MintJob.Shaped.unitOf_index (h : j.Shaped) (k : Nat) : k % j.units.length < j.units.length :=
  Nat.mod_lt _ (List.length_pos_iff.mpr h.units)

theorem MintJob.Shaped.unitOf_eq (h : j.Shaped) (k : Nat) : j.unitOf k = j.units[k % j.units.length]'(h.unitOf_index k) :=
  List.getD_eq_getElem _ _ (h.unitOf_index k)

theorem MintJob.Shaped.unitOf_mem (h : j.Shaped) (k : Nat) : j.unitOf k ∈ j.units := by
  rw [h.unitOf_eq]
  exact List.getElem_mem _

theorem MintJob.Shaped.unitOf_lt (h : j.Shaped) (k : Nat) : j.unitOf k < 16 :=
  List.mem_range.mp (List.mem_filter.mp (h.unitOf_mem k)).1

theorem emask_lt {u e : Nat} (h : e ∈ j.emask u) : e < 16 := List.mem_range.mp (List.mem_filter.mp h).1

theorem engsOf_lt {e : Nat} (h : e ∈ j.engsOf k) : e < 16 := by
  unfold MintJob.engsOf at h
  split at h
  · exact emask_lt h
  · split at h
    · next he =>
      rw [List.mem_singleton.mp h]
      exact emask_lt (List.mem_of_getElem? he)
    · cases h

/-- Of the numbers below `n` more than `k / l` leave the remainder of `k` by `l`, where `k` is one of them. -/
theorem div_lt_length_sameRem {k l n : Nat} (hl : 0 < l) (hk : k < n) :
    k / l < ((List.range n).filter fun m => m % l == k % l).length := by
  have hsub : (List.range (k / l + 1)).map (fun m => k % l + l * m) ⊆ (List.range n).filter fun m => m % l == k % l := by
    intro x hx
    obtain ⟨m, hm, rfl⟩ := List.mem_map.mp hx
    have hle : l * m ≤ l * (k / l) := Nat.mul_le_mul_left l (Nat.lt_succ_iff.mp (List.mem_range.mp hm))
    have hdiv := Nat.mod_add_div k l
    simp only [List.mem_filter, List.mem_range, beq_iff_eq, Nat.add_mul_mod_self_left, Nat.mod_mod, and_true]
    omega
  have hinj : Function.Injective fun m => k % l + l * m := fun x y hxy =>
    Nat.eq_of_mul_eq_mul_left hl (Nat.add_left_cancel hxy)
  have hlen := (List.subperm_of_subset (List.nodup_range.map hinj) hsub).length_le
  rwa [List.length_map, List.length_range] at hlen

/-- Where the slices are dealt out, the unit of slice `k` has an engine for it (R289). -/
theorem MintJob.Shaped.emask_dealt (h : j.Shaped) (hok : j.emaskOk = true) (hdbus : j.dbus = true) (hdealt : j.bcast = false)
    (hk : k < j.slices) : k / j.units.length < (j.emask (j.unitOf k)).length := by
  simp only [MintJob.emaskOk, hdbus, hdealt, Bool.not_true, Bool.or_self, Bool.false_or, List.all_eq_true] at hok
  have hi := h.unitOf_index k
  have hmem : (j.units[k % j.units.length], k % j.units.length) ∈ j.units.zip (List.range j.units.length) :=
    List.mem_iff_getElem.mpr ⟨k % j.units.length, by simpa using hi, by simp⟩
  have hcount := beq_iff_eq.mp (hok _ hmem)
  rw [h.unitOf_eq, hcount]
  exact div_lt_length_sameRem (List.length_pos_iff.mpr h.units) hk

/-- Every slice feeds an engine (R289). -/
theorem MintJob.Shaped.engsOf_ne_nil (h : j.Shaped) (hok : j.emaskOk = true) (hdbus : j.dbus = true) (hfeeds : j.feeds = true)
    (hk : k < j.slices) : j.engsOf k ≠ [] := by
  unfold MintJob.engsOf
  cases hb : j.bcast with
  | true =>
    simp only [MintJob.feeds, hb, Bool.not_true, Bool.false_or, List.all_eq_true] at hfeeds
    simpa using hfeeds _ (h.unitOf_mem k)
  | false =>
    rw [List.getElem?_eq_getElem (h.emask_dealt hok hdbus hb hk)]
    exact List.cons_ne_nil _ _

/-- While no resident pass waits, no delivery of a tensor can be sent. -/
theorem MintJob.Shaped.deliveries_blocked (h : j.Shaped) (hok : j.emaskOk = true) (hdbus : j.dbus = true)
    (hfeeds : j.feeds = true) {b : Block} (hpass : ∀ st < 4, b.noPass st = true) (ho : o ∈ deliveries j flags syms) :
    b.Blocked o := by
  obtain ⟨k, hk, hengs⟩ := mem_deliveries ho
  rw [Block.Blocked, hengs]
  refine ⟨fun hnil => h.engsOf_ne_nil hok hdbus hfeeds hk (List.map_eq_nil_iff.mp hnil), fun e he => ?_⟩
  obtain ⟨x, hx, rfl⟩ := List.mem_map.mp he
  have hu := h.unitOf_lt k
  have hall := hpass (j.unitOf k / 4) (by omega)
  exact List.isEmpty_iff.mp (List.all_eq_true.mp hall x (List.mem_range.mpr (engsOf_lt hx)))

end Sys2Proof.Machine
end

section
/-! SUPPORT. What a job of the Mint leaves as it begins (R216, R217, R219, R236): its deliveries and last writes are those of its
rows, and it keeps the engines, what is in flight, the work of the Mint and the saturation thresholds. -/

namespace Sys2Proof.Machine

variable {b c : Block} {j : MintJob} {p : MProf}

/-! ## What a job keeps while it begins -/

/-- The MINT that waits in the frame, and the Mint's work there. -/
def Block.mintWork (b : Block) : Option (Option MintJob × List MintWork) := b.frm.map fun f => (f.mint, f.mq)

/-- The engines, what is in flight, the Mint's work, and the saturation thresholds (R219). -/
def Block.mintView (b : Block) : SMap Eng × Option (List Infl × Nat) × Option (Option MintJob × List MintWork) × (Fin 4 → Word) :=
  (b.engs, b.flight, b.mintWork, fun k => b.rd (MNT_THR k))

theorem mintQ_of_mintWork (h : c.mintWork = b.mintWork) : c.mintQ = b.mintQ := by
  have hq (b : Block) : b.mintQ = (b.mintWork.map Prod.snd).getD [] := by
    unfold Block.mintQ Block.mintWork
    cases b.frm <;> rfl
  rw [hq, hq, h]

theorem updFrm_mintView {g : Frame → Frame} (hflight : ∀ f, (g f).flight = f.flight)
    (hwork : ∀ f, ((g f).mint, (g f).mq) = (f.mint, f.mq)) : (b.updFrm g).mintView = b.mintView := by
  have hw : (b.updFrm g).mintWork = b.mintWork := by
    simp only [Block.mintWork, Block.updFrm, Option.map_map, Function.comp_def, hwork]
  simp only [Block.mintView, updFrm_flight b hflight, hw]
  rfl

theorem wr_mintView {o : Nat} (h : ∀ k : Fin 4, MNT_THR k ≠ o) (v : Word) : (b.wr o v).mintView = b.mintView := by
  unfold Block.mintView
  simp only [Block.rd_wr_ne _ v (h _)]
  rfl

theorem bump_mintView {o : Nat} (h : ∀ k : Fin 4, MNT_THR k ≠ o) (n : Nat) : (b.bump o n).mintView = b.mintView :=
  wr_mintView h _
theorem setB_mintView {o : Nat} (h : ∀ k : Fin 4, MNT_THR k ≠ o) (i : Nat) : (b.setB o i).mintView = b.mintView :=
  wr_mintView h _
theorem raise_mintView {o : Nat} (h : ∀ k : Fin 4, MNT_THR k ≠ PG_ISTAT o) (i : Nat) :
    (b.raise o i).mintView = b.mintView := wr_mintView h _
theorem ev_mintView (code i : Nat) (l : List (Nat × Nat)) : (b.ev code i l).mintView = b.mintView := rfl
theorem flag_mintView (x : Nat) : (b.flag x).mintView = b.mintView := updFrm_mintView (fun _ => rfl) fun _ => rfl
theorem wrBytes_mintView (a : Nat) (bs : List Byte) : (b.wrBytes a bs).mintView = b.mintView := rfl
theorem hbmTouch_mintView (a n : Nat) : (b.hbmTouch a n).mintView = b.mintView := by
  obtain ⟨cnt, h⟩ := hbmTouch_eq b a n
  rw [h]
  rfl

/-- The registers that a job writes as it begins, beside `MNT_SATCNT`. -/
def mintRegs : List Nat :=
  [MNT_NONFIN, MNT_ERR, PG_ISTAT P_MNT, HBM_CECNT, HBM_UECNT, HBM_ERR, HBM_UEADDR_LO, HBM_UEADDR_HI, PG_ISTAT P_HBM]

theorem mntThr_ne {o : Nat} (ho : o ∈ mintRegs) (k : Fin 4) : MNT_THR k ≠ o := by
  have hnot : ∀ k : Fin 4, MNT_THR k ∉ mintRegs := by decide
  exact fun h => hnot k (h ▸ ho)

theorem mntThr_ne_satcnt (k : Fin 4) (n : Nat) : MNT_THR k ≠ MNT_SATCNT n := by
  unfold MNT_THR MNT_SATCNT
  omega

theorem eccSeen_mintView (x : Ecc) (cons : Nat) : (b.eccSeen x cons).mintView = b.mintView := by
  refine (Block.each_keep _ Block.mintView _ _ fun b a => ?_).trans (Block.each_keep _ Block.mintView _ _ fun b a => ?_)
  · rw [ev_mintView, raise_mintView, wr_mintView, wr_mintView, setB_mintView, bump_mintView]
    all_goals exact mntThr_ne (by simp [mintRegs])
  · rw [ev_mintView, setB_mintView, bump_mintView]
    all_goals exact mntThr_ne (by simp [mintRegs])

theorem mintRead_mintView (n : Nat) : (b.mintRead j n).mintView = b.mintView :=
  (Block.when_keep _ Block.mintView _ _ (flag_mintView _)).trans
    ((eccSeen_mintView ..).trans (Block.each_keep _ Block.mintView _ _ fun _ _ => hbmTouch_mintView ..))

/-! ## Conversions -/

theorem rdF_thr_of_mintView (h : c.mintView = b.mintView) (k : Fin 4) (lo n : Nat) :
    c.rdF (MNT_THR k) lo n = b.rdF (MNT_THR k) lo n := by
  simp only [Block.mintView, Prod.mk.injEq] at h
  obtain ⟨-, -, -, hthr⟩ := h
  exact congrArg (fld · lo n) (congrFun hthr k)

/-- The non-finite element of a tensor that is recorded, where there is one (R215). -/
def Block.nonfinSeen (b : Block) (j : MintJob) (nonfin : Nat) : Option (Nat × Nat) → Block
  | some (r, c) => (((b.bump MNT_NONFIN nonfin).setB MNT_ERR 2).raise P_MNT 2).ev 0x4302 0 [(2, j.ord), (2, r), (2, c)]
  | none => b

theorem nonfinSeen_mintView (nonfin : Nat) (first : Option (Nat × Nat)) :
    (b.nonfinSeen j nonfin first).mintView = b.mintView := by
  cases first with
  | none => rfl
  | some x =>
    refine (ev_mintView ..).trans ?_
    rw [raise_mintView, setB_mintView, bump_mintView]
    all_goals exact mntThr_ne (by simp [mintRegs])

/-- The statistics of a tensor: whether it saturated follows from its threshold alone (R219). -/
theorem mintStats_leaves (cset : Fin 4) (conv clip nonfin : Nat) (first : Option (Nat × Nat)) :
    (b.mintStats j cset conv clip nonfin first).1.mintView = b.mintView ∧
      (b.mintStats j cset conv clip nonfin first).2 = decide (b.rdF (MNT_THR cset) 0 17 * conv < clip * 65536) := by
  have hview := nonfinSeen_mintView (b := b) (j := j) nonfin first
  refine ⟨Eq.trans ?_ hview, ?_⟩
  · refine (Block.when_keep _ Block.mintView _ _ ?_).trans (updFrm_mintView (fun _ => rfl) fun _ => rfl)
    rw [flag_mintView, ev_mintView, raise_mintView (mntThr_ne ?_), setB_mintView (mntThr_ne ?_),
      bump_mintView fun k => mntThr_ne_satcnt k _]
    all_goals simp [mintRegs]
  · rw [← rdF_thr_of_mintView hview]
    rfl

/-- What a conversion to `rows` leaves to do: the deliveries, with CLIP where it saturated (R219), and its scale array and
summary. -/
def MintJob.tailOf (j : MintJob) (p : MProf) (rows : List ConvRow) (sat : Bool) : MintTail :=
  (if j.dbus then deliveries j (if sat then fCLIP else 0) (rowSyms (p.fmt == 1) (rows.map (·.codes))) else [],
   j.finWrites p.fmt (rows.map (·.scale)) (totals rows).1 (totals rows).2.1 sat ((totals rows).2.2.1 != 0))

/-- The statistics of a conversion to `rows`. -/
def Block.rowStats (b : Block) (j : MintJob) (p : MProf) (rows : List ConvRow) : Block × Bool :=
  b.mintStats j p.cset (totals rows).1 (totals rows).2.1 (totals rows).2.2.1 (totals rows).2.2.2

/-- Wide values and codes are stored, then the statistics follow. -/
theorem mintConvert_stores (b : Block) (j : MintJob) (p : MProf) : ∃ c : Block, c.mintView = b.mintView ∧
    b.mintConvert j p = ((c.rowStats j p (b.mintRows j p)).1,
      j.tailOf p (b.mintRows j p) (c.rowStats j p (b.mintRows j p)).2) := by
  refine ⟨_, ?_, rfl⟩
  refine (Block.each_keep _ Block.mintView _ _ fun b x => ?_).trans ((mintRead_mintView _).trans
    (Block.each_keep _ Block.mintView _ _ fun _ _ => wrBytes_mintView ..))
  refine (hbmTouch_mintView ..).trans ((wrBytes_mintView ..).trans ?_)
  change (if p.fmt = 3 ∧ j.n % 2 = 1 then b.freeUpTo 15 else (0, b)).2.mintView = b.mintView
  split <;> rfl

theorem mintConvert_leaves (hcset : p.cset < 4) : ∃ c : Block, c.mintView = b.mintView ∧
    b.mintConvert j p = (c, j.tailOf p (b.mintRows j p) (b.mintSat j p)) := by
  obtain ⟨c, hview, hconv⟩ := mintConvert_stores b j p
  obtain ⟨hstats, hsat⟩ := mintStats_leaves (b := c) (j := j) ⟨p.cset, hcset⟩ (totals (b.mintRows j p)).1
    (totals (b.mintRows j p)).2.1 (totals (b.mintRows j p)).2.2.1 (totals (b.mintRows j p)).2.2.2
  have hsat' : (c.rowStats j p (b.mintRows j p)).2 = b.mintSat j p :=
    hsat.trans (by rw [rdF_thr_of_mintView hview]; rfl)
  exact ⟨_, hstats.trans hview, hconv.trans (by rw [hsat']; rfl)⟩

theorem mprof_cset_lt (b : Block) (k : Nat) : (b.mprof k).cset < 4 := by
  simp only [Block.mprof, profOf, fld, bits]
  omega

/-- The shape of a conversion that is not rejected (R236). -/
theorem shaped_of_mintReason (h : (b.mintReason j p).isNone = true) :
    j.Shaped ∧ (j.dbus = true → p.fmt < 2) := by
  rw [Option.isNone_iff_eq_none] at h
  unfold Block.mintReason at h
  simp only at h
  split at h
  · cases h
  · next hs =>
    simp only [not_or, Bool.and_eq_true, decide_eq_true_eq, not_and, Nat.not_le, List.isEmpty_iff] at hs
    obtain ⟨hn, -, hrows, hunits, hfmt, -⟩ := hs
    exact ⟨⟨hn, hrows, hunits⟩, hfmt⟩

/-- A conversion that meets no cause of rejection begins (R210, R236). -/
theorem mintBegin_converts (hmop : j.mop = 0) (hp : p = b.mprof (j.w 1 0 4)) (hfmt : p.fmt < 4)
    (hreason : (b.mintReason j p).isNone = true) (hspan : (firstSpanErr b.grade (j.spans p)).isNone = true) :
    ∃ c : Block, c.mintView = b.mintView ∧
      b.mintBegin j = (c, some (j.tailOf p (b.mintRows j p) (b.mintSat j p))) := by
  obtain ⟨c, hview, hconv⟩ := mintConvert_leaves (b := b) (j := j) (p := p) (hp ▸ mprof_cset_lt ..)
  refine ⟨c, hview, ?_⟩
  rw [Option.isNone_iff_eq_none] at hreason hspan
  simp only [Block.mintBegin, hmop, ← hp, hreason, hspan, hconv, Nat.not_le.mpr hfmt, ne_eq, not_true_eq_false, if_false]

/-! ## Replays -/

/-- The deliveries of a replay of stored codes (R217). -/
def Block.replayed (b : Block) (j : MintJob) : List MintOut :=
  deliveries j (if (b.rdLE (j.sumaddr + 8) 4).testBit 1 then fCLIP else 0) fun r k =>
    sliceSyms (b.replaySize j == 2) (b.replaySlice j (b.replaySize j) r k).1

theorem shaped_of_replayOk (h : b.replayOk j = true) : j.Shaped := by
  simp only [Block.replayOk, Bool.and_eq_true, decide_eq_true_eq, Bool.not_eq_true', List.isEmpty_eq_false_iff] at h
  obtain ⟨⟨⟨⟨hn, -, hrows, -⟩, hunits⟩, -⟩, -⟩ := h
  exact ⟨by omega, by omega, hunits⟩

/-- A replay that passes its checks begins (R217). -/
theorem mintBegin_replays (hmop : j.mop = 1) (h : b.replayOk j = true) :
    ∃ c : Block, c.mintView = b.mintView ∧ b.mintBegin j = (c, some (b.replayed j, [])) := by
  simp only [Block.replayOk, Bool.and_eq_true, decide_eq_true_eq, Bool.not_eq_true', List.isEmpty_eq_false_iff,
    Option.isNone_iff_eq_none] at h
  obtain ⟨⟨⟨⟨hn, hmax, hrows, hvalid, hfmt⟩, hunits⟩, hmasks⟩, hspan⟩ := h
  have hshape : ¬ (j.n = 0 ∨ 16384 < j.n ∨ j.rows = 0 ∨ j.units.isEmpty = true ∨
      ((List.range 16).any fun u => !j.units.contains u && !(j.emask u).isEmpty) = true) := by
    rintro (h | h | h | h | h)
    · omega
    · omega
    · omega
    · exact hunits (List.isEmpty_iff.mp h)
    · obtain ⟨u, hu, hbad⟩ := List.any_eq_true.mp h
      have hgood := List.all_eq_true.mp hmasks u hu
      simp only [Bool.and_eq_true, Bool.not_eq_true'] at hbad
      simp only [hbad, Bool.or_self, Bool.false_eq_true] at hgood
  have hsum : ¬ (b.rdLE (j.sumaddr + 8) 4 % 2 = 0 ∨ 1 < bits (b.rdLE (j.sumaddr + 12) 4) 0 4) := by omega
  have hmop2 : ¬ j.mop = 2 := by omega
  refine ⟨(((b.mintRead j (b.replaySize j * j.n)).hbmTouch j.scaddr (4 * j.rows)).hbmTouch j.sumaddr 16).when
    ((b.rdLE (j.sumaddr + 8) 4).testBit 1) fun b => b.flag fCLIP, ?_, ?_⟩
  · exact (Block.when_keep _ Block.mintView _ _ (flag_mintView _)).trans
      ((hbmTouch_mintView ..).trans ((hbmTouch_mintView ..).trans (mintRead_mintView _)))
  · have hmop0 : j.mop ≠ 0 := by omega
    simp only [Block.mintBegin, if_pos hmop0, Block.mintReplay, if_neg hshape, hspan, if_neg hsum, if_neg hmop2]
    rfl

end Sys2Proof.Machine
end

section
/-! SUPPORT. A job of the Mint that comes to its units while they have no other (R218, R281, R288): it holds its deliveries, or
writes its summary and completes. -/

namespace Sys2Proof.Machine

variable {b c : Block} {j : MintJob} {f : Frame} {fin : List (Nat × List Byte)}

/-- The block in which job `j` has come to its units. -/
def Block.jobQueued (b : Block) (j : MintJob) : Block := b.updFrm fun f => { f with mq := f.mq ++ [j.waiting] }

theorem jobQueued_flight (b : Block) (j : MintJob) : (b.jobQueued j).flight = b.flight := updFrm_flight b fun _ => rfl

theorem jobQueued_mintWork (hf : b.frm = some f) (hq : f.mq = []) :
    (b.jobQueued j).mintWork = some (f.mint, [j.waiting]) := by
  simp only [Block.mintWork, Block.jobQueued, Block.updFrm, hf, Option.map_some, hq, List.nil_append]

theorem mintQ_of_some {x : Option MintJob} {q : List MintWork} (h : b.mintWork = some (x, q)) : b.mintQ = q := by
  obtain ⟨g, hg, hgq⟩ := Option.map_eq_some_iff.mp h
  rw [Block.mintQ, hg]
  exact congrArg Prod.snd hgq

theorem mintIssue_queues (hfields : b.mintFieldsBad j = false) : b.mintIssue j = (b.jobQueued j).pump := by
  rw [Block.mintIssue, hfields, if_neg Bool.false_ne_true]
  rfl

theorem emaskOk_of_fields (h : b.mintFieldsBad j = false) : j.emaskOk = true := by
  simp only [Block.mintFieldsBad, Bool.or_eq_false_iff, Bool.not_eq_false'] at h
  obtain ⟨⟨-, hok⟩, -⟩ := h
  exact hok

theorem dbus_of_fields (hmop : j.mop ≠ 0) (h : b.mintFieldsBad j = false) : j.dbus = true := by
  simp only [Block.mintFieldsBad, bne_iff_ne.mpr hmop, Bool.true_and, Bool.or_eq_false_iff, Bool.not_eq_false'] at h
  obtain ⟨⟨⟨-, -, hdbus⟩, -⟩, -⟩ := h
  exact hdbus

theorem mintReady_stored (hmop : j.mop ≠ 2) : b.mintReady j = true := by
  simp [Block.mintReady, hmop]

theorem jobBegun_flight (out : List MintOut) : (b.jobBegun j out fin).flight = b.flight := updFrm_flight b fun _ => rfl

/-- A job for the buses that begins, while no resident pass waits, holds its deliveries. -/
theorem mintIssue_holds {flags : Nat} {syms : Nat → Nat → List (List Nat × Bool)} (hf : b.frm = some f) (hq : f.mq = [])
    (hfields : b.mintFieldsBad j = false) (hmop : j.mop ≠ 2) (hshape : j.Shaped) (hsyms : ∀ r k, syms r k ≠ [])
    (hdbus : j.dbus = true) (hfeeds : j.feeds = true) (hpass : ∀ st < 4, b.noPass st = true)
    (hview : c.mintView = (b.jobQueued j).mintView)
    (hbegin : (b.jobQueued j).mintBegin j = (c, some (deliveries j flags syms, fin))) :
    (b.mintIssue j).flight = b.flight ∧ (b.mintIssue j).mintQ = [⟨j, true, deliveries j flags syms, fin⟩] := by
  simp only [Block.mintView, Prod.mk.injEq] at hview
  obtain ⟨hengs, hflight, hwork, -⟩ := hview
  have hqueue := mintQ_of_some (jobQueued_mintWork (j := j) hf hq)
  have hcqueue := (mintQ_of_mintWork hwork).trans hqueue
  have hpass' : ∀ st < 4, c.noPass st = true := fun st hst => by
    simpa only [Block.noPass, Block.eng, hengs, Block.jobQueued, Block.updFrm_engs] using hpass st hst
  rw [mintIssue_queues hfields, pump_holds hqueue (mintReady_stored hmop) hbegin hcqueue (deliveries_ne_nil hshape hsyms)
    fun o ho => hshape.deliveries_blocked (emaskOk_of_fields hfields) hdbus hfeeds hpass' ho]
  exact ⟨(jobBegun_flight _).trans (hflight.trans (jobQueued_flight ..)), jobBegun_mintQ hcqueue⟩

/-! ## The last writes of a job -/

/-- The block in which the last writes of a job stand in memory (R216). -/
def Block.finWritten (b : Block) (fin : List (Nat × List Byte)) : Block :=
  b.each fin fun b x => (b.wrBytes x.1 x.2).hbmTouch x.1 x.2.length

theorem finWritten_mintView (fin : List (Nat × List Byte)) : (b.finWritten fin).mintView = b.mintView :=
  Block.each_keep _ Block.mintView _ _ fun _ _ => (hbmTouch_mintView ..).trans (wrBytes_mintView ..)

/-- Bytes just written read as written. -/
theorem rdBytes_wrBytes (b : Block) (a : Nat) (bs : List Byte) : (b.wrBytes a bs).rdBytes a bs.length = bs :=
  List.ext_getElem (by simp [Block.rdBytes, SMap.getMany]) fun i _ hi => by
    simp only [Block.rdBytes, SMap.getMany, List.getElem_map, List.getElem_range]
    exact rd8_wrBytes_in b a bs i hi

theorem each_snoc {α : Type} (b : Block) (l : List α) (x : α) (eff : Block → α → Block) :
    b.each (l ++ [x]) eff = eff (b.each l eff) x := by
  simp only [Block.each, List.foldl_append, List.foldl_cons, List.foldl_nil]

theorem finWritten_last (l : List (Nat × List Byte)) (a : Nat) (bs : List Byte) :
    b.finWritten (l ++ [(a, bs)]) = ((b.finWritten l).wrBytes a bs).hbmTouch a bs.length := each_snoc ..

theorem rdBytes_finWritten_last (l : List (Nat × List Byte)) (a : Nat) (bs : List Byte) :
    (b.finWritten (l ++ [(a, bs)])).rdBytes a bs.length = bs := by
  rw [finWritten_last, rdBytes_of_store (hbmTouch_store ..), rdBytes_wrBytes]

theorem length_summaryBytes (conv clip : Nat) (sat nonfin : Bool) (fmt : Nat) :
    (summaryBytes conv clip sat nonfin fmt).length = 16 := by
  simp only [summaryBytes, List.length_append, length_bytesLE]

/-- A conversion that stores codes writes its scale array, then its summary (R216). -/
theorem finWrites_stored (h : j.dmem = true) (fmt : Nat) (scales : List Word) (conv clip : Nat) (sat nonfin : Bool) :
    j.finWrites fmt scales conv clip sat nonfin = [(j.scaddr, scales.flatMap fun s => bytesLE 4 s.toNat)] ++
      [(j.sumaddr, summaryBytes conv clip sat nonfin fmt)] := by
  simp only [MintJob.finWrites, h, Bool.true_or, if_true]

theorem rdBytes_summary (h : j.dmem = true) (fmt : Nat) (scales : List Word) (conv clip : Nat) (sat nonfin : Bool) :
    (b.finWritten (j.finWrites fmt scales conv clip sat nonfin)).rdBytes j.sumaddr 16 =
      summaryBytes conv clip sat nonfin fmt := by
  have hlast := rdBytes_finWritten_last (b := b) [(j.scaddr, scales.flatMap fun s => bytesLE 4 s.toNat)] j.sumaddr
    (summaryBytes conv clip sat nonfin fmt)
  rwa [length_summaryBytes, ← finWrites_stored h] at hlast

theorem dropWork_mintWork {x : Option MintJob} {w : MintWork} (h : b.mintWork = some (x, [w])) :
    (b.dropWork w.job.idx).mintWork = some (x, []) := by
  obtain ⟨g, hg, hgq⟩ := Option.map_eq_some_iff.mp h
  obtain ⟨rfl, hmq⟩ := Prod.mk.inj hgq
  simp [Block.mintWork, Block.dropWork, Block.updFrm, hg, hmq]

theorem jobBegun_mintWork {x : Option MintJob} (h : b.mintWork = some (x, [j.waiting])) (out : List MintOut) :
    (b.jobBegun j out fin).mintWork = some (x, [⟨j, true, out, fin⟩]) := by
  obtain ⟨g, hg, hgq⟩ := Option.map_eq_some_iff.mp h
  obtain ⟨rfl, hmq⟩ := Prod.mk.inj hgq
  simp [Block.mintWork, Block.jobBegun, Block.setWork, Block.updFrm, hg, hmq, MintJob.waiting]

/-- A job that begins with nothing to deliver ends: `e` is the block just before its MINT completes. -/
theorem mintIssue_completes (hf : b.frm = some f) (hq : f.mq = []) (hfields : b.mintFieldsBad j = false) (hmop : j.mop ≠ 2)
    (hview : c.mintView = (b.jobQueued j).mintView) (hbegin : (b.jobQueued j).mintBegin j = (c, some ([], fin))) :
    ∃ e : Block, b.mintIssue j = e.reached j.idx ∧ e.flight = b.flight ∧ e.mintWork = some (f.mint, []) ∧
      e.store = ((c.jobBegun j [] fin).finWritten fin).store := by
  simp only [Block.mintView, Prod.mk.injEq] at hview
  obtain ⟨-, hflight, hwork, -⟩ := hview
  have hqueued := jobQueued_mintWork (j := j) hf hq
  have hcqueue := (mintQ_of_mintWork hwork).trans (mintQ_of_some hqueued)
  have hwritten := finWritten_mintView (b := c.jobBegun j [] fin) fin
  simp only [Block.mintView, Prod.mk.injEq] at hwritten
  obtain ⟨-, hwflight, hwwork, -⟩ := hwritten
  refine ⟨((c.jobBegun j [] fin).finWritten fin).dropWork j.idx, ?_, ?_, ?_, rfl⟩
  · rw [mintIssue_queues hfields, pump_completes (mintQ_of_some hqueued) (mintReady_stored hmop) hbegin hcqueue]
    rfl
  · calc (((c.jobBegun j [] fin).finWritten fin).dropWork j.idx).flight
      _ = ((c.jobBegun j [] fin).finWritten fin).flight := updFrm_flight _ fun _ => rfl
      _ = (c.jobBegun j [] fin).flight := hwflight
      _ = c.flight := jobBegun_flight _
      _ = b.flight := hflight.trans (jobQueued_flight ..)
  · exact dropWork_mintWork (hwwork.trans (jobBegun_mintWork (hwork.trans hqueued) []))

end Sys2Proof.Machine
end

section
/-! SUPPORT. MINT and MINTX as they issue (R235, R288). -/

namespace Sys2Proof.Machine

variable {b : Block} {j : MintJob} {p : MProf} {f : Frame} {g : Frame → Frame}

/-! ## What a job reads: memory and registers -/

/-- `c` has the memory and the registers of `b`. -/
structure SameReads (b c : Block) : Prop where
  store : c.store = b.store
  regs : c.regs = b.regs

namespace SameReads

theorem fresh (b : Block) : SameReads b b.fresh := ⟨rfl, rfl⟩
theorem updFrm (b : Block) (g : Frame → Frame) : SameReads b (b.updFrm g) := ⟨rfl, rfl⟩
theorem trans {c e : Block} (h : SameReads b c) (k : SameReads c e) : SameReads b e :=
  ⟨k.store.trans h.store, k.regs.trans h.regs⟩

section
variable {c : Block} (h : SameReads b c)
include h

theorem rd (o : Nat) : c.rd o = b.rd o := Block.rd_congr h.regs o
theorem grade : c.grade = b.grade := (congrArg (fun x => x.2.2) h.store :)
theorem rdLE (a n : Nat) : c.rdLE a n = b.rdLE a n := congrArg ofBytesLE (rdBytes_of_store h.store a n)
theorem mprof (k : Nat) : c.mprof k = b.mprof k := by simp only [Block.mprof, h.rd]
theorem wideList : c.wideList j = b.wideList j := by simp only [Block.wideList, h.rdLE]
theorem mintCodebook (k sz : Nat) : c.mintCodebook j k sz = b.mintCodebook j k sz := by
  simp only [Block.mintCodebook, h.rdLE]
theorem mintRows : c.mintRows j p = b.mintRows j p := by
  simp only [Block.mintRows, Block.mintElems, Block.mintSource, Block.rd32, h.wideList, h.mintCodebook, h.rdLE,
    rdBytes_of_store h.store]
theorem mintSat : c.mintSat j p = b.mintSat j p := by
  rw [Block.mintSat, h.mintRows, Block.rdF, h.rd]
  rfl
theorem mintReason : c.mintReason j p = b.mintReason j p := by
  simp only [Block.mintReason, h.wideList, h.mintCodebook, h.rd]
theorem replaySize : c.replaySize j = b.replaySize j := by simp only [Block.replaySize, h.rdLE]
theorem replayOk : c.replayOk j = b.replayOk j := by simp only [Block.replayOk, h.rdLE, h.replaySize, h.grade]
theorem replayed : c.replayed j = b.replayed j := by
  simp only [Block.replayed, Block.replaySlice, h.rdLE, h.replaySize, rdBytes_of_store h.store]

/-- A conversion that meets no cause of rejection as `b` stands begins in `c` as it would in `b`. -/
theorem begins_conversion (hmop : j.mop = 0) (hp : p = b.mprof (j.w 1 0 4)) (hfmt : p.fmt < 4)
    (hreason : (b.mintReason j p).isNone = true) (hspan : (firstSpanErr b.grade (j.spans p)).isNone = true) :
    ∃ e : Block, e.mintView = c.mintView ∧
      c.mintBegin j = (e, some (j.tailOf p (b.mintRows j p) (b.mintSat j p))) := by
  rw [← h.mintRows, ← h.mintSat]
  exact mintBegin_converts hmop (hp.trans (h.mprof _).symm) hfmt (h.mintReason ▸ hreason) (h.grade ▸ hspan)

theorem begins_replay (hmop : j.mop = 1) (hok : b.replayOk j = true) :
    ∃ e : Block, e.mintView = c.mintView ∧ c.mintBegin j = (e, some (b.replayed j, [])) := by
  rw [← h.replayed]
  exact mintBegin_replays hmop (h.replayOk.trans hok)

end

end SameReads

/-! ## What the frame decides -/

theorem updFrm_mintFieldsBad (h : ∀ f, (g f).vrecvs = f.vrecvs) : (b.updFrm g).mintFieldsBad j = b.mintFieldsBad j := by
  unfold Block.mintFieldsBad Block.updFrm
  cases b.frm with
  | none => rfl
  | some f => simp only [Option.map_some, h]

theorem updFrm_pairs (h : ∀ f, (g f).sr = f.sr) (idx : Nat) : (b.updFrm g).pairs idx = b.pairs idx := by
  have hprog (f : Frame) : (b.updFrm g).progDesc (g f) (idx + 1) = b.progDesc f (idx + 1) := by
    simp only [Block.progDesc, h]
    rfl
  cases hb : b.frm with
  | none => simp only [Block.pairs, Block.updFrm, hb, Option.map_none]
  | some f =>
    have hg : (b.updFrm g).frm = some (g f) := by simp only [Block.updFrm, hb, Option.map_some]
    simp only [Block.pairs, hb, hg, hprog, h]

/-! ## A descriptor of the module sequencer -/

theorem takes_module {idx op : Nat} {d : Desc} {masks : List Nat} (hop : op ≠ 2)
    (h : b.takes idx d op false masks = true) : dTgt d = 4 := by
  unfold Block.takes at h
  split at h
  · cases h
  · simp only [Bool.and_eq_true, if_neg hop, Bool.false_eq_true, if_false, beq_iff_eq] at h
    obtain ⟨⟨-, htgt⟩, -⟩ := h
    exact htgt

/-- The frame in which descriptor `d` of index `idx` has just issued. -/
def Frame.issued (f : Frame) (idx : Nat) (d : Desc) : Frame :=
  { f with queue := f.queue.filter fun q => q.idx != idx, lastIdx := idx,
           infl := f.infl ++ [⟨idx, min (dTgt d) 4, dSig d, dCtr d, false⟩] }

/-- The module sequencer counts no issue. -/
theorem issued_module {d : Desc} (h : dTgt d = 4) (idx : Nat) : b.issued idx d = b.updFrm fun f => f.issued idx d := by
  rw [Block.issued, h]
  simp only [Frame.issued, h]
  rfl

/-! ## MINT -/

/-- The block in which MINT `d` of index `idx` has issued and has its ordinal in the frame (R234). -/
def Block.mintIssued (b : Block) (idx : Nat) (d : Desc) : Block :=
  (b.updFrm fun f => f.issued idx d).updFrm fun f => { f with mOrd := f.mOrd + 1 }

theorem mintIssued_pairs (b : Block) (idx : Nat) (d : Desc) : (b.mintIssued idx d).pairs idx = b.pairs idx :=
  (updFrm_pairs (by intro _; rfl) idx).trans (updFrm_pairs (by intro _; rfl) idx)

theorem mintIssued_fieldsBad (b : Block) (idx : Nat) (d : Desc) (j : MintJob) :
    (b.mintIssued idx d).mintFieldsBad j = b.mintFieldsBad j :=
  (updFrm_mintFieldsBad (by intro _; rfl)).trans (updFrm_mintFieldsBad (by intro _; rfl))

/-- A job of a MINT that issues reads what it would have read before. -/
theorem sameReads_mintIssued (b : Block) (idx : Nat) (d : Desc) (j : MintJob) :
    SameReads b ((b.mintIssued idx d).jobQueued j) :=
  (SameReads.updFrm ..).trans ((SameReads.updFrm ..).trans (SameReads.updFrm ..))

theorem mintIssued_frm (hf : b.frm = some f) (idx : Nat) (d : Desc) :
    (b.mintIssued idx d).frm = some { f.issued idx d with mOrd := f.mOrd + 1 } := by
  simp only [Block.mintIssued, Block.updFrm, hf, Option.map_some, Frame.issued]

section
variable {idx mop : Nat} {d : Desc} {x : Ecc} (hf : b.frm = some f) (ht : b.takes idx d 0x20 false mintMasks = true)
  (hmop : (MintJob.of idx f.mOrd d x).mop = mop)
include hf ht hmop

/-- A MINT that is taken waits for its MINTX, is rejected for want of one, or comes to its units (R288). -/
theorem mintEff_takes : mintEff mop idx d x b =
    (if (b.mintIssued idx d).pairs idx then
      (b.mintIssued idx d).updFrm fun g => { g with mint := some (MintJob.of idx f.mOrd d x) }
    else if (MintJob.of idx f.mOrd d x).needsX (b.mprof (dF d 1 0 4)) then (b.mintIssued idx d).reject idx 4 1
    else (b.mintIssued idx d).mintIssue (MintJob.of idx f.mOrd d x)).fetch := by
  have hsame : ¬ (dOp d = 0x20 ∧ dF d 1 4 3 ≤ 2 ∧ dF d 1 4 3 ≠ mop) := fun ⟨_, _, hne⟩ => hne hmop
  have hissued : (b.updFrm fun f => f.issued idx d).frm = some (f.issued idx d) := by
    simp only [Block.updFrm, hf, Option.map_some]
  rw [mintEff, if_neg hsame, descr_takes (by decide) ht, issued_module (takes_module (by decide) ht)]
  simp only [hissued]
  rfl

theorem mintEff_waits (hpairs : b.pairs idx = true) : mintEff mop idx d x b =
    ((b.mintIssued idx d).updFrm fun g => { g with mint := some (MintJob.of idx f.mOrd d x) }).fetch := by
  rw [mintEff_takes hf ht hmop, mintIssued_pairs, hpairs, if_pos rfl]

theorem mintEff_issues (hpairs : b.pairs idx = false)
    (hneeds : (MintJob.of idx f.mOrd d x).needsX (b.mprof (dF d 1 0 4)) = false) :
    mintEff mop idx d x b = ((b.mintIssued idx d).mintIssue (MintJob.of idx f.mOrd d x)).fetch := by
  rw [mintEff_takes hf ht hmop, mintIssued_pairs, hpairs, hneeds, if_neg Bool.false_ne_true,
    if_neg Bool.false_ne_true]

end

/-! ## MINTX -/

/-- The block in which the MINTX of index `idx` has issued: it completes with its MINT, and none waits any more (R288). -/
def Block.mintxIssued (b : Block) (idx : Nat) : Block :=
  b.updFrm fun f => { f with queue := f.queue.filter fun q => q.idx != idx, lastIdx := idx, mint := none }

theorem mintxIssued_flight (b : Block) (idx : Nat) : (b.mintxIssued idx).flight = b.flight := updFrm_flight b fun _ => rfl

theorem sameReads_mintxIssued (b : Block) (idx : Nat) (j : MintJob) : SameReads b ((b.mintxIssued idx).jobQueued j) :=
  (SameReads.updFrm ..).trans (SameReads.updFrm ..)

theorem mintxIssued_frm (hf : b.frm = some f) (idx : Nat) : (b.mintxIssued idx).frm =
    some { f with queue := f.queue.filter fun q => q.idx != idx, lastIdx := idx, mint := none } := by
  simp only [Block.mintxIssued, Block.updFrm, hf, Option.map_some]

theorem mintxIssued_fieldsBad (b : Block) (idx : Nat) (j : MintJob) :
    (b.mintxIssued idx).mintFieldsBad j = b.mintFieldsBad j := updFrm_mintFieldsBad (by intro _; rfl)

/-- A MINTX that is taken brings the MINT that waits to its units. -/
theorem mintxEff_issues {i : MintJob} {idx : Nat} {d : Desc} {x : Ecc} (hf : b.frm = some f) (hi : f.mint = some i)
    (ht : b.takes idx d 0x21 false mintxMasks = true) :
    mintxEff idx d x b = ((b.mintxIssued idx).mintIssue (i.withX d x)).fetch := by
  have htgt := takes_module (by decide) ht
  simp only [Block.takes, hf, Bool.and_eq_true, Bool.not_eq_true', decide_eq_true_eq, beq_iff_eq] at ht
  obtain ⟨⟨⟨⟨⟨hissues, hrehash⟩, hin⟩, hdop⟩, -⟩, hres⟩ := ht
  have hpast : ¬ f.sr.plen ≤ 64 * idx := by omega
  simp only [mintxEff, Block.descr, hf, hi, hissues, hrehash, hpast, hdop, htgt, hres, decide_false, Bool.not_true,
    Bool.not_false, Bool.false_and, Bool.true_and, Bool.or_self, Bool.false_eq_true, bne_self_eq_false, ne_eq,
    not_true_eq_false, if_false, if_true, Option.isSome_some, Bool.or_true, Nat.lt_irrefl, Block.when_false,
    and_false, not_false_eq_true, or_false]
  rfl

end Sys2Proof.Machine
end

section
/-! SUPPORT. What MNT_PROF_WRITE, MINT and MINTX give (R217, R218, R235, R237, R288). -/

namespace Sys2Proof.Machine

/-! ## Profiles -/

theorem unitPlain_prof (p : Fin 16) (hi : Bool) : unitPlain (if hi then MNT_PROF_W1 p else MNT_PROF_W0 p) := by
  have := p.isLt
  cases hi
  · simp only [unitPlain, MNT_PROF_W0, P_MNT, Bool.false_eq_true, if_false]
    omega
  · simp only [unitPlain, MNT_PROF_W1, P_MNT, if_true]
    omega

theorem profWrite_valid {b : Block} {p : Nat} {hi : Bool} {v : Word} (hfrm : b.frm = none)
    (hv : profValid (if hi then b.rd (MNT_PROF_W0 p) else v) (if hi then v else b.rd (MNT_PROF_W1 p)) = true) :
    profWrite p hi v b = (b.wr (if hi then MNT_PROF_W1 p else MNT_PROF_W0 p) v, true) := by
  have hin : b.inFrame = false := by simp [Block.inFrame, hfrm]
  simp only [profWrite, hin, hv, Bool.not_true, Bool.or_self, Bool.false_eq_true, if_false]

/-- A valid profile word is taken while no frame runs (R237). -/
theorem mntProfWrite_gives (s : State) (m : Master) (p : Fin 16) (hi : Bool) (v : Word)
    (ha : s.b.accepts m (if hi then MNT_PROF_W1 p else MNT_PROF_W0 p) = true) (hfrm : s.b.frm = none)
    (hv : profValid (if hi then s.rd (MNT_PROF_W0 p) else v) (if hi then v else s.rd (MNT_PROF_W1 p)) = true) :
    Gives (.mntProfWrite m p hi v) s fun t => t.rd (if hi then MNT_PROF_W1 p else MNT_PROF_W0 p) = v := by
  refine Gives.of_gate (eff := profWrite p hi v) rfl ha (profWrite_valid (b := s.b.fresh) hfrm hv) ?_
  exact (run_counted_rd_unit _ _ _ _ (unitPlain_prof p hi)).trans (Block.rd_wr_same ..)

/-! ## What a command leaves of the frame -/

theorem fetch_mintWork (b : Block) : b.fetch.mintWork = b.mintWork := by
  have hkeep (f : Frame) : ((Frame.fetch b.progDesc 257 f).mint, (Frame.fetch b.progDesc 257 f).mq) = (f.mint, f.mq) := by
    rw [Frame.fetch_keeps]
  simp only [Block.mintWork, Block.fetch, Block.updFrm, Option.map_map, Function.comp_def, hkeep]

theorem run_mintWork (s : State) (f : Block → Block) : (s.run f).b.mintWork = (f s.b.fresh).mintWork := by
  rw [Block.mintWork, run_frm]
  rfl

theorem run_fetch_mintWork (s : State) (c : Block) : (s.run fun _ => c.fetch).b.mintWork = c.mintWork :=
  (run_mintWork ..).trans (fetch_mintWork c)

theorem run_fetch_mintQ (s : State) (c : Block) : (s.run fun _ => c.fetch).b.mintQ = c.mintQ :=
  mintQ_of_mintWork (run_fetch_mintWork s c)

theorem reached_mintWork (b : Block) (idx : Nat) : (b.reached idx).mintWork = b.mintWork := by
  simp only [Block.mintWork, Block.reached, Block.updFrm, Option.map_map]
  rfl

theorem run_fetch_flight (s : State) (c : Block) : (s.run fun _ => c.fetch).b.flight = c.flight :=
  (run_flight ..).trans (fetch_flight c)

theorem run_store (s : State) (f : Block → Block) : (s.run f).b.store = (f s.b.fresh).store := by
  simp only [Block.store, run_mem, run_hbmGen, run_grade]

theorem inFlight_eq (s : State) (idx : Nat) :
    s.inFlight idx = (s.b.flight.map fun x => x.1.any fun i => i.idx == idx).getD false := by
  unfold State.inFlight Block.flight
  cases s.b.frm <;> rfl

theorem hasReached_eq (s : State) (idx : Nat) :
    s.hasReached idx = (s.b.flight.map fun x => x.1.any fun i => i.idx == idx && i.reached).getD false := by
  unfold State.hasReached Block.flight
  cases s.b.frm <;> rfl

theorem reached_flight (b : Block) (idx : Nat) : (b.reached idx).flight =
    b.flight.map fun x => (x.1.map fun i => if i.idx = idx then { i with reached := true } else i, x.2) := by
  simp only [Block.flight, Block.reached, Block.updFrm, Option.map_map]
  rfl

/-- What was in flight stays in flight, and no rejection is counted. -/
theorem inFlight_of_flight {s t : State} (h : t.b.flight = s.b.flight) (idx : Nat) :
    t.nrej = s.nrej ∧ t.inFlight idx = s.inFlight idx :=
  ⟨nrej_of_flight (by rw [h]), by rw [inFlight_eq, inFlight_eq, h]⟩

/-- A descriptor in flight that reaches its completion point has reached it, not rejected. -/
theorem hasReached_of_flight {s t : State} {e : Block} {idx : Nat} (hin : s.inFlight idx = true) (he : e.flight = s.b.flight)
    (ht : t.b.flight = (e.reached idx).flight) : t.hasReached idx = true ∧ t.nrej = s.nrej := by
  rw [reached_flight, he] at ht
  constructor
  · rw [inFlight_eq] at hin
    rw [hasReached_eq, ht]
    obtain ⟨x, hx⟩ : ∃ x, s.b.flight = some x := by
      cases hs : s.b.flight with
      | none => simp [hs] at hin
      | some x => exact ⟨x, rfl⟩
    simp only [hx, Option.map_some, Option.getD_some, List.any_eq_true, beq_iff_eq] at hin ⊢
    obtain ⟨i, hi, rfl⟩ := hin
    exact ⟨_, List.mem_map_of_mem hi, by simp⟩
  · exact nrej_of_flight (by rw [ht, Option.map_map]; rfl)

theorem mintIssued_flight (b : Block) {idx : Nat} {d : Desc} (h : dTgt d = 4) :
    (b.mintIssued idx d).flight = (b.issued idx d).flight := by
  rw [issued_module h]
  exact updFrm_flight _ fun _ => rfl

/-! ## MINT -/

/-- A MINT that a MINTX follows waits for it (R288). -/
theorem mintWaits_gives {c : Instr} (s : State) {idx mop : Nat} {d : Desc} {x : Ecc} {f : Frame}
    (hc : exec c s = s.done (mintEff mop idx d x)) (hf : s.b.frm = some f)
    (ht : s.b.takes idx d 0x20 false mintMasks = true) (hmop : (MintJob.of idx f.mOrd d x).mop = mop)
    (hpairs : s.b.pairs idx = true) :
    Gives c s fun t => t.b.frm.map (fun g => (g.mint, g.mOrd)) = some (some (MintJob.of idx f.mOrd d x), f.mOrd + 1) ∧
      t.nrej = s.nrej ∧ t.inFlight idx = true := by
  refine Gives.of_effect hc (mintEff_waits (b := s.b.fresh) hf ht hmop hpairs) ⟨?_, inFlight_of_taken ht ?_⟩
  · have hkeep (b : Block) (f : Frame) : ((Frame.fetch b.progDesc 257 f).mint, (Frame.fetch b.progDesc 257 f).mOrd) =
        (f.mint, f.mOrd) := by rw [Frame.fetch_keeps]
    rw [run_frm, Block.fetch, Block.updFrm, Option.map_map, Block.updFrm, mintIssued_frm (b := s.b.fresh) hf]
    simp only [Option.map_some, Function.comp_apply, hkeep, Frame.issued]
  · exact (updFrm_flight _ (by intro _; rfl)).trans (mintIssued_flight _ (takes_module (by decide) ht))

section
variable {s : State} {f : Frame} {j : MintJob} {p : MProf} {idx : Nat} {d : Desc} {ecc : Ecc}

theorem tailOf_bus (h : j.dbus = true) (rows : List ConvRow) (sat : Bool) : j.tailOf p rows sat =
    (deliveries j (if sat then fCLIP else 0) (rowSyms (p.fmt == 1) (rows.map (·.codes))), j.finWrites p.fmt
      (rows.map (·.scale)) (totals rows).1 (totals rows).2.1 sat ((totals rows).2.2.1 != 0)) := by
  simp only [MintJob.tailOf, h, if_true]

theorem tailOf_memory (h : j.dbus = false) (rows : List ConvRow) (sat : Bool) : j.tailOf p rows sat =
    ([], j.finWrites p.fmt (rows.map (·.scale)) (totals rows).1 (totals rows).2.1 sat ((totals rows).2.2.1 != 0)) := by
  simp only [MintJob.tailOf, h, Bool.false_eq_true, if_false]

theorem exec_dMintConvert : exec (.dMintConvert idx d ecc) s = s.done (mintEff 0 idx d ecc) := rfl
theorem exec_dMintx : exec (.dMintx idx d ecc) s = s.done (mintxEff idx d ecc) := rfl

/-- A conversion for the buses without a MINTX holds the symbols of its rows (R210, R218). -/
theorem dMintConvert_gives (hf : s.b.frm = some f) (ht : s.b.takes idx d 0x20 false mintMasks = true)
    (hj : j = MintJob.of idx f.mOrd d ecc) (hp : p = s.b.mprof (dF d 1 0 4)) (hmop : j.mop = 0)
    (hneeds : j.needsX p = false) (hq : f.mq = []) (hpairs : s.b.pairs idx = false)
    (hfields : s.b.mintFieldsBad j = false) (hreason : (s.b.mintReason j p).isNone = true)
    (hspan : (firstSpanErr s.b.grade (j.spans p)).isNone = true) (hdbus : j.dbus = true) (hfeeds : j.feeds = true)
    (hpass : ∀ st < 4, s.b.noPass st = true) :
    Gives (.dMintConvert idx d ecc) s fun t => t.nrej = s.nrej ∧ t.inFlight idx = true ∧ (t.b.mintQ.map fun w => (w.job,
      w.begun, w.out)) = [(j, true, deliveries j (if s.b.mintSat j p then fCLIP else 0) (rowSyms (p.fmt == 1)
      ((s.b.mintRows j p).map (·.codes))))] := by
  have hreads : SameReads s.b ((s.b.fresh.mintIssued idx d).jobQueued j) :=
    (SameReads.fresh _).trans (sameReads_mintIssued ..)
  obtain ⟨hshape, hfmt⟩ := shaped_of_mintReason hreason
  have hfmt4 : p.fmt < 4 := Nat.lt_trans (hfmt hdbus) (by decide)
  obtain ⟨c, hview, hbegin⟩ := hreads.begins_conversion hmop (by rw [hp, hj]; rfl) hfmt4 hreason hspan
  rw [tailOf_bus hdbus] at hbegin
  obtain ⟨hflight, hqueue⟩ := mintIssue_holds (mintIssued_frm (b := s.b.fresh) hf idx d) hq
    ((mintIssued_fieldsBad ..).trans hfields) (by omega) hshape (rowSyms_ne_nil _ _) hdbus hfeeds hpass hview hbegin
  have heff : mintEff 0 idx d ecc s.b.fresh = ((s.b.fresh.mintIssued idx d).mintIssue j).fetch := by
    subst hj hp
    exact mintEff_issues hf ht hmop hpairs hneeds
  obtain ⟨hnrej, hin⟩ := inFlight_of_taken ht (hflight.trans (mintIssued_flight _ (takes_module (by decide) ht)))
  refine Gives.of_effect exec_dMintConvert heff ⟨hnrej, hin, ?_⟩
  rw [run_fetch_mintQ, hqueue]
  rfl

/-! ## MINTX -/

variable {i : MintJob}

/-- A conversion to memory completes with its MINTX, its summary written (R216, R235). -/
theorem dMintx_converts_gives (hf : s.b.frm = some f) (hi : f.mint = some i) (hin : s.inFlight i.idx = true)
    (ht : s.b.takes idx d 0x21 false mintxMasks = true) (hj : j = i.withX d ecc) (hp : p = s.b.mprof (dF i.d 1 0 4))
    (hq : f.mq = []) (hfields : s.b.mintFieldsBad j = false) (hmop : j.mop = 0) (hdmem : j.dmem = true)
    (hdbus : j.dbus = false) (hreason : (s.b.mintReason j p).isNone = true)
    (hspan : (firstSpanErr s.b.grade (j.spans p)).isNone = true) (hfmt : p.fmt < 4) :
    Gives (.dMintx idx d ecc) s fun t => t.hasReached i.idx = true ∧ t.nrej = s.nrej ∧ t.b.frm.map (fun g => (g.mint,
      g.mq)) = some (none, []) ∧ t.b.rdBytes j.sumaddr 16 = summaryBytes (totals (s.b.mintRows j p)).1 (totals
      (s.b.mintRows j p)).2.1 (s.b.mintSat j p) ((totals (s.b.mintRows j p)).2.2.1 != 0) p.fmt := by
  have hidx : j.idx = i.idx := by rw [hj]; rfl
  have hreads : SameReads s.b ((s.b.fresh.mintxIssued idx).jobQueued j) :=
    (SameReads.fresh _).trans (sameReads_mintxIssued ..)
  have hfrm := mintxIssued_frm (b := s.b.fresh) hf idx
  obtain ⟨c, hview, hbegin⟩ := hreads.begins_conversion hmop (by rw [hp, hj]; rfl) hfmt hreason hspan
  rw [tailOf_memory hdbus] at hbegin
  obtain ⟨e, hissue, hflight, hwork, hstore⟩ := mintIssue_completes hfrm hq
    ((mintxIssued_fieldsBad ..).trans hfields) (by omega) hview hbegin
  have heff := mintxEff_issues (b := s.b.fresh) (x := ecc) hf hi ht
  rw [← hj, hissue, hidx] at heff
  obtain ⟨hreached, hnrej⟩ := hasReached_of_flight hin (hflight.trans (mintxIssued_flight ..))
    (run_fetch_flight s (e.reached i.idx))
  refine Gives.of_effect exec_dMintx heff ⟨hreached, hnrej, ?_, ?_⟩
  · exact (run_fetch_mintWork ..).trans ((reached_mintWork ..).trans hwork)
  · rw [rdBytes_of_store (b := (c.jobBegun j [] _).finWritten _) ((run_store ..).trans hstore)]
    exact rdBytes_summary hdmem ..

/-- A replay of stored codes holds their symbols with its MINTX (R217). -/
theorem dMintx_replays_gives (hf : s.b.frm = some f) (hi : f.mint = some i) (hin : s.inFlight i.idx = true)
    (ht : s.b.takes idx d 0x21 false mintxMasks = true) (hj : j = i.withX d ecc) (hq : f.mq = [])
    (hfields : s.b.mintFieldsBad j = false) (hmop : j.mop = 1) (hok : s.b.replayOk j = true) (hfeeds : j.feeds = true)
    (hpass : ∀ st < 4, s.b.noPass st = true) :
    Gives (.dMintx idx d ecc) s fun t => t.nrej = s.nrej ∧ t.inFlight i.idx = true ∧ (t.b.mintQ.map fun w => (w.job,
      w.begun, w.out)) = [(j, true, s.b.replayed j)] := by
  have hdbus := dbus_of_fields (by omega) hfields
  have hreads : SameReads s.b ((s.b.fresh.mintxIssued idx).jobQueued j) :=
    (SameReads.fresh _).trans (sameReads_mintxIssued ..)
  have hfrm := mintxIssued_frm (b := s.b.fresh) hf idx
  obtain ⟨c, hview, hbegin⟩ := hreads.begins_replay hmop hok
  obtain ⟨hflight, hqueue⟩ := mintIssue_holds hfrm hq ((mintxIssued_fieldsBad ..).trans hfields) (by omega)
    (shaped_of_replayOk hok) (fun _ _ => sliceSyms_ne_nil _ _) hdbus hfeeds hpass hview hbegin
  have heff := mintxEff_issues (b := s.b.fresh) (x := ecc) hf hi ht
  rw [← hj] at heff
  obtain ⟨hnrej, hkept⟩ := inFlight_of_flight (s := s)
    ((run_fetch_flight s _).trans (hflight.trans (mintxIssued_flight ..))) i.idx
  refine Gives.of_effect exec_dMintx heff ⟨hnrej, hkept.trans hin, ?_⟩
  rw [run_fetch_mintQ, hqueue]
  rfl

end

end Sys2Proof.Machine
end

section
/-! SUPPORT. The Mint's descriptors as a whole. -/

namespace Sys2Proof.Machine

theorem noPass_all {b : Block} (h : b.noPass 0 = true ∧ b.noPass 1 = true ∧ b.noPass 2 = true ∧ b.noPass 3 = true) :
    ∀ st < 4, b.noPass st = true := by
  obtain ⟨h0, h1, h2, h3⟩ := h
  intro st hst
  interval_cases st <;> assumption

/-- Settles O15, clause by clause: what a profile write, a MINT and a MINTX leave. When a MINTX belongs to a MINT (`pairs`)
and which symbols of a saturated tensor carry CLIP are the model's choices (assumptions 99 and 101). -/
theorem mintDescriptors : Obligations.MintDescriptors := by
  unfold Obligations.MintDescriptors
  refine ⟨?_, ?_, ?_, ?_, ?_, ?_⟩
  · intro s m p hi v ha ⟨hfrm, hv⟩
    exact mntProfWrite_gives s m p hi v ha hfrm hv
  · intro s idx d ecc f j p ⟨hf, ht⟩ ⟨hj, hp⟩ ⟨hmop, hneeds, hq, hpairs, hfields⟩ ⟨hreason, hspan⟩ ⟨hdbus, hfeeds⟩ hpass
    exact dMintConvert_gives hf ht hj hp hmop hneeds hq hpairs hfields hreason hspan hdbus hfeeds (noPass_all hpass)
  · intro s idx d ecc f ⟨hf, ht⟩ ⟨hmop, hpairs⟩
    exact mintWaits_gives s rfl hf ht hmop hpairs
  · intro s idx d f ⟨hf, ht⟩ ⟨hmop, hpairs⟩
    exact mintWaits_gives s rfl hf ht hmop hpairs
  · intro s idx d ecc f i j p ⟨hf, hi, hin, ht⟩ ⟨hj, hp⟩ ⟨hq, hfields, hmop, hdmem, hdbus⟩ ⟨hreason, hspan, hfmt⟩
    exact dMintx_converts_gives hf hi hin ht hj hp hq hfields hmop hdmem hdbus hreason hspan hfmt
  · intro s idx d ecc f i j ⟨hf, hi, hin, ht⟩ ⟨hj, hq, hfields, hmop⟩ ⟨hok, hfeeds⟩ hpass
    exact dMintx_replays_gives hf hi hin ht hj hq hfields hmop hok hfeeds (noPass_all hpass)

end Sys2Proof.Machine
end
